-- ==== Sys2Proof/Word.lean ====
section
/-! DEFINITION. The plain widths of the part (R10, R12): a 32-bit register word, a byte, a TIME96 value. -/

namespace Sys2Proof

/-- One byte of DRAM, flash or a frame. -/
abbrev Byte := BitVec 8

/-- One 32-bit register, little-endian (spec chapter 00, Notation). -/
abbrev Word := BitVec 32

/-- A TIME96 value: [95:48] seconds, [47:16] nanoseconds, [15:0] 2^-16 ns (R10). -/
abbrev Time96 := BitVec 96

end Sys2Proof
end

