-- ==== Sys2Proof/Inputs.lean ====
section
/-! DEFINITION. What the rows of the table take from outside the part: measured values, received frames, outcomes of
analogue and firmware work. -/

namespace Sys2Proof

/-- A part of a lane (R47). -/
inductive LanePart where
  | time | acc | phase | rate | integ | prop | eb
  deriving DecidableEq, Repr

/-- A bit of a lane flipped by an upset (R47 to R54). -/
structure LaneUpset where
  lane : Fin 3
  part : LanePart
  bit : Nat
  deriving DecidableEq, Repr

/-- What an interpolator captures of an edge (R224): whether the input rises there (R96, R216); the coarse count of CK_TDC cycles since
the last entry to READY, and for each of its four capture registers the bin that it names. -/
structure Capture where
  rises : Bool
  coarse : Nat
  b0 : BitVec 10
  b1 : BitVec 10
  b2 : BitVec 10
  b3 : BitVec 10
  deriving DecidableEq, Repr

/-- Active edges of a channel up to one that is captured (R231): their number since the last such command, that one included; how
many of those before it came less than 8 ns after the channel's last accepted edge; and the capture. -/
structure ActiveEdge where
  edges : Nat
  dead : Nat
  at_ : Capture
  deriving DecidableEq, Repr

/-- A transmit block of a port that can carry the start of a frame, as the transmit side counts it (R341, R351): the CK_HRT tick
that a transmit word edge follows by TXPH; the word cycles from that edge to the word that holds the block's timestamp point;
the point's place in that word; and the block's number in its FEC codeword, or since the latest alignment marker. -/
structure TxBlock where
  tick : BitVec 32
  cycles : Nat
  bit : BitVec 6
  block : Nat
  deriving DecidableEq, Repr

/-- What a sample-tie interpolator measures at a gate tick (R276): the intervals from the latest rising and the latest falling edge
of FEn_CLK to that tick, in units of 10 ps. -/
structure SampleTie where
  rise : Nat
  fall : Nat
  deriving DecidableEq, Repr

/-- A sample as the balls of a front end bring it (R238): the levels of FEn_D3 to FEn_D0 at its rising and at its falling clock edge.
The edge that carries I is the first of the two. -/
structure LaneSample where
  rise : BitVec 4
  fall : BitVec 4
  deriving DecidableEq, Repr

/-- An acquisition job as its four words state it (R249 to R251). -/
structure JobRequest where
  sig : Nat
  fe : Nat
  prn : Nat
  aided : Bool
  chAuto : Bool
  ch : Nat
  dopCtr : Int
  dopRange : Nat
  tc : Nat
  m : Nat
  mv : Nat
  thr : Nat
  aidCh : Nat
  blockFirst : Nat
  blockN : Nat
  tag : Nat
  deriving DecidableEq, Repr

/-- The samples of a dwell or a verify (R251, R252): the front end's sample count at the first of them, the samples, and the sample
count at which a channel takes over a detection; for an aided job also the sample count of AID_CH's front end that stood at its balls
with the first sample (R255). -/
structure DwellRun where
  first : Nat
  samples : List LaneSample
  handoff : Nat
  aidFirst : Nat
  deriving DecidableEq, Repr

/-- A message unit as a channel's symbol decoders leave it (R267, R269): which of its signal's units it is, the bits received so far,
first bit first; whether the BCH or LDPC decoder found a codeword; symbol errors corrected; whether the preamble stood inverted;
whether the channel left LOCKED within it; and the samples of the leading edges of its first and its last symbol. -/
structure NavUnit where
  part : Fin 3
  bits : List Bool
  codeword : Bool
  corrected : Nat
  polInverted : Bool
  cut : Bool
  firstSample : Nat
  lastSample : Nat
  deriving DecidableEq, Repr

/-- What the solution firmware does on its own at an epoch (R291): jobs it places, channels it releases. -/
structure FwActions where
  jobs : List JobRequest
  release : List (BitVec 8)
  deriving DecidableEq, Repr

/-- What the solution firmware has decoded or modelled of one channel's signal at an epoch (R292, R293): the system time of week, in
2^-16 ns, at which the satellite began the resolved code period in which the latch found the channel; its group-delay and inter-signal
correction and the broadcast ionosphere model's delay, in 2^-16 ns. -/
structure SigModel where
  ch : BitVec 8
  tow : Nat
  delay : Int
  iono : Nat
  deriving DecidableEq, Repr

/-- The same of a satellite: its system (0 GPS, 1 Galileo, 2 BeiDou, 3 QZSS) and PRN; the broadcast week and the bits it has;
healthy, not marked by SBAS, with valid ephemeris; clock and relativistic correction and troposphere in 2^-16 ns; position at
transmission, ECEF in mm; the standard deviation of its measurement in 2^-16 ns; and its signals. -/
structure SatModel where
  sys : Fin 4
  prn : Nat
  week : Option Nat
  weekBits : Nat
  healthy : Bool
  sbasBad : Bool
  ephemeris : Bool
  clock : Int
  tropo : Nat
  pos : Int × Int × Int
  sigma : Nat
  sigs : List SigModel
  deriving DecidableEq, Repr

/-- UTC parameters of a system (R301, R303): UTC as it traces it less its own time and whole seconds, in 2^-16 ns; TAI − UTC now
and next, and the instant of the change. -/
structure UtcModel where
  offset : Int
  leapCur : Int
  leapNext : Int
  leapAt : Nat
  deriving DecidableEq, Repr

/-- What the solution firmware brings to the solution of an epoch (R292 to R299): the epoch in 2^-16 ns; satellites; the
position from which SURVEY and NAVIGATE solve, ECEF in mm; the local east, north and up directions, ECEF in 2^-30; TSYS's UTC
parameters; broadcast offsets of the systems from TSYS in 2^-8 ns, where decoded. -/
structure NavModel where
  te : Nat
  sats : List SatModel
  near : Int × Int × Int
  east : Int × Int × Int
  north : Int × Int × Int
  up : Int × Int × Int
  utc : Option UtcModel
  offsets : List (Option Int)
  deriving DecidableEq, Repr

/-- What the PCS of a port reports (R310, R322, R336): its conditions, whether a frame in reception is cut, and what it
counted since the last report. -/
structure LinkStatus where
  blockLock : Bool
  fecLock : Bool
  hiBer : Bool
  localFault : Bool
  remoteFault : Bool
  rxAdapt : Bool
  cutRx : Bool
  fecCorrected : Nat
  fecUncorrected : Nat
  badHeaders : Nat
  prbsErrors : Nat
  deriving DecidableEq, Repr

/-- A frame as it is received (R307, R315, R346): its bytes, whether a PCS error block lies in it, whether a codeword or block that
the FEC could not correct does, the cycle of its first word
counted from the newest stamp of the receive mapping, the bit position, the age of that cycle in 2^-16 ns, whether the point
crossed before a step in this tick, and the bytes that wait in the receive queue. -/
structure RxFrame where
  bytes : List Byte
  codeError : Bool
  fecError : Bool
  cycle : Int
  bit : Fin 64
  age : Nat
  preStep : Bool
  backlog : Nat
  deriving DecidableEq, Repr

/-- What PERIODIC_CREATE makes (R416, R418, R424): a multicast message, or the next Sync or Announce of the unicast grant of
a client entry. -/
inductive PeriodicMsg where
  | sync | announce | management
  | uniSync (entry : BitVec 20)
  | uniAnnounce (entry : BitVec 20)
  deriving DecidableEq, Repr

/-- What a sample port sees at an edge of WS, or at an AES3 receiver's frame edge (R467 to R469): whether WS rises; the interval
since the last edge and the coarse stamp less the present tick, both in 2^-16 ns; the BCLK count and the received words of the frame
that has just ended, a two-channel slot as its SLOT bits, an AES3 subframe as its record word (R477); of an AES3 receiver whether
this edge is a Z preamble, and whether a preamble was missing or misplaced. -/
structure SampleFrame where
  rises : Bool
  interval : Option Nat
  rel : Int
  bclk : Nat
  wordA : Nat
  wordB : Nat
  z : Bool
  preambleError : Bool
  deriving DecidableEq, Repr

/-- A HAT frame as it ends (R490 to R492): the levels sampled, bit 0 in [15] and 1 for high; whether the chip's claim changed
after the frame's start bit; the age of the seed pair in ticks of CK_HRT. -/
structure HatFrame where
  bits : BitVec 16
  changed : Bool
  pairAge : Nat
  deriving DecidableEq, Repr

/-- A band sweep (R505): of each enabled band its number and the VCO counts at both ends of FINE (R176); whether the
synthesizer locked again within 10 ms. -/
structure BandSweep where
  edges : List (Nat × Nat × Nat)
  relocked : Bool
  deriving DecidableEq, Repr

/-- Counts of events that other domains have sent to the counter array since the last command that carried a tally (R564,
R565). -/
abbrev Tally := List (BitVec 12 × Nat)

/-- What the record port sees of a marked thread (R575, R576): its handler, step and wait code, the step boundaries it
crossed, and whether the stoker's last sample is still pending. -/
structure SampleObs where
  stoker : Fin 16
  handler : BitVec 8
  step : BitVec 3
  skid : Nat
  wait : BitVec 8
  pending : Bool
  deriving DecidableEq, Repr

/-- The SRAMs that R580 tells apart. A dirty client line carries the bytes of its entry that DRAM holds. -/
inductive SramKind where
  | cleanLine (entry : BitVec 20)
  | dirtyLine (entry : BitVec 20) (copy : List Byte)
  | glove (g : Fin 64)
  | interpolator (i : Fin 33)
  | frameBuffer
  | solutionCore
  | other
  deriving DecidableEq, Repr

/-- A memory error that the sweep or a read finds (R578 to R581): DRAM corrected, DRAM uncorrectable at an address, the same in
the solution core's memory, which the core reads too, SRAM corrected, SRAM uncorrectable at an instance and word. -/
inductive MemError where
  | dramCorrected
  | dramUncorrectable (addr : BitVec 34)
  | coreMemory (addr : BitVec 34)
  | sramCorrected
  | sramUncorrectable (inst : BitVec 8) (word : BitVec 24) (kind : SramKind)
  deriving DecidableEq, Repr

/-- Strap levels (R511, R533): PROF1:PROF0, BOOT1:BOOT0, NVMSEL, HOSTSEL. -/
structure Straps where
  prof : BitVec 2
  boot : BitVec 2
  nvmsel : Bool
  hostsel : Bool
  deriving DecidableEq, Repr

/-- The three samples of the straps, 1 µs apart, that end at the release of a reset (R608). -/
structure StrapSamples where
  first : Straps
  second : Straps
  third : Straps
  deriving DecidableEq, Repr

/-- What the host sends in one SPI target frame (R537): the header if its 32 bits arrived, the data word of a write, and
whether HSPI_CS_N stayed low for the status; and, for a window read, the memory errors that it finds (R536). -/
structure SpiHostFrame where
  header : Option Word
  data : Word
  toEnd : Bool
  errs : List MemError
  deriving DecidableEq, Repr

/-- A reset of the PCIe interface, or what its link has become (R560): PERST_N falls or rises, a hot reset, the link goes
down, the link comes up with its speed and width. -/
inductive PcieEvent where
  | perst (low : Bool)
  | hotReset
  | linkDown
  | linkUp (speed width : BitVec 2)
  deriving DecidableEq, Repr

end Sys2Proof
end

