-- ==== Sys2Proof/Machine/Bits.lean ====
section
/-! DEFINITION. Bit fields, two's complement and time arithmetic that the meanings share. -/

namespace Sys2Proof.Machine

/-- Bits [lo+w-1:lo] of `v`. -/
def bitsOf (v lo w : Nat) : Nat := v / 2 ^ lo % 2 ^ w

/-- Bit `b` of `v`. -/
def bitOf (v b : Nat) : Bool := v / 2 ^ b % 2 == 1

/-- A flag as a register bit. -/
def ofBool (b : Bool) : Nat := if b then 1 else 0

/-- `v` with bits [lo+w-1:lo] replaced by the low `w` bits of `x`. -/
def putBits (v lo w x : Nat) : Nat :=
  v - bitsOf v lo w * 2 ^ lo + x % 2 ^ w * 2 ^ lo

/-- `v` with bit `b` set or cleared. -/
def putBit (v b : Nat) (x : Bool) : Nat := putBits v b 1 (ofBool x)

/-- The two's complement value of the low `w` bits of `v`. -/
def toSigned (w v : Nat) : Int :=
  if v % 2 ^ w < 2 ^ (w - 1) then (v % 2 ^ w : Nat) else ((v % 2 ^ w : Nat) : Int) - (2 ^ w : Nat)

/-- The `w`-bit two's complement code of `x`. -/
def ofSigned (w : Nat) (x : Int) : Nat := (x % (2 ^ w : Nat)).toNat

/-- `n` saturated to `w` bits. -/
def satN (w n : Nat) : Nat := min n (2 ^ w - 1)

/-- `x` clamped to [-m, m]. -/
def clampAbs (m : Nat) (x : Int) : Int := max (-(m : Int)) (min (m : Int) x)

/-- Quotient rounded up. -/
def ceilDiv (a b : Nat) : Nat := if b = 0 then 0 else (a + b - 1) / b

/-- Quotient rounded to nearest, halves away from zero. -/
def roundDiv (a : Int) (b : Nat) : Int :=
  if b = 0 then 0
  else if 0 ≤ a then (2 * a + b) / (2 * b : Nat) else -((2 * -a + b) / (2 * b : Nat))

/-- Units of 2^-16 ns in one nanosecond, and in one second. -/
def nsU : Nat := 65536
/-- Units of 2^-16 ns in one second. -/
def secU : Nat := 1000000000 * 65536

/-- The instant of a TIME96 as one count of 2^-16 ns. -/
def t96Lin (t : Time96) : Nat :=
  bitsOf t.toNat 48 48 * secU + bitsOf t.toNat 16 32 * nsU + bitsOf t.toNat 0 16

/-- The TIME96 of a count of 2^-16 ns (R10). -/
def linT96 (u : Nat) : Time96 :=
  BitVec.ofNat 96 (u / secU * 2 ^ 48 + u % secU)

/-- The seconds field of a TIME96. -/
def t96Sec (t : Time96) : Nat := bitsOf t.toNat 48 48
/-- The nanoseconds field of a TIME96. -/
def t96Ns (t : Time96) : Nat := bitsOf t.toNat 16 32
/-- The fraction field of a TIME96. -/
def t96Frac (t : Time96) : Nat := bitsOf t.toNat 0 16

/-- A TIME96 whose nanoseconds field exceeds 999,999,999 is invalid (R11). -/
def t96Valid (t : Time96) : Bool := t96Ns t < 1000000000

/-- Little-endian bytes of `v`, `n` of them. -/
def leBytes : Nat → Nat → List Byte
  | 0, _ => []
  | n + 1, v => BitVec.ofNat 8 v :: leBytes n (v / 256)

/-- Big-endian (network order) bytes of `v`, `n` of them. -/
def beBytes (n v : Nat) : List Byte := (leBytes n v).reverse

/-- The number little-endian bytes spell. -/
def ofLe : List Byte → Nat
  | [] => 0
  | b :: bs => b.toNat + 256 * ofLe bs

/-- The number network-order bytes spell. -/
def ofBe (bs : List Byte) : Nat := ofLe bs.reverse

/-- `n` bytes of `l` from position `i`, zero where `l` is shorter. -/
def slice (l : List Byte) (i n : Nat) : List Byte :=
  let t := (l.drop i).take n
  t ++ List.replicate (n - t.length) 0

/-- The network-order number in `n` bytes of a frame from position `i`. -/
def be (l : List Byte) (i n : Nat) : Nat := ofBe (slice l i n)

/-- The little-endian number in `n` bytes of a record from position `i`. -/
def le (l : List Byte) (i n : Nat) : Nat := ofLe (slice l i n)

/-- `l` with the bytes at position `i` replaced by `new`. -/
def splice (l : List Byte) (i : Nat) (new : List Byte) : List Byte :=
  slice l 0 i ++ new ++ l.drop (i + new.length)

/-- The integer square root by bisection on `fuel` bits. -/
def isqrtAux (n : Nat) : Nat → Nat → Nat
  | 0, r => r
  | k + 1, r =>
    let c := r + 2 ^ k
    isqrtAux n k (if c * c ≤ n then c else r)

/-- The largest r with r·r ≤ n, for n below 2^256. -/
def isqrt (n : Nat) : Nat := isqrtAux n 128 0

/-- The smallest r with n ≤ r·r, for n below 2^256. -/
def isqrtUp (n : Nat) : Nat := if isqrt n * isqrt n = n then isqrt n else isqrt n + 1

/-- Insertion into a rising list of integers. -/
def insertSorted (x : Int) : List Int → List Int
  | [] => [x]
  | y :: ys => if x ≤ y then x :: y :: ys else y :: insertSorted x ys

/-- A list of integers in rising order. -/
def sortInts : List Int → List Int
  | [] => []
  | x :: xs => insertSorted x (sortInts xs)

/-- Bitwise majority of three words of one width. -/
def majority {w : Nat} (a b c : BitVec w) : BitVec w := (a &&& b) ||| (a &&& c) ||| (b &&& c)

end Sys2Proof.Machine
end

