-- ==== Sys2Proof/Machine/Field.lean ====
section
/-! DEFINITION. What a register field is: its place, access code, reset value and the boundary at which a write becomes
active (R12, R13), and the commit groups of the part (R544). -/

namespace Sys2Proof.Machine

/-- The access codes of R12. -/
inductive Access where
  | cfg | live | stat | rc | cnt | cmd | key
  deriving DecidableEq, Repr

/-- The boundaries of R13 that the register tables name. -/
inductive Boundary where
  | immediate | second | loopUpdate | packet | sampleFrame | gnssEpoch
  deriving DecidableEq, Repr

/-- The commit groups: the fields of one group take effect together, and only after the group's commit (R544). -/
inductive Group where
  | tscLeap | tscSteer | tscInteg | ebdBank | ebdCct | refSlot (n : Nat) | selPrio | selLoop | osc
  | syn (n : Nat) | synBand | out (n : Nat) | tdcTb | tdcCh (n : Nat) | gnaFe (n : Nat) | gntCh (c : Nat)
  | gnsSol | gnsPos | ethPort (p : Nat) | ethFilt (p : Nat) | ltsCls | ltsPcal (p : Nat)
  | rseEng | rseRtab | rseAddr | proGlb | proPtp (p : Nat) | proPref (p : Nat) | glvSec
  | smpPort (n : Nat) | smpCstx (n : Nat) | red | pmcSel | memCfg
  deriving DecidableEq, Repr

/-- One register field. -/
structure Field where
  /-- BAR0 byte address of the register. -/
  addr : Nat
  /-- Its lowest bit. -/
  lo : Nat
  /-- Its width in bits. -/
  width : Nat
  /-- Its access code (R12). -/
  acc : Access
  /-- Its value at reset. -/
  rst : Nat
  /-- The boundary at which a write becomes active (R13). -/
  eff : Boundary
  /-- Its commit group, if it has one (R544). -/
  grp : Option Group
  deriving DecidableEq, Repr

/-- The key under which the register file holds a field: one number per address and lowest bit. -/
def Field.key (f : Field) : Nat := f.addr * 32 + f.lo

/-- One row of a block's field table: an array of fields in up to two indices, with the counts and strides. -/
structure RegRow where
  count : Nat
  stride : Nat
  count2 : Nat
  stride2 : Nat
  elem : Nat → Nat → Field

/-- The field of a row whose register lies at address `a`, if there is one. -/
def RegRow.at? (r : RegRow) (a : Nat) : Option Field :=
  let b := (r.elem 0 0).addr
  let d := a - b
  let i := if r.stride = 0 then 0 else d / r.stride
  let j := if r.stride2 = 0 then 0 else (d - i * r.stride) / r.stride2
  let f := r.elem i j
  if b ≤ a ∧ i < r.count ∧ j < r.count2 ∧ f.addr = a then some f else none

/-- The default kind of a source slot: PHASE for S0-S7, TIME for S8-S12, FREQ for S13-S15 (REF.SLOT.CFG.KIND). -/
def Reset.slotKind (n : Nat) : Nat := if n < 8 then 1 else if n < 13 then 2 else 0

/-- The default NTP reference ID of a slot, "PPS", "GNSS", "PTP" or "SYNC" (PRO.REFID). -/
def Reset.refid (s : Nat) : Nat :=
  if s < 8 then 0x50505300 else if s = 8 then 0x474E5353 else if s < 13 then 0x50545000 else 0x53594E43

/-- The owner of each TDC channel at reset, every slot disabled (R216): HOST for 0-23, OUT for 24, RED for 25,
SMP for 26 and 27, LTS for 28-31. -/
def Reset.tdcOwner (n : Nat) : Nat :=
  if n < 24 then 0 else if n = 24 then 2 else if n = 25 then 3 else if n < 28 then 4 else 5

end Sys2Proof.Machine
end

