-- ==== Sys2Proof/Machine/Map.lean ====
section
/-! DEFINITION. Sparse storage: a list of keys and values with the keys strictly rising. Registers, memories, slots and
contexts are held in it. -/

namespace Sys2Proof.Machine

/-- Values by key, the keys strictly rising. -/
abbrev Map (α : Type) := List (Nat × α)

/-- The value listed at `k`, if any. -/
def Map.get? {α : Type} : Map α → Nat → Option α
  | [], _ => none
  | (a, x) :: m, k => if k = a then some x else if k < a then none else Map.get? m k

/-- The value at `k`, or `d` where nothing is listed. -/
def Map.getD {α : Type} (m : Map α) (k : Nat) (d : α) : α := (m.get? k).getD d

/-- `x` put at `k`. -/
def Map.put {α : Type} : Map α → Nat → α → Map α
  | [], k, x => [(k, x)]
  | (a, y) :: m, k, x =>
    if k = a then (k, x) :: m
    else if k < a then (k, x) :: (a, y) :: m
    else (a, y) :: Map.put m k x

/-- `k` no longer listed. -/
def Map.del {α : Type} : Map α → Nat → Map α
  | [], _ => []
  | (a, y) :: m, k => if k = a then m else if k < a then (a, y) :: m else (a, y) :: Map.del m k

/-- The canonical form: keys strictly rising. -/
def Map.wf {α : Type} : Map α → Bool
  | [] => true
  | [_] => true
  | (a, _) :: (b, y) :: m => decide (a < b) && Map.wf ((b, y) :: m)

/-- Every listed key. -/
def Map.keys {α : Type} (m : Map α) : List Nat := m.map Prod.fst

/-- Every listed value. -/
def Map.vals {α : Type} (m : Map α) : List α := m.map Prod.snd

end Sys2Proof.Machine
end

