-- ==== Sys2Proof/Machine/StTime.lean ====
section
/-! DEFINITION. The state behind the registers of the Hearth, the error bound, the source slots, selection and the
oscillator (spec chapters 01 to 04). Instants are counts of 2^-16 ns of the timescale (`t96Lin`), offsets D likewise. -/

namespace Sys2Proof.Machine

/-- One lane of the Hearth: its copy of TIME96, ACC, cadence phase, S, INTEG, P and the error-bound accumulator (R47).
The rates are two's complement counts of 10^-15; P, whose width no rule gives, has 48 bits. -/
structure Lane where
  time : Time96
  acc : BitVec 35
  phase : BitVec 3
  rate : BitVec 40
  integ : BitVec 40
  prop : BitVec 48
  eb : BitVec 64
  deriving DecidableEq, Repr

/-- A software commit of STEER or INTEG that waits for a loop update: its value, and whether it came too late for the
next one (R24). -/
structure SoftCommit where
  value : Int
  deferred : Bool
  deriving DecidableEq, Repr

/-- A leap posting: CUR, NEXT and LEAP_AT come together (R44). -/
structure LeapPost where
  src : Nat
  cur : Int
  next : Int
  at_ : Nat
  deriving DecidableEq, Repr

/-- Banking coefficients a, b, c, q (R73). -/
structure BankSet where
  a : Nat
  b : Nat
  c : Nat
  q : Nat
  deriving DecidableEq, Repr

/-- What EB latches at a banking or switching entry (R74, R75). EB_0, a and Θ as it has accumulated stand in the lanes'
error-bound accumulators (R47, R63). -/
structure BankLatch where
  t0 : Int
  set : BankSet
  theta0 : Int
  margin : Nat
  span : Nat
  /-- The last temperature sample, 1/16 K, and its instant. -/
  thetaLast : Int
  tLast : Int
  /-- Whole seconds since t_0 that EBD.BANK_SECS has counted (R73). -/
  secs : Nat
  /-- The span stands in for the sample until the next entry (R75). -/
  substituted : Bool
  deriving DecidableEq, Repr

/-- A record of the Hearth (R56, R81): a tick number with the voted lane of that tick, which holds P and the error-bound
accumulator, and the error-bound parameters that travel with it: mode, anchor, latched coefficients, LOCK_B, and the loop
updates that the growth in LOCKED counts by. -/
structure HearthRecord where
  tick : BitVec 32
  lane : Lane
  mode : Nat
  anchor : Nat
  bank : Option BankLatch
  lockB : Nat
  lastUpdate : Int
  perSecond : Nat
  /-- Steps executed since reset and the sum of their D, which the Hearth passes with its announcement (R38). -/
  steps : Nat
  stepSum : Int
  deriving DecidableEq, Repr

/-- A time replica of a clock domain (R56, R57, R59): whether its value may be used, the records it has received since it was
last invalidated, the latest of them, newest first, and, while the domain's clock is stopped, the tick number that it saw last;
while the clock runs it is fed the Hearth's. -/
structure Replica where
  valid : Bool
  received : Nat
  records : List HearthRecord
  frozen : Option (BitVec 32)
  deriving DecidableEq, Repr

/-- The Hearth (chapter 01). -/
structure Hearth where
  /-- Out of reset (R34, R55, R503, R515). -/
  running : Bool
  laneA : Lane
  laneB : Lane
  laneC : Lane
  /-- The 32-bit CK_HRT tick number (R56). -/
  tick : BitVec 32
  /-- The present tick is a second boundary whose work is not yet done (R19, R37). -/
  secondDue : Bool
  /-- The present tick is a loop-update tick whose work is not yet done (R22). -/
  updateDue : Bool
  /-- The tick number at which the last step executed (R39), if the tick is still that one. -/
  stepTick : Option (BitVec 32)
  /-- The instant of the last step, in the stepped timescale. -/
  stepAt : Option Int
  /-- Steps executed since reset, and the sum of their D (R38, R232). -/
  steps : Nat
  stepSum : Int
  /-- Unfenced lanes (0 A, 1 B, 2 C) that have disagreed and not been loaded since, each with its first disagreeing tick
  (R49). -/
  disagreed : List (Nat × BitVec 32)
  /-- The first tick in which all three lanes disagreed, until they have been loaded (R50). -/
  triple : Option (BitVec 32)
  /-- Seconds at whose boundaries each lane was resynchronised (R51). -/
  resyncs : Map (List Nat)
  /-- Software commits that wait for a loop update: at most one in time for the next, and one deferred (R24, R25, R27). -/
  steerPend : List SoftCommit
  integPend : List SoftCommit
  /-- With the damper open, the STEER value that rules S (R27, R29). -/
  swSteer : Int
  /-- The loop's values for the next update were not delivered in time (R598). -/
  loopLate : Bool
  /-- The instant of the last loop update, and of the last step. -/
  lastUpdate : Int
  /-- A change for the coming update has been announced (R23). -/
  announced : Bool
  /-- What came in the tick of a loop update before its work, and is judged by what that tick then holds: STEP_ARM (R39), a
  snapshot (R61), a record with its tie stamp (R57, R228). -/
  armDue : Bool
  snapDue : Bool
  recordDue : Option (Option Int)
  /-- The tick of the latest periodic record (R56). -/
  recordTick : Option (BitVec 32)
  /-- A new current offset that waits for the second boundary (R44), and the source of the pending leap (R43). -/
  leapPost : Option LeapPost
  leapPoster : Nat
  /-- Phase by which steering has moved the timescale, in 10^-15 × 2^-16 ns, at recent loop updates: (instant, phase),
  newest first (R107, R155). -/
  phi : List (Int × Int)
  /-- Frequency changes by oscillator commands that count in that phase: (instant of effect, counts) (R155). -/
  phiOsc : List (Int × Int)
  /-- The time replicas by domain number (R56, R561). -/
  replicas : Map Replica
  deriving DecidableEq, Repr

/-- Error bound accounting (chapter 02). -/
structure Ebd where
  /-- The anchor in 2^-16 ns, and its instant t_m (R67). EB itself stands in the lanes' accumulators (R63). -/
  anchor : Nat
  tm : Int
  /-- Candidates since LOCKED, newest first, in 2^-16 ns (R67). -/
  cands : List Nat
  /-- The growth rates in counts of 10^-15 with the instants they began at, newest first (R71). -/
  segs : List (Int × Nat)
  bank : Option BankLatch
  /-- The host set in force (R74). -/
  hostSet : Option BankSet
  /-- Entry of the class table in force, none for the default; consecutive boundaries at which each entry met the
  threshold less the hysteresis, in index order (R89). -/
  ccEntry : Option Nat
  ccDwell : List Nat
  /-- An identity change detected and not yet taken at a loop update, and whether it came too late for the next (R76). -/
  identPending : Bool
  identLate : Bool
  /-- SYN0 coasts, or has been told to search anew: EB saturates at the next update (R187, R188). -/
  saturating : Bool
  /-- EB has saturated by SYN0's coast and stays unknown until SEL next reports a LOCKED slot (R188). -/
  unknownHold : Bool
  /-- The selection state at the last loop update (R65). -/
  selSeen : Nat
  deriving DecidableEq, Repr

/-- One entry of a slot's history or pending list (R107): its instant and D in 2^-16 ns, D̃ and its residual in
10^-15 × 2^-16 ns. -/
structure Obs where
  t : Int
  d : Int
  dt : Int
  r : Rat
  deriving DecidableEq, Repr

/-- A report of a slot to SEL (R118): mean D (ns), mean instant (s), largest bounds (2^-8 ns). -/
structure Report where
  slot : Nat
  d : Rat
  tm : Rat
  meas : Nat
  refb : Nat
  deriving DecidableEq, Repr

/-- A source slot (chapter 03). -/
structure RefSlot where
  hist : List Obs
  pend : List Obs
  /-- Consecutive misses; instants of the glitches (R101). -/
  misses : Nat
  /-- From when the span of R102 without an observation counts. -/
  lastObs : Int
  glitches : List Int
  /-- The last edge accepted by a window (R101). -/
  lastEdge : Option Int
  /-- Consecutive good and bad messages, the last label, a pulse or a label that waits for its partner (R103 to R106). -/
  todGood : Nat
  todErr : Nat
  lastLabel : Option Nat
  edgeWait : Option Int
  labelWait : Option (Nat × Int)
  /-- The message of the pulse that waits, or with ALIGN = 1 of the coming one, came in error or stayed out, and has been counted
  (R104, R105). -/
  labelBad : Bool
  /-- End of the holdoff; instant since which qualification counts (R117). -/
  holdEnd : Int
  qualStart : Int
  /-- Consecutive out-of-rate gates (R99). -/
  outOfRate : Nat
  /-- FREQ origin T_0 and the index k of the next divided edge (R98). -/
  freqT0 : Option Int
  freqK : Nat
  /-- Observations accepted since the last loop update, with their bounds, and whether they came in the last 128 ticks before
  it (R24, R118). -/
  accepted : List (Obs × Nat × Nat × Bool)
  /-- A source check of R112 to R114 fails: flag, upstream or quality level. -/
  sourceBad : Bool
  /-- A change of state in the last 128 ticks reaches SEL one update later (R24, R118). -/
  lateChange : Bool
  /-- QUALIFIED as SEL last saw it (R118). -/
  seen : Bool
  deriving DecidableEq, Repr

/-- A drift-model sample: instant (s), mean F (counts), mean θ (1/16 K) (R142). -/
structure ModelSample where
  t : Rat
  f : Rat
  th : Rat
  deriving DecidableEq, Repr

/-- One value of F recorded in LOCKED (R132). -/
structure FSample where
  t : Int
  f : Int
  th : Int
  deriving DecidableEq, Repr

/-- Selection, switching and banking (chapter 04). -/
structure Sel where
  /-- Loop filter (R139): Q, E, ns; the clamp mark; t_obs; the last 16 updates (instant, Q). -/
  q : Rat
  e : Rat
  clamped : Bool
  tObs : Rat
  qHist : List (Int × Rat)
  /-- The build-out offset, ns (R134). -/
  bo : Rat
  /-- Values of F recorded in LOCKED, newest first (R132). -/
  fHist : List FSample
  /-- Frozen value, its mean instant and temperature (R132). -/
  fFrz : Rat
  tc : Rat
  thc : Rat
  /-- Updates of FREEZE passed; reports and start of MEASURE; the held switch parameters (R129, R130). -/
  freezeN : Nat
  measN : Nat
  measStart : Int
  /-- D and t_m of the last report of MEASURE (R134, R135). -/
  lastMeas : Rat
  lastMeasTm : Rat
  heldFreeze : Nat
  heldMeasN : Nat
  heldTimeout : Nat
  fromBank : Bool
  seed : Int
  /-- The notional INTEG of an open damper, none before BUILD-OUT's first update (R138). -/
  notional : Option Int
  /-- Wait-to-restore: end of each running timer, by slot; slots whose timer has run (R128). -/
  wtrEnd : Map Int
  wtrRan : List Nat
  /-- |D| of the reports of LOCKED with their instants, newest first, on a scale on which only LOCKED passes; the instant up to
  which LOCKED has lasted (R144). -/
  absD : List (Int × Rat)
  lockedUntil : Int
  /-- LOCKED began; the running 64 s began, and its samples; the samples held (R142). -/
  lockedSince : Int
  accSince : Int
  acc64 : List FSample
  model : List ModelSample
  /-- Fit: α (10^-21 s^-1) and k (counts per K) learned, and the set of R144. -/
  alphaFit : Int
  kFit : Int
  modelSet : BankSet
  /-- α and k are zero until LOCKED is entered again (R145). -/
  zeroLaw : Bool
  /-- The latest report of each slot (R127), and the last temperature sample, 1/16 K (R133). -/
  lastRep : Map Report
  thLast : Int
  /-- A condition of R142 has failed in the running 64 s. -/
  accBad : Bool
  deriving DecidableEq, Repr

/-- One oscillator class record of the kindling image (R147). Templates are byte strings. -/
structure OscClass where
  kind : Nat
  gain : Int
  latency : Nat
  cmdMin : Int
  cmdMax : Int
  dac : Nat
  cmdTpl : List Byte
  ackTpl : List Byte
  statTpl : List Byte
  alpha : Int
  k : Option Int
  set : BankSet
  bFloor : Nat
  cFloor : Nat
  qFloor : Nat
  hasCurrent : Bool
  hasTemp : Bool
  deriving DecidableEq, Repr

/-- A steering command sent and not complete: C, whether it is a transfer of OSC's own, and whether it went by UART or as a DAC
frame (R154, R156). -/
structure OscCommand where
  c : Int
  transfer : Bool
  uart : Bool
  /-- The steady instant at which it was sent (R154). -/
  sentAt : Option Int
  deriving DecidableEq, Repr

/-- The hearth oscillator (chapter 04). -/
structure Osc where
  classes : Map OscClass
  idReading : Bool
  idFails : Nat
  /-- The identity that the next read is compared with: that of the latest ember at reset (R150); none before a read. -/
  prevId : Option Nat
  /-- An identity has been read, or set to unknown, since the reset. -/
  idRead : Bool
  /-- Commands in flight, oldest first. -/
  flight : List OscCommand
  /-- Completed transfers that wait for their compensation: from which instant, and by how many counts (R156). -/
  comp : List (Int × Int)
  ackFails : Nat
  wearPolls : Nat
  /-- A mode entry's command is due before any transfer or software command (R153). -/
  modePend : Bool
  /-- Steady instants: of the last identity poll, of the last status poll, and from which the present hour of running counts (R149,
  R151). -/
  idPollAt : Option Int
  statPollAt : Option Int
  hourAt : Option Int
  deriving DecidableEq, Repr

end Sys2Proof.Machine
end

