-- ==== Sys2Proof/Machine/StGnss.lean ====
section
/-! DEFINITION. The state behind the registers of the SPI controller and the GNSS blocks (spec chapters 08 and 09). -/

namespace Sys2Proof.Machine

/-- An entry of an initialisation script (R244): the chip select, and data, or an expected value and its mask, of `len`
bytes; or a delay in µs. -/
inductive ScriptEntry where
  | write (cs len data : Nat)
  | read (cs len expect mask : Nat)
  | delay (us : Nat)
  deriving DecidableEq, Repr

/-- What the SPI controller is sending (R245); `old` is an entry of a script that INIT has begun anew since (R244). -/
inductive SpiTransfer where
  | dac
  | script (fe : Nat)
  | old
  | host (read : Bool)
  deriving DecidableEq, Repr

/-- The SPI controller (R243, R245): the transfer in progress, a DAC frame that waits, a host transfer that waits
(chip select, length, READ, SPI_TX, as they stood at SPI_GO). -/
structure Spi where
  current : Option SpiTransfer
  dac : Option (Nat × List Byte)
  host : Option (Nat × Nat × Bool × Nat)
  deriving DecidableEq, Repr

/-- A job in the queue or an engine (R249, R264). -/
structure GnaJob where
  req : JobRequest
  host : Bool
  /-- Queued by a channel's loss: it waits for the channel and the front end (R264). -/
  reacq : Bool
  deriving DecidableEq, Repr

/-- A complex sample or correlator sum. -/
structure Cx where
  re : Int
  im : Int
  deriving DecidableEq, Repr

/-- A memory code of the image (R248): its satellite, its component, its chips, true for -1. -/
structure MemoryCode where
  prn : Nat
  pilot : Bool
  chips : List Bool
  deriving DecidableEq, Repr

/-- What an aided job takes of its channel at its start (R255): signal, code phase in 2^-48 chip and its step per sample, the
sample it stands for, raw Doppler in mHz. -/
structure AidFix where
  sig : Nat
  code : Nat
  rho : Int
  sample : Nat
  doppler : Int
  deriving DecidableEq, Repr

/-- An acquisition engine (R252, R255): its job, the index of its bin and block, whether it verifies, verify failures, the hypothesis
that the search dwell found, and an aided job's aid. -/
structure GnaEng where
  job : Option GnaJob
  bin : Nat
  block : Nat
  verify : Bool
  vfail : Nat
  peak : Nat
  aid : Option AidFix
  deriving DecidableEq, Repr

/-- A job result (R257). -/
structure JobResult where
  outcome : Nat
  prn : Nat
  ch : Nat
  tag : Nat
  hyp : Nat
  stat : Nat
  doppler : Int
  vfail : Nat
  deriving DecidableEq, Repr

/-- A front end (R241 to R244, R271, R272, R276, R277). -/
structure GnaFe where
  goodGates : Nat
  badGates : Nat
  /-- A clock loss has been declared and no edge has come since (R241); samples counted since RUN was entered (R276). -/
  lost : Bool
  samples : Nat
  /-- Entries of the running script that remain, the first of them in progress or pending; none when no script runs. -/
  script : Option (List ScriptEntry)
  delaying : Bool
  /-- The script's run of reset has begun (R244). -/
  ran : Bool
  jamUp : Nat
  jamDown : Nat
  /-- Windows and the sum of NOISE while BASE is learned. -/
  learn : Option (Nat × Int)
  /-- Ties (sample, instant in 2^-16 ns), newest first; accepted since RUN; discarded in succession. -/
  ties : List (Int × Int)
  accepted : Nat
  discarded : Nat
  deriving DecidableEq, Repr

/-- A tracking channel's state behind its registers (R254, R258 to R264, R283). -/
structure GntCh where
  /-- The carrier NCO's count in 2^-48 cycle since handoff, its low 48 bits the NCO's phase; the code NCO's in 2^-48 chip within the
  resolved period of `period` chips; their steps per sample; the sample they stand for, and that of the handoff. -/
  phi : Int
  code : Nat
  period : Nat
  w : Int
  rho : Int
  sample : Nat
  start : Nat
  /-- Sample rate and IF at the handoff, in Hz. -/
  sr : Nat
  ifHz : Int
  /-- The carrier loop's frequency and its rate, in 2^-24 Hz and 2^-24 Hz/s; the last prompt; dumps since handoff (R259). -/
  freq : Int
  rate : Int
  prompt : Option Cx
  age : Nat
  /-- cos 2φ of the last 20 dumps, newest first; dumps at or above PLI_LOCK in succession. -/
  cos : List Int
  lockRun : Nat
  veRun : Nat
  vlRun : Nat
  /-- Sign changes by candidate edge, dumps since SYNC, the last sign; a pilot's signs since SYNC, newest first (R261). -/
  edges : List Nat
  syncDumps : Nat
  lastNeg : Bool
  signs : List Bool
  /-- Negative pilot prompts in succession; the polarity that the first preamble found (R263). -/
  negRun : Nat
  polarity : Option Bool
  /-- C/N0 (R263, R264): the narrowband sum in progress, its wideband power and its prompts; both powers and the prompts of the
  running second; seconds in succession below CN0_LOSS. -/
  narrow : Cx
  wide : Nat
  narrowN : Nat
  nbSum : Nat
  wbSum : Nat
  cnPrompts : Nat
  lowRun : Nat
  /-- LOCKED entered at; a slip since the last record. -/
  lockedAt : Option Int
  slipSince : Bool
  deriving DecidableEq, Repr

/-- GNA and GNT. -/
structure Gna where
  jobs : List GnaJob
  engines : Map GnaEng
  results : List JobResult
  fes : Map GnaFe
  chans : Map GntCh
  scripts : Map (List ScriptEntry)
  /-- The image's memory codes (R248): E1 primary and E5a secondary. -/
  e1Codes : List MemoryCode
  e5aCodes : List MemoryCode
  navLostNext : Bool
  deriving DecidableEq, Repr

/-- An entry of an epoch record (R287): code phase in 2^-32 chip, MOD, carrier phase in 2^-32 cycle, lock time in ms. -/
structure EpochEntry where
  ch : Nat
  sig : Nat
  prn : Nat
  fe : Nat
  state : Nat
  half : Bool
  bitSync : Bool
  slip : Bool
  noMap : Bool
  ant : Bool
  cn0 : Nat
  chi : Nat
  period : Nat
  doppler : Nat
  phi : Int
  pli : Nat
  slips : Nat
  lockMs : Nat
  deriving DecidableEq, Repr

/-- A solution epoch whose solution is still to come: its instant, the steps executed since, and what its record held. -/
structure EpochDue where
  te : Nat
  corr : Int
  entries : List EpochEntry
  deriving DecidableEq, Repr

/-- A running survey (R296): its start; positions averaged, their sum in mm and the sum of their variances in mm². -/
structure Survey where
  startAt : Int
  count : Nat
  sumX : Int
  sumY : Int
  sumZ : Int
  variance : Nat
  deriving DecidableEq, Repr

/-- GNS. -/
structure Gns where
  sequence : Nat
  /-- The D of a step since the last record, skipped instants since it, a discarded record before the next (R282, R286). -/
  stepD : Option Int
  skipped : Nat
  lostNext : Bool
  /-- A RATE that waits for the second boundary (R280). -/
  ratePend : Option Nat
  /-- Acknowledgements missed in succession, the last halt (R290). -/
  missed : Nat
  lastHalt : Option Int
  /-- PASS results in succession; solutions in succession that R298 counts. -/
  passes : Nat
  suspects : Nat
  survey : Survey
  /-- Solution epochs whose solution is still to come, newest first (R110, R301). -/
  due : List EpochDue
  /-- The kindling image's solution firmware is loaded (R289, R518). -/
  loaded : Bool
  deriving DecidableEq, Repr

end Sys2Proof.Machine
end

