-- ==== Sys2Proof/Machine/Image.lean ====
section
/-! DEFINITION. What the sections of the kindling image hold whose byte layout no rule gives: the rows that read them carry
their contents decoded (R518). -/

namespace Sys2Proof.Machine

/-- REFERENCE (R147, R365, R518): the eight class records, and PMA_RX and PMA_TX by SPEED × 4 + FEC. -/
structure ReferenceSection where
  classes : List OscClass
  pma : List (Fin 16 × BitVec 16 × BitVec 16)
  deriving DecidableEq, Repr

/-- GNSS (R244, R248, R289): the firmware's version, the script of each front end, the E1 primary codes, and the E5a
secondary codes beyond the fixed sequences. -/
structure GnssSection where
  version : Word
  scripts : List (List ScriptEntry)
  e1Codes : List MemoryCode
  e5aCodes : List MemoryCode
  deriving DecidableEq, Repr

/-- A record of GLOVES (R518): slot, CLASS, LIFE, KEY_ID, count, key. -/
structure ImageGlove where
  slot : Fin 64
  cls : BitVec 4
  life : Bool
  id : Word
  count : BitVec 40
  key : BitVec 256
  deriving DecidableEq, Repr

/-- The late sections (R514): the version of the handler set, GNSS, GLOVES. -/
structure LateSections where
  handlers : Word
  gnss : GnssSection
  gloves : List ImageGlove
  deriving DecidableEq, Repr

end Sys2Proof.Machine
end

