-- ==== Sys2Proof/Syntax.lean ====
section
/-! DEFINITION. The commands of the part: one constructor per row of the opcode table. A row's operands are what the
command carries, or what the outside supplies with the event: a measured value, a received frame, the outcome of analogue
work (assumption log 1). Rows stand in the table's order, but that among the last those with operands come first. -/

namespace Sys2Proof

open Sys2Proof.Machine (ReferenceSection LateSections)

/-- The commands. -/
inductive Instr where
  /-- HEARTH_TICK (R17). On each CK_HRT tick every lane advances TIME96 by its cadence phase amount, and the voter forms
  the majority. `upset`: a bit an upset flips in a lane before the vote. -/
  | hearthTick (upset : Option LaneUpset)
  /-- SECOND_BOUNDARY (R19). The nanoseconds count reaches 10^9, wraps and increments the seconds; CFG writes and commits
  waiting for the second are applied. -/
  | secondBoundary
  /-- LOOP_UPDATE (R22). At each loop-update tick S, INTEG and P change, selection runs and EB parameters are updated. -/
  | loopUpdate
  /-- CHANGE_ANNOUNCEMENT (R23). 64 ticks before a change of S, or before a step, the Hearth announces the change to the
  replicas and the flue. -/
  | changeAnnouncement
  /-- STEER_COMMIT (R25). A write to TSC.STEER word 1 commits both words as the requested S. `hi`: word 1 as written. -/
  | steerCommit (hi : BitVec 8)
  /-- INTEG_COMMIT (R27). A write to TSC.INTEG word 1 commits the integrator value. `hi`: word 1 as written. -/
  | integCommit (hi : BitVec 8)
  /-- STEP_ARM (R39). The command moves the Hearth from STEPPED to ARMED. -/
  | stepArm
  /-- UNFENCE (R54). The command returns a fenced lane to the vote at the next second boundary. -/
  | unfence (lane : Fin 3)
  /-- HEARTH_RECORD (R56). Every 1,024 ticks a record of the Hearth state is sent to every time replica. `tie`: the tie
  interpolator's stamp of the marker edge, in ps. -/
  | hearthRecord (tie : Option Int)
  /-- SNAP (R60). The command requests a snapshot of the voted time. -/
  | snap
  /-- SNAP_LATCH (R61). At the first CK_HRT tick after the SNAP arrives, TIME96 and the tick number are latched. -/
  | snapLatch
  /-- LEAP_COMMIT (R46). The command commits the host's leap group at the next second, subject to HOLD. -/
  | leapCommit
  /-- BANK_COMMIT (R74). The command commits the host banking coefficients at the next second. -/
  | bankCommit
  /-- BANK_RELEASE (R74). The command drops the host banking coefficients at the next second. -/
  | bankRelease
  /-- CC_COMMIT (R92). The command commits the clockClass table group at the next second. -/
  | ccCommit
  /-- QUERY (R83). The command evaluates EB at the query instant and returns the result. -/
  | query
  /-- REF_EDGE (R97). A divided REF edge is stamped by TDC channel n and becomes an observation. `u`: what the channel's
  interpolator captures. -/
  | refEdge (n : Fin 8) (u : Capture)
  /-- REF_GATE (R99). A 1 ms gate ends; presence and rate are judged and may disqualify the slot. `count`: edges counted
  in the gate. -/
  | refGate (n : Fin 8) (count : BitVec 32)
  /-- SLOW_ABSENT (R99). For NOM below 1 kHz, 2 s without an edge declares the input absent. -/
  | slowAbsent (n : Fin 8)
  /-- MISS_WINDOW_CLOSE (R101). An acceptance window closes with no edge, and a miss is counted. -/
  | missWindowClose (n : Fin 8)
  /-- OBS_MISS (R102). For S8 to S15, no observation arrives within twice the expected interval, and a miss is counted.
  `k`: slot S(8 + k). -/
  | obsMiss (k : Fin 8)
  /-- TOD_MESSAGE (R103). A time-of-day message on TODINn completes; it labels a pulse and completes a TIME observation.
  `msg`: its characters; none where the message of a pulse stays out. -/
  | todMessage (n : Fin 8) (msg : Option (List Byte))
  /-- HOLDOFF_EXPIRE (R117). The holdoff time passes, and the slot moves to WAIT. -/
  | holdoffExpire (n : Fin 16)
  /-- SLOT_COMMIT (R122). The command commits the slot group at the next second. -/
  | slotCommit (n : Fin 16)
  /-- SLOT_RESTART (R121). The command clears the slot's history and puts it in QUALIFYING at the next second. -/
  | slotRestart (n : Fin 16)
  /-- SW_TIMEOUT (R130). MEASURE lasts TIMEOUT seconds without MEAS_N reports; the switch aborts into BANKING. -/
  | swTimeout
  /-- WTR_EXPIRE (R128). A slot's wait-to-restore timer runs out. -/
  | wtrExpire (n : Fin 16)
  /-- PRIO_COMMIT (R125). The command commits the priority table at the next second. -/
  | prioCommit
  /-- CLEAR_WTR (R128). The command ends every running wait-to-restore timer at the next second. -/
  | clearWtr
  /-- MODEL_RESET (R145). The command empties the drift model. -/
  | modelReset
  /-- LOOP_COMMIT (R159). The command commits the LOOP group at the next second. -/
  | loopCommit
  /-- MODEL_SAMPLE (R142). Every 64 s in LOCKED a drift-model sample is taken and the model is refitted. -/
  | modelSample
  /-- ID_POLL (R149). Every POLL seconds an identity read of the oscillator EEPROM starts. -/
  | idPoll
  /-- ID_READ (R149). The command starts an identity read now. -/
  | idRead
  /-- ID_READ_DONE (R149). An identity read completes or fails, and the identity is updated. `bytes`: what was read; none
  where the read failed. -/
  | idReadDone (bytes : Option (List Byte))
  /-- STATUS_POLL (R151). Every STAT_POLL seconds the oscillator status is polled. -/
  | statusPoll
  /-- STATUS_REPLY (R151). A status reply loads the current and the temperature. `cur`, `temp`: the values the reply
  carries. -/
  | statusReply (cur : BitVec 16) (temp : BitVec 16)
  /-- RUN_HOUR (R151). A whole hour of running increments RUN_HOURS and checks the life limit. -/
  | runHour
  /-- OSC_LOCK_CHANGE (R152). The OSC_LOCK ball changes; a fall files OSC_UNLOCK. `locked`: the level of the ball. -/
  | oscLockChange (locked : Bool)
  /-- COMMAND_ACK (R154). The acknowledgement of a UART command arrives and completes it. -/
  | commandAck
  /-- ACK_TIMEOUT (R154). No acknowledgement within ACK_TO; the command fails, and after two failures steering stops. -/
  | ackTimeout
  /-- DAC_FRAME_DONE (R154). A DAC frame ends, completing its command. -/
  | dacFrameDone
  /-- SWCMD_SEND (R158). The command sends SWCMD at the next second, with the damper open only. -/
  | swcmdSend
  /-- OSC_COMMIT (R160). The command commits the OSC group at the next second. -/
  | oscCommit
  /-- SYN_COMMIT (R162). The command commits a synthesizer group at the next second. -/
  | synCommit (n : Fin 4)
  /-- SYN_RELOCK (R187). The command starts a new search of a synthesizer. -/
  | synRelock (n : Fin 4)
  /-- BAND_COMMIT (R174). The command commits the band table at the next second. -/
  | bandCommit
  /-- SYN0_FIRST_SEARCH (R186). Once HOSC is present at start-up, SYN0 starts its first search. -/
  | syn0FirstSearch
  /-- BAND_TRIAL_DONE (R176). A band trial ends; the band is accepted or the next is tried. `lo`, `hi`: the VCO counts at
  both ends of FINE. -/
  | bandTrialDone (n : Fin 4) (lo : BitVec 32) (hi : BitVec 32)
  /-- LOCK_WINDOW (R178). A lock-detect window ends and is judged against LOCK_TOL or UNLOCK_TOL. `count`: the VCO count
  of the window; `fine`: its fine word. -/
  | lockWindow (n : Fin 4) (count : BitVec 64) (fine : BitVec 20)
  /-- SYN_REF_LOSS (R179). Eight consecutive absent reference edges are a loss; a LOCKED synthesizer enters COAST. -/
  | synRefLoss (n : Fin 4)
  /-- SYN_REF_RETURN (R179). 1,024 good edges declare the reference present again. -/
  | synRefReturn (n : Fin 4)
  /-- SYN0_COAST_TICK (R188). SYN0's coast reaches CK_HRT; SYN0_COAST is filed and scheduled launches are missed. -/
  | syn0CoastTick
  /-- OUT_COMMIT (R190). The command commits an output group at the next second. -/
  | outCommit (n : Fin 16)
  /-- OUT_MUTE (R193). The command sets mute cause SOFT. -/
  | outMute (n : Fin 16)
  /-- OUT_UNMUTE (R193). The command clears mute cause SOFT. -/
  | outUnmute (n : Fin 16)
  /-- REALIGN (R195). The command realigns an output from the next second boundary. `bits`: the outputs whose bit is
  written as one. -/
  | realign (bits : BitVec 16)
  /-- ALIGN_COMPLETE (R195). The first new edge is driven at A + TRIM, and the output becomes ALIGNED. -/
  | alignComplete (n : Fin 16)
  /-- OUTPUT_PERIOD_END (R193). An output period ends, and mute changes and trim slew take effect. -/
  | outputPeriodEnd (n : Fin 16)
  /-- CAL_UPDATE (R200). A loopback measurement of an output completes, and CALADJ is corrected. -/
  | calUpdate (n : Fin 16)
  /-- CAL_LOOPBACK_TIMEOUT (R202). The loopback sees no edge within one period plus 1 µs, and OUT_CAL_FAIL is filed. -/
  | calLoopbackTimeout (n : Fin 16)
  /-- TOD_OUT_START (R207). START_MS after an on-time instant, a time-of-day message starts on TODOUT. -/
  | todOutStart (j : Fin 2)
  /-- TEV_ARM (R212). The command arms an event line from its registers, or rejects the arm. -/
  | tevArm (m : Fin 16)
  /-- TEV_DISARM (R212). The command disarms an event line. -/
  | tevDisarm (m : Fin 16)
  /-- TEV_EDGE (R211). The timescale reaches t_k, and the line drives its edge. -/
  | tevEdge (m : Fin 16)
  /-- TB_COMMIT (R237). The command commits group TB, and the TDC re-enters NOTBASE. -/
  | tbCommit
  /-- TDC_CH_COMMIT (R237). The command commits a channel group at the next second. -/
  | tdcChCommit (n : Fin 32)
  /-- TDC_FLUSH (R235). The command empties a channel's result queue. -/
  | tdcFlush (n : Fin 32)
  /-- TDC_RES_POP (R235). A read of RES0 pops the head record of the result queue. -/
  | tdcResPop (n : Fin 32)
  /-- TBASE_WINDOW (R221). A TBASE presence window ends and is judged. `count`: TBASE edges in the window. -/
  | tbaseWindow (count : BitVec 32)
  /-- TBASE_LOSS (R221). TBASE is lost; CK_TDC is gated and open intervals are aborted. -/
  | tbaseLoss
  /-- TDC_READY (R220). The multiplier locks and two ties are taken, so the TDC enters READY. -/
  | tdcReady
  /-- TDC_LOCK_TIMEOUT (R220). LOCKING lasts 5 ms without lock, and TDC_LOCK_FAIL is filed. -/
  | tdcLockTimeout
  /-- SPARE_CAL_DONE (R225). A code-density calibration of the spare completes. `hist`: the hits of its 1,024 bins; `diff`:
  the largest difference of the overlap in ps. -/
  | spareCalDone (hist : List Nat) (diff : Nat)
  /-- TDC_EDGE (R231). A divided edge on a channel is stamped and queued or used by its owner. `u`: the active edges and
  what the channel's interpolator captures of the last. -/
  | tdcEdge (n : Fin 32) (u : ActiveEdge)
  /-- INTERVAL_TIMEOUT (R233). An interval has no stop within TIMEOUT and ends with a TIMEOUT record. -/
  | intervalTimeout (n : Fin 32)
  /-- FE_COMMIT (R240). The command commits a front-end group at the next GNSS epoch. -/
  | feCommit (n : Fin 4)
  /-- FE_INIT (R244). The command runs a front end's initialisation script. -/
  | feInit (n : Fin 4)
  /-- JAM_LEARN (R272). The command learns BASE from the next 600 windows. -/
  | jamLearn (n : Fin 4)
  /-- FE_GATE (R241). A 1 ms sample-clock gate ends and is judged for clock loss and rate. `count`: sample clocks in the
  gate; `tie`: the sample tie latched. -/
  | feGate (n : Fin 4) (count : BitVec 32) (tie : Option SampleTie)
  /-- SPI_TRANSFER_DONE (R245). An SPI controller transfer completes, and the next pending one is chosen. `rx`: the bits
  received. -/
  | spiTransferDone (rx : Word)
  /-- SCRIPT_DELAY_DONE (R244). A delay entry of an initialisation script ends. -/
  | scriptDelayDone (n : Fin 4)
  /-- SPI_GO (R245). The command queues a host SPI transfer. -/
  | spiGo
  /-- SUBMIT (R249). The command queues an acquisition job or rejects it. -/
  | submit
  /-- JOB_FLUSH (R249). The command removes host jobs not yet started. -/
  | jobFlush
  /-- JOB_START (R249). A free engine takes the next queued job. -/
  | jobStart (e : Fin 8)
  /-- DWELL_DONE (R252). An acquisition dwell or verify completes, and the job detects, continues or ends. `run`: its samples. -/
  | dwellDone (e : Fin 8) (run : DwellRun)
  /-- JOB_RESULT_POP (R257). A read of JOB_RES0 pops the head job result. -/
  | jobResultPop
  /-- CH_RELEASE (R266). The command returns a tracking channel to IDLE. -/
  | chRelease (c : BitVec 8)
  /-- CH_COMMIT (R275). The command commits a channel group at the next GNSS epoch. -/
  | chCommit (c : BitVec 8)
  /-- INTEGRATION_DUMP (R259). At each dump of Tc the tracking loops of a channel run. `samples`: those of the dump. -/
  | integrationDump (ch : BitVec 8) (samples : List LaneSample)
  /-- PULLIN_TIMEOUT (R260). A channel stays in PULLIN for 2 s without lock and enters LOSS. -/
  | pullinTimeout (c : BitVec 8)
  /-- SYNC_TIMEOUT (R260). A channel stays in SYNC for 6 s without sync and enters LOSS. -/
  | syncTimeout (c : BitVec 8)
  /-- CN0_LOSS (R264). C/N0 stays below CN0_LOSS for LOSS_T; the channel enters LOSS and may queue a reacquisition job. -/
  | cn0Loss (c : BitVec 8)
  /-- NAV_RECORD (R267). A decoded message unit is reported as a navigation record. -/
  | navRecord (ch : BitVec 8) (u : NavUnit)
  /-- JAM_WINDOW (R271). A 100 ms jamming window ends; POWER, SAT and NOISE are measured and JAM is judged. `samples`: those of the
  window; `noise`: the noise correlator's mean power, in 0.01 dB re full scale. -/
  | jamWindow (n : Fin 4) (samples : List LaneSample) (noise : BitVec 16)
  /-- GNSS_EPOCH (R281). At an epoch instant channels are latched, LOSS channels go IDLE and commits apply. `late`: the record was
  complete later than 2 ms after it. -/
  | gnssEpoch (late : Bool)
  /-- FW_ACK (R290). The solution firmware acknowledges an epoch. -/
  | fwAck (acts : FwActions)
  /-- FW_ACK_TIMEOUT (R290). An epoch is not acknowledged within 100 ms; three in succession halt the core. -/
  | fwAckTimeout
  /-- FW_RESTART (R290). The command restarts the solution core. -/
  | fwRestart
  /-- SOL_COMMIT (R305). The command commits the SOL group at the next GNSS epoch. -/
  | solCommit
  /-- POS_COMMIT (R305). The command commits the POS group at the next GNSS epoch. -/
  | posCommit
  /-- SURVEY_START (R296). The command enters SURVEY at the next epoch. -/
  | surveyStart
  /-- SOLUTION_DELIVERY (R301). A solution completes; if valid it delivers a GREF observation with its time bound. `m`: what the
  firmware brings to it. -/
  | solutionDelivery (m : NavModel)
  /-- PORT_COMMIT (R338). The command commits a port's PORT group at the next second. -/
  | portCommit (p : Fin 4)
  /-- FILT_COMMIT (R338). The command commits a port's filter group at the next packet boundary. -/
  | filtCommit (p : Fin 4)
  /-- WAKE_ARM (R329). The command re-arms the wake detector. -/
  | wakeArm (p : Fin 4)
  /-- PRBS_CLR (R336). The command clears PRBS_ERR. -/
  | prbsClr (p : Fin 4)
  /-- SERDES_CAL_DONE (R310). The SerDes calibrates after ON, and the link moves from OFF to DOWN. -/
  | serdesCalDone (p : Fin 4)
  /-- LINK_CONDITION_CHANGE (R310). Block lock, FEC lock, hi_ber or a fault sequence changes, and the link state moves. -/
  | linkConditionChange (p : Fin 4) (u : LinkStatus)
  /-- LINK_PENDING_DONE (R310). The link conditions hold for 10 ms in PENDING, and the link goes UP. -/
  | linkPendingDone (p : Fin 4)
  /-- FAULT_CLEAR_DONE (R310). Fault sequences are absent for 10 ms, and the link returns from FAULT to UP. -/
  | faultClearDone (p : Fin 4)
  /-- RX_FRAME (R315). A received frame is judged, counted and delivered or discarded. -/
  | rxFrame (p : Fin 4) (r : RxFrame)
  /-- PAUSE_END (R319). The obeyed pause time runs out, and transmission resumes. -/
  | pauseEnd (p : Fin 4)
  /-- STATS_LO_READ (R323). A read of a statistics LO word latches the high bits, and clears the counter in clear-on-read
  mode. -/
  | statsLoRead (p : Fin 4) (k : Fin 48)
  /-- STATS_HI_READ (R323). A read of a statistics HI word returns the latched or live high bits. -/
  | statsHiRead (p : Fin 4) (k : Fin 48)
  /-- SIGNAL_CHANGE (R327). The receive signal-energy indication changes, and the wake detector counts bursts and gaps.
  `on`: the level; `lasted`: ms the earlier level lasted. -/
  | signalChange (p : Fin 4) (on : Bool) (lasted : Nat)
  /-- ESMC_TIMEOUT (R333). No valid ESMC PDU arrives for TO seconds, and QL-FAILED is passed to the slot. -/
  | esmcTimeout (p : Fin 3)
  /-- ESMC_EVENT_TX (R334). An event PDU is sent after a change of the QL sent. -/
  | esmcEventTx (p : Fin 4)
  /-- RCLK_RELEASE (R331). After HOLD_MS of UP and an accepted QL, the recovered clock is unsquelched. -/
  | rclkRelease (p : Fin 3)
  /-- TXPH_MEAS (R342). The command starts a TXPH measurement. -/
  | txphMeas (p : Fin 4)
  /-- TXPH_PERIODIC (R342). Every 64 s a TXPH measurement starts. -/
  | txphPeriodic (p : Fin 4)
  /-- TXPH_DONE (R342). A TXPH measurement completes, and launches may be re-mapped. `delays`: how far each of the 16 stamped
  transmit word edges lies after its tick, in units of 2^-16 ps. -/
  | txphDone (p : Fin 4) (delays : List Nat)
  /-- GRANT_REQUEST (R352). The flue grants a launch time t_L or refuses the request, and the frame is built. `block`: the
  transmit block from which the port's launch grid counts on (R351). -/
  | grantRequest (block : TxBlock)
  /-- HELD_GRANTS_RELEASE (R355). At the end of a step or coast interval, held requests are granted in order. `blocks`:
  one for each held request. -/
  | heldGrantsRelease (blocks : List TxBlock)
  /-- UNSCHED_RESERVE (R356). The head unscheduled frame waits UNSCHED_WAIT and is given a reservation. `len`: the
  frame's bytes; `block`: as for GRANT_REQUEST. -/
  | unschedReserve (p : Fin 4) (len : BitVec 14) (block : TxBlock)
  /-- LAUNCH_RELEASE (R357). At t_L − 64 ns a scheduled frame is passed to the PCS, or missed as LATE. -/
  | launchRelease (p : Fin 4)
  /-- CAL_RUN (R366). The command starts a loop calibration of a port. -/
  | calRun (p : Fin 4)
  /-- LTS_CAL_DONE (R366). The loop calibration ends and loads CAL_MEAN, CAL_RMS and CAL_N. `launches`: the granted
  instants at which frames left; `diffs`: the receive stamp less the launch instant of those that came back, in ps. -/
  | ltsCalDone (p : Fin 4) (launches : List Int) (diffs : List Int)
  /-- PCAL_COMMIT (R368). The command commits a port's PMA and EXT delays at the next second. -/
  | pcalCommit (p : Fin 4)
  /-- CLS_COMMIT (R368). The command commits the launch class table at the next second. -/
  | clsCommit
  /-- DISPATCH (R387). The dispatcher takes a ready frame into a context, and PARSE runs. -/
  | dispatch
  /-- LOOKUP (R400). A transaction obtains its client entry under lock, and DECIDE runs. `ctx`: the context;
  `errs`: the memory errors that lie in what it reads (R578). -/
  | lookup (ctx : BitVec 12) (errs : List MemError)
  /-- GLOVEBOX_DONE (R454). A glovebox operation (mint, seal or sign) completes, and the frame is queued for release. -/
  | gloveboxDone (ctx : BitVec 12)
  /-- STEP_OVERRUN (R371). A thread spends more than 4,096 cycles in one step, and its transaction is dropped. -/
  | stepOverrun (ctx : BitVec 12)
  /-- FULL_RETRY (R384). A grant refused FULL is requested again after FULL_RETRY. -/
  | fullRetry (ctx : BitVec 12)
  /-- RESPONSE_DEADLINE (R385). A transaction not released by DL_US is cancelled. -/
  | responseDeadline (ctx : BitVec 12)
  /-- RTAB_COMMIT (R376). The command reads and applies the ring table at the next second. -/
  | rtabCommit
  /-- ENG_COMMIT (R409). The command commits the engine group at the next second. -/
  | engCommit
  /-- ADDR_COMMIT (R405). The command commits the server addresses at the next packet boundary. -/
  | addrCommit
  /-- DOORBELL (R379). A doorbell write moves the host-owned pointer of a HOST ring. -/
  | doorbell (ring : BitVec 10) (ptr : BitVec 16)
  /-- UNSCHED_TX_DONE (R378). A host-ring frame is sent or dropped, and its descriptor status is written. -/
  | unschedTxDone (p : Fin 4)
  /-- AGING_VISIT (R396). The aging scan visits an entry, frees it if idle and clears expired grants. -/
  | agingVisit (entry : BitVec 20)
  /-- MBX_READ (R399). The mailbox copies an entry. -/
  | mbxRead
  /-- MBX_WRITE (R399). The mailbox writes the selected HOST fields into an entry. -/
  | mbxWrite
  /-- MBX_INSERT (R399). The mailbox inserts an entry by its key. -/
  | mbxInsert
  /-- MBX_DELETE (R399). The mailbox sets an entry to FREE and ends its grants. -/
  | mbxDelete
  /-- MBX_LOOKUP (R399). The mailbox finds an entry by its key. -/
  | mbxLookup
  /-- MBX_BAD_OP (R399). A mailbox command with an unknown OP ends BAD_FORMAT. -/
  | mbxBadOp
  /-- CT_FLUSH (R403). The command writes back the dirty cache lines. -/
  | ctFlush
  /-- FLUSH_DONE (R403). The write-back completes. -/
  | flushDone
  /-- BAR2_TABLE_WRITE (R398). A BAR2 write to a client-table entry is applied only if the entry is FREE. -/
  | bar2TableWrite (entry : BitVec 20) (word : Fin 32) (data : Word) (be : BitVec 4)
  /-- PERIODIC_CREATE (R416). LEAD_US before a due instant, a Sync, Announce or Management transaction is created. -/
  | periodicCreate (p : Fin 4) (msg : PeriodicMsg)
  /-- ANNOUNCE_TIMEOUT (R426). The selected master sends no Announce within ANN_TO intervals. -/
  | announceTimeout (p : Fin 4)
  /-- PREF_RENEW (R425). A PREF client renews a grant at half its duration. -/
  | prefRenew (p : Fin 4) (msg : BitVec 4)
  /-- PREF_DELAY_REQ (R427). A PREF client sends a Delay_Req or Pdelay_Req at its interval. -/
  | prefDelayReq (p : Fin 4)
  /-- SMEAR_START (R432). A smear window opens and its values are latched. `k`: the smear of R432. -/
  | smearStart (k : Fin 8)
  /-- SMEAR_END (R432). A smear window closes or is withdrawn. -/
  | smearEnd (k : Fin 8)
  /-- PRO_COMMIT (R435). The command commits the protocol GLB group at the next second. -/
  | proCommit
  /-- PTP_COMMIT (R435). The command commits a serving instance group and clears its grants. -/
  | ptpCommit (p : Fin 4)
  /-- PREF_COMMIT (R435). The command commits a PREF client group at the next second. -/
  | prefCommit (p : Fin 4)
  /-- KEY_LOAD (R442). The command loads a glove from the key page. -/
  | keyLoad (index : Fin 64)
  /-- KEY_DESTROY (R447). The command destroys one glove. -/
  | keyDestroy (index : Fin 64)
  /-- KEY_DESTROY_ALL (R447). The command destroys every glove. -/
  | keyDestroyAll
  /-- LC_CMD (R449). The command moves the life-cycle state, destroying every glove. -/
  | lcCmd (target : BitVec 2) (confirm : BitVec 16)
  /-- SEC_COMMIT (R464). The command commits the PTP security group at the next second. -/
  | secCommit
  /-- RNG_HEALTH_FAIL (R438). An entropy health test fails, and NTS requests are dropped. -/
  | rngHealthFail
  /-- SMP_COMMIT (R466). The command commits a sample-port group at the next second. -/
  | smpCommit (n : Fin 8)
  /-- SMP_START (R471). The command moves an IDLE ungrouped port to PREROLL. -/
  | smpStart (n : Fin 8)
  /-- SMP_STOP (R472). The command stops a port at its next frame edge. -/
  | smpStop (n : Fin 8)
  /-- CS_COMMIT (R481). The command commits the transmit channel status at the next Z frame. -/
  | csCommit (n : Fin 8)
  /-- GRP_START (R473). The command arms a start group at T_s. -/
  | grpStart (k : Fin 4)
  /-- GRP_STOP (R476). The command stops a start group. -/
  | grpStop (k : Fin 4)
  /-- SMP_FRAME_EDGE (R469). A frame edge arrives; the rate and framing checks run and state and ring data advance. -/
  | smpFrameEdge (n : Fin 8) (u : SampleFrame)
  /-- SMP_EDGE_TIMEOUT (R469). No frame edge arrives within twice the period, and the port stalls. -/
  | smpEdgeTimeout (n : Fin 8)
  /-- HAT_FRAME (R492). A 16-bit HAT frame ends, and the hat is gained, kept or lost. -/
  | hatFrame (u : HatFrame)
  /-- HAT_LINE_TIMEOUT (R492). The holder sees no valid frame for 3 ms and files RED_HAT_LINE. -/
  | hatLineTimeout
  /-- RECLAIM (R494). The command clears the renounce latch and returns the chip to STANDBY. -/
  | reclaim
  /-- RENOUNCE (R488). The command sets the renounce latch. -/
  | renounce
  /-- YIELD (R495). The command requests a handover at mid-second. -/
  | yield
  /-- YIELD_APPLY (R495). At the next mid-second instant the renounce latch is set for the yield. -/
  | yieldApply
  /-- HEALTH_NOW (R506). The command restarts every self-test. -/
  | healthNow
  /-- RED_COMMIT (R509). The command commits the RED group at the next second. -/
  | redCommit
  /-- HELLO_TX (R497). Every 1 ms a HELLO is sent on the hat link. -/
  | helloTx
  /-- HELLO_RX (R493). A received HELLO negotiates the version and checks for a hat conflict. -/
  | helloRx (msg : Option (List Byte))
  /-- HAT_LINK_ALIGNED (R498). The hat link finds comma alignment and moves to NEGOTIATE. -/
  | hatLinkAligned
  /-- HAT_LINK_TIMEOUT (R498). 100 µs without a valid set returns the link to ALIGN. -/
  | hatLinkTimeout
  /-- EMBER_TX (R499). The holder sends the EMBER of the latest marker second. -/
  | emberTx
  /-- EMBER_RX (R500). A received EMBER pairs with its marker stamp into a seed pair. -/
  | emberRx (msg : Option (List Byte))
  /-- EMBER_PAIR_TIMEOUT (R500). A marker stays unpaired for 200 ms, and RED_EMBER_MISS is filed. -/
  | emberPairTimeout
  /-- HEALTH_TX (R507). Every second a HEALTH message is sent. -/
  | healthTx
  /-- HEALTH_RX (R507). A received HEALTH message loads PEER_HEALTH. -/
  | healthRx (msg : Option (List Byte))
  /-- SEEDING (R503). At the first tick 20 µs after h, the takeover seeds the Hearth and the chip becomes ACTIVE.
  `since`: picoseconds of own base from the marker of the pair to the seeding tick. -/
  | seeding (since : Int)
  /-- LOSER_RELEASE (R504). The losing chip's balls are in high impedance by h + 500 µs. -/
  | loserRelease
  /-- WINNER_RELEASE (R504). At h + 1 ms the winning chip enables its drivers and ports. -/
  | winnerRelease
  /-- SELFTEST_MBIST (R505). A standby march test of one SRAM array completes. -/
  | selftestMbist (array : BitVec 8) (corrected : Bool) (uncorrectable : Bool)
  /-- SELFTEST_SYN_SWEEP (R505). A standby band sweep of one synthesizer completes. -/
  | selftestSynSweep (n : Fin 4) (u : BandSweep)
  /-- SELFTEST_SERDES (R505). A standby PRBS loopback of one port completes. -/
  | selftestSerdes (p : Fin 4) (errors : Nat) (locked : Bool)
  /-- POWER_ON (R510). The always-on supply comes up, resetting the chip and clearing the always-on domain. -/
  | powerOn (p : StrapSamples)
  /-- RESET_PIN (R510). RESET_N rises and the chip resets. -/
  | resetPin (p : StrapSamples)
  /-- JTAG_RESET (R510). A JTAG reset instruction resets the chip. -/
  | jtagReset (p : StrapSamples)
  /-- RELOAD (R510). The command resets the chip with cause RELOAD. -/
  | reload (p : StrapSamples)
  /-- CHIP_RESET (R559). The confirmed command resets the chip with cause HOST. `confirm`: CONFIRM as written; `p`: the
  strap levels. -/
  | chipReset (confirm : BitVec 16) (p : StrapSamples)
  /-- HEADER_READ (R514). Stage 1 reads and checks the header and directory. -/
  | headerRead (sector64 : Bool)
  /-- EARLY_SECTIONS_READ (R514). Stage 2 reads BANDS, REFERENCE and the profile; stage 3 applies the profile. -/
  | earlySectionsRead (ref : ReferenceSection)
  /-- LATE_SECTIONS_READ (R514). Stage 4 reads HANDLERS, GNSS, GLOVES and CLIENTS. -/
  | lateSectionsRead (c : LateSections)
  /-- EMBER_SCAN (R529). Stage 5 scans the ember ring and restores state. -/
  | emberScan
  /-- STARTUP_COMPLETE (R514). Start-up completes, and the service state and role are decided. `aes`, `sha`: the engines
  whose known-answer test failed. -/
  | startupComplete (aes : BitVec 8) (sha : BitVec 4)
  /-- PROFILE_SET (R522). The command reads a profile and stages it. -/
  | profileSet
  /-- STANDBY_EMBER (R525). With the Hearth in reset, a record is formed every EMBER_INT seconds of ticks. -/
  | standbyEmber
  /-- EMBER_NOW (R525). The command writes the next record regardless of EMBER_INT. -/
  | emberNow
  /-- EMBER_PROGRAM_DONE (R527). An ember program and verify ends, with a retry or retirement on failure. `ok`: the
  verify read matched; `told`: with the Hearth in reset, the time allowed has passed. -/
  | emberProgramDone (ok : Bool) (told : Bool)
  /-- SECTOR_ERASE_DONE (R528). An ember sector erase completes. -/
  | sectorEraseDone (ok : Bool)
  /-- EMBER_DEADLINE (R527). EMBER_DL passes before the record is written, and NVC_EMBER_LATE is filed. -/
  | emberDeadline
  /-- FL_READ (R530). The host flash READ operation is started. -/
  | flRead
  /-- FL_PROGRAM (R530). The host flash PROGRAM operation is started. -/
  | flProgram
  /-- FL_ERASE (R530). The host flash ERASE operation is started. -/
  | flErase
  /-- FL_DONE (R530). A host flash operation ends with its result. -/
  | flDone (ok : Bool)
  /-- REGISTER_WRITE (R543). A host write to a register without a row of its own goes to its field or shadow. `be`: the
  byte enables; `long`: the request is longer than 4 bytes; `hw`: hardware loads the register in this cycle. -/
  | registerWrite (addr : BitVec 24) (data : Word) (be : BitVec 4) (long : Bool) (hw : Bool)
  /-- RC_READ (R546). A read of a register holding RC fields clears them and may raise MSI-X again. `be`, `long`: as for
  REGISTER_WRITE. -/
  | rcRead (addr : BitVec 24) (be : BitVec 4) (long : Bool)
  /-- WINDOW_READ (R536). A BAR2 read reaches DRAM through the window. `len` bytes; `errs`: the memory errors that
  lie in what it reads (R578). -/
  | windowRead (addr : BitVec 28) (len : Fin 4097) (errs : List MemError)
  /-- WINDOW_WRITE (R536). A BAR2 write reaches DRAM through the window. -/
  | windowWrite (addr : BitVec 28) (data : List Byte)
  /-- HSPI_FRAME (R537). An SPI target frame carries one register or window access. -/
  | hspiFrame (u : SpiHostFrame)
  /-- ACCESS_WATCHDOG (R553). A stalled access has no answer after WDOG_US and is abandoned. -/
  | accessWatchdog (d : Fin 24)
  /-- CLK_STOP (R552). A domain clock has no edge for two CK_AON cycles and is marked stopped. `d`: the domain of R561. -/
  | clkStop (d : Fin 24)
  /-- CLK_RETURN (R552). A domain clock returns; its replica is invalidated and abandoned writes land. -/
  | clkReturn (d : Fin 24)
  /-- RESET_HANDSHAKE_DONE (R556). A crossing's reset handshake ends, and blocked transfers are delivered. -/
  | resetHandshakeDone (d : Fin 24)
  /-- PCIE_RESET (R560). PERST_N, a hot reset or a link-down resets only the PCIe interface. -/
  | pcieReset (e : PcieEvent)
  /-- DUMP_NOW (R570). The command latches an off-grid counter dump. `tally`, `tick`, `late`: as for COUNTER_DUMP. -/
  | dumpNow (tally : Tally) (tick : Word) (late : Bool)
  /-- COUNTER_DUMP (R571). At a dump instant all counters are latched and a record is written. `tally`; `tick`: the tick
  count of R571; `late`: the dump was late. -/
  | counterDump (tally : Tally) (tick : Word) (late : Bool)
  /-- CNT_LO_READ (R569). A read of a counter LO word latches its high bits. `k`: the counter; `tally`: events other
  domains sent since the last tally. -/
  | cntLoRead (k : Fin 1024) (tally : Tally)
  /-- SAMPLE_TRIGGER (R575). A stoker sampling trigger marks a thread and writes a sample record. -/
  | sampleTrigger (obs : List SampleObs)
  /-- TELEMETRY_SAMPLE (R582). Every 1 ms die temperatures and supplies are sampled and judged. -/
  | telemetrySample (die : List (BitVec 16)) (supply : List (BitVec 16))
  /-- EXT_SENSOR_READ (R582). Every second the external I2C temperature sensors are read. -/
  | extSensorRead (v0 : Option (BitVec 16)) (v1 : Option (BitVec 16)) (v2 : Option (BitVec 16)) (v3 : Option (BitVec 16))
  /-- MEM_TRAIN_DONE (R577). DRAM training completes or fails. -/
  | memTrainDone (ok : Bool)
  /-- SWEEP_PASS_DONE (R581). A sweep pass over SRAM or DRAM completes. -/
  | sweepPassDone (dram : Bool) (found : List MemError)
  /-- SWEEP_SLOW (R581). A sweep pass is not complete within twice its period. -/
  | sweepSlow (dram : Bool)
  /-- BROWNOUT (R612). A main rail drops below its brownout threshold, and the chip resets as RESET_PIN. `rail`: the
  supply number of R582. -/
  | brownout (rail : BitVec 8)
  /-- SREF_OBSERVATION (R344). Every 100 ms slot S13 + p takes an observation of the recovered clock, from the receive
  mapping or from the recovered-cycle count. `cycles`: recovered cycles since the slot's last observation; `rel`: the
  cycle from the newest stamp of the receive mapping. -/
  | srefObservation (p : Fin 3) (cycles : Nat) (rel : Int)
  /-- RING_INTERRUPT (R380). MOD_US (or WB_US) runs out after a ring's hardware pointer moved, so the writeback record is
  written and the ring's MSI-X vector is raised. -/
  | ringInterrupt (ring : BitVec 10)
  /-- WAKE_BURST_ON_MS (R327). A burst of signal energy in WAKE lasts ON_MS, which with PULSES = 1 is a wake. -/
  | wakeBurstOnMs (p : Fin 4)
  /-- PCIE_CONFIG_WRITE (R535). A PCIe configuration write sets or clears Bus Master Enable or moves the function between
  D0 and D3hot, releasing pending MSI-X messages or refusing BAR accesses. -/
  | pcieConfigWrite (busMaster : Bool) (d3hot : Bool)
  /-- PMC_SEL_COMMIT (R568). The command commits the counter event selections at the next second. -/
  | pmcSelCommit
  /-- CNT_HI_READ (R569). A read of a counter HI word returns the latched high bits. -/
  | cntHiRead
  /-- MEM_COMMIT (R587). The command commits the MEM CFG, SWEEP and ARB registers at the next second. -/
  | memCommit
  /-- BG_STARVED (R584). A background DRAM request waits beyond 1 ms. -/
  | bgStarved
  /-- FLT_LOG_WRITE (R593). A queued filing is written to the always-on fault log. -/
  | fltLogWrite
  /-- FLT_RING_WRITE (R595). A log entry is written to the DRAM fault ring. -/
  | fltRingWrite
  /-- CLEAR_DEG (R589). The command clears DEGRADED. -/
  | clearDeg
  /-- CLEAR_SURR (R589). The command clears SURRENDERED. -/
  | clearSurr
  /-- LOG_CLEAR (R601). The command empties the fault log. -/
  | logClear
  /-- LOOP_DEADLINE (R598). The loop values are not delivered 128 ticks before an update; S is kept and SEL_LOOP_LATE is
  filed. -/
  | loopDeadline
  /-- AON_LOSS (R613). VDD_AON falls below 1.55 V, and every domain is held in reset. -/
  | aonLoss
  /-- RESET_N_ASSERTED (R612). Ball RESET_N falls for at least 1 µs and the chip is held in reset until it rises. -/
  | resetNAsserted
  deriving DecidableEq, Repr

end Sys2Proof
end

