-- ==== Sys2Proof/Decode.lean ====
section
/-! DEFINITION. The opcode table gives no row a word: its rows are commands from outside and carry no bits (every row of it
has no fields), so no word spells a command. -/

namespace Sys2Proof

/-- The command that the table's bits spell in `w`: the table gives bits to no row. -/
def decodeTableWord (_nbits _w : Nat) : Option Instr := none

end Sys2Proof
end

