-- ==== Sys2Proof/Config.lean ====
section
/-! DEFINITION. What the manual leaves open: constants without a body, so that no proof can see a value of them. -/

namespace Sys2Proof

/-- A value the manual does not fix (an unstated result, an unstated choice). It is applied to the counter
`State.freeCtr`, which the command that draws it advances; a drawer reduces it to the range the manual does give. -/
opaque Config.freeValue : Nat → Nat

/-- The fixed capture latency of the front-end balls in 2^-16 ns, for which no number is stated (R276). -/
opaque Config.captureLatency : Nat

/-- How many CK_HRT ticks the number that a domain's replica has last seen lies behind the present one: the age of R58, which
depends on the phase of the domain's clock, as a function of the domain and of the present instant. -/
opaque Config.replicaLag : Nat → Int → Nat

/-- The centre of a bin, in ps, in the table that an interpolator holds before its first calibration (R224). -/
opaque Config.firstCentre (interpolator bin : Nat) : Rat

/-- The design-nominal transmit phase of a port, in ps, used until TXPH has been measured (R358). -/
opaque Config.nominalPhase (port : Nat) : Rat

/-- How far a synthesizer's next PFD edge lies ahead at an instant, in 2^-48 of a PFD period (R167); taken modulo 2^48. -/
opaque Config.pfdPhase : Nat → Int → Nat

/-- Chip `i` of the primary code of a satellite's signal, on its pilot or its data component, true for -1: the codes generated
on chip, which no rule prints (R248). -/
opaque Config.primaryCode (sig prn : Nat) (pilot : Bool) (i : Nat) : Bool

/-- Chip `i` of the secondary code of a satellite's signal, likewise (R248). -/
opaque Config.secondaryCode (sig prn : Nat) (pilot : Bool) (i : Nat) : Bool

/-- The cosine and the sine that a carrier NCO puts out at a phase, in 2^-48 cycle, in the correlators' own scale (R258). -/
opaque Config.carrierWave : BitVec 48 → Int × Int

/-- The dumps after a handoff at which the FLL has settled and the PLL begins (R259). -/
opaque Config.fllSettle : Nat

end Sys2Proof
end

