-- ==== Sys2Proof/Machine/RegsGnss.lean ====
section
/-! DEFINITION. The register fields of the three GNSS blocks.
One definition per field of the register tables (spec chapters, R12, R13): its address, lowest bit, width, access code,
reset value, boundary and commit group; an array field is a function of its index. After them each block's table of
fields, which the address decoder reads (R539, R540). -/

namespace Sys2Proof.Machine

/-! ### GNA: 08_gnss_search_and_tracking.md, R274 -/

/-- [0] CMD: Queue the job in JOB_W0–W3 (R249). -/
def R.GNA.CTL.SUBMIT : Field := ⟨0xA0000, 0, 1, .cmd, 0, .immediate, none⟩
/-- [1] CMD: Start a host SPI transfer (R245). -/
def R.GNA.CTL.SPI_GO : Field := ⟨0xA0000, 1, 1, .cmd, 0, .immediate, none⟩
/-- [2] CMD: Remove queued host jobs. -/
def R.GNA.CTL.JOB_FLUSH : Field := ⟨0xA0000, 2, 1, .cmd, 0, .immediate, none⟩
/-- [6:0] STAT: Jobs queued, 0–64. -/
def R.GNA.STAT.JOBS : Field := ⟨0xA0004, 0, 7, .stat, 0x00, .immediate, none⟩
/-- [15:8] STAT: Bit e: engine e running a job. -/
def R.GNA.STAT.ENG_BUSY : Field := ⟨0xA0004, 8, 8, .stat, 0x00, .immediate, none⟩
/-- [16] STAT: SPI transfer in progress. -/
def R.GNA.STAT.SPI_BUSY : Field := ⟨0xA0004, 16, 1, .stat, 0, .immediate, none⟩
/-- [17] STAT: E1 memory codes loaded (R248). -/
def R.GNA.STAT.E1_CODES : Field := ⟨0xA0004, 17, 1, .stat, 0, .immediate, none⟩
/-- [0] RC: A host job result queued. -/
def R.GNA.EVT.JOB_DONE : Field := ⟨0xA0008, 0, 1, .rc, 0, .immediate, none⟩
/-- [1] RC: A result discarded (R257). -/
def R.GNA.EVT.RES_LOST : Field := ⟨0xA0008, 1, 1, .rc, 0, .immediate, none⟩
/-- [2] RC: Host transfer complete. -/
def R.GNA.EVT.SPI_DONE : Field := ⟨0xA0008, 2, 1, .rc, 0, .immediate, none⟩
/-- [3] RC: Navigation record discarded (R270). -/
def R.GNA.EVT.NAV_LOST : Field := ⟨0xA0008, 3, 1, .rc, 0, .immediate, none⟩
/-- [4] RC: Commit, job or command rejected. -/
def R.GNA.EVT.CFG_REJECTED : Field := ⟨0xA0008, 4, 1, .rc, 0, .immediate, none⟩
/-- [4:0] LIVE: Interrupt enable per EVT bit. -/
def R.GNA.INT_EN.EN : Field := ⟨0xA000C, 0, 5, .live, 0x00, .immediate, none⟩
/-- [3:0] LIVE: Signal (R246). -/
def R.GNA.JOB_W0.SIG : Field := ⟨0xA0010, 0, 4, .live, 0x0, .immediate, none⟩
/-- [5:4] LIVE: Front end. -/
def R.GNA.JOB_W0.FE : Field := ⟨0xA0010, 4, 2, .live, 0b00, .immediate, none⟩
/-- [15:8] LIVE: PRN (R247). -/
def R.GNA.JOB_W0.PRN : Field := ⟨0xA0010, 8, 8, .live, 0x00, .immediate, none⟩
/-- [16] LIVE: Aided job (R255). -/
def R.GNA.JOB_W0.AIDED : Field := ⟨0xA0010, 16, 1, .live, 0, .immediate, none⟩
/-- [17] LIVE: Lowest IDLE channel (R254). -/
def R.GNA.JOB_W0.CH_AUTO : Field := ⟨0xA0010, 17, 1, .live, 0, .immediate, none⟩
/-- [31:24] LIVE: Target channel when CH_AUTO = 0. -/
def R.GNA.JOB_W0.CH : Field := ⟨0xA0010, 24, 8, .live, 0x00, .immediate, none⟩
/-- [15:0] LIVE: Doppler centre, signed Hz. -/
def R.GNA.JOB_W1.DOP_CTR : Field := ⟨0xA0014, 0, 16, .live, 0x0000, .immediate, none⟩
/-- [31:16] LIVE: Doppler half-range, Hz, 0–20,000. -/
def R.GNA.JOB_W1.DOP_RANGE : Field := ⟨0xA0014, 16, 16, .live, 0x0000, .immediate, none⟩
/-- [4:0] LIVE: Coherent time, ms (R251). -/
def R.GNA.JOB_W2.TC : Field := ⟨0xA0018, 0, 5, .live, 0x01, .immediate, none⟩
/-- [15:8] LIVE: Non-coherent sums, 1–255. -/
def R.GNA.JOB_W2.M : Field := ⟨0xA0018, 8, 8, .live, 0x04, .immediate, none⟩
/-- [23:16] LIVE: Verify sums, 1–255. -/
def R.GNA.JOB_W2.MV : Field := ⟨0xA0018, 16, 8, .live, 0x08, .immediate, none⟩
/-- [31:24] LIVE: Threshold, 1/16. -/
def R.GNA.JOB_W2.THR : Field := ⟨0xA0018, 24, 8, .live, 0x60, .immediate, none⟩
/-- [7:0] LIVE: Aiding channel. -/
def R.GNA.JOB_W3.AID_CH : Field := ⟨0xA001C, 0, 8, .live, 0x00, .immediate, none⟩
/-- [15:8] LIVE: First block (R250). -/
def R.GNA.JOB_W3.BLOCK_FIRST : Field := ⟨0xA001C, 8, 8, .live, 0x00, .immediate, none⟩
/-- [23:16] LIVE: Blocks; 0 all. -/
def R.GNA.JOB_W3.BLOCK_N : Field := ⟨0xA001C, 16, 8, .live, 0x00, .immediate, none⟩
/-- [31:24] LIVE: Returned in the result. -/
def R.GNA.JOB_W3.TAG : Field := ⟨0xA001C, 24, 8, .live, 0x00, .immediate, none⟩
/-- [0] STAT: A result was popped; the read pops. -/
def R.GNA.JOB_RES0.VALID : Field := ⟨0xA0020, 0, 1, .stat, 0, .immediate, none⟩
/-- [3:1] STAT: 0b000 DETECTED, 0b001 NOT_FOUND, 0b010 REJECTED, 0b011 DUP, 0b100 NO_CHANNEL, 0b101 ABORT. -/
def R.GNA.JOB_RES0.OUTCOME : Field := ⟨0xA0020, 1, 3, .stat, 0b000, .immediate, none⟩
/-- [15:8] STAT: PRN of the job. -/
def R.GNA.JOB_RES0.PRN : Field := ⟨0xA0020, 8, 8, .stat, 0x00, .immediate, none⟩
/-- [23:16] STAT: Channel assigned. -/
def R.GNA.JOB_RES0.CH : Field := ⟨0xA0020, 16, 8, .stat, 0x00, .immediate, none⟩
/-- [31:24] STAT: Job tag. -/
def R.GNA.JOB_RES0.TAG : Field := ⟨0xA0020, 24, 8, .stat, 0x00, .immediate, none⟩
/-- [17:0] STAT: Hypothesis at detection. -/
def R.GNA.JOB_RES1.HYP : Field := ⟨0xA0024, 0, 18, .stat, 0, .immediate, none⟩
/-- [31:24] STAT: Verify statistic, 1/16, saturating. -/
def R.GNA.JOB_RES1.S : Field := ⟨0xA0024, 24, 8, .stat, 0x00, .immediate, none⟩
/-- [31:0] STAT: Doppler, signed mHz. -/
def R.GNA.JOB_RES2.DOPPLER : Field := ⟨0xA0028, 0, 32, .stat, 0, .immediate, none⟩
/-- [7:0] STAT: Verify failures in the job. -/
def R.GNA.JOB_RES3.VFAIL : Field := ⟨0xA002C, 0, 8, .stat, 0x00, .immediate, none⟩
/-- [31:0] CNT: Jobs rejected. -/
def R.GNA.JOB_REJ_CNT.COUNT : Field := ⟨0xA0030, 0, 32, .cnt, 0, .immediate, none⟩
/-- [7:0] LIVE: SCLK divider; 25 MHz at reset. -/
def R.GNA.SPI_CFG.DIV : Field := ⟨0xA0040, 0, 8, .live, 0x04, .immediate, none⟩
/-- [9:8] LIVE: SPI mode for front-end transfers. -/
def R.GNA.SPI_CFG.MODE : Field := ⟨0xA0040, 8, 2, .live, 0b00, .immediate, none⟩
/-- [2:0] LIVE: Chip select. -/
def R.GNA.SPI_CMD.CS : Field := ⟨0xA0044, 0, 3, .live, 0b000, .immediate, none⟩
/-- [10:8] LIVE: Bytes, 1–4; others rejected. -/
def R.GNA.SPI_CMD.LEN : Field := ⟨0xA0044, 8, 3, .live, 0b001, .immediate, none⟩
/-- [11] LIVE: Capture SPI_MISO into SPI_RX. -/
def R.GNA.SPI_CMD.READ : Field := ⟨0xA0044, 11, 1, .live, 0, .immediate, none⟩
/-- [31:0] LIVE: Bytes sent, first byte in [31:24]. -/
def R.GNA.SPI_TX.DATA : Field := ⟨0xA0048, 0, 32, .live, 0, .immediate, none⟩
/-- [31:0] STAT: Bytes received, first byte in [31:24]. -/
def R.GNA.SPI_RX.DATA : Field := ⟨0xA004C, 0, 32, .stat, 0, .immediate, none⟩
/-- [31:12] CFG: Ring base [31:12]. -/
def R.GNA.NAV_BASE_LO.ADDR : Field := ⟨0xA0050, 12, 20, .cfg, 0x00000, .gnssEpoch, none⟩
/-- [1:0] CFG: Ring base [33:32]. -/
def R.GNA.NAV_BASE_HI.ADDR : Field := ⟨0xA0054, 0, 2, .cfg, 0b00, .gnssEpoch, none⟩
/-- [12:0] CFG: Ring size, 4 KiB units, 1–4,096; 0 disables. -/
def R.GNA.NAV_SIZE.SIZE : Field := ⟨0xA0058, 0, 13, .cfg, 0x0000, .gnssEpoch, none⟩
/-- [23:0] STAT: Write offset, bytes. -/
def R.GNA.NAV_WR.PTR : Field := ⟨0xA005C, 0, 24, .stat, 0, .immediate, none⟩
/-- [23:0] LIVE: Read offset, bytes. -/
def R.GNA.NAV_RD.PTR : Field := ⟨0xA0060, 0, 24, .live, 0, .immediate, none⟩
/-- [31:0] CNT: Records discarded. -/
def R.GNA.NAV_LOST_CNT.COUNT : Field := ⟨0xA0064, 0, 32, .cnt, 0, .immediate, none⟩
/-- [31:0] STAT: Bit j: channel 32k + j not IDLE. -/
def R.GNA.ACTIVE.CH (i : Nat) : Field := ⟨0xA0080 + i * 0x4, 0, 32, .stat, 0, .immediate, none⟩
/-- [0] CMD: Commit group FEn. -/
def R.GNA.FE.CTL.COMMIT (i : Nat) : Field := ⟨0xA0100 + i * 0x40, 0, 1, .cmd, 0, .gnssEpoch, none⟩
/-- [1] CMD: Run the initialisation script (R244). -/
def R.GNA.FE.CTL.INIT (i : Nat) : Field := ⟨0xA0100 + i * 0x40, 1, 1, .cmd, 0, .immediate, none⟩
/-- [2] CMD: Learn BASE (R272). -/
def R.GNA.FE.CTL.JAM_LEARN (i : Nat) : Field := ⟨0xA0100 + i * 0x40, 2, 1, .cmd, 0, .immediate, none⟩
/-- [0] CFG: Front end enabled. -/
def R.GNA.FE.CFG.EN (i : Nat) : Field := ⟨0xA0104 + i * 0x40, 0, 1, .cfg, 0, .gnssEpoch, (some (.gnaFe i))⟩
/-- [1] CFG: 0 L1, 1 L5. -/
def R.GNA.FE.CFG.BAND (i : Nat) : Field := ⟨0xA0104 + i * 0x40, 1, 1, .cfg, 0, .gnssEpoch, (some (.gnaFe i))⟩
/-- [2] CFG: 0 main antenna, 1 second antenna. -/
def R.GNA.FE.CFG.ANT (i : Nat) : Field := ⟨0xA0104 + i * 0x40, 2, 1, .cfg, 0, .gnssEpoch, (some (.gnaFe i))⟩
/-- [5:3] CFG: Bits per I and Q, 1–4. -/
def R.GNA.FE.CFG.BITS (i : Nat) : Field := ⟨0xA0104 + i * 0x40, 3, 3, .cfg, 0b010, .gnssEpoch, (some (.gnaFe i))⟩
/-- [7:6] CFG: R239. -/
def R.GNA.FE.CFG.FORMAT (i : Nat) : Field := ⟨0xA0104 + i * 0x40, 6, 2, .cfg, 0b00, .gnssEpoch, (some (.gnaFe i))⟩
/-- [8] CFG: Exchange I and Q. -/
def R.GNA.FE.CFG.SWAP_IQ (i : Nat) : Field := ⟨0xA0104 + i * 0x40, 8, 1, .cfg, 0, .gnssEpoch, (some (.gnaFe i))⟩
/-- [9] CFG: Conjugate samples. -/
def R.GNA.FE.CFG.INVERT (i : Nat) : Field := ⟨0xA0104 + i * 0x40, 9, 1, .cfg, 0, .gnssEpoch, (some (.gnaFe i))⟩
/-- [10] CFG: 0: I on rising edge (R238). -/
def R.GNA.FE.CFG.EDGE (i : Nat) : Field := ⟨0xA0104 + i * 0x40, 10, 1, .cfg, 0, .gnssEpoch, (some (.gnaFe i))⟩
/-- [23:16] CFG: Rate tolerance, ppm; 50 at reset. -/
def R.GNA.FE.CFG.TOL (i : Nat) : Field := ⟨0xA0104 + i * 0x40, 16, 8, .cfg, 0x32, .gnssEpoch, (some (.gnaFe i))⟩
/-- [26:0] CFG: Nominal sample rate; 40 MHz at reset. -/
def R.GNA.FE.SR.HZ (i : Nat) : Field := ⟨0xA0108 + i * 0x40, 0, 27, .cfg, 0x2625A00, .gnssEpoch, (some (.gnaFe i))⟩
/-- [26:0] CFG: IF, signed Hz. -/
def R.GNA.FE.IF.HZ (i : Nat) : Field := ⟨0xA010C + i * 0x40, 0, 27, .cfg, 0x0000000, .gnssEpoch, (some (.gnaFe i))⟩
/-- [1:0] STAT: R242. -/
def R.GNA.FE.STAT.STATE (i : Nat) : Field := ⟨0xA0110 + i * 0x40, 0, 2, .stat, 0b00, .immediate, none⟩
/-- [2] STAT: Latest gate saw edges. -/
def R.GNA.FE.STAT.CLK_PRESENT (i : Nat) : Field := ⟨0xA0110 + i * 0x40, 2, 1, .stat, 0, .immediate, none⟩
/-- [3] STAT: R272. -/
def R.GNA.FE.STAT.JAM (i : Nat) : Field := ⟨0xA0110 + i * 0x40, 3, 1, .stat, 0, .immediate, none⟩
/-- [4] STAT: Script completed. -/
def R.GNA.FE.STAT.INIT_DONE (i : Nat) : Field := ⟨0xA0110 + i * 0x40, 4, 1, .stat, 0, .immediate, none⟩
/-- [5] STAT: Script mismatch. -/
def R.GNA.FE.STAT.INIT_FAIL (i : Nat) : Field := ⟨0xA0110 + i * 0x40, 5, 1, .stat, 0, .immediate, none⟩
/-- [31:0] STAT: Measured sample rate (R241). -/
def R.GNA.FE.SR_MEAS.HZ (i : Nat) : Field := ⟨0xA0114 + i * 0x40, 0, 32, .stat, 0, .immediate, none⟩
/-- [15:0] STAT: Signed, 0.01 dB re full scale. -/
def R.GNA.FE.POWER.DB (i : Nat) : Field := ⟨0xA0118 + i * 0x40, 0, 16, .stat, 0x0000, .immediate, none⟩
/-- [15:0] STAT: Fraction at full scale, 1/65,536. -/
def R.GNA.FE.SAT.FRAC (i : Nat) : Field := ⟨0xA011C + i * 0x40, 0, 16, .stat, 0x0000, .immediate, none⟩
/-- [15:0] STAT: Signed, 0.01 dB re full scale. -/
def R.GNA.FE.NOISE.DB (i : Nat) : Field := ⟨0xA0120 + i * 0x40, 0, 16, .stat, 0x0000, .immediate, none⟩
/-- [15:0] CFG: Noise baseline, signed 0.01 dB; shared load. -/
def R.GNA.FE.BASE.DB (i : Nat) : Field := ⟨0xA0124 + i * 0x40, 0, 16, .cfg, 0x0000, .immediate, none⟩
/-- [7:0] CFG: Noise rise, 0.1 dB; 3 dB at reset. -/
def R.GNA.FE.JAM.JAM_DB (i : Nat) : Field := ⟨0xA0128 + i * 0x40, 0, 8, .cfg, 0x1E, .gnssEpoch, (some (.gnaFe i))⟩
/-- [11:8] CFG: Windows to set or clear; 0 rejected. -/
def R.GNA.FE.JAM.JAM_N (i : Nat) : Field := ⟨0xA0128 + i * 0x40, 8, 4, .cfg, 0x3, .gnssEpoch, (some (.gnaFe i))⟩
/-- [31:16] CFG: Saturation limit, 1/65,536; 5 % at reset. -/
def R.GNA.FE.JAM.SAT_MAX (i : Nat) : Field := ⟨0xA0128 + i * 0x40, 16, 16, .cfg, 0x0CCD, .gnssEpoch, (some (.gnaFe i))⟩
/-- [15:0] CNT: Clock losses. -/
def R.GNA.FE.LOSS_CNT.COUNT (i : Nat) : Field := ⟨0xA012C + i * 0x40, 0, 16, .cnt, 0, .immediate, none⟩
/-- [15:0] CNT: JAM rises. -/
def R.GNA.FE.JAM_CNT.COUNT (i : Nat) : Field := ⟨0xA0130 + i * 0x40, 0, 16, .cnt, 0, .immediate, none⟩
/-- [0] RC: Clock lost (R242). -/
def R.GNA.FE.EVT.CLK_LOSS (i : Nat) : Field := ⟨0xA0134 + i * 0x40, 0, 1, .rc, 0, .immediate, none⟩
/-- [1] RC: FAULT entered. -/
def R.GNA.FE.EVT.FAULT (i : Nat) : Field := ⟨0xA0134 + i * 0x40, 1, 1, .rc, 0, .immediate, none⟩
/-- [2] RC: JAM set. -/
def R.GNA.FE.EVT.JAM (i : Nat) : Field := ⟨0xA0134 + i * 0x40, 2, 1, .rc, 0, .immediate, none⟩
/-- [2:0] LIVE: Interrupt enable per front-end EVT bit; an enabled bit feeds the GNA bit of GLB.INT_STAT (R557). -/
def R.GNA.FE.INT_EN.EN (i : Nat) : Field := ⟨0xA0138 + i * 0x40, 0, 3, .live, 0b000, .immediate, none⟩
/-- [0] STAT: Job running. -/
def R.GNA.ENG.STAT.BUSY (i : Nat) : Field := ⟨0xA0300 + i * 0x10, 0, 1, .stat, 0, .immediate, none⟩
/-- [11:4] STAT: Bin index in the job. -/
def R.GNA.ENG.STAT.BIN (i : Nat) : Field := ⟨0xA0300 + i * 0x10, 4, 8, .stat, 0x00, .immediate, none⟩
/-- [15:12] STAT: Block in the job. -/
def R.GNA.ENG.STAT.BLOCK (i : Nat) : Field := ⟨0xA0300 + i * 0x10, 12, 4, .stat, 0x0, .immediate, none⟩
/-- [16] STAT: Job submitted by the host. -/
def R.GNA.ENG.STAT.HOST (i : Nat) : Field := ⟨0xA0300 + i * 0x10, 16, 1, .stat, 0, .immediate, none⟩
/-- [31:0] CNT: Dwells run. -/
def R.GNA.ENG.DWELL_CNT.COUNT (i : Nat) : Field := ⟨0xA0304 + i * 0x10, 0, 32, .cnt, 0, .immediate, none⟩
/-- [31:0] CNT: Jobs completed. -/
def R.GNA.ENG.JOB_CNT.COUNT (i : Nat) : Field := ⟨0xA0308 + i * 0x10, 0, 32, .cnt, 0, .immediate, none⟩

/-- The GNA fields, part 1. -/
def R.GNA.table1 : List RegRow :=
  [⟨1, 0, 1, 0, fun _ _ => R.GNA.CTL.SUBMIT⟩,
   ⟨1, 0, 1, 0, fun _ _ => R.GNA.CTL.SPI_GO⟩,
   ⟨1, 0, 1, 0, fun _ _ => R.GNA.CTL.JOB_FLUSH⟩,
   ⟨1, 0, 1, 0, fun _ _ => R.GNA.STAT.JOBS⟩,
   ⟨1, 0, 1, 0, fun _ _ => R.GNA.STAT.ENG_BUSY⟩,
   ⟨1, 0, 1, 0, fun _ _ => R.GNA.STAT.SPI_BUSY⟩,
   ⟨1, 0, 1, 0, fun _ _ => R.GNA.STAT.E1_CODES⟩,
   ⟨1, 0, 1, 0, fun _ _ => R.GNA.EVT.JOB_DONE⟩,
   ⟨1, 0, 1, 0, fun _ _ => R.GNA.EVT.RES_LOST⟩,
   ⟨1, 0, 1, 0, fun _ _ => R.GNA.EVT.SPI_DONE⟩,
   ⟨1, 0, 1, 0, fun _ _ => R.GNA.EVT.NAV_LOST⟩,
   ⟨1, 0, 1, 0, fun _ _ => R.GNA.EVT.CFG_REJECTED⟩,
   ⟨1, 0, 1, 0, fun _ _ => R.GNA.INT_EN.EN⟩,
   ⟨1, 0, 1, 0, fun _ _ => R.GNA.JOB_W0.SIG⟩,
   ⟨1, 0, 1, 0, fun _ _ => R.GNA.JOB_W0.FE⟩,
   ⟨1, 0, 1, 0, fun _ _ => R.GNA.JOB_W0.PRN⟩,
   ⟨1, 0, 1, 0, fun _ _ => R.GNA.JOB_W0.AIDED⟩,
   ⟨1, 0, 1, 0, fun _ _ => R.GNA.JOB_W0.CH_AUTO⟩,
   ⟨1, 0, 1, 0, fun _ _ => R.GNA.JOB_W0.CH⟩,
   ⟨1, 0, 1, 0, fun _ _ => R.GNA.JOB_W1.DOP_CTR⟩,
   ⟨1, 0, 1, 0, fun _ _ => R.GNA.JOB_W1.DOP_RANGE⟩,
   ⟨1, 0, 1, 0, fun _ _ => R.GNA.JOB_W2.TC⟩,
   ⟨1, 0, 1, 0, fun _ _ => R.GNA.JOB_W2.M⟩,
   ⟨1, 0, 1, 0, fun _ _ => R.GNA.JOB_W2.MV⟩,
   ⟨1, 0, 1, 0, fun _ _ => R.GNA.JOB_W2.THR⟩,
   ⟨1, 0, 1, 0, fun _ _ => R.GNA.JOB_W3.AID_CH⟩,
   ⟨1, 0, 1, 0, fun _ _ => R.GNA.JOB_W3.BLOCK_FIRST⟩,
   ⟨1, 0, 1, 0, fun _ _ => R.GNA.JOB_W3.BLOCK_N⟩,
   ⟨1, 0, 1, 0, fun _ _ => R.GNA.JOB_W3.TAG⟩,
   ⟨1, 0, 1, 0, fun _ _ => R.GNA.JOB_RES0.VALID⟩,
   ⟨1, 0, 1, 0, fun _ _ => R.GNA.JOB_RES0.OUTCOME⟩,
   ⟨1, 0, 1, 0, fun _ _ => R.GNA.JOB_RES0.PRN⟩,
   ⟨1, 0, 1, 0, fun _ _ => R.GNA.JOB_RES0.CH⟩,
   ⟨1, 0, 1, 0, fun _ _ => R.GNA.JOB_RES0.TAG⟩,
   ⟨1, 0, 1, 0, fun _ _ => R.GNA.JOB_RES1.HYP⟩,
   ⟨1, 0, 1, 0, fun _ _ => R.GNA.JOB_RES1.S⟩,
   ⟨1, 0, 1, 0, fun _ _ => R.GNA.JOB_RES2.DOPPLER⟩,
   ⟨1, 0, 1, 0, fun _ _ => R.GNA.JOB_RES3.VFAIL⟩,
   ⟨1, 0, 1, 0, fun _ _ => R.GNA.JOB_REJ_CNT.COUNT⟩,
   ⟨1, 0, 1, 0, fun _ _ => R.GNA.SPI_CFG.DIV⟩]
/-- The GNA fields, part 2. -/
def R.GNA.table2 : List RegRow :=
  [⟨1, 0, 1, 0, fun _ _ => R.GNA.SPI_CFG.MODE⟩,
   ⟨1, 0, 1, 0, fun _ _ => R.GNA.SPI_CMD.CS⟩,
   ⟨1, 0, 1, 0, fun _ _ => R.GNA.SPI_CMD.LEN⟩,
   ⟨1, 0, 1, 0, fun _ _ => R.GNA.SPI_CMD.READ⟩,
   ⟨1, 0, 1, 0, fun _ _ => R.GNA.SPI_TX.DATA⟩,
   ⟨1, 0, 1, 0, fun _ _ => R.GNA.SPI_RX.DATA⟩,
   ⟨1, 0, 1, 0, fun _ _ => R.GNA.NAV_BASE_LO.ADDR⟩,
   ⟨1, 0, 1, 0, fun _ _ => R.GNA.NAV_BASE_HI.ADDR⟩,
   ⟨1, 0, 1, 0, fun _ _ => R.GNA.NAV_SIZE.SIZE⟩,
   ⟨1, 0, 1, 0, fun _ _ => R.GNA.NAV_WR.PTR⟩,
   ⟨1, 0, 1, 0, fun _ _ => R.GNA.NAV_RD.PTR⟩,
   ⟨1, 0, 1, 0, fun _ _ => R.GNA.NAV_LOST_CNT.COUNT⟩,
   ⟨8, 0x4, 1, 0, fun i _ => R.GNA.ACTIVE.CH i⟩,
   ⟨4, 0x40, 1, 0, fun i _ => R.GNA.FE.CTL.COMMIT i⟩,
   ⟨4, 0x40, 1, 0, fun i _ => R.GNA.FE.CTL.INIT i⟩,
   ⟨4, 0x40, 1, 0, fun i _ => R.GNA.FE.CTL.JAM_LEARN i⟩,
   ⟨4, 0x40, 1, 0, fun i _ => R.GNA.FE.CFG.EN i⟩,
   ⟨4, 0x40, 1, 0, fun i _ => R.GNA.FE.CFG.BAND i⟩,
   ⟨4, 0x40, 1, 0, fun i _ => R.GNA.FE.CFG.ANT i⟩,
   ⟨4, 0x40, 1, 0, fun i _ => R.GNA.FE.CFG.BITS i⟩,
   ⟨4, 0x40, 1, 0, fun i _ => R.GNA.FE.CFG.FORMAT i⟩,
   ⟨4, 0x40, 1, 0, fun i _ => R.GNA.FE.CFG.SWAP_IQ i⟩,
   ⟨4, 0x40, 1, 0, fun i _ => R.GNA.FE.CFG.INVERT i⟩,
   ⟨4, 0x40, 1, 0, fun i _ => R.GNA.FE.CFG.EDGE i⟩,
   ⟨4, 0x40, 1, 0, fun i _ => R.GNA.FE.CFG.TOL i⟩,
   ⟨4, 0x40, 1, 0, fun i _ => R.GNA.FE.SR.HZ i⟩,
   ⟨4, 0x40, 1, 0, fun i _ => R.GNA.FE.IF.HZ i⟩,
   ⟨4, 0x40, 1, 0, fun i _ => R.GNA.FE.STAT.STATE i⟩,
   ⟨4, 0x40, 1, 0, fun i _ => R.GNA.FE.STAT.CLK_PRESENT i⟩,
   ⟨4, 0x40, 1, 0, fun i _ => R.GNA.FE.STAT.JAM i⟩,
   ⟨4, 0x40, 1, 0, fun i _ => R.GNA.FE.STAT.INIT_DONE i⟩,
   ⟨4, 0x40, 1, 0, fun i _ => R.GNA.FE.STAT.INIT_FAIL i⟩,
   ⟨4, 0x40, 1, 0, fun i _ => R.GNA.FE.SR_MEAS.HZ i⟩,
   ⟨4, 0x40, 1, 0, fun i _ => R.GNA.FE.POWER.DB i⟩,
   ⟨4, 0x40, 1, 0, fun i _ => R.GNA.FE.SAT.FRAC i⟩,
   ⟨4, 0x40, 1, 0, fun i _ => R.GNA.FE.NOISE.DB i⟩,
   ⟨4, 0x40, 1, 0, fun i _ => R.GNA.FE.BASE.DB i⟩,
   ⟨4, 0x40, 1, 0, fun i _ => R.GNA.FE.JAM.JAM_DB i⟩,
   ⟨4, 0x40, 1, 0, fun i _ => R.GNA.FE.JAM.JAM_N i⟩,
   ⟨4, 0x40, 1, 0, fun i _ => R.GNA.FE.JAM.SAT_MAX i⟩]
/-- The GNA fields, part 3. -/
def R.GNA.table3 : List RegRow :=
  [⟨4, 0x40, 1, 0, fun i _ => R.GNA.FE.LOSS_CNT.COUNT i⟩,
   ⟨4, 0x40, 1, 0, fun i _ => R.GNA.FE.JAM_CNT.COUNT i⟩,
   ⟨4, 0x40, 1, 0, fun i _ => R.GNA.FE.EVT.CLK_LOSS i⟩,
   ⟨4, 0x40, 1, 0, fun i _ => R.GNA.FE.EVT.FAULT i⟩,
   ⟨4, 0x40, 1, 0, fun i _ => R.GNA.FE.EVT.JAM i⟩,
   ⟨4, 0x40, 1, 0, fun i _ => R.GNA.FE.INT_EN.EN i⟩,
   ⟨8, 0x10, 1, 0, fun i _ => R.GNA.ENG.STAT.BUSY i⟩,
   ⟨8, 0x10, 1, 0, fun i _ => R.GNA.ENG.STAT.BIN i⟩,
   ⟨8, 0x10, 1, 0, fun i _ => R.GNA.ENG.STAT.BLOCK i⟩,
   ⟨8, 0x10, 1, 0, fun i _ => R.GNA.ENG.STAT.HOST i⟩,
   ⟨8, 0x10, 1, 0, fun i _ => R.GNA.ENG.DWELL_CNT.COUNT i⟩,
   ⟨8, 0x10, 1, 0, fun i _ => R.GNA.ENG.JOB_CNT.COUNT i⟩]

/-- Every field the GNA block implements. -/
def R.GNA.table : List RegRow := R.GNA.table1 ++ R.GNA.table2 ++ R.GNA.table3

/-! ### GNT: 08_gnss_search_and_tracking.md, R275 -/

/-- [0] CMD: Return the channel to IDLE (R266). -/
def R.GNT.CH.CTL.RELEASE (i : Nat) : Field := ⟨0xB0000 + i * 0x100, 0, 1, .cmd, 0, .immediate, none⟩
/-- [1] CMD: Commit group CHc. -/
def R.GNT.CH.CTL.COMMIT (i : Nat) : Field := ⟨0xB0000 + i * 0x100, 1, 1, .cmd, 0, .gnssEpoch, none⟩
/-- [0] CFG: Reacquire after loss (R264). -/
def R.GNT.CH.CFG.REACQ (i : Nat) : Field := ⟨0xB0004 + i * 0x100, 0, 1, .cfg, 1, .gnssEpoch, (some (.gntCh i))⟩
/-- [1] CFG: Decode messages (R267). -/
def R.GNT.CH.CFG.NAV_EN (i : Nat) : Field := ⟨0xB0004 + i * 0x100, 1, 1, .cfg, 1, .gnssEpoch, (some (.gntCh i))⟩
/-- [7:0] CFG: PLL bandwidth, Hz, 1–50. -/
def R.GNT.CH.LOOP.PLL_BW (i : Nat) : Field := ⟨0xB0008 + i * 0x100, 0, 8, .cfg, 0x0F, .gnssEpoch, (some (.gntCh i))⟩
/-- [15:8] CFG: FLL bandwidth, Hz, 1–50. -/
def R.GNT.CH.LOOP.FLL_BW (i : Nat) : Field := ⟨0xB0008 + i * 0x100, 8, 8, .cfg, 0x0A, .gnssEpoch, (some (.gntCh i))⟩
/-- [23:16] CFG: DLL bandwidth, 0.05 Hz; 2 Hz at reset. -/
def R.GNT.CH.LOOP.DLL_BW (i : Nat) : Field := ⟨0xB0008 + i * 0x100, 16, 8, .cfg, 0x28, .gnssEpoch, (some (.gntCh i))⟩
/-- [28:24] CFG: Longest Tc in LOCKED, ms (R260). -/
def R.GNT.CH.LOOP.TC_MAX (i : Nat) : Field := ⟨0xB0008 + i * 0x100, 24, 5, .cfg, 0x14, .gnssEpoch, (some (.gntCh i))⟩
/-- [7:0] CFG: Early–late spacing, 1/64 chip. -/
def R.GNT.CH.CORR.EL (i : Nat) : Field := ⟨0xB000C + i * 0x100, 0, 8, .cfg, 0x20, .gnssEpoch, (some (.gntCh i))⟩
/-- [15:8] CFG: Very-early–very-late spacing, 1/64 chip. -/
def R.GNT.CH.CORR.VEVL (i : Nat) : Field := ⟨0xB000C + i * 0x100, 8, 8, .cfg, 0x40, .gnssEpoch, (some (.gntCh i))⟩
/-- [23:16] CFG: Dumps before a bump jump (R262). -/
def R.GNT.CH.CORR.BJ_N (i : Nat) : Field := ⟨0xB000C + i * 0x100, 16, 8, .cfg, 0x0A, .gnssEpoch, (some (.gntCh i))⟩
/-- [9:0] CFG: Loss threshold, 0.1 dB-Hz; 20 dB-Hz at reset. -/
def R.GNT.CH.THR.CN0_LOSS (i : Nat) : Field := ⟨0xB0010 + i * 0x100, 0, 10, .cfg, 0x0C8, .gnssEpoch, (some (.gntCh i))⟩
/-- [15:12] CFG: Seconds below CN0_LOSS. -/
def R.GNT.CH.THR.LOSS_T (i : Nat) : Field := ⟨0xB0010 + i * 0x100, 12, 4, .cfg, 0x2, .gnssEpoch, (some (.gntCh i))⟩
/-- [23:16] CFG: Lock level, 1/256; 0.7 at reset. -/
def R.GNT.CH.THR.PLI_LOCK (i : Nat) : Field := ⟨0xB0010 + i * 0x100, 16, 8, .cfg, 0xB3, .gnssEpoch, (some (.gntCh i))⟩
/-- [2:0] STAT: R260. -/
def R.GNT.CH.STAT.STATE (i : Nat) : Field := ⟨0xB0020 + i * 0x100, 0, 3, .stat, 0b000, .immediate, none⟩
/-- [7:4] STAT: Signal assigned. -/
def R.GNT.CH.STAT.SIG (i : Nat) : Field := ⟨0xB0020 + i * 0x100, 4, 4, .stat, 0x0, .immediate, none⟩
/-- [9:8] STAT: Front end assigned. -/
def R.GNT.CH.STAT.FE (i : Nat) : Field := ⟨0xB0020 + i * 0x100, 8, 2, .stat, 0b00, .immediate, none⟩
/-- [23:16] STAT: PRN assigned. -/
def R.GNT.CH.STAT.PRN (i : Nat) : Field := ⟨0xB0020 + i * 0x100, 16, 8, .stat, 0x00, .immediate, none⟩
/-- [24] STAT: Polarity unresolved (R263). -/
def R.GNT.CH.STAT.HALF_CYC (i : Nat) : Field := ⟨0xB0020 + i * 0x100, 24, 1, .stat, 0, .immediate, none⟩
/-- [25] STAT: Sync found (R261). -/
def R.GNT.CH.STAT.BITSYNC (i : Nat) : Field := ⟨0xB0020 + i * 0x100, 25, 1, .stat, 0, .immediate, none⟩
/-- [0] RC: LOCKED entered. -/
def R.GNT.CH.EVT.LOCK (i : Nat) : Field := ⟨0xB0024 + i * 0x100, 0, 1, .rc, 0, .immediate, none⟩
/-- [1] RC: LOSS entered. -/
def R.GNT.CH.EVT.LOSS (i : Nat) : Field := ⟨0xB0024 + i * 0x100, 1, 1, .rc, 0, .immediate, none⟩
/-- [2] RC: Cycle slip counted. -/
def R.GNT.CH.EVT.SLIP (i : Nat) : Field := ⟨0xB0024 + i * 0x100, 2, 1, .rc, 0, .immediate, none⟩
/-- [3] RC: Code jumped half a chip. -/
def R.GNT.CH.EVT.BUMP_JUMP (i : Nat) : Field := ⟨0xB0024 + i * 0x100, 3, 1, .rc, 0, .immediate, none⟩
/-- [4] RC: Message unit reported. -/
def R.GNT.CH.EVT.NAV (i : Nat) : Field := ⟨0xB0024 + i * 0x100, 4, 1, .rc, 0, .immediate, none⟩
/-- [4:0] LIVE: Interrupt enable per EVT bit. -/
def R.GNT.CH.INT_EN.EN (i : Nat) : Field := ⟨0xB0028 + i * 0x100, 0, 5, .live, 0x00, .immediate, none⟩
/-- [15:0] STAT: C/N0, 0.01 dB-Hz. -/
def R.GNT.CH.CN0.DBHZ (i : Nat) : Field := ⟨0xB0030 + i * 0x100, 0, 16, .stat, 0x0000, .immediate, none⟩
/-- [15:0] STAT: Signed, 1/32,768. -/
def R.GNT.CH.PLI.PLI (i : Nat) : Field := ⟨0xB0034 + i * 0x100, 0, 16, .stat, 0x0000, .immediate, none⟩
/-- [31:0] STAT: Raw carrier Doppler, signed mHz. -/
def R.GNT.CH.DOPPLER.MHZ (i : Nat) : Field := ⟨0xB0038 + i * 0x100, 0, 32, .stat, 0, .immediate, none⟩
/-- [31:0] STAT: Code rate offset, signed mHz of chip rate. -/
def R.GNT.CH.CODE_DOP.MHZ (i : Nat) : Field := ⟨0xB003C + i * 0x100, 0, 32, .stat, 0, .immediate, none⟩
/-- [4:0] STAT: Tc in use. -/
def R.GNT.CH.TC.MS (i : Nat) : Field := ⟨0xB0040 + i * 0x100, 0, 5, .stat, 0x00, .immediate, none⟩
/-- [15:0] CNT: Cycle slips since handoff. -/
def R.GNT.CH.SLIP_CNT.COUNT (i : Nat) : Field := ⟨0xB0044 + i * 0x100, 0, 16, .cnt, 0, .immediate, none⟩
/-- [31:0] CNT: Dumps since handoff. -/
def R.GNT.CH.DUMP_CNT.COUNT (i : Nat) : Field := ⟨0xB0048 + i * 0x100, 0, 32, .cnt, 0, .immediate, none⟩
/-- [31:0] CNT: Units with CHECK_OK. -/
def R.GNT.CH.NAV_OK_CNT.COUNT (i : Nat) : Field := ⟨0xB004C + i * 0x100, 0, 32, .cnt, 0, .immediate, none⟩
/-- [31:0] CNT: Units failing their check or CUT. -/
def R.GNT.CH.NAV_FAIL_CNT.COUNT (i : Nat) : Field := ⟨0xB0050 + i * 0x100, 0, 32, .cnt, 0, .immediate, none⟩
/-- [15:0] CNT: Bump jumps since handoff. -/
def R.GNT.CH.BJ_CNT.COUNT (i : Nat) : Field := ⟨0xB0054 + i * 0x100, 0, 16, .cnt, 0, .immediate, none⟩

/-- The GNT fields, part 1. -/
def R.GNT.table1 : List RegRow :=
  [⟨256, 0x100, 1, 0, fun i _ => R.GNT.CH.CTL.RELEASE i⟩,
   ⟨256, 0x100, 1, 0, fun i _ => R.GNT.CH.CTL.COMMIT i⟩,
   ⟨256, 0x100, 1, 0, fun i _ => R.GNT.CH.CFG.REACQ i⟩,
   ⟨256, 0x100, 1, 0, fun i _ => R.GNT.CH.CFG.NAV_EN i⟩,
   ⟨256, 0x100, 1, 0, fun i _ => R.GNT.CH.LOOP.PLL_BW i⟩,
   ⟨256, 0x100, 1, 0, fun i _ => R.GNT.CH.LOOP.FLL_BW i⟩,
   ⟨256, 0x100, 1, 0, fun i _ => R.GNT.CH.LOOP.DLL_BW i⟩,
   ⟨256, 0x100, 1, 0, fun i _ => R.GNT.CH.LOOP.TC_MAX i⟩,
   ⟨256, 0x100, 1, 0, fun i _ => R.GNT.CH.CORR.EL i⟩,
   ⟨256, 0x100, 1, 0, fun i _ => R.GNT.CH.CORR.VEVL i⟩,
   ⟨256, 0x100, 1, 0, fun i _ => R.GNT.CH.CORR.BJ_N i⟩,
   ⟨256, 0x100, 1, 0, fun i _ => R.GNT.CH.THR.CN0_LOSS i⟩,
   ⟨256, 0x100, 1, 0, fun i _ => R.GNT.CH.THR.LOSS_T i⟩,
   ⟨256, 0x100, 1, 0, fun i _ => R.GNT.CH.THR.PLI_LOCK i⟩,
   ⟨256, 0x100, 1, 0, fun i _ => R.GNT.CH.STAT.STATE i⟩,
   ⟨256, 0x100, 1, 0, fun i _ => R.GNT.CH.STAT.SIG i⟩,
   ⟨256, 0x100, 1, 0, fun i _ => R.GNT.CH.STAT.FE i⟩,
   ⟨256, 0x100, 1, 0, fun i _ => R.GNT.CH.STAT.PRN i⟩,
   ⟨256, 0x100, 1, 0, fun i _ => R.GNT.CH.STAT.HALF_CYC i⟩,
   ⟨256, 0x100, 1, 0, fun i _ => R.GNT.CH.STAT.BITSYNC i⟩,
   ⟨256, 0x100, 1, 0, fun i _ => R.GNT.CH.EVT.LOCK i⟩,
   ⟨256, 0x100, 1, 0, fun i _ => R.GNT.CH.EVT.LOSS i⟩,
   ⟨256, 0x100, 1, 0, fun i _ => R.GNT.CH.EVT.SLIP i⟩,
   ⟨256, 0x100, 1, 0, fun i _ => R.GNT.CH.EVT.BUMP_JUMP i⟩,
   ⟨256, 0x100, 1, 0, fun i _ => R.GNT.CH.EVT.NAV i⟩,
   ⟨256, 0x100, 1, 0, fun i _ => R.GNT.CH.INT_EN.EN i⟩,
   ⟨256, 0x100, 1, 0, fun i _ => R.GNT.CH.CN0.DBHZ i⟩,
   ⟨256, 0x100, 1, 0, fun i _ => R.GNT.CH.PLI.PLI i⟩,
   ⟨256, 0x100, 1, 0, fun i _ => R.GNT.CH.DOPPLER.MHZ i⟩,
   ⟨256, 0x100, 1, 0, fun i _ => R.GNT.CH.CODE_DOP.MHZ i⟩,
   ⟨256, 0x100, 1, 0, fun i _ => R.GNT.CH.TC.MS i⟩,
   ⟨256, 0x100, 1, 0, fun i _ => R.GNT.CH.SLIP_CNT.COUNT i⟩,
   ⟨256, 0x100, 1, 0, fun i _ => R.GNT.CH.DUMP_CNT.COUNT i⟩,
   ⟨256, 0x100, 1, 0, fun i _ => R.GNT.CH.NAV_OK_CNT.COUNT i⟩,
   ⟨256, 0x100, 1, 0, fun i _ => R.GNT.CH.NAV_FAIL_CNT.COUNT i⟩,
   ⟨256, 0x100, 1, 0, fun i _ => R.GNT.CH.BJ_CNT.COUNT i⟩]

/-- Every field the GNT block implements. -/
def R.GNT.table : List RegRow := R.GNT.table1

/-! ### GNS: 09_gnss_measurements_and_solution.md, R305 -/

/-- [0] CMD: Commit group SOL. -/
def R.GNS.CTL.SOL_COMMIT : Field := ⟨0xC0000, 0, 1, .cmd, 0, .gnssEpoch, none⟩
/-- [1] CMD: Commit group POS. -/
def R.GNS.CTL.POS_COMMIT : Field := ⟨0xC0000, 1, 1, .cmd, 0, .gnssEpoch, none⟩
/-- [2] CMD: Enter SURVEY (R296). -/
def R.GNS.CTL.SURVEY_START : Field := ⟨0xC0000, 2, 1, .cmd, 0, .gnssEpoch, none⟩
/-- [3] CMD: Restart the solution core (R290). -/
def R.GNS.CTL.FW_RESTART : Field := ⟨0xC0000, 3, 1, .cmd, 0, .immediate, none⟩
/-- [3:0] CFG: Epoch rate (R280); 10 Hz at reset. -/
def R.GNS.CFG.RATE : Field := ⟨0xC0004, 0, 4, .cfg, 0x5, .second, (some .gnsSol)⟩
/-- [9:4] CFG: Epochs per solution, 1–50. -/
def R.GNS.CFG.SOL_DIV : Field := ⟨0xC0004, 4, 6, .cfg, 0x0A, .gnssEpoch, (some .gnsSol)⟩
/-- [11:10] CFG: R295. -/
def R.GNS.CFG.MODE : Field := ⟨0xC0004, 10, 2, .cfg, 0b00, .gnssEpoch, (some .gnsSol)⟩
/-- [13:12] CFG: 0b00 GPS, 0b01 Galileo, 0b10 BeiDou, 0b11 QZSS. -/
def R.GNS.CFG.TSYS : Field := ⟨0xC0004, 12, 2, .cfg, 0b00, .gnssEpoch, (some .gnsSol)⟩
/-- [14] CFG: 0 broadcast, 1 solved (R294). -/
def R.GNS.CFG.ISB_MODE : Field := ⟨0xC0004, 14, 1, .cfg, 0, .gnssEpoch, (some .gnsSol)⟩
/-- [19:16] CFG: Bit per system in TSYS order. -/
def R.GNS.CFG.SYS_EN : Field := ⟨0xC0004, 16, 4, .cfg, 0xF, .gnssEpoch, (some .gnsSol)⟩
/-- [20] CFG: Use SBAS health marks (R293). -/
def R.GNS.CFG.SBAS_HEALTH : Field := ⟨0xC0004, 20, 1, .cfg, 1, .gnssEpoch, (some .gnsSol)⟩
/-- [21] CFG: Allow single-frequency satellites. -/
def R.GNS.CFG.IONO_SF : Field := ⟨0xC0004, 21, 1, .cfg, 0, .gnssEpoch, (some .gnsSol)⟩
/-- [22] CFG: Observations in NAVIGATE. -/
def R.GNS.CFG.NAV_GREF : Field := ⟨0xC0004, 22, 1, .cfg, 0, .gnssEpoch, (some .gnsSol)⟩
/-- [23] CFG: Observations in SURVEY. -/
def R.GNS.CFG.SURVEY_GREF : Field := ⟨0xC0004, 23, 1, .cfg, 0, .gnssEpoch, (some .gnsSol)⟩
/-- [24] CFG: Firmware manages channels (R291). -/
def R.GNS.CFG.AUTO_ACQ : Field := ⟨0xC0004, 24, 1, .cfg, 1, .gnssEpoch, (some .gnsSol)⟩
/-- [1:0] STAT: 0b00 RESET, 0b01 RUNNING, 0b10 HALTED. -/
def R.GNS.STAT.FW_STATE : Field := ⟨0xC0008, 0, 2, .stat, 0b00, .immediate, none⟩
/-- [3:2] STAT: Mode in force. -/
def R.GNS.STAT.MODE : Field := ⟨0xC0008, 2, 2, .stat, 0b00, .immediate, none⟩
/-- [4] STAT: Latest solution valid. -/
def R.GNS.STAT.SOL_VALID : Field := ⟨0xC0008, 4, 1, .stat, 0, .immediate, none⟩
/-- [5] STAT: Spoof flag (R300). -/
def R.GNS.STAT.SPOOF : Field := ⟨0xC0008, 5, 1, .stat, 1, .immediate, none⟩
/-- [6] STAT: Jam flag. -/
def R.GNS.STAT.JAM : Field := ⟨0xC0008, 6, 1, .stat, 0, .immediate, none⟩
/-- [7] STAT: R298. -/
def R.GNS.STAT.POS_SUSPECT : Field := ⟨0xC0008, 7, 1, .stat, 0, .immediate, none⟩
/-- [11:8] STAT: 0x0 none, 0x1 NOSAT, 0x2 INCONSISTENT, 0x3 TDOP, 0x4 NOUTC, 0x5 NOWEEK, 0x6 MODE, 0x7 LATE. -/
def R.GNS.STAT.FAIL_CAUSE : Field := ⟨0xC0008, 8, 4, .stat, 0x0, .immediate, none⟩
/-- [13:12] STAT: Last check: 0b00 none, 0b01 PASS, 0b10 FAIL, 0b11 INCONCLUSIVE. -/
def R.GNS.STAT.CHECK : Field := ⟨0xC0008, 12, 2, .stat, 0b00, .immediate, none⟩
/-- [0] RC: Valid solution delivered. -/
def R.GNS.EVT.SOL : Field := ⟨0xC000C, 0, 1, .rc, 0, .immediate, none⟩
/-- [1] RC: Solution not valid. -/
def R.GNS.EVT.SOL_FAIL : Field := ⟨0xC000C, 1, 1, .rc, 0, .immediate, none⟩
/-- [2] RC: Spoof flag rose. -/
def R.GNS.EVT.SPOOF : Field := ⟨0xC000C, 2, 1, .rc, 0, .immediate, none⟩
/-- [3] RC: Spoof flag cleared. -/
def R.GNS.EVT.SPOOF_CLEAR : Field := ⟨0xC000C, 3, 1, .rc, 0, .immediate, none⟩
/-- [4] RC: Jam flag rose. -/
def R.GNS.EVT.JAM : Field := ⟨0xC000C, 4, 1, .rc, 0, .immediate, none⟩
/-- [5] RC: Survey completed. -/
def R.GNS.EVT.SURVEY_DONE : Field := ⟨0xC000C, 5, 1, .rc, 0, .immediate, none⟩
/-- [6] RC: R298. -/
def R.GNS.EVT.POS_SUSPECT : Field := ⟨0xC000C, 6, 1, .rc, 0, .immediate, none⟩
/-- [7] RC: R288. -/
def R.GNS.EVT.EPOCH_LATE : Field := ⟨0xC000C, 7, 1, .rc, 0, .immediate, none⟩
/-- [8] RC: Epoch record discarded. -/
def R.GNS.EVT.EPO_LOST : Field := ⟨0xC000C, 8, 1, .rc, 0, .immediate, none⟩
/-- [9] RC: R290. -/
def R.GNS.EVT.FW_HALT : Field := ⟨0xC000C, 9, 1, .rc, 0, .immediate, none⟩
/-- [10] RC: Commit or command rejected. -/
def R.GNS.EVT.CFG_REJECTED : Field := ⟨0xC000C, 10, 1, .rc, 0, .immediate, none⟩
/-- [10:0] LIVE: Interrupt enable per EVT bit. -/
def R.GNS.INT_EN.EN : Field := ⟨0xC0010, 0, 11, .live, 0x000, .immediate, none⟩
/-- [15:0] CFG: Residual limit, 0.1 ns; 20 ns at reset. -/
def R.GNS.TRAIM.THR : Field := ⟨0xC0014, 0, 16, .cfg, 0x00C8, .gnssEpoch, (some .gnsSol)⟩
/-- [19:16] CFG: Redundancy required, 1–15. -/
def R.GNS.TRAIM.MIN_RED : Field := ⟨0xC0014, 16, 4, .cfg, 0x2, .gnssEpoch, (some .gnsSol)⟩
/-- [23:20] CFG: Exclusions allowed. -/
def R.GNS.TRAIM.MAX_EXCL : Field := ⟨0xC0014, 20, 4, .cfg, 0x3, .gnssEpoch, (some .gnsSol)⟩
/-- [31:24] CFG: Solutions before POS_SUSPECT; 0 rejected. -/
def R.GNS.TRAIM.SUSPECT_N : Field := ⟨0xC0014, 24, 8, .cfg, 0x3C, .gnssEpoch, (some .gnsSol)⟩
/-- [0] CFG: Two-antenna check (R299). -/
def R.GNS.FLAGS.EN_ANT : Field := ⟨0xC0018, 0, 1, .cfg, 0, .gnssEpoch, (some .gnsSol)⟩
/-- [1] CFG: POS_SUSPECT raises spoof. -/
def R.GNS.FLAGS.EN_RAIM : Field := ⟨0xC0018, 1, 1, .cfg, 1, .gnssEpoch, (some .gnsSol)⟩
/-- [7:4] CFG: FEs whose JAM raises the flag. -/
def R.GNS.FLAGS.JAM_FE : Field := ⟨0xC0018, 4, 4, .cfg, 0x3, .gnssEpoch, (some .gnsSol)⟩
/-- [15:8] CFG: Residual tolerance, 1/256 cycle. -/
def R.GNS.FLAGS.TOL : Field := ⟨0xC0018, 8, 8, .cfg, 0x26, .gnssEpoch, (some .gnsSol)⟩
/-- [19:16] CFG: Informative pairs required; 0 rejected. -/
def R.GNS.FLAGS.MIN_PAIRS : Field := ⟨0xC0018, 16, 4, .cfg, 0x4, .gnssEpoch, (some .gnsSol)⟩
/-- [31:24] CFG: Passes that clear the flag; 0 rejected. -/
def R.GNS.FLAGS.CLEAR_N : Field := ⟨0xC0018, 24, 8, .cfg, 0x3C, .gnssEpoch, (some .gnsSol)⟩
/-- [7:0] CFG: Bound factor, 1/16; 5.0 at reset. -/
def R.GNS.TB.K : Field := ⟨0xC001C, 0, 8, .cfg, 0x50, .gnssEpoch, (some .gnsSol)⟩
/-- [15:8] CFG: 0.1 units; 2.5 at reset. -/
def R.GNS.TB.TDOP_MAX : Field := ⟨0xC001C, 8, 8, .cfg, 0x19, .gnssEpoch, (some .gnsSol)⟩
/-- [31:16] CFG: ms (R302). -/
def R.GNS.TB.SOL_DEADLINE : Field := ⟨0xC001C, 16, 16, .cfg, 0x0064, .gnssEpoch, (some .gnsSol)⟩
/-- [7:0] CFG: Degrees. -/
def R.GNS.MASK.ELEV_MASK : Field := ⟨0xC0020, 0, 8, .cfg, 0x0A, .gnssEpoch, (some .gnsSol)⟩
/-- [15:8] CFG: dB-Hz. -/
def R.GNS.MASK.CN0_MIN : Field := ⟨0xC0020, 8, 8, .cfg, 0x1E, .gnssEpoch, (some .gnsSol)⟩
/-- [24:16] CFG: Firmware channels, 0–256. -/
def R.GNS.MASK.FW_CH : Field := ⟨0xC0020, 16, 9, .cfg, 0x0E0, .gnssEpoch, (some .gnsSol)⟩
/-- [15:0] CFG: Earliest GPS week accepted (R292). -/
def R.GNS.WEEK_BASE.WEEK : Field := ⟨0xC0024, 0, 16, .cfg, 0x0000, .gnssEpoch, (some .gnsSol)⟩
/-- [31:0] CFG: Broadcast offset bound, 2^-8 ns; 10 ns at reset. -/
def R.GNS.ISB_UNC.BOUND : Field := ⟨0xC0028, 0, 32, .cfg, 0x00000A00, .gnssEpoch, (some .gnsSol)⟩
/-- [31:0] CFG: ECEF antenna position, signed cm; shared load. -/
def R.GNS.POS_X.CM : Field := ⟨0xC0030, 0, 32, .cfg, 0, .gnssEpoch, (some .gnsPos)⟩
/-- [31:0] CFG: ECEF antenna position, signed cm; shared load. -/
def R.GNS.POS_Y.CM : Field := ⟨0xC0034, 0, 32, .cfg, 0, .gnssEpoch, (some .gnsPos)⟩
/-- [31:0] CFG: ECEF antenna position, signed cm; shared load. -/
def R.GNS.POS_Z.CM : Field := ⟨0xC0038, 0, 32, .cfg, 0, .gnssEpoch, (some .gnsPos)⟩
/-- [15:0] CFG: 3σ position uncertainty, mm; shared load. -/
def R.GNS.POS_UNC.MM : Field := ⟨0xC003C, 0, 16, .cfg, 0xFFFF, .gnssEpoch, (some .gnsPos)⟩
/-- [23:0] CFG: Minimum survey, s; 86,400 at reset. -/
def R.GNS.SURVEY.TIME : Field := ⟨0xC0040, 0, 24, .cfg, 0x015180, .gnssEpoch, (some .gnsPos)⟩
/-- [31:24] CFG: Survey target, cm. -/
def R.GNS.SURVEY.TARGET : Field := ⟨0xC0040, 24, 8, .cfg, 0x0A, .gnssEpoch, (some .gnsPos)⟩
/-- [31:0] CFG: Baseline, second minus main antenna, signed mm. -/
def R.GNS.BASE_E.MM : Field := ⟨0xC0044, 0, 32, .cfg, 0, .gnssEpoch, (some .gnsPos)⟩
/-- [31:0] CFG: Baseline, second minus main antenna, signed mm. -/
def R.GNS.BASE_N.MM : Field := ⟨0xC0048, 0, 32, .cfg, 0, .gnssEpoch, (some .gnsPos)⟩
/-- [31:0] CFG: Baseline, second minus main antenna, signed mm. -/
def R.GNS.BASE_U.MM : Field := ⟨0xC004C, 0, 32, .cfg, 0, .gnssEpoch, (some .gnsPos)⟩
/-- [15:0] CFG: Baseline uncertainty, mm. -/
def R.GNS.BASE_UNC.MM : Field := ⟨0xC0050, 0, 16, .cfg, 0x0005, .gnssEpoch, (some .gnsPos)⟩
/-- [31:0] CFG: Antenna-to-ball delay of FE n, signed, 2^-8 ns. -/
def R.GNS.DLY.DLY (i : Nat) : Field := ⟨0xC0060 + i * 0x4, 0, 32, .cfg, 0, .gnssEpoch, (some .gnsPos)⟩
/-- [31:0] CFG: Its bound, 2^-8 ns; 1 ns at reset. -/
def R.GNS.DLY_UNC.UNC (i : Nat) : Field := ⟨0xC0070 + i * 0x4, 0, 32, .cfg, 0x00000100, .gnssEpoch, (some .gnsPos)⟩
/-- [31:12] CFG: Ring base [31:12]. -/
def R.GNS.EPO_BASE_LO.ADDR : Field := ⟨0xC0080, 12, 20, .cfg, 0x00000, .gnssEpoch, none⟩
/-- [1:0] CFG: Ring base [33:32]. -/
def R.GNS.EPO_BASE_HI.ADDR : Field := ⟨0xC0084, 0, 2, .cfg, 0b00, .gnssEpoch, none⟩
/-- [12:0] CFG: 4 KiB units, 1–4,096; 0 disables. -/
def R.GNS.EPO_SIZE.SIZE : Field := ⟨0xC0088, 0, 13, .cfg, 0x0000, .gnssEpoch, none⟩
/-- [23:0] STAT: Write offset, bytes. -/
def R.GNS.EPO_WR.PTR : Field := ⟨0xC008C, 0, 24, .stat, 0, .immediate, none⟩
/-- [23:0] LIVE: Read offset, bytes. -/
def R.GNS.EPO_RD.PTR : Field := ⟨0xC0090, 0, 24, .live, 0, .immediate, none⟩
/-- [31:0] CNT: Records discarded. -/
def R.GNS.EPO_LOST_CNT.COUNT : Field := ⟨0xC0094, 0, 32, .cnt, 0, .immediate, none⟩
/-- [15:0] STAT: Latest D, fraction, non-negative. -/
def R.GNS.SOL_FRAC.FRAC : Field := ⟨0xC00A0, 0, 16, .stat, 0x0000, .immediate, none⟩
/-- [29:0] STAT: Latest D, nanoseconds, non-negative. -/
def R.GNS.SOL_NS.NS : Field := ⟨0xC00A4, 0, 30, .stat, 0, .immediate, none⟩
/-- [31:0] STAT: Latest D, signed seconds [31:0]. -/
def R.GNS.SOL_SEC_LO.SEC : Field := ⟨0xC00A8, 0, 32, .stat, 0, .immediate, none⟩
/-- [15:0] STAT: Signed seconds [47:32]. -/
def R.GNS.SOL_SEC_HI.SEC : Field := ⟨0xC00AC, 0, 16, .stat, 0x0000, .immediate, none⟩
/-- [31:0] STAT: Latest TB, 2^-8 ns (R301). -/
def R.GNS.SOL_TB.TB : Field := ⟨0xC00B0, 0, 32, .stat, 0xFFFFFFFF, .immediate, none⟩
/-- [7:0] STAT: Satellites used. -/
def R.GNS.SOL_INFO.USED : Field := ⟨0xC00B4, 0, 8, .stat, 0x00, .immediate, none⟩
/-- [15:8] STAT: Satellites excluded. -/
def R.GNS.SOL_INFO.EXCL : Field := ⟨0xC00B4, 8, 8, .stat, 0x00, .immediate, none⟩
/-- [31:16] STAT: 0.01 units. -/
def R.GNS.SOL_INFO.TDOP : Field := ⟨0xC00B4, 16, 16, .stat, 0x0000, .immediate, none⟩
/-- [31:0] STAT: Offset of system s from TSYS in use, signed 2^-8 ns. -/
def R.GNS.ISB.OFFSET (i : Nat) : Field := ⟨0xC00C0 + i * 0x4, 0, 32, .stat, 0, .immediate, none⟩
/-- [31:0] STAT: Solution firmware version. -/
def R.GNS.FW_VER.VERSION : Field := ⟨0xC00D0, 0, 32, .stat, 0, .immediate, none⟩
/-- [31:0] CNT: Records formed. -/
def R.GNS.EPOCH_CNT.COUNT : Field := ⟨0xC00E0, 0, 32, .cnt, 0, .immediate, none⟩
/-- [31:0] CNT: Epoch instants skipped (R282). -/
def R.GNS.SKIP_CNT.COUNT : Field := ⟨0xC00E4, 0, 32, .cnt, 0, .immediate, none⟩
/-- [31:0] CNT: Late records (R288). -/
def R.GNS.LATE_CNT.COUNT : Field := ⟨0xC00E8, 0, 32, .cnt, 0, .immediate, none⟩
/-- [31:0] CNT: Valid solutions. -/
def R.GNS.SOL_CNT.COUNT : Field := ⟨0xC00EC, 0, 32, .cnt, 0, .immediate, none⟩
/-- [31:0] CNT: Solutions not valid or late. -/
def R.GNS.SOL_FAIL_CNT.COUNT : Field := ⟨0xC00F0, 0, 32, .cnt, 0, .immediate, none⟩
/-- [15:0] CNT: Spoof flag rises. -/
def R.GNS.SPOOF_CNT.COUNT : Field := ⟨0xC00F4, 0, 16, .cnt, 0, .immediate, none⟩
/-- [31:0] STAT: Sample rate against nominal, signed ppt. -/
def R.GNS.FE_TIE.RATE.PPT (i : Nat) : Field := ⟨0xC0100 + i * 0x8, 0, 32, .stat, 0, .immediate, none⟩
/-- [15:0] STAT: Tie fit residual, rms ps (R277). -/
def R.GNS.FE_TIE.RMS.PS (i : Nat) : Field := ⟨0xC0104 + i * 0x8, 0, 16, .stat, 0x0000, .immediate, none⟩
/-- [16] STAT: Mapping valid. -/
def R.GNS.FE_TIE.RMS.MAP_VALID (i : Nat) : Field := ⟨0xC0104 + i * 0x8, 16, 1, .stat, 0, .immediate, none⟩

/-- The GNS fields, part 1. -/
def R.GNS.table1 : List RegRow :=
  [⟨1, 0, 1, 0, fun _ _ => R.GNS.CTL.SOL_COMMIT⟩,
   ⟨1, 0, 1, 0, fun _ _ => R.GNS.CTL.POS_COMMIT⟩,
   ⟨1, 0, 1, 0, fun _ _ => R.GNS.CTL.SURVEY_START⟩,
   ⟨1, 0, 1, 0, fun _ _ => R.GNS.CTL.FW_RESTART⟩,
   ⟨1, 0, 1, 0, fun _ _ => R.GNS.CFG.RATE⟩,
   ⟨1, 0, 1, 0, fun _ _ => R.GNS.CFG.SOL_DIV⟩,
   ⟨1, 0, 1, 0, fun _ _ => R.GNS.CFG.MODE⟩,
   ⟨1, 0, 1, 0, fun _ _ => R.GNS.CFG.TSYS⟩,
   ⟨1, 0, 1, 0, fun _ _ => R.GNS.CFG.ISB_MODE⟩,
   ⟨1, 0, 1, 0, fun _ _ => R.GNS.CFG.SYS_EN⟩,
   ⟨1, 0, 1, 0, fun _ _ => R.GNS.CFG.SBAS_HEALTH⟩,
   ⟨1, 0, 1, 0, fun _ _ => R.GNS.CFG.IONO_SF⟩,
   ⟨1, 0, 1, 0, fun _ _ => R.GNS.CFG.NAV_GREF⟩,
   ⟨1, 0, 1, 0, fun _ _ => R.GNS.CFG.SURVEY_GREF⟩,
   ⟨1, 0, 1, 0, fun _ _ => R.GNS.CFG.AUTO_ACQ⟩,
   ⟨1, 0, 1, 0, fun _ _ => R.GNS.STAT.FW_STATE⟩,
   ⟨1, 0, 1, 0, fun _ _ => R.GNS.STAT.MODE⟩,
   ⟨1, 0, 1, 0, fun _ _ => R.GNS.STAT.SOL_VALID⟩,
   ⟨1, 0, 1, 0, fun _ _ => R.GNS.STAT.SPOOF⟩,
   ⟨1, 0, 1, 0, fun _ _ => R.GNS.STAT.JAM⟩,
   ⟨1, 0, 1, 0, fun _ _ => R.GNS.STAT.POS_SUSPECT⟩,
   ⟨1, 0, 1, 0, fun _ _ => R.GNS.STAT.FAIL_CAUSE⟩,
   ⟨1, 0, 1, 0, fun _ _ => R.GNS.STAT.CHECK⟩,
   ⟨1, 0, 1, 0, fun _ _ => R.GNS.EVT.SOL⟩,
   ⟨1, 0, 1, 0, fun _ _ => R.GNS.EVT.SOL_FAIL⟩,
   ⟨1, 0, 1, 0, fun _ _ => R.GNS.EVT.SPOOF⟩,
   ⟨1, 0, 1, 0, fun _ _ => R.GNS.EVT.SPOOF_CLEAR⟩,
   ⟨1, 0, 1, 0, fun _ _ => R.GNS.EVT.JAM⟩,
   ⟨1, 0, 1, 0, fun _ _ => R.GNS.EVT.SURVEY_DONE⟩,
   ⟨1, 0, 1, 0, fun _ _ => R.GNS.EVT.POS_SUSPECT⟩,
   ⟨1, 0, 1, 0, fun _ _ => R.GNS.EVT.EPOCH_LATE⟩,
   ⟨1, 0, 1, 0, fun _ _ => R.GNS.EVT.EPO_LOST⟩,
   ⟨1, 0, 1, 0, fun _ _ => R.GNS.EVT.FW_HALT⟩,
   ⟨1, 0, 1, 0, fun _ _ => R.GNS.EVT.CFG_REJECTED⟩,
   ⟨1, 0, 1, 0, fun _ _ => R.GNS.INT_EN.EN⟩,
   ⟨1, 0, 1, 0, fun _ _ => R.GNS.TRAIM.THR⟩,
   ⟨1, 0, 1, 0, fun _ _ => R.GNS.TRAIM.MIN_RED⟩,
   ⟨1, 0, 1, 0, fun _ _ => R.GNS.TRAIM.MAX_EXCL⟩,
   ⟨1, 0, 1, 0, fun _ _ => R.GNS.TRAIM.SUSPECT_N⟩,
   ⟨1, 0, 1, 0, fun _ _ => R.GNS.FLAGS.EN_ANT⟩]
/-- The GNS fields, part 2. -/
def R.GNS.table2 : List RegRow :=
  [⟨1, 0, 1, 0, fun _ _ => R.GNS.FLAGS.EN_RAIM⟩,
   ⟨1, 0, 1, 0, fun _ _ => R.GNS.FLAGS.JAM_FE⟩,
   ⟨1, 0, 1, 0, fun _ _ => R.GNS.FLAGS.TOL⟩,
   ⟨1, 0, 1, 0, fun _ _ => R.GNS.FLAGS.MIN_PAIRS⟩,
   ⟨1, 0, 1, 0, fun _ _ => R.GNS.FLAGS.CLEAR_N⟩,
   ⟨1, 0, 1, 0, fun _ _ => R.GNS.TB.K⟩,
   ⟨1, 0, 1, 0, fun _ _ => R.GNS.TB.TDOP_MAX⟩,
   ⟨1, 0, 1, 0, fun _ _ => R.GNS.TB.SOL_DEADLINE⟩,
   ⟨1, 0, 1, 0, fun _ _ => R.GNS.MASK.ELEV_MASK⟩,
   ⟨1, 0, 1, 0, fun _ _ => R.GNS.MASK.CN0_MIN⟩,
   ⟨1, 0, 1, 0, fun _ _ => R.GNS.MASK.FW_CH⟩,
   ⟨1, 0, 1, 0, fun _ _ => R.GNS.WEEK_BASE.WEEK⟩,
   ⟨1, 0, 1, 0, fun _ _ => R.GNS.ISB_UNC.BOUND⟩,
   ⟨1, 0, 1, 0, fun _ _ => R.GNS.POS_X.CM⟩,
   ⟨1, 0, 1, 0, fun _ _ => R.GNS.POS_Y.CM⟩,
   ⟨1, 0, 1, 0, fun _ _ => R.GNS.POS_Z.CM⟩,
   ⟨1, 0, 1, 0, fun _ _ => R.GNS.POS_UNC.MM⟩,
   ⟨1, 0, 1, 0, fun _ _ => R.GNS.SURVEY.TIME⟩,
   ⟨1, 0, 1, 0, fun _ _ => R.GNS.SURVEY.TARGET⟩,
   ⟨1, 0, 1, 0, fun _ _ => R.GNS.BASE_E.MM⟩,
   ⟨1, 0, 1, 0, fun _ _ => R.GNS.BASE_N.MM⟩,
   ⟨1, 0, 1, 0, fun _ _ => R.GNS.BASE_U.MM⟩,
   ⟨1, 0, 1, 0, fun _ _ => R.GNS.BASE_UNC.MM⟩,
   ⟨4, 0x4, 1, 0, fun i _ => R.GNS.DLY.DLY i⟩,
   ⟨4, 0x4, 1, 0, fun i _ => R.GNS.DLY_UNC.UNC i⟩,
   ⟨1, 0, 1, 0, fun _ _ => R.GNS.EPO_BASE_LO.ADDR⟩,
   ⟨1, 0, 1, 0, fun _ _ => R.GNS.EPO_BASE_HI.ADDR⟩,
   ⟨1, 0, 1, 0, fun _ _ => R.GNS.EPO_SIZE.SIZE⟩,
   ⟨1, 0, 1, 0, fun _ _ => R.GNS.EPO_WR.PTR⟩,
   ⟨1, 0, 1, 0, fun _ _ => R.GNS.EPO_RD.PTR⟩,
   ⟨1, 0, 1, 0, fun _ _ => R.GNS.EPO_LOST_CNT.COUNT⟩,
   ⟨1, 0, 1, 0, fun _ _ => R.GNS.SOL_FRAC.FRAC⟩,
   ⟨1, 0, 1, 0, fun _ _ => R.GNS.SOL_NS.NS⟩,
   ⟨1, 0, 1, 0, fun _ _ => R.GNS.SOL_SEC_LO.SEC⟩,
   ⟨1, 0, 1, 0, fun _ _ => R.GNS.SOL_SEC_HI.SEC⟩,
   ⟨1, 0, 1, 0, fun _ _ => R.GNS.SOL_TB.TB⟩,
   ⟨1, 0, 1, 0, fun _ _ => R.GNS.SOL_INFO.USED⟩,
   ⟨1, 0, 1, 0, fun _ _ => R.GNS.SOL_INFO.EXCL⟩,
   ⟨1, 0, 1, 0, fun _ _ => R.GNS.SOL_INFO.TDOP⟩,
   ⟨4, 0x4, 1, 0, fun i _ => R.GNS.ISB.OFFSET i⟩]
/-- The GNS fields, part 3. -/
def R.GNS.table3 : List RegRow :=
  [⟨1, 0, 1, 0, fun _ _ => R.GNS.FW_VER.VERSION⟩,
   ⟨1, 0, 1, 0, fun _ _ => R.GNS.EPOCH_CNT.COUNT⟩,
   ⟨1, 0, 1, 0, fun _ _ => R.GNS.SKIP_CNT.COUNT⟩,
   ⟨1, 0, 1, 0, fun _ _ => R.GNS.LATE_CNT.COUNT⟩,
   ⟨1, 0, 1, 0, fun _ _ => R.GNS.SOL_CNT.COUNT⟩,
   ⟨1, 0, 1, 0, fun _ _ => R.GNS.SOL_FAIL_CNT.COUNT⟩,
   ⟨1, 0, 1, 0, fun _ _ => R.GNS.SPOOF_CNT.COUNT⟩,
   ⟨4, 0x8, 1, 0, fun i _ => R.GNS.FE_TIE.RATE.PPT i⟩,
   ⟨4, 0x8, 1, 0, fun i _ => R.GNS.FE_TIE.RMS.PS i⟩,
   ⟨4, 0x8, 1, 0, fun i _ => R.GNS.FE_TIE.RMS.MAP_VALID i⟩]

/-- Every field the GNS block implements. -/
def R.GNS.table : List RegRow := R.GNS.table1 ++ R.GNS.table2 ++ R.GNS.table3

end Sys2Proof.Machine
end

