-- ==== Sys2Proof/Machine/RegsNet.lean ====
section
/-! DEFINITION. The register fields of the Ethernet ports and the flue.
One definition per field of the register tables (spec chapters, R12, R13): its address, lowest bit, width, access code,
reset value, boundary and commit group; an array field is a function of its index. After them each block's table of
fields, which the address decoder reads (R539, R540). -/

namespace Sys2Proof.Machine

/-! ### ETH: 10_ethernet_ports.md, R338 -/

/-- [0] CMD: Commit group PORT. -/
def R.ETH.CTL.COMMIT (i : Nat) : Field := ⟨0x100000 + i * 0x10000, 0, 1, .cmd, 0, .second, none⟩
/-- [1] CMD: Commit group FILT. -/
def R.ETH.CTL.FILT_COMMIT (i : Nat) : Field := ⟨0x100000 + i * 0x10000, 1, 1, .cmd, 0, .packet, none⟩
/-- [2] CMD: Re-arm the wake detector (R329). -/
def R.ETH.CTL.WAKE_ARM (i : Nat) : Field := ⟨0x100000 + i * 0x10000, 2, 1, .cmd, 0, .immediate, none⟩
/-- [3] CMD: Clear PRBS_ERR. -/
def R.ETH.CTL.PRBS_CLR (i : Nat) : Field := ⟨0x100000 + i * 0x10000, 3, 1, .cmd, 0, .immediate, none⟩
/-- [1:0] CFG: 0b00 OFF, 0b01 WAKE, 0b10 ON (R313). -/
def R.ETH.CFG.PWR (i : Nat) : Field := ⟨0x100004 + i * 0x10000, 0, 2, .cfg, 0b10, .second, (some (.ethPort i))⟩
/-- [2] CFG: 1: 25 GbE; 0: 10 GbE (R306). -/
def R.ETH.CFG.SPEED (i : Nat) : Field := ⟨0x100004 + i * 0x10000, 2, 1, .cfg, 1, .second, (some (.ethPort i))⟩
/-- [4:3] CFG: 0b00 none, 0b01 RS-FEC, 0b10 BASE-R FEC; 0b11 rejected. -/
def R.ETH.CFG.FEC (i : Nat) : Field := ⟨0x100004 + i * 0x10000, 3, 2, .cfg, 0b01, .second, (some (.ethPort i))⟩
/-- [5] CFG: BASE-R FEC error indication (R307). -/
def R.ETH.CFG.FEC_ERR_IND (i : Nat) : Field := ⟨0x100004 + i * 0x10000, 5, 1, .cfg, 1, .second, (some (.ethPort i))⟩
/-- [6] CFG: Invert transmit lane. -/
def R.ETH.CFG.TX_POL (i : Nat) : Field := ⟨0x100004 + i * 0x10000, 6, 1, .cfg, 0, .second, (some (.ethPort i))⟩
/-- [7] CFG: Invert receive lane. -/
def R.ETH.CFG.RX_POL (i : Nat) : Field := ⟨0x100004 + i * 0x10000, 7, 1, .cfg, 0, .second, (some (.ethPort i))⟩
/-- [9:8] CFG: Loopback (R336). -/
def R.ETH.CFG.LOOP (i : Nat) : Field := ⟨0x100004 + i * 0x10000, 8, 2, .cfg, 0b00, .second, (some (.ethPort i))⟩
/-- [10] CFG: PRBS31 generate and check. -/
def R.ETH.CFG.PRBS (i : Nat) : Field := ⟨0x100004 + i * 0x10000, 10, 1, .cfg, 0, .second, (some (.ethPort i))⟩
/-- [16] CFG: Go to ON at a wake (R329). -/
def R.ETH.CFG.WAKE_AUTO (i : Nat) : Field := ⟨0x100004 + i * 0x10000, 16, 1, .cfg, 0, .second, (some (.ethPort i))⟩
/-- [1:0] STAT: Power state in force. -/
def R.ETH.STAT.PWR_STATE (i : Nat) : Field := ⟨0x100008 + i * 0x10000, 0, 2, .stat, 0b00, .immediate, none⟩
/-- [4:2] STAT: Link state (R310). -/
def R.ETH.STAT.LINK (i : Nat) : Field := ⟨0x100008 + i * 0x10000, 2, 3, .stat, 0b000, .immediate, none⟩
/-- [5] STAT: PCS block lock. -/
def R.ETH.STAT.BLOCK_LOCK (i : Nat) : Field := ⟨0x100008 + i * 0x10000, 5, 1, .stat, 0, .immediate, none⟩
/-- [6] STAT: hi_ber asserted. -/
def R.ETH.STAT.HI_BER (i : Nat) : Field := ⟨0x100008 + i * 0x10000, 6, 1, .stat, 0, .immediate, none⟩
/-- [7] STAT: FEC lock. -/
def R.ETH.STAT.FEC_LOCK (i : Nat) : Field := ⟨0x100008 + i * 0x10000, 7, 1, .stat, 0, .immediate, none⟩
/-- [8] STAT: Local fault received. -/
def R.ETH.STAT.LOCAL_FAULT (i : Nat) : Field := ⟨0x100008 + i * 0x10000, 8, 1, .stat, 0, .immediate, none⟩
/-- [9] STAT: Remote fault received. -/
def R.ETH.STAT.REMOTE_FAULT (i : Nat) : Field := ⟨0x100008 + i * 0x10000, 9, 1, .stat, 0, .immediate, none⟩
/-- [10] STAT: Pause running (R319). -/
def R.ETH.STAT.PAUSED (i : Nat) : Field := ⟨0x100008 + i * 0x10000, 10, 1, .stat, 0, .immediate, none⟩
/-- [11] STAT: Service gated (R314). -/
def R.ETH.STAT.HAT_GATED (i : Nat) : Field := ⟨0x100008 + i * 0x10000, 11, 1, .stat, 1, .immediate, none⟩
/-- [12] STAT: RCLKp held low (R331). -/
def R.ETH.STAT.RCLK_SQUELCHED (i : Nat) : Field := ⟨0x100008 + i * 0x10000, 12, 1, .stat, 1, .immediate, none⟩
/-- [13] STAT: Receive equaliser settled. -/
def R.ETH.STAT.RX_ADAPT (i : Nat) : Field := ⟨0x100008 + i * 0x10000, 13, 1, .stat, 0, .immediate, none⟩
/-- [14] STAT: Counters clear on read (R325). -/
def R.ETH.STAT.STATS_COR (i : Nat) : Field := ⟨0x100008 + i * 0x10000, 14, 1, .stat, 1, .immediate, none⟩
/-- [15] STAT: Receive signal energy present. -/
def R.ETH.STAT.SIGNAL (i : Nat) : Field := ⟨0x100008 + i * 0x10000, 15, 1, .stat, 0, .immediate, none⟩
/-- [0] RC: UP entered. -/
def R.ETH.EVT.LINK_UP (i : Nat) : Field := ⟨0x10000C + i * 0x10000, 0, 1, .rc, 0, .immediate, none⟩
/-- [1] RC: UP left (R312). -/
def R.ETH.EVT.LINK_DOWN (i : Nat) : Field := ⟨0x10000C + i * 0x10000, 1, 1, .rc, 0, .immediate, none⟩
/-- [2] RC: PAUSE limited to LIMIT (R318). -/
def R.ETH.EVT.PAUSE_CLAMP (i : Nat) : Field := ⟨0x10000C + i * 0x10000, 2, 1, .rc, 0, .immediate, none⟩
/-- [3] RC: Wake pattern detected. -/
def R.ETH.EVT.WAKE (i : Nat) : Field := ⟨0x10000C + i * 0x10000, 3, 1, .rc, 0, .immediate, none⟩
/-- [4] RC: Received QL changed (R332). -/
def R.ETH.EVT.ESMC_QL (i : Nat) : Field := ⟨0x10000C + i * 0x10000, 4, 1, .rc, 0, .immediate, none⟩
/-- [5] RC: ESMC timeout (R333). -/
def R.ETH.EVT.ESMC_TO (i : Nat) : Field := ⟨0x10000C + i * 0x10000, 5, 1, .rc, 0, .immediate, none⟩
/-- [6] RC: A HALF bit was set (R324). -/
def R.ETH.EVT.STATS_HALF (i : Nat) : Field := ⟨0x10000C + i * 0x10000, 6, 1, .rc, 0, .immediate, none⟩
/-- [7] RC: Commit rejected. -/
def R.ETH.EVT.CFG_REJECTED (i : Nat) : Field := ⟨0x10000C + i * 0x10000, 7, 1, .rc, 0, .immediate, none⟩
/-- [8] RC: PRBS error counted. -/
def R.ETH.EVT.PRBS_ERR (i : Nat) : Field := ⟨0x10000C + i * 0x10000, 8, 1, .rc, 0, .immediate, none⟩
/-- [8:0] LIVE: Interrupt enable per EVT bit. -/
def R.ETH.INT_EN.EN (i : Nat) : Field := ⟨0x100010 + i * 0x10000, 0, 9, .live, 0x000, .immediate, none⟩
/-- [13:0] CFG: Untagged length limit, 1,518–9,600; others rejected. -/
def R.ETH.FRAME.MAX_LEN (i : Nat) : Field := ⟨0x100014 + i * 0x10000, 0, 14, .cfg, 0x05EE, .second, (some (.ethPort i))⟩
/-- [0] CFG: Admit every destination. -/
def R.ETH.FILTER.PROMISC (i : Nat) : Field := ⟨0x100018 + i * 0x10000, 0, 1, .cfg, 0, .packet, (some (.ethFilt i))⟩
/-- [1] CFG: Admit every multicast. -/
def R.ETH.FILTER.PASS_ALL_GROUPS (i : Nat) : Field := ⟨0x100018 + i * 0x10000, 1, 1, .cfg, 0, .packet, (some (.ethFilt i))⟩
/-- [2] CFG: Admit broadcast. -/
def R.ETH.FILTER.BCAST_EN (i : Nat) : Field := ⟨0x100018 + i * 0x10000, 2, 1, .cfg, 1, .packet, (some (.ethFilt i))⟩
/-- [0] CFG: Obey PAUSE (R318). -/
def R.ETH.PAUSE.RX_EN (i : Nat) : Field := ⟨0x10001C + i * 0x10000, 0, 1, .cfg, 1, .second, (some (.ethPort i))⟩
/-- [31:16] CFG: Largest quanta obeyed. -/
def R.ETH.PAUSE.LIMIT (i : Nat) : Field := ⟨0x10001C + i * 0x10000, 16, 16, .cfg, 0xFFFF, .second, (some (.ethPort i))⟩
/-- [4:0] CFG: Pre-cursor, 0–31. -/
def R.ETH.TXEQ.PRE (i : Nat) : Field := ⟨0x100020 + i * 0x10000, 0, 5, .cfg, 0x04, .second, (some (.ethPort i))⟩
/-- [13:8] CFG: Main cursor, 0–63. -/
def R.ETH.TXEQ.MAIN (i : Nat) : Field := ⟨0x100020 + i * 0x10000, 8, 6, .cfg, 0x30, .second, (some (.ethPort i))⟩
/-- [20:16] CFG: Post-cursor, 0–31; sum above 63 rejected (R309). -/
def R.ETH.TXEQ.POST (i : Nat) : Field := ⟨0x100020 + i * 0x10000, 16, 5, .cfg, 0x08, .second, (some (.ethPort i))⟩
/-- [3:0] CFG: Bursts in the pattern, 1–15 (R327). -/
def R.ETH.WAKE.PULSES (i : Nat) : Field := ⟨0x100024 + i * 0x10000, 0, 4, .cfg, 0x1, .second, (some (.ethPort i))⟩
/-- [15:8] CFG: Burst length, ms; 0 rejected. -/
def R.ETH.WAKE.ON_MS (i : Nat) : Field := ⟨0x100024 + i * 0x10000, 8, 8, .cfg, 0x0A, .second, (some (.ethPort i))⟩
/-- [23:16] CFG: Gap length, ms; 0 rejected. -/
def R.ETH.WAKE.OFF_MS (i : Nat) : Field := ⟨0x100024 + i * 0x10000, 16, 8, .cfg, 0x0A, .second, (some (.ethPort i))⟩
/-- [0] CFG: Drive RCLKp (R331); P0–P2 only. -/
def R.ETH.RCLK.EN (i : Nat) : Field := ⟨0x100028 + i * 0x10000, 0, 1, .cfg, 0, .second, (some (.ethPort i))⟩
/-- [1] CFG: Squelch on an unaccepted QL. -/
def R.ETH.RCLK.SQ_QL (i : Nat) : Field := ⟨0x100028 + i * 0x10000, 1, 1, .cfg, 1, .second, (some (.ethPort i))⟩
/-- [15:8] CFG: CK_PCS divider, 1–255; 0 rejected. -/
def R.ETH.RCLK.DIV (i : Nat) : Field := ⟨0x100028 + i * 0x10000, 8, 8, .cfg, 0x04, .second, (some (.ethPort i))⟩
/-- [23:16] CFG: Time before release, ms; 100 at reset. -/
def R.ETH.RCLK.HOLD_MS (i : Nat) : Field := ⟨0x100028 + i * 0x10000, 16, 8, .cfg, 0x64, .second, (some (.ethPort i))⟩
/-- [0] CFG: Receive ESMC; P0–P2 only. -/
def R.ETH.ESMC_CFG.RX_EN (i : Nat) : Field := ⟨0x100030 + i * 0x10000, 0, 1, .cfg, 1, .second, (some (.ethPort i))⟩
/-- [1] CFG: Send ESMC (R334). -/
def R.ETH.ESMC_CFG.TX_EN (i : Nat) : Field := ⟨0x100030 + i * 0x10000, 1, 1, .cfg, 0, .second, (some (.ethPort i))⟩
/-- [15:8] CFG: Receive timeout, s; 0 rejected. -/
def R.ETH.ESMC_CFG.TO (i : Nat) : Field := ⟨0x100030 + i * 0x10000, 8, 8, .cfg, 0x05, .second, (some (.ethPort i))⟩
/-- [3:0] CFG: QL sent in LOCKED. -/
def R.ETH.ESMC_TX.QL_LOCKED (i : Nat) : Field := ⟨0x100034 + i * 0x10000, 0, 4, .cfg, 0x2, .second, (some (.ethPort i))⟩
/-- [7:4] CFG: QL sent during a switch or banking. -/
def R.ETH.ESMC_TX.QL_BANK (i : Nat) : Field := ⟨0x100034 + i * 0x10000, 4, 4, .cfg, 0xB, .second, (some (.ethPort i))⟩
/-- [11:8] CFG: QL sent in FREERUN. -/
def R.ETH.ESMC_TX.QL_FREE (i : Nat) : Field := ⟨0x100034 + i * 0x10000, 8, 4, .cfg, 0xF, .second, (some (.ethPort i))⟩
/-- [12] CFG: QL-DNU towards the selected SREF. -/
def R.ETH.ESMC_TX.DNU_SELECTED (i : Nat) : Field := ⟨0x100034 + i * 0x10000, 12, 1, .cfg, 1, .second, (some (.ethPort i))⟩
/-- [16] CFG: Send FORCE_QL. -/
def R.ETH.ESMC_TX.FORCE_EN (i : Nat) : Field := ⟨0x100034 + i * 0x10000, 16, 1, .cfg, 0, .second, (some (.ethPort i))⟩
/-- [23:20] CFG: Forced QL. -/
def R.ETH.ESMC_TX.FORCE_QL (i : Nat) : Field := ⟨0x100034 + i * 0x10000, 20, 4, .cfg, 0xF, .second, (some (.ethPort i))⟩
/-- [3:0] STAT: Latest received SSM code. -/
def R.ETH.ESMC_RX.QL (i : Nat) : Field := ⟨0x100038 + i * 0x10000, 0, 4, .stat, 0xF, .immediate, none⟩
/-- [4] STAT: Not timed out (R333). -/
def R.ETH.ESMC_RX.VALID (i : Nat) : Field := ⟨0x100038 + i * 0x10000, 4, 1, .stat, 0, .immediate, none⟩
/-- [5] STAT: Latest PDU held an extended QL TLV. -/
def R.ETH.ESMC_RX.EXT_SEEN (i : Nat) : Field := ⟨0x100038 + i * 0x10000, 5, 1, .stat, 0, .immediate, none⟩
/-- [15:8] STAT: Latest enhanced SSM code. -/
def R.ETH.ESMC_RX.ENH_CODE (i : Nat) : Field := ⟨0x100038 + i * 0x10000, 8, 8, .stat, 0x00, .immediate, none⟩
/-- [19:16] STAT: QL in force for sending (R334). -/
def R.ETH.ESMC_RX.QL_SENT (i : Nat) : Field := ⟨0x100038 + i * 0x10000, 16, 4, .stat, 0xF, .immediate, none⟩
/-- [31:0] CNT: PRBS bit errors, saturating. -/
def R.ETH.PRBS_ERR.COUNT (i : Nat) : Field := ⟨0x10003C + i * 0x10000, 0, 32, .cnt, 0, .immediate, none⟩
/-- [31:0] RC: Bit i: counter i crossed half range (R324). -/
def R.ETH.HALF0.HALF (i : Nat) : Field := ⟨0x100040 + i * 0x10000, 0, 32, .rc, 0x00000000, .immediate, none⟩
/-- [15:0] RC: Bit i − 32: counter i crossed half range. -/
def R.ETH.HALF1.HALF (i : Nat) : Field := ⟨0x100044 + i * 0x10000, 0, 16, .rc, 0x0000, .immediate, none⟩
/-- [31:0] CFG: Address bytes 2–5, byte 2 in [31:24]. -/
def R.ETH.MAC.LO.ADDR (i : Nat) (j : Nat) : Field := ⟨0x100100 + i * 0x10000 + j * 0x8, 0, 32, .cfg, 0x00000000, .packet, (some (.ethFilt i))⟩
/-- [15:0] CFG: Address bytes 0–1, byte 0 in [15:8]. -/
def R.ETH.MAC.HI.ADDR (i : Nat) (j : Nat) : Field := ⟨0x100104 + i * 0x10000 + j * 0x8, 0, 16, .cfg, 0x0000, .packet, (some (.ethFilt i))⟩
/-- [31] CFG: Entry enabled. -/
def R.ETH.MAC.HI.EN (i : Nat) (j : Nat) : Field := ⟨0x100104 + i * 0x10000 + j * 0x8, 31, 1, .cfg, 0, .packet, (some (.ethFilt i))⟩
/-- [31:0] CNT: Counter i bits [31:0]; latches HI (R323). -/
def R.ETH.STATS.LO.COUNT (i : Nat) (j : Nat) : Field := ⟨0x100800 + i * 0x10000 + j * 0x8, 0, 32, .cnt, 0, .immediate, none⟩
/-- [15:0] CNT: Counter i bits [47:32]. -/
def R.ETH.STATS.HI.COUNT (i : Nat) (j : Nat) : Field := ⟨0x100804 + i * 0x10000 + j * 0x8, 0, 16, .cnt, 0, .immediate, none⟩

/-- The ETH fields, part 1. -/
def R.ETH.table1 : List RegRow :=
  [⟨4, 0x10000, 1, 0, fun i _ => R.ETH.CTL.COMMIT i⟩,
   ⟨4, 0x10000, 1, 0, fun i _ => R.ETH.CTL.FILT_COMMIT i⟩,
   ⟨4, 0x10000, 1, 0, fun i _ => R.ETH.CTL.WAKE_ARM i⟩,
   ⟨4, 0x10000, 1, 0, fun i _ => R.ETH.CTL.PRBS_CLR i⟩,
   ⟨4, 0x10000, 1, 0, fun i _ => R.ETH.CFG.PWR i⟩,
   ⟨4, 0x10000, 1, 0, fun i _ => R.ETH.CFG.SPEED i⟩,
   ⟨4, 0x10000, 1, 0, fun i _ => R.ETH.CFG.FEC i⟩,
   ⟨4, 0x10000, 1, 0, fun i _ => R.ETH.CFG.FEC_ERR_IND i⟩,
   ⟨4, 0x10000, 1, 0, fun i _ => R.ETH.CFG.TX_POL i⟩,
   ⟨4, 0x10000, 1, 0, fun i _ => R.ETH.CFG.RX_POL i⟩,
   ⟨4, 0x10000, 1, 0, fun i _ => R.ETH.CFG.LOOP i⟩,
   ⟨4, 0x10000, 1, 0, fun i _ => R.ETH.CFG.PRBS i⟩,
   ⟨4, 0x10000, 1, 0, fun i _ => R.ETH.CFG.WAKE_AUTO i⟩,
   ⟨4, 0x10000, 1, 0, fun i _ => R.ETH.STAT.PWR_STATE i⟩,
   ⟨4, 0x10000, 1, 0, fun i _ => R.ETH.STAT.LINK i⟩,
   ⟨4, 0x10000, 1, 0, fun i _ => R.ETH.STAT.BLOCK_LOCK i⟩,
   ⟨4, 0x10000, 1, 0, fun i _ => R.ETH.STAT.HI_BER i⟩,
   ⟨4, 0x10000, 1, 0, fun i _ => R.ETH.STAT.FEC_LOCK i⟩,
   ⟨4, 0x10000, 1, 0, fun i _ => R.ETH.STAT.LOCAL_FAULT i⟩,
   ⟨4, 0x10000, 1, 0, fun i _ => R.ETH.STAT.REMOTE_FAULT i⟩,
   ⟨4, 0x10000, 1, 0, fun i _ => R.ETH.STAT.PAUSED i⟩,
   ⟨4, 0x10000, 1, 0, fun i _ => R.ETH.STAT.HAT_GATED i⟩,
   ⟨4, 0x10000, 1, 0, fun i _ => R.ETH.STAT.RCLK_SQUELCHED i⟩,
   ⟨4, 0x10000, 1, 0, fun i _ => R.ETH.STAT.RX_ADAPT i⟩,
   ⟨4, 0x10000, 1, 0, fun i _ => R.ETH.STAT.STATS_COR i⟩,
   ⟨4, 0x10000, 1, 0, fun i _ => R.ETH.STAT.SIGNAL i⟩,
   ⟨4, 0x10000, 1, 0, fun i _ => R.ETH.EVT.LINK_UP i⟩,
   ⟨4, 0x10000, 1, 0, fun i _ => R.ETH.EVT.LINK_DOWN i⟩,
   ⟨4, 0x10000, 1, 0, fun i _ => R.ETH.EVT.PAUSE_CLAMP i⟩,
   ⟨4, 0x10000, 1, 0, fun i _ => R.ETH.EVT.WAKE i⟩,
   ⟨4, 0x10000, 1, 0, fun i _ => R.ETH.EVT.ESMC_QL i⟩,
   ⟨4, 0x10000, 1, 0, fun i _ => R.ETH.EVT.ESMC_TO i⟩,
   ⟨4, 0x10000, 1, 0, fun i _ => R.ETH.EVT.STATS_HALF i⟩,
   ⟨4, 0x10000, 1, 0, fun i _ => R.ETH.EVT.CFG_REJECTED i⟩,
   ⟨4, 0x10000, 1, 0, fun i _ => R.ETH.EVT.PRBS_ERR i⟩,
   ⟨4, 0x10000, 1, 0, fun i _ => R.ETH.INT_EN.EN i⟩,
   ⟨4, 0x10000, 1, 0, fun i _ => R.ETH.FRAME.MAX_LEN i⟩,
   ⟨4, 0x10000, 1, 0, fun i _ => R.ETH.FILTER.PROMISC i⟩,
   ⟨4, 0x10000, 1, 0, fun i _ => R.ETH.FILTER.PASS_ALL_GROUPS i⟩,
   ⟨4, 0x10000, 1, 0, fun i _ => R.ETH.FILTER.BCAST_EN i⟩]
/-- The ETH fields, part 2. -/
def R.ETH.table2 : List RegRow :=
  [⟨4, 0x10000, 1, 0, fun i _ => R.ETH.PAUSE.RX_EN i⟩,
   ⟨4, 0x10000, 1, 0, fun i _ => R.ETH.PAUSE.LIMIT i⟩,
   ⟨4, 0x10000, 1, 0, fun i _ => R.ETH.TXEQ.PRE i⟩,
   ⟨4, 0x10000, 1, 0, fun i _ => R.ETH.TXEQ.MAIN i⟩,
   ⟨4, 0x10000, 1, 0, fun i _ => R.ETH.TXEQ.POST i⟩,
   ⟨4, 0x10000, 1, 0, fun i _ => R.ETH.WAKE.PULSES i⟩,
   ⟨4, 0x10000, 1, 0, fun i _ => R.ETH.WAKE.ON_MS i⟩,
   ⟨4, 0x10000, 1, 0, fun i _ => R.ETH.WAKE.OFF_MS i⟩,
   ⟨4, 0x10000, 1, 0, fun i _ => R.ETH.RCLK.EN i⟩,
   ⟨4, 0x10000, 1, 0, fun i _ => R.ETH.RCLK.SQ_QL i⟩,
   ⟨4, 0x10000, 1, 0, fun i _ => R.ETH.RCLK.DIV i⟩,
   ⟨4, 0x10000, 1, 0, fun i _ => R.ETH.RCLK.HOLD_MS i⟩,
   ⟨4, 0x10000, 1, 0, fun i _ => R.ETH.ESMC_CFG.RX_EN i⟩,
   ⟨4, 0x10000, 1, 0, fun i _ => R.ETH.ESMC_CFG.TX_EN i⟩,
   ⟨4, 0x10000, 1, 0, fun i _ => R.ETH.ESMC_CFG.TO i⟩,
   ⟨4, 0x10000, 1, 0, fun i _ => R.ETH.ESMC_TX.QL_LOCKED i⟩,
   ⟨4, 0x10000, 1, 0, fun i _ => R.ETH.ESMC_TX.QL_BANK i⟩,
   ⟨4, 0x10000, 1, 0, fun i _ => R.ETH.ESMC_TX.QL_FREE i⟩,
   ⟨4, 0x10000, 1, 0, fun i _ => R.ETH.ESMC_TX.DNU_SELECTED i⟩,
   ⟨4, 0x10000, 1, 0, fun i _ => R.ETH.ESMC_TX.FORCE_EN i⟩,
   ⟨4, 0x10000, 1, 0, fun i _ => R.ETH.ESMC_TX.FORCE_QL i⟩,
   ⟨4, 0x10000, 1, 0, fun i _ => R.ETH.ESMC_RX.QL i⟩,
   ⟨4, 0x10000, 1, 0, fun i _ => R.ETH.ESMC_RX.VALID i⟩,
   ⟨4, 0x10000, 1, 0, fun i _ => R.ETH.ESMC_RX.EXT_SEEN i⟩,
   ⟨4, 0x10000, 1, 0, fun i _ => R.ETH.ESMC_RX.ENH_CODE i⟩,
   ⟨4, 0x10000, 1, 0, fun i _ => R.ETH.ESMC_RX.QL_SENT i⟩,
   ⟨4, 0x10000, 1, 0, fun i _ => R.ETH.PRBS_ERR.COUNT i⟩,
   ⟨4, 0x10000, 1, 0, fun i _ => R.ETH.HALF0.HALF i⟩,
   ⟨4, 0x10000, 1, 0, fun i _ => R.ETH.HALF1.HALF i⟩,
   ⟨4, 0x10000, 32, 0x8, fun i j => R.ETH.MAC.LO.ADDR i j⟩,
   ⟨4, 0x10000, 32, 0x8, fun i j => R.ETH.MAC.HI.ADDR i j⟩,
   ⟨4, 0x10000, 32, 0x8, fun i j => R.ETH.MAC.HI.EN i j⟩,
   ⟨4, 0x10000, 48, 0x8, fun i j => R.ETH.STATS.LO.COUNT i j⟩,
   ⟨4, 0x10000, 48, 0x8, fun i j => R.ETH.STATS.HI.COUNT i j⟩]

/-- Every field the ETH block implements. -/
def R.ETH.table : List RegRow := R.ETH.table1 ++ R.ETH.table2

/-! ### LTS: 11_medium_timestamps_and_launch.md, R368 -/

/-- [0] CMD: Commit group CLS. -/
def R.LTS.CTL.CLS_COMMIT : Field := ⟨0x140000, 0, 1, .cmd, 0, .second, none⟩
/-- [4:0] CFG: Re-map tolerance, ps, 0–19; above 19 rejected (R359). -/
def R.LTS.CFG.DRIFT_TOL : Field := ⟨0x140004, 0, 5, .cfg, 0x0A, .loopUpdate, none⟩
/-- [15:8] CFG: Wait before an unscheduled frame is reserved, µs; 0 rejected (R356). -/
def R.LTS.CFG.UNSCHED_WAIT : Field := ⟨0x140004, 8, 8, .cfg, 0x64, .second, none⟩
/-- [0] RC: Block-level write or commit rejected. -/
def R.LTS.EVT.CFG_REJECTED : Field := ⟨0x140008, 0, 1, .rc, 0, .immediate, none⟩
/-- [0] LIVE: Interrupt enable for EVT. -/
def R.LTS.INT_EN.EN : Field := ⟨0x14000C, 0, 1, .live, 0, .immediate, none⟩
/-- [0] CFG: 0 DROP, 1 RETIME (R361). -/
def R.LTS.CLASS.POLICY (i : Nat) : Field := ⟨0x140040 + i * 0x4, 0, 1, .cfg, 1, .second, (some .ltsCls)⟩
/-- [3:1] CFG: Re-times allowed per frame, 0–7. -/
def R.LTS.CLASS.RETIME_MAX (i : Nat) : Field := ⟨0x140040 + i * 0x4, 1, 3, .cfg, 0b001, .second, (some .ltsCls)⟩
/-- [31:16] CFG: Lateness limit, µs; 100 at reset; 0 rejected with POLICY = 1 (R362). -/
def R.LTS.CLASS.LATE_MAX (i : Nat) : Field := ⟨0x140040 + i * 0x4, 16, 16, .cfg, 0x0064, .second, (some .ltsCls)⟩
/-- [0] CMD: Commit group PCALp. -/
def R.LTS.PORT.CTL.COMMIT (i : Nat) : Field := ⟨0x140100 + i * 0x80, 0, 1, .cmd, 0, .second, none⟩
/-- [1] CMD: Start a loop calibration (R366). -/
def R.LTS.PORT.CTL.CAL_RUN (i : Nat) : Field := ⟨0x140100 + i * 0x80, 1, 1, .cmd, 0, .immediate, none⟩
/-- [2] CMD: Measure TXPH (R342). -/
def R.LTS.PORT.CTL.TXPH_MEAS (i : Nat) : Field := ⟨0x140100 + i * 0x80, 2, 1, .cmd, 0, .immediate, none⟩
/-- [15:0] CFG: Receive PMA delay, ps; 12,400 at reset (R346). -/
def R.LTS.PORT.PMA_RX.PS (i : Nat) : Field := ⟨0x140104 + i * 0x80, 0, 16, .cfg, 0x3070, .second, (some (.ltsPcal i))⟩
/-- [15:0] CFG: Transmit PMA delay, ps; 10,800 at reset (R351). -/
def R.LTS.PORT.PMA_TX.PS (i : Nat) : Field := ⟨0x140108 + i * 0x80, 0, 16, .cfg, 0x2A30, .second, (some (.ltsPcal i))⟩
/-- [19:0] CFG: Receive board and module delay, signed ps (R340). -/
def R.LTS.PORT.RX_EXT.PS (i : Nat) : Field := ⟨0x14010C + i * 0x80, 0, 20, .cfg, 0x00000, .second, (some (.ltsPcal i))⟩
/-- [19:0] CFG: Transmit board and module delay, signed ps. -/
def R.LTS.PORT.TX_EXT.PS (i : Nat) : Field := ⟨0x140110 + i * 0x80, 0, 20, .cfg, 0x00000, .second, (some (.ltsPcal i))⟩
/-- [0] STAT: Receive mapping valid (R343). -/
def R.LTS.PORT.STAT.MAP_VALID (i : Nat) : Field := ⟨0x140114 + i * 0x80, 0, 1, .stat, 0, .immediate, none⟩
/-- [1] STAT: TXPH measured since ON (R342). -/
def R.LTS.PORT.STAT.TXPH_VALID (i : Nat) : Field := ⟨0x140114 + i * 0x80, 1, 1, .stat, 0, .immediate, none⟩
/-- [2] STAT: Launches at nominal phase (R358). -/
def R.LTS.PORT.STAT.COARSE (i : Nat) : Field := ⟨0x140114 + i * 0x80, 2, 1, .stat, 1, .immediate, none⟩
/-- [3] STAT: Calibration running. -/
def R.LTS.PORT.STAT.CAL_BUSY (i : Nat) : Field := ⟨0x140114 + i * 0x80, 3, 1, .stat, 0, .immediate, none⟩
/-- [7:4] STAT: Last refusal (R353); 0x0 none. -/
def R.LTS.PORT.STAT.REFUSE_CAUSE (i : Nat) : Field := ⟨0x140114 + i * 0x80, 4, 4, .stat, 0x0, .immediate, none⟩
/-- [11:8] STAT: Last miss (R360); 0x0 none. -/
def R.LTS.PORT.STAT.MISS_CAUSE (i : Nat) : Field := ⟨0x140114 + i * 0x80, 8, 4, .stat, 0x0, .immediate, none⟩
/-- [26:16] STAT: Reservations held, 0–1,024. -/
def R.LTS.PORT.STAT.RESV (i : Nat) : Field := ⟨0x140114 + i * 0x80, 16, 11, .stat, 0x000, .immediate, none⟩
/-- [0] RC: A launch was missed. -/
def R.LTS.PORT.EVT.MISS (i : Nat) : Field := ⟨0x140118 + i * 0x80, 0, 1, .rc, 0, .immediate, none⟩
/-- [1] RC: A grant was refused. -/
def R.LTS.PORT.EVT.REFUSED (i : Nat) : Field := ⟨0x140118 + i * 0x80, 1, 1, .rc, 0, .immediate, none⟩
/-- [2] RC: Receive mapping invalidated (R343). -/
def R.LTS.PORT.EVT.MAP_BAD (i : Nat) : Field := ⟨0x140118 + i * 0x80, 2, 1, .rc, 0, .immediate, none⟩
/-- [3] RC: TXPH moved by more than 10 ps. -/
def R.LTS.PORT.EVT.TXPH_SHIFT (i : Nat) : Field := ⟨0x140118 + i * 0x80, 3, 1, .rc, 0, .immediate, none⟩
/-- [4] RC: Calibration results ready. -/
def R.LTS.PORT.EVT.CAL_DONE (i : Nat) : Field := ⟨0x140118 + i * 0x80, 4, 1, .rc, 0, .immediate, none⟩
/-- [5] RC: Frame longer than its reservation (R357). -/
def R.LTS.PORT.EVT.LENGTH (i : Nat) : Field := ⟨0x140118 + i * 0x80, 5, 1, .rc, 0, .immediate, none⟩
/-- [6] RC: Commit or command rejected. -/
def R.LTS.PORT.EVT.CFG_REJECTED (i : Nat) : Field := ⟨0x140118 + i * 0x80, 6, 1, .rc, 0, .immediate, none⟩
/-- [6:0] LIVE: Interrupt enable per EVT bit. -/
def R.LTS.PORT.INT_EN.EN (i : Nat) : Field := ⟨0x14011C + i * 0x80, 0, 7, .live, 0x00, .immediate, none⟩
/-- [10:0] STAT: Transmit word edge after its CK_HRT tick, ps, 0–1,599. -/
def R.LTS.PORT.TXPH.PS (i : Nat) : Field := ⟨0x140120 + i * 0x80, 0, 11, .stat, 0x000, .immediate, none⟩
/-- [15:0] STAT: Receive mapping residual, rms ps. -/
def R.LTS.PORT.MAP_RMS.PS (i : Nat) : Field := ⟨0x140124 + i * 0x80, 0, 16, .stat, 0x0000, .immediate, none⟩
/-- [31:0] STAT: Mean of T_rx − t_L, signed ps. -/
def R.LTS.PORT.CAL_MEAN.PS (i : Nat) : Field := ⟨0x140128 + i * 0x80, 0, 32, .stat, 0, .immediate, none⟩
/-- [15:0] STAT: CAL_RMS, ps. -/
def R.LTS.PORT.CAL_RES.RMS (i : Nat) : Field := ⟨0x14012C + i * 0x80, 0, 16, .stat, 0x0000, .immediate, none⟩
/-- [26:16] STAT: CAL_N, frames received, 0–1,024. -/
def R.LTS.PORT.CAL_RES.N (i : Nat) : Field := ⟨0x14012C + i * 0x80, 16, 11, .stat, 0x000, .immediate, none⟩
/-- [31:0] CNT: Frames delivered with a stamp. -/
def R.LTS.PORT.RX_STAMPED.COUNT (i : Nat) : Field := ⟨0x140130 + i * 0x80, 0, 32, .cnt, 0, .immediate, none⟩
/-- [31:0] CNT: Frames stamped COARSE (R348). -/
def R.LTS.PORT.RX_COARSE.COUNT (i : Nat) : Field := ⟨0x140134 + i * 0x80, 0, 32, .cnt, 0, .immediate, none⟩
/-- [31:0] CNT: Launch times granted, re-grants included. -/
def R.LTS.PORT.GRANTS.COUNT (i : Nat) : Field := ⟨0x140138 + i * 0x80, 0, 32, .cnt, 0, .immediate, none⟩
/-- [31:0] CNT: Grant requests refused. -/
def R.LTS.PORT.REFUSED.COUNT (i : Nat) : Field := ⟨0x14013C + i * 0x80, 0, 32, .cnt, 0, .immediate, none⟩
/-- [31:0] CNT: Scheduled frames sent. -/
def R.LTS.PORT.LAUNCHED.COUNT (i : Nat) : Field := ⟨0x140140 + i * 0x80, 0, 32, .cnt, 0, .immediate, none⟩
/-- [31:0] CNT: Frames re-timed (R361). -/
def R.LTS.PORT.RETIMED.COUNT (i : Nat) : Field := ⟨0x140144 + i * 0x80, 0, 32, .cnt, 0, .immediate, none⟩
/-- [31:0] CNT: Scheduled frames dropped after a miss. -/
def R.LTS.PORT.DROPPED.COUNT (i : Nat) : Field := ⟨0x140148 + i * 0x80, 0, 32, .cnt, 0, .immediate, none⟩
/-- [31:0] CNT: Misses by cause (R360). -/
def R.LTS.PORT.MISS_PAUSE.COUNT (i : Nat) : Field := ⟨0x14014C + i * 0x80, 0, 32, .cnt, 0, .immediate, none⟩
/-- [31:0] CNT: Misses by cause (R360). -/
def R.LTS.PORT.MISS_LINK.COUNT (i : Nat) : Field := ⟨0x140150 + i * 0x80, 0, 32, .cnt, 0, .immediate, none⟩
/-- [31:0] CNT: Misses by cause (R360). -/
def R.LTS.PORT.MISS_LATE.COUNT (i : Nat) : Field := ⟨0x140154 + i * 0x80, 0, 32, .cnt, 0, .immediate, none⟩
/-- [31:0] CNT: Misses by cause (R360). -/
def R.LTS.PORT.MISS_STEP.COUNT (i : Nat) : Field := ⟨0x140158 + i * 0x80, 0, 32, .cnt, 0, .immediate, none⟩
/-- [31:0] CNT: Misses by cause (R360). -/
def R.LTS.PORT.MISS_RATE.COUNT (i : Nat) : Field := ⟨0x14015C + i * 0x80, 0, 32, .cnt, 0, .immediate, none⟩
/-- [31:0] CNT: Misses by cause (R360). -/
def R.LTS.PORT.MISS_COAST.COUNT (i : Nat) : Field := ⟨0x140160 + i * 0x80, 0, 32, .cnt, 0, .immediate, none⟩
/-- [31:0] CNT: Misses by cause (R360). -/
def R.LTS.PORT.MISS_HAT.COUNT (i : Nat) : Field := ⟨0x140164 + i * 0x80, 0, 32, .cnt, 0, .immediate, none⟩
/-- [31:0] CNT: Frames dropped for length (R357). -/
def R.LTS.PORT.DROP_LEN.COUNT (i : Nat) : Field := ⟨0x140168 + i * 0x80, 0, 32, .cnt, 0, .immediate, none⟩

/-- The LTS fields, part 1. -/
def R.LTS.table1 : List RegRow :=
  [⟨1, 0, 1, 0, fun _ _ => R.LTS.CTL.CLS_COMMIT⟩,
   ⟨1, 0, 1, 0, fun _ _ => R.LTS.CFG.DRIFT_TOL⟩,
   ⟨1, 0, 1, 0, fun _ _ => R.LTS.CFG.UNSCHED_WAIT⟩,
   ⟨1, 0, 1, 0, fun _ _ => R.LTS.EVT.CFG_REJECTED⟩,
   ⟨1, 0, 1, 0, fun _ _ => R.LTS.INT_EN.EN⟩,
   ⟨8, 0x4, 1, 0, fun i _ => R.LTS.CLASS.POLICY i⟩,
   ⟨8, 0x4, 1, 0, fun i _ => R.LTS.CLASS.RETIME_MAX i⟩,
   ⟨8, 0x4, 1, 0, fun i _ => R.LTS.CLASS.LATE_MAX i⟩,
   ⟨4, 0x80, 1, 0, fun i _ => R.LTS.PORT.CTL.COMMIT i⟩,
   ⟨4, 0x80, 1, 0, fun i _ => R.LTS.PORT.CTL.CAL_RUN i⟩,
   ⟨4, 0x80, 1, 0, fun i _ => R.LTS.PORT.CTL.TXPH_MEAS i⟩,
   ⟨4, 0x80, 1, 0, fun i _ => R.LTS.PORT.PMA_RX.PS i⟩,
   ⟨4, 0x80, 1, 0, fun i _ => R.LTS.PORT.PMA_TX.PS i⟩,
   ⟨4, 0x80, 1, 0, fun i _ => R.LTS.PORT.RX_EXT.PS i⟩,
   ⟨4, 0x80, 1, 0, fun i _ => R.LTS.PORT.TX_EXT.PS i⟩,
   ⟨4, 0x80, 1, 0, fun i _ => R.LTS.PORT.STAT.MAP_VALID i⟩,
   ⟨4, 0x80, 1, 0, fun i _ => R.LTS.PORT.STAT.TXPH_VALID i⟩,
   ⟨4, 0x80, 1, 0, fun i _ => R.LTS.PORT.STAT.COARSE i⟩,
   ⟨4, 0x80, 1, 0, fun i _ => R.LTS.PORT.STAT.CAL_BUSY i⟩,
   ⟨4, 0x80, 1, 0, fun i _ => R.LTS.PORT.STAT.REFUSE_CAUSE i⟩,
   ⟨4, 0x80, 1, 0, fun i _ => R.LTS.PORT.STAT.MISS_CAUSE i⟩,
   ⟨4, 0x80, 1, 0, fun i _ => R.LTS.PORT.STAT.RESV i⟩,
   ⟨4, 0x80, 1, 0, fun i _ => R.LTS.PORT.EVT.MISS i⟩,
   ⟨4, 0x80, 1, 0, fun i _ => R.LTS.PORT.EVT.REFUSED i⟩,
   ⟨4, 0x80, 1, 0, fun i _ => R.LTS.PORT.EVT.MAP_BAD i⟩,
   ⟨4, 0x80, 1, 0, fun i _ => R.LTS.PORT.EVT.TXPH_SHIFT i⟩,
   ⟨4, 0x80, 1, 0, fun i _ => R.LTS.PORT.EVT.CAL_DONE i⟩,
   ⟨4, 0x80, 1, 0, fun i _ => R.LTS.PORT.EVT.LENGTH i⟩,
   ⟨4, 0x80, 1, 0, fun i _ => R.LTS.PORT.EVT.CFG_REJECTED i⟩,
   ⟨4, 0x80, 1, 0, fun i _ => R.LTS.PORT.INT_EN.EN i⟩,
   ⟨4, 0x80, 1, 0, fun i _ => R.LTS.PORT.TXPH.PS i⟩,
   ⟨4, 0x80, 1, 0, fun i _ => R.LTS.PORT.MAP_RMS.PS i⟩,
   ⟨4, 0x80, 1, 0, fun i _ => R.LTS.PORT.CAL_MEAN.PS i⟩,
   ⟨4, 0x80, 1, 0, fun i _ => R.LTS.PORT.CAL_RES.RMS i⟩,
   ⟨4, 0x80, 1, 0, fun i _ => R.LTS.PORT.CAL_RES.N i⟩,
   ⟨4, 0x80, 1, 0, fun i _ => R.LTS.PORT.RX_STAMPED.COUNT i⟩,
   ⟨4, 0x80, 1, 0, fun i _ => R.LTS.PORT.RX_COARSE.COUNT i⟩,
   ⟨4, 0x80, 1, 0, fun i _ => R.LTS.PORT.GRANTS.COUNT i⟩,
   ⟨4, 0x80, 1, 0, fun i _ => R.LTS.PORT.REFUSED.COUNT i⟩,
   ⟨4, 0x80, 1, 0, fun i _ => R.LTS.PORT.LAUNCHED.COUNT i⟩]
/-- The LTS fields, part 2. -/
def R.LTS.table2 : List RegRow :=
  [⟨4, 0x80, 1, 0, fun i _ => R.LTS.PORT.RETIMED.COUNT i⟩,
   ⟨4, 0x80, 1, 0, fun i _ => R.LTS.PORT.DROPPED.COUNT i⟩,
   ⟨4, 0x80, 1, 0, fun i _ => R.LTS.PORT.MISS_PAUSE.COUNT i⟩,
   ⟨4, 0x80, 1, 0, fun i _ => R.LTS.PORT.MISS_LINK.COUNT i⟩,
   ⟨4, 0x80, 1, 0, fun i _ => R.LTS.PORT.MISS_LATE.COUNT i⟩,
   ⟨4, 0x80, 1, 0, fun i _ => R.LTS.PORT.MISS_STEP.COUNT i⟩,
   ⟨4, 0x80, 1, 0, fun i _ => R.LTS.PORT.MISS_RATE.COUNT i⟩,
   ⟨4, 0x80, 1, 0, fun i _ => R.LTS.PORT.MISS_COAST.COUNT i⟩,
   ⟨4, 0x80, 1, 0, fun i _ => R.LTS.PORT.MISS_HAT.COUNT i⟩,
   ⟨4, 0x80, 1, 0, fun i _ => R.LTS.PORT.DROP_LEN.COUNT i⟩]

/-- Every field the LTS block implements. -/
def R.LTS.table : List RegRow := R.LTS.table1 ++ R.LTS.table2

end Sys2Proof.Machine
end

