-- ==== Sys2Proof/Machine/RegsServe.lean ====
section
/-! DEFINITION. The register fields of the response engine, the protocol block and the glovebox.
One definition per field of the register tables (spec chapters, R12, R13): its address, lowest bit, width, access code,
reset value, boundary and commit group; an array field is a function of its index. After them each block's table of
fields, which the address decoder reads (R539, R540). -/

namespace Sys2Proof.Machine

/-! ### RSE: 12_response_engine.md, R409 -/

/-- [0] CMD: Commit group ENG. -/
def R.RSE.CTL.ENG_COMMIT : Field := ⟨0x180000, 0, 1, .cmd, 0, .second, none⟩
/-- [1] CMD: Commit group RTAB and read the ring table (R376). -/
def R.RSE.CTL.RTAB_COMMIT : Field := ⟨0x180000, 1, 1, .cmd, 0, .second, none⟩
/-- [2] CMD: Commit group ADDR (R405). -/
def R.RSE.CTL.ADDR_COMMIT : Field := ⟨0x180000, 2, 1, .cmd, 0, .packet, none⟩
/-- [3] CMD: Run the mailbox command (R399). -/
def R.RSE.CTL.MBX_GO : Field := ⟨0x180000, 3, 1, .cmd, 0, .immediate, none⟩
/-- [4] CMD: Write back dirty lines (R403). -/
def R.RSE.CTL.CT_FLUSH : Field := ⟨0x180000, 4, 1, .cmd, 0, .immediate, none⟩
/-- [0] STAT: Handler set loaded (R369). -/
def R.RSE.STAT.HSET_OK : Field := ⟨0x180004, 0, 1, .stat, 0, .immediate, none⟩
/-- [1] STAT: Mailbox command running. -/
def R.RSE.STAT.MBX_BUSY : Field := ⟨0x180004, 1, 1, .stat, 0, .immediate, none⟩
/-- [2] STAT: Flush running. -/
def R.RSE.STAT.FLUSH_BUSY : Field := ⟨0x180004, 2, 1, .stat, 0, .immediate, none⟩
/-- [0] RC: BAR2 write discarded (R398). -/
def R.RSE.EVT.DIRECT_REJECT : Field := ⟨0x180008, 0, 1, .rc, 0, .immediate, none⟩
/-- [1] RC: Mailbox command completed. -/
def R.RSE.EVT.MBX_DONE : Field := ⟨0x180008, 1, 1, .rc, 0, .immediate, none⟩
/-- [2] RC: Allocation found its bucket full (R395). -/
def R.RSE.EVT.CT_FULL : Field := ⟨0x180008, 2, 1, .rc, 0, .immediate, none⟩
/-- [3] RC: Transaction cancelled (R385). -/
def R.RSE.EVT.DEADLINE : Field := ⟨0x180008, 3, 1, .rc, 0, .immediate, none⟩
/-- [4] RC: R371. -/
def R.RSE.EVT.STEP_OVERRUN : Field := ⟨0x180008, 4, 1, .rc, 0, .immediate, none⟩
/-- [5] RC: Frame dropped at a ring (R379). -/
def R.RSE.EVT.RING_DROP : Field := ⟨0x180008, 5, 1, .rc, 0, .immediate, none⟩
/-- [6] RC: Commit, doorbell or command rejected. -/
def R.RSE.EVT.CFG_REJECTED : Field := ⟨0x180008, 6, 1, .rc, 0, .immediate, none⟩
/-- [7] RC: Flush completed. -/
def R.RSE.EVT.FLUSH_DONE : Field := ⟨0x180008, 7, 1, .rc, 0, .immediate, none⟩
/-- [7:0] LIVE: Interrupt enable per EVT bit. -/
def R.RSE.INT_EN.EN : Field := ⟨0x18000C, 0, 8, .live, 0x00, .immediate, none⟩
/-- [31:0] STAT: Handler set version; major in [31:24]. -/
def R.RSE.HSET_VER.VERSION : Field := ⟨0x180010, 0, 32, .stat, 0, .immediate, none⟩
/-- [15:0] CFG: Response deadline, µs, 10–10,000; 200 at reset (R385). -/
def R.RSE.RESP.DL_US : Field := ⟨0x180014, 0, 16, .cfg, 0x00C8, .second, (some .rseEng)⟩
/-- [23:16] CFG: FULL retry interval, 10 ns; 0 rejected (R384). -/
def R.RSE.RESP.FULL_RETRY : Field := ⟨0x180014, 16, 8, .cfg, 0x14, .second, (some .rseEng)⟩
/-- [7:0] CFG: Writeback interval, µs; 0 rejected. -/
def R.RSE.WB_CFG.WB_US : Field := ⟨0x180018, 0, 8, .cfg, 0x02, .second, (some .rseEng)⟩
/-- [31:12] CFG: Ring table base [31:12]. -/
def R.RSE.RTAB_BASE_LO.ADDR : Field := ⟨0x180020, 12, 20, .cfg, 0x00000, .second, (some .rseRtab)⟩
/-- [1:0] CFG: Ring table base [33:32]. -/
def R.RSE.RTAB_BASE_HI.ADDR : Field := ⟨0x180024, 0, 2, .cfg, 0b00, .second, (some .rseRtab)⟩
/-- [31:12] CFG: Writeback area [31:12]. -/
def R.RSE.WB_BASE_LO.ADDR : Field := ⟨0x180028, 12, 20, .cfg, 0x00000, .second, (some .rseRtab)⟩
/-- [1:0] CFG: Writeback area [33:32]. -/
def R.RSE.WB_BASE_HI.ADDR : Field := ⟨0x18002C, 0, 2, .cfg, 0b00, .second, (some .rseRtab)⟩
/-- [9:0] LIVE: Ring number (R379). -/
def R.RSE.DOORBELL.RING : Field := ⟨0x180030, 0, 10, .live, 0x000, .immediate, none⟩
/-- [31:16] LIVE: New host-owned pointer. -/
def R.RSE.DOORBELL.PTR : Field := ⟨0x180030, 16, 16, .live, 0x0000, .immediate, none⟩
/-- [31:12] CFG: Client table base [31:12] (R389). -/
def R.RSE.CT_BASE_LO.ADDR : Field := ⟨0x180040, 12, 20, .cfg, 0x00000, .second, (some .rseEng)⟩
/-- [1:0] CFG: Client table base [33:32]. -/
def R.RSE.CT_BASE_HI.ADDR : Field := ⟨0x180044, 0, 2, .cfg, 0b00, .second, (some .rseEng)⟩
/-- [4:0] CFG: log2 of entries, 10–20. -/
def R.RSE.CT_CFG.LOG : Field := ⟨0x180048, 0, 5, .cfg, 0x14, .second, (some .rseEng)⟩
/-- [8] CFG: Engine allocation enabled (R395). -/
def R.RSE.CT_CFG.ALLOC_EN : Field := ⟨0x180048, 8, 1, .cfg, 1, .second, (some .rseEng)⟩
/-- [9] CFG: Allocate for NTP and NTS clients. -/
def R.RSE.CT_CFG.NTP_TRACK : Field := ⟨0x180048, 9, 1, .cfg, 0, .second, (some .rseEng)⟩
/-- [15:0] CFG: Idle time before aging, s; 3,600 at reset (R396). -/
def R.RSE.CT_AGE.IDLE_S : Field := ⟨0x18004C, 0, 16, .cfg, 0x0E10, .second, (some .rseEng)⟩
/-- [19:0] STAT: Entry of the last discarded BAR2 write. -/
def R.RSE.CT_REJ_IDX.INDEX : Field := ⟨0x180050, 0, 20, .stat, 0x00000, .immediate, none⟩
/-- [15:0] CFG: Default RATE; 8 per second at reset. -/
def R.RSE.CT_DEF.RATE : Field := ⟨0x180054, 0, 16, .cfg, 0x0800, .second, (some .rseEng)⟩
/-- [23:16] CFG: Default BURST. -/
def R.RSE.CT_DEF.BURST : Field := ⟨0x180054, 16, 8, .cfg, 0x08, .second, (some .rseEng)⟩
/-- [24] CFG: Default RATE_EN. -/
def R.RSE.CT_DEF.RATE_EN : Field := ⟨0x180054, 24, 1, .cfg, 1, .second, (some .rseEng)⟩
/-- [15:0] CFG: NTS-KE TCP port; 4,460 at reset (R372). -/
def R.RSE.NTSKE.PORT : Field := ⟨0x180058, 0, 16, .cfg, 0x116C, .second, (some .rseEng)⟩
/-- [7:0] CFG: Ring for kind 0x5; 0xFF drop; 0x80–0xFE rejected (R373). -/
def R.RSE.HOSTMAP.ARPND (i : Nat) : Field := ⟨0x180060 + i * 0x4, 0, 8, .cfg, 0x00, .second, (some .rseEng)⟩
/-- [15:8] CFG: Ring for kind 0x6. -/
def R.RSE.HOSTMAP.ICMP (i : Nat) : Field := ⟨0x180060 + i * 0x4, 8, 8, .cfg, 0x00, .second, (some .rseEng)⟩
/-- [23:16] CFG: Ring for kind 0x7. -/
def R.RSE.HOSTMAP.NTSKE (i : Nat) : Field := ⟨0x180060 + i * 0x4, 16, 8, .cfg, 0x01, .second, (some .rseEng)⟩
/-- [31:24] CFG: Ring for kind 0x8. -/
def R.RSE.HOSTMAP.OTHER (i : Nat) : Field := ⟨0x180060 + i * 0x4, 24, 8, .cfg, 0x02, .second, (some .rseEng)⟩
/-- [12:0] CFG: Contexts for port p, 1–4,096; 1,536 at reset (R382). -/
def R.RSE.PORTCAP.MAX (i : Nat) : Field := ⟨0x180070 + i * 0x4, 0, 13, .cfg, 0x0600, .second, (some .rseEng)⟩
/-- [7:0] CFG: Arbitration weight, 1–255; 0 rejected (R387). -/
def R.RSE.PRI.WEIGHT (i : Nat) : Field := ⟨0x180080 + i * 0x4, 0, 8, .cfg, 0x10, .second, (some .rseEng)⟩
/-- [8] CFG: Strict priority. -/
def R.RSE.PRI.STRICT (i : Nat) : Field := ⟨0x180080 + i * 0x4, 8, 1, .cfg, 0, .second, (some .rseEng)⟩
/-- [31:0] LIVE: Entry bytes 4i to 4i + 3 (R399). -/
def R.RSE.MBX_DATA.DATA (i : Nat) : Field := ⟨0x180100 + i * 0x4, 0, 32, .live, 0, .immediate, none⟩
/-- [3:0] LIVE: Command (R399). -/
def R.RSE.MBX_CMD.OP : Field := ⟨0x180180, 0, 4, .live, 0x0, .immediate, none⟩
/-- [4] LIVE: Compare GEN first. -/
def R.RSE.MBX_CMD.CMP : Field := ⟨0x180180, 4, 1, .live, 0, .immediate, none⟩
/-- [11:8] LIVE: WRITE field selection. -/
def R.RSE.MBX_CMD.MASK : Field := ⟨0x180180, 8, 4, .live, 0x0, .immediate, none⟩
/-- [31:12] LIVE: Entry index. -/
def R.RSE.MBX_CMD.INDEX : Field := ⟨0x180180, 12, 20, .live, 0x00000, .immediate, none⟩
/-- [3:0] STAT: 0x0 none, 0x1 DONE, 0x2 NOT_FOUND, 0x3 EXISTS, 0x4 FULL, 0x5 STALE, 0x6 BAD_STATE, 0x7 BAD_KEY, 0x8 BAD_FORMAT. -/
def R.RSE.MBX_STAT.RESULT : Field := ⟨0x180184, 0, 4, .stat, 0x0, .immediate, none⟩
/-- [31:12] STAT: Entry acted on or found. -/
def R.RSE.MBX_STAT.INDEX : Field := ⟨0x180184, 12, 20, .stat, 0x00000, .immediate, none⟩
/-- [31:0] CFG: Address; IPv4 in ADDR0, first byte in [31:24]. -/
def R.RSE.IFADDR.ADDR0.ADDR (i : Nat) (j : Nat) : Field := ⟨0x180200 + i * 0x100 + j * 0x20, 0, 32, .cfg, 0, .packet, (some .rseAddr)⟩
/-- [31:0] CFG: Address; IPv4 in ADDR0, first byte in [31:24]. -/
def R.RSE.IFADDR.ADDR1.ADDR (i : Nat) (j : Nat) : Field := ⟨0x180204 + i * 0x100 + j * 0x20, 0, 32, .cfg, 0, .packet, (some .rseAddr)⟩
/-- [31:0] CFG: Address; IPv4 in ADDR0, first byte in [31:24]. -/
def R.RSE.IFADDR.ADDR2.ADDR (i : Nat) (j : Nat) : Field := ⟨0x180208 + i * 0x100 + j * 0x20, 0, 32, .cfg, 0, .packet, (some .rseAddr)⟩
/-- [31:0] CFG: Address; IPv4 in ADDR0, first byte in [31:24]. -/
def R.RSE.IFADDR.ADDR3.ADDR (i : Nat) (j : Nat) : Field := ⟨0x18020C + i * 0x100 + j * 0x20, 0, 32, .cfg, 0, .packet, (some .rseAddr)⟩
/-- [0] CFG: Entry enabled. -/
def R.RSE.IFADDR.CFG.EN (i : Nat) (j : Nat) : Field := ⟨0x180210 + i * 0x100 + j * 0x20, 0, 1, .cfg, 0, .packet, (some .rseAddr)⟩
/-- [1] CFG: 0 IPv4, 1 IPv6. -/
def R.RSE.IFADDR.CFG.V6 (i : Nat) (j : Nat) : Field := ⟨0x180210 + i * 0x100 + j * 0x20, 1, 1, .cfg, 0, .packet, (some .rseAddr)⟩
/-- [6:2] CFG: Index m of ETH[p].MAC[m]; a disabled entry rejected. -/
def R.RSE.IFADDR.CFG.MAC (i : Nat) (j : Nat) : Field := ⟨0x180210 + i * 0x100 + j * 0x20, 2, 5, .cfg, 0x00, .packet, (some .rseAddr)⟩
/-- [12:0] STAT: Contexts in use. -/
def R.RSE.TXN_NOW.COUNT : Field := ⟨0x180600, 0, 13, .stat, 0x0000, .immediate, none⟩
/-- [12:0] RC: Highest TXN_NOW since last read. -/
def R.RSE.TXN_PEAK.COUNT : Field := ⟨0x180604, 0, 13, .rc, 0x0000, .immediate, none⟩
/-- [31:0] CNT: Frames dispatched. -/
def R.RSE.DISPATCHED.COUNT : Field := ⟨0x180608, 0, 32, .cnt, 0, .immediate, none⟩
/-- [31:0] CNT: Replies released. -/
def R.RSE.ANSWERED.COUNT : Field := ⟨0x18060C, 0, 32, .cnt, 0, .immediate, none⟩
/-- [31:0] CNT: Transactions dropped by cause (R369–R385). -/
def R.RSE.DROP_PARSE.COUNT : Field := ⟨0x180610, 0, 32, .cnt, 0, .immediate, none⟩
/-- [31:0] CNT: Transactions dropped by cause (R369–R385). -/
def R.RSE.DROP_DENY.COUNT : Field := ⟨0x180614, 0, 32, .cnt, 0, .immediate, none⟩
/-- [31:0] CNT: Transactions dropped by cause (R369–R385). -/
def R.RSE.DROP_REFUSED.COUNT : Field := ⟨0x180618, 0, 32, .cnt, 0, .immediate, none⟩
/-- [31:0] CNT: Transactions dropped by cause (R369–R385). -/
def R.RSE.DROP_DEADLINE.COUNT : Field := ⟨0x18061C, 0, 32, .cnt, 0, .immediate, none⟩
/-- [31:0] CNT: Transactions dropped by cause (R369–R385). -/
def R.RSE.STEP_OVERRUN.COUNT : Field := ⟨0x180620, 0, 32, .cnt, 0, .immediate, none⟩
/-- [31:0] CNT: Client table events (R390–R398). -/
def R.RSE.CT_HIT.COUNT : Field := ⟨0x180624, 0, 32, .cnt, 0, .immediate, none⟩
/-- [31:0] CNT: Client table events (R390–R398). -/
def R.RSE.CT_MISS.COUNT : Field := ⟨0x180628, 0, 32, .cnt, 0, .immediate, none⟩
/-- [31:0] CNT: Client table events (R390–R398). -/
def R.RSE.CT_ALLOC.COUNT : Field := ⟨0x18062C, 0, 32, .cnt, 0, .immediate, none⟩
/-- [31:0] CNT: Client table events (R390–R398). -/
def R.RSE.CT_FULL.COUNT : Field := ⟨0x180630, 0, 32, .cnt, 0, .immediate, none⟩
/-- [31:0] CNT: Client table events (R390–R398). -/
def R.RSE.CT_AGED.COUNT : Field := ⟨0x180634, 0, 32, .cnt, 0, .immediate, none⟩
/-- [31:0] CNT: Client table events (R390–R398). -/
def R.RSE.CT_DIRECT_REJ.COUNT : Field := ⟨0x180638, 0, 32, .cnt, 0, .immediate, none⟩
/-- [31:0] CNT: Client table events (R390–R398). -/
def R.RSE.CT_BAD.COUNT : Field := ⟨0x18063C, 0, 32, .cnt, 0, .immediate, none⟩
/-- [31:0] CNT: Frames dropped by classification (R372–R374). -/
def R.RSE.CLS_DROP.COUNT : Field := ⟨0x180640, 0, 32, .cnt, 0, .immediate, none⟩
/-- [31:0] CNT: Responder replies (R406, R407). -/
def R.RSE.ARP_REPLY.COUNT : Field := ⟨0x180644, 0, 32, .cnt, 0, .immediate, none⟩
/-- [31:0] CNT: Responder replies (R406, R407). -/
def R.RSE.ND_REPLY.COUNT : Field := ⟨0x180648, 0, 32, .cnt, 0, .immediate, none⟩

/-- The RSE fields, part 1. -/
def R.RSE.table1 : List RegRow :=
  [⟨1, 0, 1, 0, fun _ _ => R.RSE.CTL.ENG_COMMIT⟩,
   ⟨1, 0, 1, 0, fun _ _ => R.RSE.CTL.RTAB_COMMIT⟩,
   ⟨1, 0, 1, 0, fun _ _ => R.RSE.CTL.ADDR_COMMIT⟩,
   ⟨1, 0, 1, 0, fun _ _ => R.RSE.CTL.MBX_GO⟩,
   ⟨1, 0, 1, 0, fun _ _ => R.RSE.CTL.CT_FLUSH⟩,
   ⟨1, 0, 1, 0, fun _ _ => R.RSE.STAT.HSET_OK⟩,
   ⟨1, 0, 1, 0, fun _ _ => R.RSE.STAT.MBX_BUSY⟩,
   ⟨1, 0, 1, 0, fun _ _ => R.RSE.STAT.FLUSH_BUSY⟩,
   ⟨1, 0, 1, 0, fun _ _ => R.RSE.EVT.DIRECT_REJECT⟩,
   ⟨1, 0, 1, 0, fun _ _ => R.RSE.EVT.MBX_DONE⟩,
   ⟨1, 0, 1, 0, fun _ _ => R.RSE.EVT.CT_FULL⟩,
   ⟨1, 0, 1, 0, fun _ _ => R.RSE.EVT.DEADLINE⟩,
   ⟨1, 0, 1, 0, fun _ _ => R.RSE.EVT.STEP_OVERRUN⟩,
   ⟨1, 0, 1, 0, fun _ _ => R.RSE.EVT.RING_DROP⟩,
   ⟨1, 0, 1, 0, fun _ _ => R.RSE.EVT.CFG_REJECTED⟩,
   ⟨1, 0, 1, 0, fun _ _ => R.RSE.EVT.FLUSH_DONE⟩,
   ⟨1, 0, 1, 0, fun _ _ => R.RSE.INT_EN.EN⟩,
   ⟨1, 0, 1, 0, fun _ _ => R.RSE.HSET_VER.VERSION⟩,
   ⟨1, 0, 1, 0, fun _ _ => R.RSE.RESP.DL_US⟩,
   ⟨1, 0, 1, 0, fun _ _ => R.RSE.RESP.FULL_RETRY⟩,
   ⟨1, 0, 1, 0, fun _ _ => R.RSE.WB_CFG.WB_US⟩,
   ⟨1, 0, 1, 0, fun _ _ => R.RSE.RTAB_BASE_LO.ADDR⟩,
   ⟨1, 0, 1, 0, fun _ _ => R.RSE.RTAB_BASE_HI.ADDR⟩,
   ⟨1, 0, 1, 0, fun _ _ => R.RSE.WB_BASE_LO.ADDR⟩,
   ⟨1, 0, 1, 0, fun _ _ => R.RSE.WB_BASE_HI.ADDR⟩,
   ⟨1, 0, 1, 0, fun _ _ => R.RSE.DOORBELL.RING⟩,
   ⟨1, 0, 1, 0, fun _ _ => R.RSE.DOORBELL.PTR⟩,
   ⟨1, 0, 1, 0, fun _ _ => R.RSE.CT_BASE_LO.ADDR⟩,
   ⟨1, 0, 1, 0, fun _ _ => R.RSE.CT_BASE_HI.ADDR⟩,
   ⟨1, 0, 1, 0, fun _ _ => R.RSE.CT_CFG.LOG⟩,
   ⟨1, 0, 1, 0, fun _ _ => R.RSE.CT_CFG.ALLOC_EN⟩,
   ⟨1, 0, 1, 0, fun _ _ => R.RSE.CT_CFG.NTP_TRACK⟩,
   ⟨1, 0, 1, 0, fun _ _ => R.RSE.CT_AGE.IDLE_S⟩,
   ⟨1, 0, 1, 0, fun _ _ => R.RSE.CT_REJ_IDX.INDEX⟩,
   ⟨1, 0, 1, 0, fun _ _ => R.RSE.CT_DEF.RATE⟩,
   ⟨1, 0, 1, 0, fun _ _ => R.RSE.CT_DEF.BURST⟩,
   ⟨1, 0, 1, 0, fun _ _ => R.RSE.CT_DEF.RATE_EN⟩,
   ⟨1, 0, 1, 0, fun _ _ => R.RSE.NTSKE.PORT⟩,
   ⟨4, 0x4, 1, 0, fun i _ => R.RSE.HOSTMAP.ARPND i⟩,
   ⟨4, 0x4, 1, 0, fun i _ => R.RSE.HOSTMAP.ICMP i⟩]
/-- The RSE fields, part 2. -/
def R.RSE.table2 : List RegRow :=
  [⟨4, 0x4, 1, 0, fun i _ => R.RSE.HOSTMAP.NTSKE i⟩,
   ⟨4, 0x4, 1, 0, fun i _ => R.RSE.HOSTMAP.OTHER i⟩,
   ⟨4, 0x4, 1, 0, fun i _ => R.RSE.PORTCAP.MAX i⟩,
   ⟨8, 0x4, 1, 0, fun i _ => R.RSE.PRI.WEIGHT i⟩,
   ⟨8, 0x4, 1, 0, fun i _ => R.RSE.PRI.STRICT i⟩,
   ⟨32, 0x4, 1, 0, fun i _ => R.RSE.MBX_DATA.DATA i⟩,
   ⟨1, 0, 1, 0, fun _ _ => R.RSE.MBX_CMD.OP⟩,
   ⟨1, 0, 1, 0, fun _ _ => R.RSE.MBX_CMD.CMP⟩,
   ⟨1, 0, 1, 0, fun _ _ => R.RSE.MBX_CMD.MASK⟩,
   ⟨1, 0, 1, 0, fun _ _ => R.RSE.MBX_CMD.INDEX⟩,
   ⟨1, 0, 1, 0, fun _ _ => R.RSE.MBX_STAT.RESULT⟩,
   ⟨1, 0, 1, 0, fun _ _ => R.RSE.MBX_STAT.INDEX⟩,
   ⟨4, 0x100, 8, 0x20, fun i j => R.RSE.IFADDR.ADDR0.ADDR i j⟩,
   ⟨4, 0x100, 8, 0x20, fun i j => R.RSE.IFADDR.ADDR1.ADDR i j⟩,
   ⟨4, 0x100, 8, 0x20, fun i j => R.RSE.IFADDR.ADDR2.ADDR i j⟩,
   ⟨4, 0x100, 8, 0x20, fun i j => R.RSE.IFADDR.ADDR3.ADDR i j⟩,
   ⟨4, 0x100, 8, 0x20, fun i j => R.RSE.IFADDR.CFG.EN i j⟩,
   ⟨4, 0x100, 8, 0x20, fun i j => R.RSE.IFADDR.CFG.V6 i j⟩,
   ⟨4, 0x100, 8, 0x20, fun i j => R.RSE.IFADDR.CFG.MAC i j⟩,
   ⟨1, 0, 1, 0, fun _ _ => R.RSE.TXN_NOW.COUNT⟩,
   ⟨1, 0, 1, 0, fun _ _ => R.RSE.TXN_PEAK.COUNT⟩,
   ⟨1, 0, 1, 0, fun _ _ => R.RSE.DISPATCHED.COUNT⟩,
   ⟨1, 0, 1, 0, fun _ _ => R.RSE.ANSWERED.COUNT⟩,
   ⟨1, 0, 1, 0, fun _ _ => R.RSE.DROP_PARSE.COUNT⟩,
   ⟨1, 0, 1, 0, fun _ _ => R.RSE.DROP_DENY.COUNT⟩,
   ⟨1, 0, 1, 0, fun _ _ => R.RSE.DROP_REFUSED.COUNT⟩,
   ⟨1, 0, 1, 0, fun _ _ => R.RSE.DROP_DEADLINE.COUNT⟩,
   ⟨1, 0, 1, 0, fun _ _ => R.RSE.STEP_OVERRUN.COUNT⟩,
   ⟨1, 0, 1, 0, fun _ _ => R.RSE.CT_HIT.COUNT⟩,
   ⟨1, 0, 1, 0, fun _ _ => R.RSE.CT_MISS.COUNT⟩,
   ⟨1, 0, 1, 0, fun _ _ => R.RSE.CT_ALLOC.COUNT⟩,
   ⟨1, 0, 1, 0, fun _ _ => R.RSE.CT_FULL.COUNT⟩,
   ⟨1, 0, 1, 0, fun _ _ => R.RSE.CT_AGED.COUNT⟩,
   ⟨1, 0, 1, 0, fun _ _ => R.RSE.CT_DIRECT_REJ.COUNT⟩,
   ⟨1, 0, 1, 0, fun _ _ => R.RSE.CT_BAD.COUNT⟩,
   ⟨1, 0, 1, 0, fun _ _ => R.RSE.CLS_DROP.COUNT⟩,
   ⟨1, 0, 1, 0, fun _ _ => R.RSE.ARP_REPLY.COUNT⟩,
   ⟨1, 0, 1, 0, fun _ _ => R.RSE.ND_REPLY.COUNT⟩]

/-- Every field the RSE block implements. -/
def R.RSE.table : List RegRow := R.RSE.table1 ++ R.RSE.table2

/-! ### PRO: 13_ptp_and_ntp_service.md, R435 -/

/-- [0] CMD: Commit group GLB. -/
def R.PRO.CTL.COMMIT : Field := ⟨0x200000, 0, 1, .cmd, 0, .second, none⟩
/-- [0] CFG: Serve while the Hearth is UNSET (R414). -/
def R.PRO.CFG.SERVE_UNSET : Field := ⟨0x200004, 0, 1, .cfg, 0, .second, (some .proGlb)⟩
/-- [1] CFG: Answer COARSE event requests (R421). -/
def R.PRO.CFG.COARSE_ANSWER : Field := ⟨0x200004, 1, 1, .cfg, 0, .second, (some .proGlb)⟩
/-- [15:8] CFG: Periodic transaction lead, µs, 2–255; 20 at reset (R416). -/
def R.PRO.CFG.LEAD_US : Field := ⟨0x200004, 8, 8, .cfg, 0x14, .second, (some .proGlb)⟩
/-- [31:16] CFG: TIME_TRACEABLE limit, ns; 1,000 at reset (R415). -/
def R.PRO.CFG.TRACE_EB : Field := ⟨0x200004, 16, 16, .cfg, 0x03E8, .second, (some .proGlb)⟩
/-- [0] STAT: A leap warning is being sent (R429). -/
def R.PRO.STAT.LI_ACTIVE : Field := ⟨0x200008, 0, 1, .stat, 0, .immediate, none⟩
/-- [15:8] STAT: Bit k: smear window of index k open. -/
def R.PRO.STAT.SMEARING : Field := ⟨0x200008, 8, 8, .stat, 0x00, .immediate, none⟩
/-- [0] RC: Announce on a serving instance (R414). -/
def R.PRO.EVT.FOREIGN_ANN : Field := ⟨0x20000C, 0, 1, .rc, 0, .immediate, none⟩
/-- [1] RC: A unicast request denied (R422). -/
def R.PRO.EVT.GRANT_DENIED : Field := ⟨0x20000C, 1, 1, .rc, 0, .immediate, none⟩
/-- [2] RC: A PREF client changed master (R426). -/
def R.PRO.EVT.PREF_UPSTREAM : Field := ⟨0x20000C, 2, 1, .rc, 0, .immediate, none⟩
/-- [3] RC: Announce receipt timeout (R426). -/
def R.PRO.EVT.ANN_TIMEOUT : Field := ⟨0x20000C, 3, 1, .rc, 0, .immediate, none⟩
/-- [4] RC: A smear window opened (R432). -/
def R.PRO.EVT.SMEAR_START : Field := ⟨0x20000C, 4, 1, .rc, 0, .immediate, none⟩
/-- [5] RC: A smear window closed or was withdrawn. -/
def R.PRO.EVT.SMEAR_END : Field := ⟨0x20000C, 5, 1, .rc, 0, .immediate, none⟩
/-- [6] RC: Commit rejected (R412). -/
def R.PRO.EVT.CFG_REJECTED : Field := ⟨0x20000C, 6, 1, .rc, 0, .immediate, none⟩
/-- [6:0] LIVE: Interrupt enable per EVT bit. -/
def R.PRO.INT_EN.EN : Field := ⟨0x200010, 0, 7, .live, 0x00, .immediate, none⟩
/-- [31:0] STAT: clockIdentity bytes 4–7, byte 4 in [31:24]; from the kindling image. -/
def R.PRO.CLKID_LO.ID : Field := ⟨0x200014, 0, 32, .stat, 0, .immediate, none⟩
/-- [31:0] STAT: clockIdentity bytes 0–3, byte 0 in [31:24]. -/
def R.PRO.CLKID_HI.ID : Field := ⟨0x200018, 0, 32, .stat, 0, .immediate, none⟩
/-- [0] CFG: 0 drop, 1 Kiss-o'-Death (R431). -/
def R.PRO.NTP_CFG.KOD_MODE : Field := ⟨0x200020, 0, 1, .cfg, 0, .second, (some .proGlb)⟩
/-- [11:8] CFG: Lowest poll, log2 s. -/
def R.PRO.NTP_CFG.MINPOLL : Field := ⟨0x200020, 8, 4, .cfg, 0x4, .second, (some .proGlb)⟩
/-- [15:12] CFG: Highest poll, log2 s; below MINPOLL rejected. -/
def R.PRO.NTP_CFG.MAXPOLL : Field := ⟨0x200020, 12, 4, .cfg, 0xA, .second, (some .proGlb)⟩
/-- [23:16] CFG: Signed log2 s; −29 at reset. -/
def R.PRO.NTP_CFG.PRECISION : Field := ⟨0x200020, 16, 8, .cfg, 0xE3, .second, (some .proGlb)⟩
/-- [31:24] CFG: Leap warning lead, h, 1–255; 24 at reset. -/
def R.PRO.NTP_CFG.LI_WINDOW : Field := ⟨0x200020, 24, 8, .cfg, 0x18, .second, (some .proGlb)⟩
/-- [15:0] CFG: grandmasterID (R419). -/
def R.PRO.C37.GM_ID : Field := ⟨0x200024, 0, 16, .cfg, 0x0000, .second, (some .proGlb)⟩
/-- [31:0] CFG: Reference ID, first byte in [31:24]. Defaults: "PPS" S0–S7, "GNSS" S8, "PTP" S9–S12, "SYNC" S13–S15. -/
def R.PRO.REFID.ID (i : Nat) : Field := ⟨0x200040 + i * 0x4, 0, 32, .cfg, (Reset.refid i), .second, (some .proGlb)⟩
/-- [31:0] CFG: TLV data bytes 4i to 4i + 3 (R418). -/
def R.PRO.SMPTE_TLV.DATA (i : Nat) : Field := ⟨0x200080 + i * 0x4, 0, 32, .cfg, 0, .second, (some .proGlb)⟩
/-- [0] CFG: Smear for address index k. -/
def R.PRO.SMEAR.EN (i : Nat) : Field := ⟨0x2000C0 + i * 0x4, 0, 1, .cfg, 0, .second, (some .proGlb)⟩
/-- [1] CFG: Window centred on LEAP_AT (R432). -/
def R.PRO.SMEAR.CENTER (i : Nat) : Field := ⟨0x2000C0 + i * 0x4, 1, 1, .cfg, 0, .second, (some .proGlb)⟩
/-- [21:4] CFG: Window, s, 3,600–172,800; 86,400 at reset. -/
def R.PRO.SMEAR.W (i : Nat) : Field := ⟨0x2000C0 + i * 0x4, 4, 18, .cfg, 0x15180, .second, (some .proGlb)⟩
/-- [31:0] CNT: Requests, replies, KoDs and drops (R428–R431). -/
def R.PRO.NTP_REQ.COUNT : Field := ⟨0x2000E0, 0, 32, .cnt, 0, .immediate, none⟩
/-- [31:0] CNT: Requests, replies, KoDs and drops (R428–R431). -/
def R.PRO.NTP_RESP.COUNT : Field := ⟨0x2000E4, 0, 32, .cnt, 0, .immediate, none⟩
/-- [31:0] CNT: Requests, replies, KoDs and drops (R428–R431). -/
def R.PRO.NTP_KOD.COUNT : Field := ⟨0x2000E8, 0, 32, .cnt, 0, .immediate, none⟩
/-- [31:0] CNT: Requests, replies, KoDs and drops (R428–R431). -/
def R.PRO.NTP_DROP.COUNT : Field := ⟨0x2000EC, 0, 32, .cnt, 0, .immediate, none⟩
/-- [0] CMD: Commit group PTPp. -/
def R.PRO.PORT.CTL.COMMIT (i : Nat) : Field := ⟨0x200100 + i * 0x80, 0, 1, .cmd, 0, .second, none⟩
/-- [0] CFG: Instance enabled. -/
def R.PRO.PORT.CFG.EN (i : Nat) : Field := ⟨0x200104 + i * 0x80, 0, 1, .cfg, 0, .second, (some (.proPtp i))⟩
/-- [3:1] CFG: Profile (R412). -/
def R.PRO.PORT.CFG.PROFILE (i : Nat) : Field := ⟨0x200104 + i * 0x80, 1, 3, .cfg, 0b000, .second, (some (.proPtp i))⟩
/-- [5:4] CFG: R411; 0b11 rejected. -/
def R.PRO.PORT.CFG.TRANSPORT (i : Nat) : Field := ⟨0x200104 + i * 0x80, 4, 2, .cfg, 0b01, .second, (some (.proPtp i))⟩
/-- [6] CFG: 0 E2E, 1 P2P. -/
def R.PRO.PORT.CFG.DELAY (i : Nat) : Field := ⟨0x200104 + i * 0x80, 6, 1, .cfg, 0, .second, (some (.proPtp i))⟩
/-- [7] CFG: Two-step Sync (R417). -/
def R.PRO.PORT.CFG.TWO_STEP (i : Nat) : Field := ⟨0x200104 + i * 0x80, 7, 1, .cfg, 0, .second, (some (.proPtp i))⟩
/-- [8] CFG: Multicast service. -/
def R.PRO.PORT.CFG.MCAST (i : Nat) : Field := ⟨0x200104 + i * 0x80, 8, 1, .cfg, 1, .second, (some (.proPtp i))⟩
/-- [9] CFG: Unicast negotiation. -/
def R.PRO.PORT.CFG.UNICAST (i : Nat) : Field := ⟨0x200104 + i * 0x80, 9, 1, .cfg, 0, .second, (some (.proPtp i))⟩
/-- [10] CFG: L2 multicast address (R411). -/
def R.PRO.PORT.CFG.L2_DST (i : Nat) : Field := ⟨0x200104 + i * 0x80, 10, 1, .cfg, 0, .second, (some (.proPtp i))⟩
/-- [23:16] CFG: domainNumber. -/
def R.PRO.PORT.CFG.DOMAIN (i : Nat) : Field := ⟨0x200104 + i * 0x80, 16, 8, .cfg, 0x00, .second, (some (.proPtp i))⟩
/-- [7:0] CFG: Multicast Sync interval, signed. -/
def R.PRO.PORT.INTV.LOG_SYNC (i : Nat) : Field := ⟨0x200108 + i * 0x80, 0, 8, .cfg, 0x00, .second, (some (.proPtp i))⟩
/-- [15:8] CFG: Announce interval, signed. -/
def R.PRO.PORT.INTV.LOG_ANN (i : Nat) : Field := ⟨0x200108 + i * 0x80, 8, 8, .cfg, 0x01, .second, (some (.proPtp i))⟩
/-- [23:16] CFG: logMinDelayReqInterval or logMinPdelayReqInterval sent. -/
def R.PRO.PORT.INTV.LOG_MIN_DREQ (i : Nat) : Field := ⟨0x200108 + i * 0x80, 16, 8, .cfg, 0x00, .second, (some (.proPtp i))⟩
/-- [7:0] CFG: grandmasterPriority1. -/
def R.PRO.PORT.DS.PRIORITY1 (i : Nat) : Field := ⟨0x20010C + i * 0x80, 0, 8, .cfg, 0x80, .second, (some (.proPtp i))⟩
/-- [15:8] CFG: grandmasterPriority2. -/
def R.PRO.PORT.DS.PRIORITY2 (i : Nat) : Field := ⟨0x20010C + i * 0x80, 8, 8, .cfg, 0x80, .second, (some (.proPtp i))⟩
/-- [15:0] CFG: Shortest grant, s; 60 at reset. -/
def R.PRO.PORT.UNI.DUR_MIN (i : Nat) : Field := ⟨0x200110 + i * 0x80, 0, 16, .cfg, 0x003C, .second, (some (.proPtp i))⟩
/-- [31:16] CFG: Longest grant, s; 1,000 at reset; below DUR_MIN rejected. -/
def R.PRO.PORT.UNI.DUR_MAX (i : Nat) : Field := ⟨0x200110 + i * 0x80, 16, 16, .cfg, 0x03E8, .second, (some (.proPtp i))⟩
/-- [7:0] CFG: Smallest Sync interval granted; −7 at reset. -/
def R.PRO.PORT.UNI_LOG.MIN_SYNC (i : Nat) : Field := ⟨0x200114 + i * 0x80, 0, 8, .cfg, 0xF9, .second, (some (.proPtp i))⟩
/-- [15:8] CFG: Smallest Announce interval; −3. -/
def R.PRO.PORT.UNI_LOG.MIN_ANN (i : Nat) : Field := ⟨0x200114 + i * 0x80, 8, 8, .cfg, 0xFD, .second, (some (.proPtp i))⟩
/-- [23:16] CFG: Smallest Delay_Resp interval; −7. -/
def R.PRO.PORT.UNI_LOG.MIN_DRESP (i : Nat) : Field := ⟨0x200114 + i * 0x80, 16, 8, .cfg, 0xF9, .second, (some (.proPtp i))⟩
/-- [23:0] CFG: Granted Sync messages per second on the port (R423). -/
def R.PRO.PORT.UNI_BUDGET.SYNC_PER_S (i : Nat) : Field := ⟨0x200118 + i * 0x80, 0, 24, .cfg, 0x800000, .second, (some (.proPtp i))⟩
/-- [1:0] STAT: R414. -/
def R.PRO.PORT.STAT.STATE (i : Nat) : Field := ⟨0x20011C + i * 0x80, 0, 2, .stat, 0b00, .immediate, none⟩
/-- [31:8] STAT: Sync messages per second now granted. -/
def R.PRO.PORT.STAT.SYNC_GRANTED (i : Nat) : Field := ⟨0x20011C + i * 0x80, 8, 24, .stat, 0x000000, .immediate, none⟩
/-- [31:0] CNT: Messages sent, grant outcomes and drops by kind (R414–R424). -/
def R.PRO.PORT.TX_SYNC.COUNT (i : Nat) : Field := ⟨0x200120 + i * 0x80, 0, 32, .cnt, 0, .immediate, none⟩
/-- [31:0] CNT: Messages sent, grant outcomes and drops by kind (R414–R424). -/
def R.PRO.PORT.TX_FUP.COUNT (i : Nat) : Field := ⟨0x200124 + i * 0x80, 0, 32, .cnt, 0, .immediate, none⟩
/-- [31:0] CNT: Messages sent, grant outcomes and drops by kind (R414–R424). -/
def R.PRO.PORT.TX_ANN.COUNT (i : Nat) : Field := ⟨0x200128 + i * 0x80, 0, 32, .cnt, 0, .immediate, none⟩
/-- [31:0] CNT: Messages sent, grant outcomes and drops by kind (R414–R424). -/
def R.PRO.PORT.TX_DRESP.COUNT (i : Nat) : Field := ⟨0x20012C + i * 0x80, 0, 32, .cnt, 0, .immediate, none⟩
/-- [31:0] CNT: Messages sent, grant outcomes and drops by kind (R414–R424). -/
def R.PRO.PORT.TX_PDRESP.COUNT (i : Nat) : Field := ⟨0x200130 + i * 0x80, 0, 32, .cnt, 0, .immediate, none⟩
/-- [31:0] CNT: Messages sent, grant outcomes and drops by kind (R414–R424). -/
def R.PRO.PORT.TX_MGMT.COUNT (i : Nat) : Field := ⟨0x200134 + i * 0x80, 0, 32, .cnt, 0, .immediate, none⟩
/-- [31:0] CNT: Messages sent, grant outcomes and drops by kind (R414–R424). -/
def R.PRO.PORT.GRANTED.COUNT (i : Nat) : Field := ⟨0x200138 + i * 0x80, 0, 32, .cnt, 0, .immediate, none⟩
/-- [31:0] CNT: Messages sent, grant outcomes and drops by kind (R414–R424). -/
def R.PRO.PORT.DENIED.COUNT (i : Nat) : Field := ⟨0x20013C + i * 0x80, 0, 32, .cnt, 0, .immediate, none⟩
/-- [31:0] CNT: Messages sent, grant outcomes and drops by kind (R414–R424). -/
def R.PRO.PORT.CANCELLED.COUNT (i : Nat) : Field := ⟨0x200140 + i * 0x80, 0, 32, .cnt, 0, .immediate, none⟩
/-- [31:0] CNT: Messages sent, grant outcomes and drops by kind (R414–R424). -/
def R.PRO.PORT.EXPIRED.COUNT (i : Nat) : Field := ⟨0x200144 + i * 0x80, 0, 32, .cnt, 0, .immediate, none⟩
/-- [31:0] CNT: Messages sent, grant outcomes and drops by kind (R414–R424). -/
def R.PRO.PORT.FOREIGN_ANN.COUNT (i : Nat) : Field := ⟨0x200148 + i * 0x80, 0, 32, .cnt, 0, .immediate, none⟩
/-- [31:0] CNT: Messages sent, grant outcomes and drops by kind (R414–R424). -/
def R.PRO.PORT.NO_GRANT.COUNT (i : Nat) : Field := ⟨0x20014C + i * 0x80, 0, 32, .cnt, 0, .immediate, none⟩
/-- [31:0] CNT: Messages sent, grant outcomes and drops by kind (R414–R424). -/
def R.PRO.PORT.COARSE_DROP.COUNT (i : Nat) : Field := ⟨0x200150 + i * 0x80, 0, 32, .cnt, 0, .immediate, none⟩
/-- [31:0] CNT: Messages sent, grant outcomes and drops by kind (R414–R424). -/
def R.PRO.PORT.IGNORED.COUNT (i : Nat) : Field := ⟨0x200154 + i * 0x80, 0, 32, .cnt, 0, .immediate, none⟩
/-- [0] CMD: Commit group PREFp. -/
def R.PRO.PREF.CTL.COMMIT (i : Nat) : Field := ⟨0x200400 + i * 0x40, 0, 1, .cmd, 0, .second, none⟩
/-- [0] CFG: Client enabled. -/
def R.PRO.PREF.CFG.EN (i : Nat) : Field := ⟨0x200404 + i * 0x40, 0, 1, .cfg, 0, .second, (some (.proPref i))⟩
/-- [3:1] CFG: Profile, checked as R412. -/
def R.PRO.PREF.CFG.PROFILE (i : Nat) : Field := ⟨0x200404 + i * 0x40, 1, 3, .cfg, 0b000, .second, (some (.proPref i))⟩
/-- [5:4] CFG: R411. -/
def R.PRO.PREF.CFG.TRANSPORT (i : Nat) : Field := ⟨0x200404 + i * 0x40, 4, 2, .cfg, 0b01, .second, (some (.proPref i))⟩
/-- [6] CFG: 0 E2E, 1 P2P. -/
def R.PRO.PREF.CFG.DELAY (i : Nat) : Field := ⟨0x200404 + i * 0x40, 6, 1, .cfg, 0, .second, (some (.proPref i))⟩
/-- [7] CFG: Negotiate with UP_ADDR (R425). -/
def R.PRO.PREF.CFG.UNICAST (i : Nat) : Field := ⟨0x200404 + i * 0x40, 7, 1, .cfg, 0, .second, (some (.proPref i))⟩
/-- [15:8] CFG: domainNumber followed. -/
def R.PRO.PREF.CFG.DOMAIN (i : Nat) : Field := ⟨0x200404 + i * 0x40, 8, 8, .cfg, 0x00, .second, (some (.proPref i))⟩
/-- [19:16] CFG: Announce receipt timeout, intervals, 2–10. -/
def R.PRO.PREF.CFG.ANN_TO (i : Nat) : Field := ⟨0x200404 + i * 0x40, 16, 4, .cfg, 0x3, .second, (some (.proPref i))⟩
/-- [23:20] CFG: Exchanges averaged, 1–15 (R427). -/
def R.PRO.PREF.CFG.MPD_N (i : Nat) : Field := ⟨0x200404 + i * 0x40, 20, 4, .cfg, 0x8, .second, (some (.proPref i))⟩
/-- [7:0] CFG: Sync interval requested; −4 at reset. -/
def R.PRO.PREF.INTV.LOG_SYNC (i : Nat) : Field := ⟨0x200408 + i * 0x40, 0, 8, .cfg, 0xFC, .second, (some (.proPref i))⟩
/-- [15:8] CFG: Announce interval requested. -/
def R.PRO.PREF.INTV.LOG_ANN (i : Nat) : Field := ⟨0x200408 + i * 0x40, 8, 8, .cfg, 0x00, .second, (some (.proPref i))⟩
/-- [23:16] CFG: Delay_Req or Pdelay_Req interval. -/
def R.PRO.PREF.INTV.LOG_DREQ (i : Nat) : Field := ⟨0x200408 + i * 0x40, 16, 8, .cfg, 0xFC, .second, (some (.proPref i))⟩
/-- [15:0] CFG: Grant duration requested, s; 300 at reset. -/
def R.PRO.PREF.DUR.SECS (i : Nat) : Field := ⟨0x20040C + i * 0x40, 0, 16, .cfg, 0x012C, .second, (some (.proPref i))⟩
/-- [31:0] CFG: Upstream address; IPv4 in UP_ADDR0, first byte in [31:24]. -/
def R.PRO.PREF.UP_ADDR0.ADDR (i : Nat) : Field := ⟨0x200410 + i * 0x40, 0, 32, .cfg, 0, .second, (some (.proPref i))⟩
/-- [31:0] CFG: Upstream address; IPv4 in UP_ADDR0, first byte in [31:24]. -/
def R.PRO.PREF.UP_ADDR1.ADDR (i : Nat) : Field := ⟨0x200414 + i * 0x40, 0, 32, .cfg, 0, .second, (some (.proPref i))⟩
/-- [31:0] CFG: Upstream address; IPv4 in UP_ADDR0, first byte in [31:24]. -/
def R.PRO.PREF.UP_ADDR2.ADDR (i : Nat) : Field := ⟨0x200418 + i * 0x40, 0, 32, .cfg, 0, .second, (some (.proPref i))⟩
/-- [31:0] CFG: Upstream address; IPv4 in UP_ADDR0, first byte in [31:24]. -/
def R.PRO.PREF.UP_ADDR3.ADDR (i : Nat) : Field := ⟨0x20041C + i * 0x40, 0, 32, .cfg, 0, .second, (some (.proPref i))⟩
/-- [1:0] STAT: 0b00 DISABLED, 0b01 LISTENING, 0b10 UNCALIBRATED, 0b11 SLAVE. -/
def R.PRO.PREF.STAT.STATE (i : Nat) : Field := ⟨0x200420 + i * 0x40, 0, 2, .stat, 0b00, .immediate, none⟩
/-- [6:4] STAT: Grants held: bit 4 Announce, bit 5 Sync, bit 6 Delay_Resp. -/
def R.PRO.PREF.STAT.GRANTED (i : Nat) : Field := ⟨0x200420 + i * 0x40, 4, 3, .stat, 0b000, .immediate, none⟩
/-- [31:0] STAT: Selected master's clockIdentity, as CLKID. -/
def R.PRO.PREF.UP_ID_LO.ID (i : Nat) : Field := ⟨0x200424 + i * 0x40, 0, 32, .stat, 0, .immediate, none⟩
/-- [31:0] STAT: Selected master's clockIdentity, as CLKID. -/
def R.PRO.PREF.UP_ID_HI.ID (i : Nat) : Field := ⟨0x200428 + i * 0x40, 0, 32, .stat, 0, .immediate, none⟩
/-- [31:0] STAT: Mean path or link delay, signed 2^-8 ns. -/
def R.PRO.PREF.MPD.DELAY (i : Nat) : Field := ⟨0x20042C + i * 0x40, 0, 32, .stat, 0, .immediate, none⟩
/-- [31:0] CNT: Observations, COARSE exchanges discarded, timeouts (R426, R427). -/
def R.PRO.PREF.OBS_CNT.COUNT (i : Nat) : Field := ⟨0x200430 + i * 0x40, 0, 32, .cnt, 0, .immediate, none⟩
/-- [31:0] CNT: Observations, COARSE exchanges discarded, timeouts (R426, R427). -/
def R.PRO.PREF.COARSE_CNT.COUNT (i : Nat) : Field := ⟨0x200434 + i * 0x40, 0, 32, .cnt, 0, .immediate, none⟩
/-- [31:0] CNT: Observations, COARSE exchanges discarded, timeouts (R426, R427). -/
def R.PRO.PREF.ANN_TO_CNT.COUNT (i : Nat) : Field := ⟨0x200438 + i * 0x40, 0, 32, .cnt, 0, .immediate, none⟩

/-- The PRO fields, part 1. -/
def R.PRO.table1 : List RegRow :=
  [⟨1, 0, 1, 0, fun _ _ => R.PRO.CTL.COMMIT⟩,
   ⟨1, 0, 1, 0, fun _ _ => R.PRO.CFG.SERVE_UNSET⟩,
   ⟨1, 0, 1, 0, fun _ _ => R.PRO.CFG.COARSE_ANSWER⟩,
   ⟨1, 0, 1, 0, fun _ _ => R.PRO.CFG.LEAD_US⟩,
   ⟨1, 0, 1, 0, fun _ _ => R.PRO.CFG.TRACE_EB⟩,
   ⟨1, 0, 1, 0, fun _ _ => R.PRO.STAT.LI_ACTIVE⟩,
   ⟨1, 0, 1, 0, fun _ _ => R.PRO.STAT.SMEARING⟩,
   ⟨1, 0, 1, 0, fun _ _ => R.PRO.EVT.FOREIGN_ANN⟩,
   ⟨1, 0, 1, 0, fun _ _ => R.PRO.EVT.GRANT_DENIED⟩,
   ⟨1, 0, 1, 0, fun _ _ => R.PRO.EVT.PREF_UPSTREAM⟩,
   ⟨1, 0, 1, 0, fun _ _ => R.PRO.EVT.ANN_TIMEOUT⟩,
   ⟨1, 0, 1, 0, fun _ _ => R.PRO.EVT.SMEAR_START⟩,
   ⟨1, 0, 1, 0, fun _ _ => R.PRO.EVT.SMEAR_END⟩,
   ⟨1, 0, 1, 0, fun _ _ => R.PRO.EVT.CFG_REJECTED⟩,
   ⟨1, 0, 1, 0, fun _ _ => R.PRO.INT_EN.EN⟩,
   ⟨1, 0, 1, 0, fun _ _ => R.PRO.CLKID_LO.ID⟩,
   ⟨1, 0, 1, 0, fun _ _ => R.PRO.CLKID_HI.ID⟩,
   ⟨1, 0, 1, 0, fun _ _ => R.PRO.NTP_CFG.KOD_MODE⟩,
   ⟨1, 0, 1, 0, fun _ _ => R.PRO.NTP_CFG.MINPOLL⟩,
   ⟨1, 0, 1, 0, fun _ _ => R.PRO.NTP_CFG.MAXPOLL⟩,
   ⟨1, 0, 1, 0, fun _ _ => R.PRO.NTP_CFG.PRECISION⟩,
   ⟨1, 0, 1, 0, fun _ _ => R.PRO.NTP_CFG.LI_WINDOW⟩,
   ⟨1, 0, 1, 0, fun _ _ => R.PRO.C37.GM_ID⟩,
   ⟨16, 0x4, 1, 0, fun i _ => R.PRO.REFID.ID i⟩,
   ⟨11, 0x4, 1, 0, fun i _ => R.PRO.SMPTE_TLV.DATA i⟩,
   ⟨8, 0x4, 1, 0, fun i _ => R.PRO.SMEAR.EN i⟩,
   ⟨8, 0x4, 1, 0, fun i _ => R.PRO.SMEAR.CENTER i⟩,
   ⟨8, 0x4, 1, 0, fun i _ => R.PRO.SMEAR.W i⟩,
   ⟨1, 0, 1, 0, fun _ _ => R.PRO.NTP_REQ.COUNT⟩,
   ⟨1, 0, 1, 0, fun _ _ => R.PRO.NTP_RESP.COUNT⟩,
   ⟨1, 0, 1, 0, fun _ _ => R.PRO.NTP_KOD.COUNT⟩,
   ⟨1, 0, 1, 0, fun _ _ => R.PRO.NTP_DROP.COUNT⟩,
   ⟨4, 0x80, 1, 0, fun i _ => R.PRO.PORT.CTL.COMMIT i⟩,
   ⟨4, 0x80, 1, 0, fun i _ => R.PRO.PORT.CFG.EN i⟩,
   ⟨4, 0x80, 1, 0, fun i _ => R.PRO.PORT.CFG.PROFILE i⟩,
   ⟨4, 0x80, 1, 0, fun i _ => R.PRO.PORT.CFG.TRANSPORT i⟩,
   ⟨4, 0x80, 1, 0, fun i _ => R.PRO.PORT.CFG.DELAY i⟩,
   ⟨4, 0x80, 1, 0, fun i _ => R.PRO.PORT.CFG.TWO_STEP i⟩,
   ⟨4, 0x80, 1, 0, fun i _ => R.PRO.PORT.CFG.MCAST i⟩,
   ⟨4, 0x80, 1, 0, fun i _ => R.PRO.PORT.CFG.UNICAST i⟩]
/-- The PRO fields, part 2. -/
def R.PRO.table2 : List RegRow :=
  [⟨4, 0x80, 1, 0, fun i _ => R.PRO.PORT.CFG.L2_DST i⟩,
   ⟨4, 0x80, 1, 0, fun i _ => R.PRO.PORT.CFG.DOMAIN i⟩,
   ⟨4, 0x80, 1, 0, fun i _ => R.PRO.PORT.INTV.LOG_SYNC i⟩,
   ⟨4, 0x80, 1, 0, fun i _ => R.PRO.PORT.INTV.LOG_ANN i⟩,
   ⟨4, 0x80, 1, 0, fun i _ => R.PRO.PORT.INTV.LOG_MIN_DREQ i⟩,
   ⟨4, 0x80, 1, 0, fun i _ => R.PRO.PORT.DS.PRIORITY1 i⟩,
   ⟨4, 0x80, 1, 0, fun i _ => R.PRO.PORT.DS.PRIORITY2 i⟩,
   ⟨4, 0x80, 1, 0, fun i _ => R.PRO.PORT.UNI.DUR_MIN i⟩,
   ⟨4, 0x80, 1, 0, fun i _ => R.PRO.PORT.UNI.DUR_MAX i⟩,
   ⟨4, 0x80, 1, 0, fun i _ => R.PRO.PORT.UNI_LOG.MIN_SYNC i⟩,
   ⟨4, 0x80, 1, 0, fun i _ => R.PRO.PORT.UNI_LOG.MIN_ANN i⟩,
   ⟨4, 0x80, 1, 0, fun i _ => R.PRO.PORT.UNI_LOG.MIN_DRESP i⟩,
   ⟨4, 0x80, 1, 0, fun i _ => R.PRO.PORT.UNI_BUDGET.SYNC_PER_S i⟩,
   ⟨4, 0x80, 1, 0, fun i _ => R.PRO.PORT.STAT.STATE i⟩,
   ⟨4, 0x80, 1, 0, fun i _ => R.PRO.PORT.STAT.SYNC_GRANTED i⟩,
   ⟨4, 0x80, 1, 0, fun i _ => R.PRO.PORT.TX_SYNC.COUNT i⟩,
   ⟨4, 0x80, 1, 0, fun i _ => R.PRO.PORT.TX_FUP.COUNT i⟩,
   ⟨4, 0x80, 1, 0, fun i _ => R.PRO.PORT.TX_ANN.COUNT i⟩,
   ⟨4, 0x80, 1, 0, fun i _ => R.PRO.PORT.TX_DRESP.COUNT i⟩,
   ⟨4, 0x80, 1, 0, fun i _ => R.PRO.PORT.TX_PDRESP.COUNT i⟩,
   ⟨4, 0x80, 1, 0, fun i _ => R.PRO.PORT.TX_MGMT.COUNT i⟩,
   ⟨4, 0x80, 1, 0, fun i _ => R.PRO.PORT.GRANTED.COUNT i⟩,
   ⟨4, 0x80, 1, 0, fun i _ => R.PRO.PORT.DENIED.COUNT i⟩,
   ⟨4, 0x80, 1, 0, fun i _ => R.PRO.PORT.CANCELLED.COUNT i⟩,
   ⟨4, 0x80, 1, 0, fun i _ => R.PRO.PORT.EXPIRED.COUNT i⟩,
   ⟨4, 0x80, 1, 0, fun i _ => R.PRO.PORT.FOREIGN_ANN.COUNT i⟩,
   ⟨4, 0x80, 1, 0, fun i _ => R.PRO.PORT.NO_GRANT.COUNT i⟩,
   ⟨4, 0x80, 1, 0, fun i _ => R.PRO.PORT.COARSE_DROP.COUNT i⟩,
   ⟨4, 0x80, 1, 0, fun i _ => R.PRO.PORT.IGNORED.COUNT i⟩,
   ⟨4, 0x40, 1, 0, fun i _ => R.PRO.PREF.CTL.COMMIT i⟩,
   ⟨4, 0x40, 1, 0, fun i _ => R.PRO.PREF.CFG.EN i⟩,
   ⟨4, 0x40, 1, 0, fun i _ => R.PRO.PREF.CFG.PROFILE i⟩,
   ⟨4, 0x40, 1, 0, fun i _ => R.PRO.PREF.CFG.TRANSPORT i⟩,
   ⟨4, 0x40, 1, 0, fun i _ => R.PRO.PREF.CFG.DELAY i⟩,
   ⟨4, 0x40, 1, 0, fun i _ => R.PRO.PREF.CFG.UNICAST i⟩,
   ⟨4, 0x40, 1, 0, fun i _ => R.PRO.PREF.CFG.DOMAIN i⟩,
   ⟨4, 0x40, 1, 0, fun i _ => R.PRO.PREF.CFG.ANN_TO i⟩,
   ⟨4, 0x40, 1, 0, fun i _ => R.PRO.PREF.CFG.MPD_N i⟩,
   ⟨4, 0x40, 1, 0, fun i _ => R.PRO.PREF.INTV.LOG_SYNC i⟩,
   ⟨4, 0x40, 1, 0, fun i _ => R.PRO.PREF.INTV.LOG_ANN i⟩]
/-- The PRO fields, part 3. -/
def R.PRO.table3 : List RegRow :=
  [⟨4, 0x40, 1, 0, fun i _ => R.PRO.PREF.INTV.LOG_DREQ i⟩,
   ⟨4, 0x40, 1, 0, fun i _ => R.PRO.PREF.DUR.SECS i⟩,
   ⟨4, 0x40, 1, 0, fun i _ => R.PRO.PREF.UP_ADDR0.ADDR i⟩,
   ⟨4, 0x40, 1, 0, fun i _ => R.PRO.PREF.UP_ADDR1.ADDR i⟩,
   ⟨4, 0x40, 1, 0, fun i _ => R.PRO.PREF.UP_ADDR2.ADDR i⟩,
   ⟨4, 0x40, 1, 0, fun i _ => R.PRO.PREF.UP_ADDR3.ADDR i⟩,
   ⟨4, 0x40, 1, 0, fun i _ => R.PRO.PREF.STAT.STATE i⟩,
   ⟨4, 0x40, 1, 0, fun i _ => R.PRO.PREF.STAT.GRANTED i⟩,
   ⟨4, 0x40, 1, 0, fun i _ => R.PRO.PREF.UP_ID_LO.ID i⟩,
   ⟨4, 0x40, 1, 0, fun i _ => R.PRO.PREF.UP_ID_HI.ID i⟩,
   ⟨4, 0x40, 1, 0, fun i _ => R.PRO.PREF.MPD.DELAY i⟩,
   ⟨4, 0x40, 1, 0, fun i _ => R.PRO.PREF.OBS_CNT.COUNT i⟩,
   ⟨4, 0x40, 1, 0, fun i _ => R.PRO.PREF.COARSE_CNT.COUNT i⟩,
   ⟨4, 0x40, 1, 0, fun i _ => R.PRO.PREF.ANN_TO_CNT.COUNT i⟩]

/-- Every field the PRO block implements. -/
def R.PRO.table : List RegRow := R.PRO.table1 ++ R.PRO.table2 ++ R.PRO.table3

/-! ### GLV: 14_authentication_and_glovebox.md, R464 -/

/-- [0] CMD: Commit group SEC. -/
def R.GLV.CTL.SEC_COMMIT : Field := ⟨0x280000, 0, 1, .cmd, 0, .second, none⟩
/-- [7:0] STAT: Bit e: AES pipeline e in service (R436). -/
def R.GLV.STAT.AES_OK : Field := ⟨0x280004, 0, 8, .stat, 0xFF, .immediate, none⟩
/-- [11:8] STAT: Bit e: SHA-256 engine e in service. -/
def R.GLV.STAT.SHA_OK : Field := ⟨0x280004, 8, 4, .stat, 0xF, .immediate, none⟩
/-- [12] STAT: Random bit generator healthy (R438). -/
def R.GLV.STAT.RNG_OK : Field := ⟨0x280004, 12, 1, .stat, 0, .immediate, none⟩
/-- [13] STAT: MINT_GLOVE usable (R458). -/
def R.GLV.STAT.MINT_OK : Field := ⟨0x280004, 13, 1, .stat, 0, .immediate, none⟩
/-- [0] RC: Key command completed. -/
def R.GLV.EVT.KEY_DONE : Field := ⟨0x280008, 0, 1, .rc, 0, .immediate, none⟩
/-- [1] RC: A glove became SPENT (R444). -/
def R.GLV.EVT.SPENT : Field := ⟨0x280008, 1, 1, .rc, 0, .immediate, none⟩
/-- [2] RC: Life-cycle state changed (R450). -/
def R.GLV.EVT.LC_CHANGE : Field := ⟨0x280008, 2, 1, .rc, 0, .immediate, none⟩
/-- [3] RC: Health test failed. -/
def R.GLV.EVT.RNG_FAIL : Field := ⟨0x280008, 3, 1, .rc, 0, .immediate, none⟩
/-- [4] RC: Engine failed its known-answer test. -/
def R.GLV.EVT.ENG_FAIL : Field := ⟨0x280008, 4, 1, .rc, 0, .immediate, none⟩
/-- [5] RC: Reply built without cookies. -/
def R.GLV.EVT.NO_MINT : Field := ⟨0x280008, 5, 1, .rc, 0, .immediate, none⟩
/-- [6] RC: Commit or command rejected. -/
def R.GLV.EVT.CFG_REJECTED : Field := ⟨0x280008, 6, 1, .rc, 0, .immediate, none⟩
/-- [6:0] LIVE: Interrupt enable per EVT bit. -/
def R.GLV.INT_EN.EN : Field := ⟨0x28000C, 0, 7, .live, 0x00, .immediate, none⟩
/-- [1:0] STAT: Life-cycle state (R449). -/
def R.GLV.LC.STATE : Field := ⟨0x280010, 0, 2, .stat, 0b00, .immediate, none⟩
/-- [6:4] STAT: States reachable by command, from the image. -/
def R.GLV.LC.LC_MASK : Field := ⟨0x280010, 4, 3, .stat, 0b000, .immediate, none⟩
/-- [1:0] CMD: State requested; 0b11 rejected. -/
def R.GLV.LC_CMD.TARGET : Field := ⟨0x280014, 0, 2, .cmd, 0b00, .immediate, none⟩
/-- [31:16] CMD: Must be 0x4C43. -/
def R.GLV.LC_CMD.CONFIRM : Field := ⟨0x280014, 16, 16, .cmd, 0x0000, .immediate, none⟩
/-- [0] CFG: NTS service; 0: NTS requests dropped as NTS_MALFORMED. -/
def R.GLV.NTS_CFG.EN : Field := ⟨0x280020, 0, 1, .cfg, 0, .packet, none⟩
/-- [1] CFG: Send NTSN on failure (R455). -/
def R.GLV.NTS_CFG.NAK : Field := ⟨0x280020, 1, 1, .cfg, 1, .packet, none⟩
/-- [13:8] CFG: Glove that mints (R458). -/
def R.GLV.NTS_CFG.MINT_GLOVE : Field := ⟨0x280020, 8, 6, .cfg, 0x00, .packet, none⟩
/-- [19:16] CFG: Fresh cookies per reply, 1–8; others rejected. -/
def R.GLV.NTS_CFG.MAX_COOKIES : Field := ⟨0x280020, 16, 4, .cfg, 0x8, .packet, none⟩
/-- [1:0] CFG: 0b00 OFF, 0b01 SIGN, 0b10 REQUIRE (R460). -/
def R.GLV.PTP_AUTH.MODE (i : Nat) : Field := ⟨0x280040 + i * 0x4, 0, 2, .cfg, 0b00, .second, (some .glvSec)⟩
/-- [7:4] CFG: Security association. -/
def R.GLV.PTP_AUTH.SA (i : Nat) : Field := ⟨0x280040 + i * 0x4, 4, 4, .cfg, 0x0, .second, (some .glvSec)⟩
/-- [1:0] CFG: As PTP_AUTH, for PREFp. -/
def R.GLV.PREF_AUTH.MODE (i : Nat) : Field := ⟨0x280050 + i * 0x4, 0, 2, .cfg, 0b00, .second, (some .glvSec)⟩
/-- [7:4] CFG: Security association. -/
def R.GLV.PREF_AUTH.SA (i : Nat) : Field := ⟨0x280050 + i * 0x4, 4, 4, .cfg, 0x0, .second, (some .glvSec)⟩
/-- [0] CFG: SA enabled. -/
def R.GLV.SA.W0.EN (i : Nat) : Field := ⟨0x280080 + i * 0x8, 0, 1, .cfg, 0, .second, (some .glvSec)⟩
/-- [2:1] CFG: 0b01 HMAC-SHA-256, 0b10 AES-CMAC; others rejected. -/
def R.GLV.SA.W0.ALG (i : Nat) : Field := ⟨0x280080 + i * 0x8, 1, 2, .cfg, 0b01, .second, (some .glvSec)⟩
/-- [3] CFG: 0: 16 bytes; 1: 32 bytes, HMAC only. -/
def R.GLV.SA.W0.ICV_LEN (i : Nat) : Field := ⟨0x280080 + i * 0x8, 3, 1, .cfg, 0, .second, (some .glvSec)⟩
/-- [4] CFG: correctionField taken as zero (R459). -/
def R.GLV.SA.W0.ZERO_CF (i : Nat) : Field := ⟨0x280080 + i * 0x8, 4, 1, .cfg, 0, .second, (some .glvSec)⟩
/-- [15:8] CFG: Security parameter pointer. -/
def R.GLV.SA.W0.SPP (i : Nat) : Field := ⟨0x280080 + i * 0x8, 8, 8, .cfg, 0x00, .second, (some .glvSec)⟩
/-- [31:0] CFG: keyID sent. -/
def R.GLV.SA.W1.TX_KEY_ID (i : Nat) : Field := ⟨0x280084 + i * 0x8, 0, 32, .cfg, 0x00000000, .second, (some .glvSec)⟩
/-- [31:0] CNT: NTS outcomes (R453–R458). -/
def R.GLV.NTS_OK.COUNT : Field := ⟨0x280100, 0, 32, .cnt, 0, .immediate, none⟩
/-- [31:0] CNT: NTS outcomes (R453–R458). -/
def R.GLV.NTS_NAK.COUNT : Field := ⟨0x280104, 0, 32, .cnt, 0, .immediate, none⟩
/-- [31:0] CNT: NTS outcomes (R453–R458). -/
def R.GLV.NTS_BAD_COOKIE.COUNT : Field := ⟨0x280108, 0, 32, .cnt, 0, .immediate, none⟩
/-- [31:0] CNT: NTS outcomes (R453–R458). -/
def R.GLV.NTS_BAD_AUTH.COUNT : Field := ⟨0x28010C, 0, 32, .cnt, 0, .immediate, none⟩
/-- [31:0] CNT: NTS outcomes (R453–R458). -/
def R.GLV.NTS_MALFORMED.COUNT : Field := ⟨0x280110, 0, 32, .cnt, 0, .immediate, none⟩
/-- [31:0] CNT: NTS outcomes (R453–R458). -/
def R.GLV.NTS_NO_MINT.COUNT : Field := ⟨0x280114, 0, 32, .cnt, 0, .immediate, none⟩
/-- [31:0] CNT: Cookies sent in replies. -/
def R.GLV.COOKIES_MINTED.COUNT : Field := ⟨0x280118, 0, 32, .cnt, 0, .immediate, none⟩
/-- [31:0] CNT: PTP authentication outcomes (R460, R461). -/
def R.GLV.PTP_SIGNED.COUNT : Field := ⟨0x28011C, 0, 32, .cnt, 0, .immediate, none⟩
/-- [31:0] CNT: PTP authentication outcomes (R460, R461). -/
def R.GLV.PTP_VERIFIED.COUNT : Field := ⟨0x280120, 0, 32, .cnt, 0, .immediate, none⟩
/-- [31:0] CNT: PTP authentication outcomes (R460, R461). -/
def R.GLV.PTP_FAIL.COUNT : Field := ⟨0x280124, 0, 32, .cnt, 0, .immediate, none⟩
/-- [31:0] CNT: Gloves destroyed; image gloves skipped (R446, R447). -/
def R.GLV.KEY_DESTROYED.COUNT : Field := ⟨0x280128, 0, 32, .cnt, 0, .immediate, none⟩
/-- [31:0] CNT: Gloves destroyed; image gloves skipped (R446, R447). -/
def R.GLV.KEY_SKIPPED.COUNT : Field := ⟨0x28012C, 0, 32, .cnt, 0, .immediate, none⟩
/-- [3:0] STAT: Usage class (R440). -/
def R.GLV.GLOVE.ATTR.CLASS (i : Nat) : Field := ⟨0x280400 + i * 0x10, 0, 4, .stat, 0x0, .immediate, none⟩
/-- [4] STAT: 0 COUNT, 1 EXPIRE_AT_RESET. -/
def R.GLV.GLOVE.ATTR.LIFE (i : Nat) : Field := ⟨0x280400 + i * 0x10, 4, 1, .stat, 0, .immediate, none⟩
/-- [9:8] STAT: 0b00 EMPTY, 0b01 LOADED, 0b10 SPENT. -/
def R.GLV.GLOVE.ATTR.STATE (i : Nat) : Field := ⟨0x280400 + i * 0x10, 8, 2, .stat, 0b00, .immediate, none⟩
/-- [12] STAT: 0 host, 1 kindling image. -/
def R.GLV.GLOVE.ATTR.SRC (i : Nat) : Field := ⟨0x280400 + i * 0x10, 12, 1, .stat, 0, .immediate, none⟩
/-- [31:0] STAT: Key ID. -/
def R.GLV.GLOVE.KEY_ID.ID (i : Nat) : Field := ⟨0x280404 + i * 0x10, 0, 32, .stat, 0, .immediate, none⟩
/-- [31:0] CNT: Uses remaining, bits [31:0]. -/
def R.GLV.GLOVE.COUNT_LO.COUNT (i : Nat) : Field := ⟨0x280408 + i * 0x10, 0, 32, .cnt, 0, .immediate, none⟩
/-- [7:0] CNT: Uses remaining, bits [39:32]. -/
def R.GLV.GLOVE.COUNT_HI.COUNT (i : Nat) : Field := ⟨0x28040C + i * 0x10, 0, 8, .cnt, 0x00, .immediate, none⟩
/-- [31:0] KEY: Key bits [32i + 31:32i]. -/
def R.GLV.KEY_DATA.KEY (i : Nat) : Field := ⟨0x281000 + i * 0x4, 0, 32, .key, 0, .immediate, none⟩
/-- [3:0] LIVE: Class for LOAD. -/
def R.GLV.KEY_ATTR.CLASS : Field := ⟨0x281020, 0, 4, .live, 0x0, .immediate, none⟩
/-- [4] LIVE: 0 COUNT, 1 EXPIRE_AT_RESET. -/
def R.GLV.KEY_ATTR.LIFE : Field := ⟨0x281020, 4, 1, .live, 1, .immediate, none⟩
/-- [31:0] LIVE: Key ID for LOAD. -/
def R.GLV.KEY_ID.ID : Field := ⟨0x281024, 0, 32, .live, 0, .immediate, none⟩
/-- [31:0] LIVE: Use counter for LOAD, bits [31:0]. -/
def R.GLV.KEY_COUNT_LO.COUNT : Field := ⟨0x281028, 0, 32, .live, 0, .immediate, none⟩
/-- [7:0] LIVE: Bits [39:32]. -/
def R.GLV.KEY_COUNT_HI.COUNT : Field := ⟨0x28102C, 0, 8, .live, 0x00, .immediate, none⟩
/-- [5:0] LIVE: Glove addressed. -/
def R.GLV.KEY_CMD.INDEX : Field := ⟨0x281030, 0, 6, .live, 0x00, .immediate, none⟩
/-- [10:8] CMD: 0b001 LOAD, 0b010 DESTROY, 0b011 DESTROY_ALL; others rejected. -/
def R.GLV.KEY_CMD.OP : Field := ⟨0x281030, 8, 3, .cmd, 0b000, .immediate, none⟩
/-- [2:0] STAT: 0b000 none, 0b001 DONE, 0b010 NOT_EMPTY, 0b011 DUP_ID, 0b100 INCOMPLETE, 0b101 BAD_ATTR, 0b110 EMPTY. -/
def R.GLV.KEY_STAT.RESULT : Field := ⟨0x281034, 0, 3, .stat, 0b000, .immediate, none⟩
/-- [4] STAT: Command running. -/
def R.GLV.KEY_STAT.BUSY : Field := ⟨0x281034, 4, 1, .stat, 0, .immediate, none⟩
/-- [15:8] STAT: Bit i: KEY_DATA[i] written since the last LOAD. -/
def R.GLV.KEY_STAT.WORDS : Field := ⟨0x281034, 8, 8, .stat, 0x00, .immediate, none⟩

/-- The GLV fields, part 1. -/
def R.GLV.table1 : List RegRow :=
  [⟨1, 0, 1, 0, fun _ _ => R.GLV.CTL.SEC_COMMIT⟩,
   ⟨1, 0, 1, 0, fun _ _ => R.GLV.STAT.AES_OK⟩,
   ⟨1, 0, 1, 0, fun _ _ => R.GLV.STAT.SHA_OK⟩,
   ⟨1, 0, 1, 0, fun _ _ => R.GLV.STAT.RNG_OK⟩,
   ⟨1, 0, 1, 0, fun _ _ => R.GLV.STAT.MINT_OK⟩,
   ⟨1, 0, 1, 0, fun _ _ => R.GLV.EVT.KEY_DONE⟩,
   ⟨1, 0, 1, 0, fun _ _ => R.GLV.EVT.SPENT⟩,
   ⟨1, 0, 1, 0, fun _ _ => R.GLV.EVT.LC_CHANGE⟩,
   ⟨1, 0, 1, 0, fun _ _ => R.GLV.EVT.RNG_FAIL⟩,
   ⟨1, 0, 1, 0, fun _ _ => R.GLV.EVT.ENG_FAIL⟩,
   ⟨1, 0, 1, 0, fun _ _ => R.GLV.EVT.NO_MINT⟩,
   ⟨1, 0, 1, 0, fun _ _ => R.GLV.EVT.CFG_REJECTED⟩,
   ⟨1, 0, 1, 0, fun _ _ => R.GLV.INT_EN.EN⟩,
   ⟨1, 0, 1, 0, fun _ _ => R.GLV.LC.STATE⟩,
   ⟨1, 0, 1, 0, fun _ _ => R.GLV.LC.LC_MASK⟩,
   ⟨1, 0, 1, 0, fun _ _ => R.GLV.LC_CMD.TARGET⟩,
   ⟨1, 0, 1, 0, fun _ _ => R.GLV.LC_CMD.CONFIRM⟩,
   ⟨1, 0, 1, 0, fun _ _ => R.GLV.NTS_CFG.EN⟩,
   ⟨1, 0, 1, 0, fun _ _ => R.GLV.NTS_CFG.NAK⟩,
   ⟨1, 0, 1, 0, fun _ _ => R.GLV.NTS_CFG.MINT_GLOVE⟩,
   ⟨1, 0, 1, 0, fun _ _ => R.GLV.NTS_CFG.MAX_COOKIES⟩,
   ⟨4, 0x4, 1, 0, fun i _ => R.GLV.PTP_AUTH.MODE i⟩,
   ⟨4, 0x4, 1, 0, fun i _ => R.GLV.PTP_AUTH.SA i⟩,
   ⟨4, 0x4, 1, 0, fun i _ => R.GLV.PREF_AUTH.MODE i⟩,
   ⟨4, 0x4, 1, 0, fun i _ => R.GLV.PREF_AUTH.SA i⟩,
   ⟨16, 0x8, 1, 0, fun i _ => R.GLV.SA.W0.EN i⟩,
   ⟨16, 0x8, 1, 0, fun i _ => R.GLV.SA.W0.ALG i⟩,
   ⟨16, 0x8, 1, 0, fun i _ => R.GLV.SA.W0.ICV_LEN i⟩,
   ⟨16, 0x8, 1, 0, fun i _ => R.GLV.SA.W0.ZERO_CF i⟩,
   ⟨16, 0x8, 1, 0, fun i _ => R.GLV.SA.W0.SPP i⟩,
   ⟨16, 0x8, 1, 0, fun i _ => R.GLV.SA.W1.TX_KEY_ID i⟩,
   ⟨1, 0, 1, 0, fun _ _ => R.GLV.NTS_OK.COUNT⟩,
   ⟨1, 0, 1, 0, fun _ _ => R.GLV.NTS_NAK.COUNT⟩,
   ⟨1, 0, 1, 0, fun _ _ => R.GLV.NTS_BAD_COOKIE.COUNT⟩,
   ⟨1, 0, 1, 0, fun _ _ => R.GLV.NTS_BAD_AUTH.COUNT⟩,
   ⟨1, 0, 1, 0, fun _ _ => R.GLV.NTS_MALFORMED.COUNT⟩,
   ⟨1, 0, 1, 0, fun _ _ => R.GLV.NTS_NO_MINT.COUNT⟩,
   ⟨1, 0, 1, 0, fun _ _ => R.GLV.COOKIES_MINTED.COUNT⟩,
   ⟨1, 0, 1, 0, fun _ _ => R.GLV.PTP_SIGNED.COUNT⟩,
   ⟨1, 0, 1, 0, fun _ _ => R.GLV.PTP_VERIFIED.COUNT⟩]
/-- The GLV fields, part 2. -/
def R.GLV.table2 : List RegRow :=
  [⟨1, 0, 1, 0, fun _ _ => R.GLV.PTP_FAIL.COUNT⟩,
   ⟨1, 0, 1, 0, fun _ _ => R.GLV.KEY_DESTROYED.COUNT⟩,
   ⟨1, 0, 1, 0, fun _ _ => R.GLV.KEY_SKIPPED.COUNT⟩,
   ⟨64, 0x10, 1, 0, fun i _ => R.GLV.GLOVE.ATTR.CLASS i⟩,
   ⟨64, 0x10, 1, 0, fun i _ => R.GLV.GLOVE.ATTR.LIFE i⟩,
   ⟨64, 0x10, 1, 0, fun i _ => R.GLV.GLOVE.ATTR.STATE i⟩,
   ⟨64, 0x10, 1, 0, fun i _ => R.GLV.GLOVE.ATTR.SRC i⟩,
   ⟨64, 0x10, 1, 0, fun i _ => R.GLV.GLOVE.KEY_ID.ID i⟩,
   ⟨64, 0x10, 1, 0, fun i _ => R.GLV.GLOVE.COUNT_LO.COUNT i⟩,
   ⟨64, 0x10, 1, 0, fun i _ => R.GLV.GLOVE.COUNT_HI.COUNT i⟩,
   ⟨8, 0x4, 1, 0, fun i _ => R.GLV.KEY_DATA.KEY i⟩,
   ⟨1, 0, 1, 0, fun _ _ => R.GLV.KEY_ATTR.CLASS⟩,
   ⟨1, 0, 1, 0, fun _ _ => R.GLV.KEY_ATTR.LIFE⟩,
   ⟨1, 0, 1, 0, fun _ _ => R.GLV.KEY_ID.ID⟩,
   ⟨1, 0, 1, 0, fun _ _ => R.GLV.KEY_COUNT_LO.COUNT⟩,
   ⟨1, 0, 1, 0, fun _ _ => R.GLV.KEY_COUNT_HI.COUNT⟩,
   ⟨1, 0, 1, 0, fun _ _ => R.GLV.KEY_CMD.INDEX⟩,
   ⟨1, 0, 1, 0, fun _ _ => R.GLV.KEY_CMD.OP⟩,
   ⟨1, 0, 1, 0, fun _ _ => R.GLV.KEY_STAT.RESULT⟩,
   ⟨1, 0, 1, 0, fun _ _ => R.GLV.KEY_STAT.BUSY⟩,
   ⟨1, 0, 1, 0, fun _ _ => R.GLV.KEY_STAT.WORDS⟩]

/-- Every field the GLV block implements. -/
def R.GLV.table : List RegRow := R.GLV.table1 ++ R.GLV.table2

end Sys2Proof.Machine
end

