-- ==== Sys2Proof/Machine/RegsSignal.lean ====
section
/-! DEFINITION. The register fields of the synthesizer, output and time-interval blocks.
One definition per field of the register tables (spec chapters, R12, R13): its address, lowest bit, width, access code,
reset value, boundary and commit group; an array field is a function of its index. After them each block's table of
fields, which the address decoder reads (R539, R540). -/

namespace Sys2Proof.Machine

/-! ### SYN: 05_synthesizers.md, R189 -/

/-- [3:0] STAT: Bit n: SYNn LOCKED. -/
def R.SYN.SUM.LOCKED : Field := ⟨0x70000, 0, 4, .stat, 0x0, .immediate, none⟩
/-- [11:8] STAT: Bit n: SYNn in COAST. -/
def R.SYN.SUM.COAST : Field := ⟨0x70000, 8, 4, .stat, 0x0, .immediate, none⟩
/-- [3:0] RC: Bit n: SYNn changed state. -/
def R.SYN.CHG.CHANGED : Field := ⟨0x70004, 0, 4, .rc, 0x0, .immediate, none⟩
/-- [3:0] LIVE: Interrupt enable per CHG bit. -/
def R.SYN.INT_EN.CHANGED : Field := ⟨0x70008, 0, 4, .live, 0x0, .immediate, none⟩
/-- [0] CMD: Commit group BAND (R174). -/
def R.SYN.CTL_G.BAND_COMMIT : Field := ⟨0x7000C, 0, 1, .cmd, 0, .second, none⟩
/-- [31:0] CFG: Nominal HOSC frequency, Hz; 10 MHz at reset. -/
def R.SYN.HOSC.NOM : Field := ⟨0x70010, 0, 32, .cfg, 0x00989680, .second, (some (.syn 0))⟩
/-- [1:0] CFG: 0b00 differential, 0b01 single-ended; others rejected. -/
def R.SYN.HOSC_CFG.IO : Field := ⟨0x70014, 0, 2, .cfg, 0b00, .second, (some (.syn 0))⟩
/-- [2] CFG: Internal 100 Ω termination. -/
def R.SYN.HOSC_CFG.TERM : Field := ⟨0x70014, 2, 1, .cfg, 0, .second, (some (.syn 0))⟩
/-- [0] CMD: Commit group SYNn. -/
def R.SYN.CH.CTL.COMMIT (i : Nat) : Field := ⟨0x70100 + i * 0x80, 0, 1, .cmd, 0, .second, none⟩
/-- [1] CMD: Run a new search (R184, R187). -/
def R.SYN.CH.CTL.RELOCK (i : Nat) : Field := ⟨0x70100 + i * 0x80, 1, 1, .cmd, 0, .second, none⟩
/-- [0] CFG: Synthesizer enabled; fixed at 1 for SYN0. -/
def R.SYN.CH.CFG.EN (i : Nat) : Field := ⟨0x70104 + i * 0x80, 0, 1, .cfg, (if i = 0 then 1 else 0), .second, (some (.syn i))⟩
/-- [2:1] CFG: Reference source (R164). -/
def R.SYN.CH.CFG.SRC (i : Nat) : Field := ⟨0x70104 + i * 0x80, 1, 2, .cfg, 0b00, .second, (some (.syn i))⟩
/-- [6:4] CFG: REF ball used when SRC = 0b10. -/
def R.SYN.CH.CFG.REFSEL (i : Nat) : Field := ⟨0x70104 + i * 0x80, 4, 3, .cfg, 0b000, .second, (some (.syn i))⟩
/-- [7] CFG: Scale by S (R167, R168). -/
def R.SYN.CH.CFG.TRACK (i : Nat) : Field := ⟨0x70104 + i * 0x80, 7, 1, .cfg, 0, .second, (some (.syn i))⟩
/-- [15:8] CFG: Reference divider, 1–255. -/
def R.SYN.CH.CFG.PDIV (i : Nat) : Field := ⟨0x70104 + i * 0x80, 8, 8, .cfg, 0x01, .second, (some (.syn i))⟩
/-- [18:16] CFG: Loop bandwidth: 0b000 10, 0b001 20, 0b010 50, 0b011 100, 0b100 200, 0b101 500, 0b110 1,000 kHz; 0b111 rejected. -/
def R.SYN.CH.CFG.BW (i : Nat) : Field := ⟨0x70104 + i * 0x80, 16, 3, .cfg, 0b011, .second, (some (.syn i))⟩
/-- [20] CFG: Mute fed outputs at COAST (R182). -/
def R.SYN.CH.CFG.COAST_MUTE (i : Nat) : Field := ⟨0x70104 + i * 0x80, 20, 1, .cfg, 1, .second, (some (.syn i))⟩
/-- [21] CFG: Reacquire on reference return (R183). -/
def R.SYN.CH.CFG.AUTO_RELOCK (i : Nat) : Field := ⟨0x70104 + i * 0x80, 21, 1, .cfg, 1, .second, (some (.syn i))⟩
/-- [11:0] CFG: Integer part of N, 32–4,095. -/
def R.SYN.CH.NINT.NINT (i : Nat) : Field := ⟨0x70108 + i * 0x80, 0, 12, .cfg, 0x4E2, .second, (some (.syn i))⟩
/-- [31:0] CFG: Numerator bits [31:0]. -/
def R.SYN.CH.NUM_LO.NUM (i : Nat) : Field := ⟨0x7010C + i * 0x80, 0, 32, .cfg, 0x00000000, .second, (some (.syn i))⟩
/-- [15:0] CFG: Numerator bits [47:32]. -/
def R.SYN.CH.NUM_HI.NUM (i : Nat) : Field := ⟨0x70110 + i * 0x80, 0, 16, .cfg, 0x0000, .second, (some (.syn i))⟩
/-- [31:0] CFG: Denominator bits [31:0]; 0 in both words means 2^48. -/
def R.SYN.CH.DEN_LO.DEN (i : Nat) : Field := ⟨0x70114 + i * 0x80, 0, 32, .cfg, 0x00000001, .second, (some (.syn i))⟩
/-- [15:0] CFG: Denominator bits [47:32]. -/
def R.SYN.CH.DEN_HI.DEN (i : Nat) : Field := ⟨0x70118 + i * 0x80, 0, 16, .cfg, 0x0000, .second, (some (.syn i))⟩
/-- [10:0] CFG: Post-divider, 4–1,024; fixed 20 for SYN0 (R185). -/
def R.SYN.CH.ODIV.ODIV (i : Nat) : Field :=
  ⟨0x7011C + i * 0x80, 0, 11, if i = 0 then .stat else .cfg, 0x014, .second, if i = 0 then none else some (.syn i)⟩
/-- [3:0] CFG: Window 2^(10+WIN) PFD cycles (R178). -/
def R.SYN.CH.LOCKDET.WIN (i : Nat) : Field := ⟨0x70120 + i * 0x80, 0, 4, .cfg, 0x6, .second, (some (.syn i))⟩
/-- [7:4] CFG: Passing windows that declare LOCKED. -/
def R.SYN.CH.LOCKDET.LOCK_CNT (i : Nat) : Field := ⟨0x70120 + i * 0x80, 4, 4, .cfg, 0x4, .second, (some (.syn i))⟩
/-- [19:8] CFG: Lock tolerance, ppb; 1,000 at reset. -/
def R.SYN.CH.LOCKDET.LOCK_TOL (i : Nat) : Field := ⟨0x70120 + i * 0x80, 8, 12, .cfg, 0x3E8, .second, (some (.syn i))⟩
/-- [31:20] CFG: Unlock tolerance, 10 ppb units; 10,000 ppb at reset. -/
def R.SYN.CH.LOCKDET.UNLOCK_TOL (i : Nat) : Field := ⟨0x70120 + i * 0x80, 20, 12, .cfg, 0x3E8, .second, (some (.syn i))⟩
/-- [11:0] CFG: Search guard, 250 kHz units; 80 MHz at reset (R176). -/
def R.SYN.CH.BAND_CFG.GUARD (i : Nat) : Field := ⟨0x70124 + i * 0x80, 0, 12, .cfg, 0x140, .second, (some (.syn i))⟩
/-- [21:16] CFG: Band tried alone when FORCE_EN = 1. -/
def R.SYN.CH.BAND_CFG.FORCE_BAND (i : Nat) : Field := ⟨0x70124 + i * 0x80, 16, 6, .cfg, 0x00, .second, (some (.syn i))⟩
/-- [24] CFG: Search tries FORCE_BAND only. -/
def R.SYN.CH.BAND_CFG.FORCE_EN (i : Nat) : Field := ⟨0x70124 + i * 0x80, 24, 1, .cfg, 0, .second, (some (.syn i))⟩
/-- [2:0] STAT: State (R172). -/
def R.SYN.CH.STAT.STATE (i : Nat) : Field := ⟨0x70128 + i * 0x80, 0, 3, .stat, 0b000, .immediate, none⟩
/-- [4] STAT: Phase against the timescale lost (R181). -/
def R.SYN.CH.STAT.PHASE_LOST (i : Nat) : Field := ⟨0x70128 + i * 0x80, 4, 1, .stat, 0, .immediate, none⟩
/-- [5] STAT: Reference present (R179). -/
def R.SYN.CH.STAT.REF_PRESENT (i : Nat) : Field := ⟨0x70128 + i * 0x80, 5, 1, .stat, 0, .immediate, none⟩
/-- [6] STAT: Fine word near an end (R177). -/
def R.SYN.CH.STAT.FINE_EDGE (i : Nat) : Field := ⟨0x70128 + i * 0x80, 6, 1, .stat, 0, .immediate, none⟩
/-- [9:8] STAT: Last COAST cause: 0b01 REF_LOSS, 0b10 FREQ. -/
def R.SYN.CH.STAT.CAUSE (i : Nat) : Field := ⟨0x70128 + i * 0x80, 8, 2, .stat, 0b00, .immediate, none⟩
/-- [21:16] STAT: Band in use. -/
def R.SYN.CH.STAT.BAND (i : Nat) : Field := ⟨0x70128 + i * 0x80, 16, 6, .stat, 0x00, .immediate, none⟩
/-- [0] RC: LOCKED declared. -/
def R.SYN.CH.EVT.LOCK (i : Nat) : Field := ⟨0x7012C + i * 0x80, 0, 1, .rc, 0, .immediate, none⟩
/-- [1] RC: COAST entered. -/
def R.SYN.CH.EVT.COAST (i : Nat) : Field := ⟨0x7012C + i * 0x80, 1, 1, .rc, 0, .immediate, none⟩
/-- [2] RC: Reference lost. -/
def R.SYN.CH.EVT.REF_LOSS (i : Nat) : Field := ⟨0x7012C + i * 0x80, 2, 1, .rc, 0, .immediate, none⟩
/-- [3] RC: Reference present again. -/
def R.SYN.CH.EVT.REF_RETURN (i : Nat) : Field := ⟨0x7012C + i * 0x80, 3, 1, .rc, 0, .immediate, none⟩
/-- [4] RC: No band accepted (R176). -/
def R.SYN.CH.EVT.BAND_FAIL (i : Nat) : Field := ⟨0x7012C + i * 0x80, 4, 1, .rc, 0, .immediate, none⟩
/-- [5] RC: ACQUIRE ended without lock. -/
def R.SYN.CH.EVT.LOCK_FAIL (i : Nat) : Field := ⟨0x7012C + i * 0x80, 5, 1, .rc, 0, .immediate, none⟩
/-- [6] RC: Fine word reached an end region. -/
def R.SYN.CH.EVT.FINE_EDGE (i : Nat) : Field := ⟨0x7012C + i * 0x80, 6, 1, .rc, 0, .immediate, none⟩
/-- [7] RC: Commit or RELOCK rejected (R162, R173, R174, R185, R187). -/
def R.SYN.CH.EVT.CFG_REJECTED (i : Nat) : Field := ⟨0x7012C + i * 0x80, 7, 1, .rc, 0, .immediate, none⟩
/-- [7:0] LIVE: Interrupt enable per EVT bit. -/
def R.SYN.CH.INT_EN.EN (i : Nat) : Field := ⟨0x70130 + i * 0x80, 0, 8, .live, 0x00, .immediate, none⟩
/-- [31:0] STAT: Latest window error, signed ppb (R178). -/
def R.SYN.CH.FREQ_ERR.E (i : Nat) : Field := ⟨0x70134 + i * 0x80, 0, 32, .stat, 0, .immediate, none⟩
/-- [19:0] STAT: Fine control word in use. -/
def R.SYN.CH.FINE.FINE (i : Nat) : Field := ⟨0x70138 + i * 0x80, 0, 20, .stat, 0x80000, .immediate, none⟩
/-- [19:0] STAT: Frozen fine word (R180). -/
def R.SYN.CH.FINE_FRZ.FINE (i : Nat) : Field := ⟨0x7013C + i * 0x80, 0, 20, .stat, 0x80000, .immediate, none⟩
/-- [15:0] STAT: Measured lower edge of the accepted band, 250 kHz units. -/
def R.SYN.CH.VCO_EDGE.LO (i : Nat) : Field := ⟨0x70140 + i * 0x80, 0, 16, .stat, 0x0000, .immediate, none⟩
/-- [31:16] STAT: Measured upper edge, 250 kHz units. -/
def R.SYN.CH.VCO_EDGE.HI (i : Nat) : Field := ⟨0x70140 + i * 0x80, 16, 16, .stat, 0x0000, .immediate, none⟩
/-- [31:0] CNT: LOCKED declarations. -/
def R.SYN.CH.ACQ_CNT.COUNT (i : Nat) : Field := ⟨0x70144 + i * 0x80, 0, 32, .cnt, 0, .immediate, none⟩
/-- [31:0] CNT: COAST entries. -/
def R.SYN.CH.COAST_CNT.COUNT (i : Nat) : Field := ⟨0x70148 + i * 0x80, 0, 32, .cnt, 0, .immediate, none⟩
/-- [15:0] CFG: Lower edge, 250 kHz units. -/
def R.SYN.BAND.LO (i : Nat) : Field := ⟨0x70400 + i * 0x4, 0, 16, .cfg, 0x0000, .second, (some .synBand)⟩
/-- [31:16] CFG: Upper edge, 250 kHz units. -/
def R.SYN.BAND.HI (i : Nat) : Field := ⟨0x70400 + i * 0x4, 16, 16, .cfg, 0x0000, .second, (some .synBand)⟩

/-- The SYN fields, part 1. -/
def R.SYN.table1 : List RegRow :=
  [⟨1, 0, 1, 0, fun _ _ => R.SYN.SUM.LOCKED⟩,
   ⟨1, 0, 1, 0, fun _ _ => R.SYN.SUM.COAST⟩,
   ⟨1, 0, 1, 0, fun _ _ => R.SYN.CHG.CHANGED⟩,
   ⟨1, 0, 1, 0, fun _ _ => R.SYN.INT_EN.CHANGED⟩,
   ⟨1, 0, 1, 0, fun _ _ => R.SYN.CTL_G.BAND_COMMIT⟩,
   ⟨1, 0, 1, 0, fun _ _ => R.SYN.HOSC.NOM⟩,
   ⟨1, 0, 1, 0, fun _ _ => R.SYN.HOSC_CFG.IO⟩,
   ⟨1, 0, 1, 0, fun _ _ => R.SYN.HOSC_CFG.TERM⟩,
   ⟨4, 0x80, 1, 0, fun i _ => R.SYN.CH.CTL.COMMIT i⟩,
   ⟨4, 0x80, 1, 0, fun i _ => R.SYN.CH.CTL.RELOCK i⟩,
   ⟨4, 0x80, 1, 0, fun i _ => R.SYN.CH.CFG.EN i⟩,
   ⟨4, 0x80, 1, 0, fun i _ => R.SYN.CH.CFG.SRC i⟩,
   ⟨4, 0x80, 1, 0, fun i _ => R.SYN.CH.CFG.REFSEL i⟩,
   ⟨4, 0x80, 1, 0, fun i _ => R.SYN.CH.CFG.TRACK i⟩,
   ⟨4, 0x80, 1, 0, fun i _ => R.SYN.CH.CFG.PDIV i⟩,
   ⟨4, 0x80, 1, 0, fun i _ => R.SYN.CH.CFG.BW i⟩,
   ⟨4, 0x80, 1, 0, fun i _ => R.SYN.CH.CFG.COAST_MUTE i⟩,
   ⟨4, 0x80, 1, 0, fun i _ => R.SYN.CH.CFG.AUTO_RELOCK i⟩,
   ⟨4, 0x80, 1, 0, fun i _ => R.SYN.CH.NINT.NINT i⟩,
   ⟨4, 0x80, 1, 0, fun i _ => R.SYN.CH.NUM_LO.NUM i⟩,
   ⟨4, 0x80, 1, 0, fun i _ => R.SYN.CH.NUM_HI.NUM i⟩,
   ⟨4, 0x80, 1, 0, fun i _ => R.SYN.CH.DEN_LO.DEN i⟩,
   ⟨4, 0x80, 1, 0, fun i _ => R.SYN.CH.DEN_HI.DEN i⟩,
   ⟨4, 0x80, 1, 0, fun i _ => R.SYN.CH.ODIV.ODIV i⟩,
   ⟨4, 0x80, 1, 0, fun i _ => R.SYN.CH.LOCKDET.WIN i⟩,
   ⟨4, 0x80, 1, 0, fun i _ => R.SYN.CH.LOCKDET.LOCK_CNT i⟩,
   ⟨4, 0x80, 1, 0, fun i _ => R.SYN.CH.LOCKDET.LOCK_TOL i⟩,
   ⟨4, 0x80, 1, 0, fun i _ => R.SYN.CH.LOCKDET.UNLOCK_TOL i⟩,
   ⟨4, 0x80, 1, 0, fun i _ => R.SYN.CH.BAND_CFG.GUARD i⟩,
   ⟨4, 0x80, 1, 0, fun i _ => R.SYN.CH.BAND_CFG.FORCE_BAND i⟩,
   ⟨4, 0x80, 1, 0, fun i _ => R.SYN.CH.BAND_CFG.FORCE_EN i⟩,
   ⟨4, 0x80, 1, 0, fun i _ => R.SYN.CH.STAT.STATE i⟩,
   ⟨4, 0x80, 1, 0, fun i _ => R.SYN.CH.STAT.PHASE_LOST i⟩,
   ⟨4, 0x80, 1, 0, fun i _ => R.SYN.CH.STAT.REF_PRESENT i⟩,
   ⟨4, 0x80, 1, 0, fun i _ => R.SYN.CH.STAT.FINE_EDGE i⟩,
   ⟨4, 0x80, 1, 0, fun i _ => R.SYN.CH.STAT.CAUSE i⟩,
   ⟨4, 0x80, 1, 0, fun i _ => R.SYN.CH.STAT.BAND i⟩,
   ⟨4, 0x80, 1, 0, fun i _ => R.SYN.CH.EVT.LOCK i⟩,
   ⟨4, 0x80, 1, 0, fun i _ => R.SYN.CH.EVT.COAST i⟩,
   ⟨4, 0x80, 1, 0, fun i _ => R.SYN.CH.EVT.REF_LOSS i⟩]
/-- The SYN fields, part 2. -/
def R.SYN.table2 : List RegRow :=
  [⟨4, 0x80, 1, 0, fun i _ => R.SYN.CH.EVT.REF_RETURN i⟩,
   ⟨4, 0x80, 1, 0, fun i _ => R.SYN.CH.EVT.BAND_FAIL i⟩,
   ⟨4, 0x80, 1, 0, fun i _ => R.SYN.CH.EVT.LOCK_FAIL i⟩,
   ⟨4, 0x80, 1, 0, fun i _ => R.SYN.CH.EVT.FINE_EDGE i⟩,
   ⟨4, 0x80, 1, 0, fun i _ => R.SYN.CH.EVT.CFG_REJECTED i⟩,
   ⟨4, 0x80, 1, 0, fun i _ => R.SYN.CH.INT_EN.EN i⟩,
   ⟨4, 0x80, 1, 0, fun i _ => R.SYN.CH.FREQ_ERR.E i⟩,
   ⟨4, 0x80, 1, 0, fun i _ => R.SYN.CH.FINE.FINE i⟩,
   ⟨4, 0x80, 1, 0, fun i _ => R.SYN.CH.FINE_FRZ.FINE i⟩,
   ⟨4, 0x80, 1, 0, fun i _ => R.SYN.CH.VCO_EDGE.LO i⟩,
   ⟨4, 0x80, 1, 0, fun i _ => R.SYN.CH.VCO_EDGE.HI i⟩,
   ⟨4, 0x80, 1, 0, fun i _ => R.SYN.CH.ACQ_CNT.COUNT i⟩,
   ⟨4, 0x80, 1, 0, fun i _ => R.SYN.CH.COAST_CNT.COUNT i⟩,
   ⟨64, 0x4, 1, 0, fun i _ => R.SYN.BAND.LO i⟩,
   ⟨64, 0x4, 1, 0, fun i _ => R.SYN.BAND.HI i⟩]

/-- Every field the SYN block implements. -/
def R.SYN.table : List RegRow := R.SYN.table1 ++ R.SYN.table2

/-! ### OUT: 06_outputs_timecodes_events.md, R215 -/

/-- [15:0] CMD: Bit n: realign OUTn (R195). -/
def R.OUT.CTL.REALIGN : Field := ⟨0x80000, 0, 16, .cmd, 0x0000, .second, none⟩
/-- [15:0] STAT: Bit n: OUTn driver active. -/
def R.OUT.SUM.DRIVING : Field := ⟨0x80004, 0, 16, .stat, 0x0000, .immediate, none⟩
/-- [31:16] STAT: Bit n: OUTn needs alignment. -/
def R.OUT.SUM.NEED_ALIGN : Field := ⟨0x80004, 16, 16, .stat, 0x0000, .immediate, none⟩
/-- [0] RC: An alignment completed. -/
def R.OUT.EVT.ALIGNED : Field := ⟨0x80008, 0, 1, .rc, 0, .immediate, none⟩
/-- [1] RC: An output needs alignment (R197). -/
def R.OUT.EVT.NEED_ALIGN : Field := ⟨0x80008, 1, 1, .rc, 0, .immediate, none⟩
/-- [2] RC: Calibration error beyond LIMIT (R200). -/
def R.OUT.EVT.CAL_LIMIT : Field := ⟨0x80008, 2, 1, .rc, 0, .immediate, none⟩
/-- [3] RC: Arm rejected (R212). -/
def R.OUT.EVT.TEV_LATE : Field := ⟨0x80008, 3, 1, .rc, 0, .immediate, none⟩
/-- [4] RC: Event instant skipped by a step (R213). -/
def R.OUT.EVT.TEV_MISSED : Field := ⟨0x80008, 4, 1, .rc, 0, .immediate, none⟩
/-- [5] RC: IRIG-B frame abandoned (R206). -/
def R.OUT.EVT.TIMECODE_CUT : Field := ⟨0x80008, 5, 1, .rc, 0, .immediate, none⟩
/-- [6] RC: Commit or arm rejected. -/
def R.OUT.EVT.CFG_REJECTED : Field := ⟨0x80008, 6, 1, .rc, 0, .immediate, none⟩
/-- [6:0] LIVE: Interrupt enable per EVT bit. -/
def R.OUT.INT_EN.EN : Field := ⟨0x8000C, 0, 7, .live, 0x00, .immediate, none⟩
/-- [15:0] CMD: Bit m: arm line m. -/
def R.OUT.TEV_CTL.ARM : Field := ⟨0x80010, 0, 16, .cmd, 0x0000, .immediate, none⟩
/-- [31:16] CMD: Bit m: disarm line m. -/
def R.OUT.TEV_CTL.DISARM : Field := ⟨0x80010, 16, 16, .cmd, 0x0000, .immediate, none⟩
/-- [15:0] STAT: Bit m: line m armed. -/
def R.OUT.TEV_STAT.ARMED : Field := ⟨0x80014, 0, 16, .stat, 0x0000, .immediate, none⟩
/-- [31:0] CNT: Skipped event instants. -/
def R.OUT.TEV_MISS_CNT.COUNT : Field := ⟨0x80018, 0, 32, .cnt, 0, .immediate, none⟩
/-- [0] CFG: Output enabled. -/
def R.OUT.CFG.EN (i : Nat) : Field := ⟨0x80100 + i * 0x4, 0, 1, .cfg, 0, .second, (some (.out i))⟩
/-- [2:1] CFG: Source synthesizer; 0b00 rejected. -/
def R.OUT.CFG.SRC (i : Nat) : Field := ⟨0x80100 + i * 0x4, 1, 2, .cfg, 0b01, .second, (some (.out i))⟩
/-- [4:3] CFG: 0b00 LVDS, 0b01 HCSL, 0b10 LVCMOS in phase, 0b11 LVCMOS complementary. -/
def R.OUT.CFG.IO (i : Nat) : Field := ⟨0x80100 + i * 0x4, 3, 2, .cfg, 0b00, .second, (some (.out i))⟩
/-- [5] CFG: 0 CLOCK, 1 PULSE. -/
def R.OUT.CFG.MODE (i : Nat) : Field := ⟨0x80100 + i * 0x4, 5, 1, .cfg, 0, .second, (some (.out i))⟩
/-- [6] CFG: Active edge polarity. -/
def R.OUT.CFG.POL (i : Nat) : Field := ⟨0x80100 + i * 0x4, 6, 1, .cfg, 0, .second, (some (.out i))⟩
/-- [7] CFG: Muted until first alignment. -/
def R.OUT.CFG.REQ_ALIGN (i : Nat) : Field := ⟨0x80100 + i * 0x4, 7, 1, .cfg, 1, .second, (some (.out i))⟩
/-- [8] CFG: Align at the first step (R198). -/
def R.OUT.CFG.AUTO_STEP (i : Nat) : Field := ⟨0x80100 + i * 0x4, 8, 1, .cfg, 0, .second, (some (.out i))⟩
/-- [31:0] CFG: Divider. -/
def R.OUT.DIV.VALUE (i : Nat) : Field := ⟨0x80140 + i * 0x4, 0, 32, .cfg, 0x00000001, .second, (some (.out i))⟩
/-- [31:0] CFG: PULSE high time, source cycles. -/
def R.OUT.WIDTH.CYCLES (i : Nat) : Field := ⟨0x80180 + i * 0x4, 0, 32, .cfg, 0x00000001, .second, (some (.out i))⟩
/-- [19:0] CFG: Phase trim, signed ps (R192). -/
def R.OUT.TRIM.PS (i : Nat) : Field := ⟨0x801C0 + i * 0x4, 0, 20, .cfg, 0x00000, .second, (some (.out i))⟩
/-- [31:24] CFG: ps per period; 0: at alignment only. -/
def R.OUT.TRIM.SLEW (i : Nat) : Field := ⟨0x801C0 + i * 0x4, 24, 8, .cfg, 0x00, .second, (some (.out i))⟩
/-- [15:0] CFG: Alignment modulus, s; 0 rejected. -/
def R.OUT.ALIGN.MOD (i : Nat) : Field := ⟨0x80200 + i * 0x4, 0, 16, .cfg, 0x0001, .second, (some (.out i))⟩
/-- [0] CFG: Calibration loop enabled. -/
def R.OUT.CAL.EN (i : Nat) : Field := ⟨0x80240 + i * 0x4, 0, 1, .cfg, 1, .second, (some (.out i))⟩
/-- [7:4] CFG: log2 of edges per update, 0–10. -/
def R.OUT.CAL.AVG (i : Nat) : Field := ⟨0x80240 + i * 0x4, 4, 4, .cfg, 0x4, .second, (some (.out i))⟩
/-- [15:8] CFG: Largest correction per update, ps. -/
def R.OUT.CAL.STEP_MAX (i : Nat) : Field := ⟨0x80240 + i * 0x4, 8, 8, .cfg, 0x02, .second, (some (.out i))⟩
/-- [31:16] CFG: Largest error corrected, ps. -/
def R.OUT.CAL.LIMIT (i : Nat) : Field := ⟨0x80240 + i * 0x4, 16, 16, .cfg, 0x03E8, .second, (some (.out i))⟩
/-- [0] CMD: Commit group OUTn. -/
def R.OUT.CH_CTL.COMMIT (i : Nat) : Field := ⟨0x80280 + i * 0x4, 0, 1, .cmd, 0, .second, none⟩
/-- [1] CMD: Set cause SOFT (R193). -/
def R.OUT.CH_CTL.MUTE (i : Nat) : Field := ⟨0x80280 + i * 0x4, 1, 1, .cmd, 0, .immediate, none⟩
/-- [2] CMD: Clear cause SOFT. -/
def R.OUT.CH_CTL.UNMUTE (i : Nat) : Field := ⟨0x80280 + i * 0x4, 2, 1, .cmd, 0, .immediate, none⟩
/-- [1:0] STAT: R194. -/
def R.OUT.STAT.ALIGN_STATE (i : Nat) : Field := ⟨0x802C0 + i * 0x4, 0, 2, .stat, 0b00, .immediate, none⟩
/-- [2] STAT: Driver active. -/
def R.OUT.STAT.DRIVING (i : Nat) : Field := ⟨0x802C0 + i * 0x4, 2, 1, .stat, 0, .immediate, none⟩
/-- [3] STAT: R197. -/
def R.OUT.STAT.NEED_ALIGN (i : Nat) : Field := ⟨0x802C0 + i * 0x4, 3, 1, .stat, 0, .immediate, none⟩
/-- [8:4] STAT: Mute causes (R193). -/
def R.OUT.STAT.MUTE (i : Nat) : Field := ⟨0x802C0 + i * 0x4, 4, 5, .stat, 0b00000, .immediate, none⟩
/-- [9] STAT: Realign waits for LOCKED (R196). -/
def R.OUT.STAT.ALIGN_WAIT (i : Nat) : Field := ⟨0x802C0 + i * 0x4, 9, 1, .stat, 0, .immediate, none⟩
/-- [10] STAT: Calibration suspended (R202). -/
def R.OUT.STAT.CAL_HOLD (i : Nat) : Field := ⟨0x802C0 + i * 0x4, 10, 1, .stat, 0, .immediate, none⟩
/-- [11] STAT: Trim moving (R192). -/
def R.OUT.STAT.TRIM_SLEWING (i : Nat) : Field := ⟨0x802C0 + i * 0x4, 11, 1, .stat, 0, .immediate, none⟩
/-- [31:0] STAT: Latest measured error, signed ps, saturating. -/
def R.OUT.OFFSET.PS (i : Nat) : Field := ⟨0x80300 + i * 0x4, 0, 32, .stat, 0, .immediate, none⟩
/-- [19:0] STAT: Applied correction, signed ps. -/
def R.OUT.CALADJ.PS (i : Nat) : Field := ⟨0x80340 + i * 0x4, 0, 20, .stat, 0x00000, .immediate, none⟩
/-- [31:0] CNT: Alignments completed. -/
def R.OUT.ALIGN_CNT.COUNT (i : Nat) : Field := ⟨0x80380 + i * 0x4, 0, 32, .cnt, 0, .immediate, none⟩
/-- [0] CFG: Code output enabled. -/
def R.OUT.IRIG.CFG.EN (i : Nat) : Field := ⟨0x80400 + i * 0x10, 0, 1, .cfg, 0, .second, none⟩
/-- [2:1] CFG: 0b00 B002, 0b01 B003, 0b10 B006, 0b11 B007. -/
def R.OUT.IRIG.CFG.CODE (i : Nat) : Field := ⟨0x80400 + i * 0x10, 1, 2, .cfg, 0b10, .second, none⟩
/-- [3] CFG: IEEE C37.118 extension (R205). -/
def R.OUT.IRIG.CFG.EXT (i : Nat) : Field := ⟨0x80400 + i * 0x10, 3, 1, .cfg, 1, .second, none⟩
/-- [9:4] CFG: Local offset, signed half-hours, −31 to +31; −32 rejected. -/
def R.OUT.IRIG.CFG.OFFSET (i : Nat) : Field := ⟨0x80400 + i * 0x10, 4, 6, .cfg, 0b000000, .second, none⟩
/-- [10] CFG: Send while UNSET (R206). -/
def R.OUT.IRIG.CFG.UNSET_EN (i : Nat) : Field := ⟨0x80400 + i * 0x10, 10, 1, .cfg, 0, .second, none⟩
/-- [31:0] CNT: Frames sent. -/
def R.OUT.IRIG.FRAMES.COUNT (i : Nat) : Field := ⟨0x80404 + i * 0x10, 0, 32, .cnt, 0, .immediate, none⟩
/-- [15:0] CNT: Frames abandoned. -/
def R.OUT.IRIG.CUT_CNT.COUNT (i : Nat) : Field := ⟨0x80408 + i * 0x10, 0, 16, .cnt, 0, .immediate, none⟩
/-- [0] CFG: Messages enabled. -/
def R.OUT.TOD.CFG.EN (i : Nat) : Field := ⟨0x80440 + i * 0x10, 0, 1, .cfg, 0, .second, none⟩
/-- [2:1] CFG: 0b00 ZDA, 0b01 ZDA and PSKWE, 0b10 binary; 0b11 rejected. -/
def R.OUT.TOD.CFG.FORMAT (i : Nat) : Field := ⟨0x80440 + i * 0x10, 1, 2, .cfg, 0b00, .second, none⟩
/-- [3] CFG: 0: labels this second; 1: next (R207). -/
def R.OUT.TOD.CFG.ALIGN (i : Nat) : Field := ⟨0x80440 + i * 0x10, 3, 1, .cfg, 0, .second, none⟩
/-- [7:4] CFG: Rate code. -/
def R.OUT.TOD.CFG.BAUD (i : Nat) : Field := ⟨0x80440 + i * 0x10, 4, 4, .cfg, 0x4, .second, none⟩
/-- [17:8] CFG: Start after on-time, ms; 100 at reset. -/
def R.OUT.TOD.CFG.START_MS (i : Nat) : Field := ⟨0x80440 + i * 0x10, 8, 10, .cfg, 0x064, .second, none⟩
/-- [18] CFG: Send while UNSET. -/
def R.OUT.TOD.CFG.UNSET_EN (i : Nat) : Field := ⟨0x80440 + i * 0x10, 18, 1, .cfg, 0, .second, none⟩
/-- [31:0] CNT: Messages sent. -/
def R.OUT.TOD.MSG_CNT.COUNT (i : Nat) : Field := ⟨0x80444 + i * 0x10, 0, 32, .cnt, 0, .immediate, none⟩
/-- [15:0] LIVE: START, TIME96 [15:0]. -/
def R.OUT.TEV.START_FRAC.FRAC (i : Nat) : Field := ⟨0x80800 + i * 0x20, 0, 16, .live, 0x0000, .immediate, none⟩
/-- [29:0] LIVE: START, nanoseconds. -/
def R.OUT.TEV.START_NS.NS (i : Nat) : Field := ⟨0x80804 + i * 0x20, 0, 30, .live, 0, .immediate, none⟩
/-- [31:0] LIVE: START, seconds [31:0]. -/
def R.OUT.TEV.START_SEC_LO.SEC (i : Nat) : Field := ⟨0x80808 + i * 0x20, 0, 32, .live, 0, .immediate, none⟩
/-- [15:0] LIVE: START, seconds [47:32]. -/
def R.OUT.TEV.START_SEC_HI.SEC (i : Nat) : Field := ⟨0x8080C + i * 0x20, 0, 16, .live, 0x0000, .immediate, none⟩
/-- [31:0] LIVE: PERIOD, whole ns. -/
def R.OUT.TEV.PERIOD_NS.NS (i : Nat) : Field := ⟨0x80810 + i * 0x20, 0, 32, .live, 0, .immediate, none⟩
/-- [15:0] LIVE: PERIOD, 2^-16 ns. -/
def R.OUT.TEV.PERIOD_FRAC.FRAC (i : Nat) : Field := ⟨0x80814 + i * 0x20, 0, 16, .live, 0x0000, .immediate, none⟩
/-- [15:0] LIVE: Edges; 0 unlimited. -/
def R.OUT.TEV.CFG.COUNT (i : Nat) : Field := ⟨0x80818 + i * 0x20, 0, 16, .live, 0x0001, .immediate, none⟩
/-- [16] LIVE: 0 rising active edge, 1 falling. -/
def R.OUT.TEV.CFG.POL (i : Nat) : Field := ⟨0x80818 + i * 0x20, 16, 1, .live, 0, .immediate, none⟩
/-- [31:20] LIVE: Pulse width, 8 ns units, 1–4,095. -/
def R.OUT.TEV.CFG.WIDTH (i : Nat) : Field := ⟨0x80818 + i * 0x20, 20, 12, .live, 0x001, .immediate, none⟩
/-- [31:0] CNT: Edges driven (R214). -/
def R.OUT.TEV.FIRED.COUNT (i : Nat) : Field := ⟨0x8081C + i * 0x20, 0, 32, .cnt, 0, .immediate, none⟩

/-- The OUT fields, part 1. -/
def R.OUT.table1 : List RegRow :=
  [⟨1, 0, 1, 0, fun _ _ => R.OUT.CTL.REALIGN⟩,
   ⟨1, 0, 1, 0, fun _ _ => R.OUT.SUM.DRIVING⟩,
   ⟨1, 0, 1, 0, fun _ _ => R.OUT.SUM.NEED_ALIGN⟩,
   ⟨1, 0, 1, 0, fun _ _ => R.OUT.EVT.ALIGNED⟩,
   ⟨1, 0, 1, 0, fun _ _ => R.OUT.EVT.NEED_ALIGN⟩,
   ⟨1, 0, 1, 0, fun _ _ => R.OUT.EVT.CAL_LIMIT⟩,
   ⟨1, 0, 1, 0, fun _ _ => R.OUT.EVT.TEV_LATE⟩,
   ⟨1, 0, 1, 0, fun _ _ => R.OUT.EVT.TEV_MISSED⟩,
   ⟨1, 0, 1, 0, fun _ _ => R.OUT.EVT.TIMECODE_CUT⟩,
   ⟨1, 0, 1, 0, fun _ _ => R.OUT.EVT.CFG_REJECTED⟩,
   ⟨1, 0, 1, 0, fun _ _ => R.OUT.INT_EN.EN⟩,
   ⟨1, 0, 1, 0, fun _ _ => R.OUT.TEV_CTL.ARM⟩,
   ⟨1, 0, 1, 0, fun _ _ => R.OUT.TEV_CTL.DISARM⟩,
   ⟨1, 0, 1, 0, fun _ _ => R.OUT.TEV_STAT.ARMED⟩,
   ⟨1, 0, 1, 0, fun _ _ => R.OUT.TEV_MISS_CNT.COUNT⟩,
   ⟨16, 0x4, 1, 0, fun i _ => R.OUT.CFG.EN i⟩,
   ⟨16, 0x4, 1, 0, fun i _ => R.OUT.CFG.SRC i⟩,
   ⟨16, 0x4, 1, 0, fun i _ => R.OUT.CFG.IO i⟩,
   ⟨16, 0x4, 1, 0, fun i _ => R.OUT.CFG.MODE i⟩,
   ⟨16, 0x4, 1, 0, fun i _ => R.OUT.CFG.POL i⟩,
   ⟨16, 0x4, 1, 0, fun i _ => R.OUT.CFG.REQ_ALIGN i⟩,
   ⟨16, 0x4, 1, 0, fun i _ => R.OUT.CFG.AUTO_STEP i⟩,
   ⟨16, 0x4, 1, 0, fun i _ => R.OUT.DIV.VALUE i⟩,
   ⟨16, 0x4, 1, 0, fun i _ => R.OUT.WIDTH.CYCLES i⟩,
   ⟨16, 0x4, 1, 0, fun i _ => R.OUT.TRIM.PS i⟩,
   ⟨16, 0x4, 1, 0, fun i _ => R.OUT.TRIM.SLEW i⟩,
   ⟨16, 0x4, 1, 0, fun i _ => R.OUT.ALIGN.MOD i⟩,
   ⟨16, 0x4, 1, 0, fun i _ => R.OUT.CAL.EN i⟩,
   ⟨16, 0x4, 1, 0, fun i _ => R.OUT.CAL.AVG i⟩,
   ⟨16, 0x4, 1, 0, fun i _ => R.OUT.CAL.STEP_MAX i⟩,
   ⟨16, 0x4, 1, 0, fun i _ => R.OUT.CAL.LIMIT i⟩,
   ⟨16, 0x4, 1, 0, fun i _ => R.OUT.CH_CTL.COMMIT i⟩,
   ⟨16, 0x4, 1, 0, fun i _ => R.OUT.CH_CTL.MUTE i⟩,
   ⟨16, 0x4, 1, 0, fun i _ => R.OUT.CH_CTL.UNMUTE i⟩,
   ⟨16, 0x4, 1, 0, fun i _ => R.OUT.STAT.ALIGN_STATE i⟩,
   ⟨16, 0x4, 1, 0, fun i _ => R.OUT.STAT.DRIVING i⟩,
   ⟨16, 0x4, 1, 0, fun i _ => R.OUT.STAT.NEED_ALIGN i⟩,
   ⟨16, 0x4, 1, 0, fun i _ => R.OUT.STAT.MUTE i⟩,
   ⟨16, 0x4, 1, 0, fun i _ => R.OUT.STAT.ALIGN_WAIT i⟩,
   ⟨16, 0x4, 1, 0, fun i _ => R.OUT.STAT.CAL_HOLD i⟩]
/-- The OUT fields, part 2. -/
def R.OUT.table2 : List RegRow :=
  [⟨16, 0x4, 1, 0, fun i _ => R.OUT.STAT.TRIM_SLEWING i⟩,
   ⟨16, 0x4, 1, 0, fun i _ => R.OUT.OFFSET.PS i⟩,
   ⟨16, 0x4, 1, 0, fun i _ => R.OUT.CALADJ.PS i⟩,
   ⟨16, 0x4, 1, 0, fun i _ => R.OUT.ALIGN_CNT.COUNT i⟩,
   ⟨2, 0x10, 1, 0, fun i _ => R.OUT.IRIG.CFG.EN i⟩,
   ⟨2, 0x10, 1, 0, fun i _ => R.OUT.IRIG.CFG.CODE i⟩,
   ⟨2, 0x10, 1, 0, fun i _ => R.OUT.IRIG.CFG.EXT i⟩,
   ⟨2, 0x10, 1, 0, fun i _ => R.OUT.IRIG.CFG.OFFSET i⟩,
   ⟨2, 0x10, 1, 0, fun i _ => R.OUT.IRIG.CFG.UNSET_EN i⟩,
   ⟨2, 0x10, 1, 0, fun i _ => R.OUT.IRIG.FRAMES.COUNT i⟩,
   ⟨2, 0x10, 1, 0, fun i _ => R.OUT.IRIG.CUT_CNT.COUNT i⟩,
   ⟨2, 0x10, 1, 0, fun i _ => R.OUT.TOD.CFG.EN i⟩,
   ⟨2, 0x10, 1, 0, fun i _ => R.OUT.TOD.CFG.FORMAT i⟩,
   ⟨2, 0x10, 1, 0, fun i _ => R.OUT.TOD.CFG.ALIGN i⟩,
   ⟨2, 0x10, 1, 0, fun i _ => R.OUT.TOD.CFG.BAUD i⟩,
   ⟨2, 0x10, 1, 0, fun i _ => R.OUT.TOD.CFG.START_MS i⟩,
   ⟨2, 0x10, 1, 0, fun i _ => R.OUT.TOD.CFG.UNSET_EN i⟩,
   ⟨2, 0x10, 1, 0, fun i _ => R.OUT.TOD.MSG_CNT.COUNT i⟩,
   ⟨16, 0x20, 1, 0, fun i _ => R.OUT.TEV.START_FRAC.FRAC i⟩,
   ⟨16, 0x20, 1, 0, fun i _ => R.OUT.TEV.START_NS.NS i⟩,
   ⟨16, 0x20, 1, 0, fun i _ => R.OUT.TEV.START_SEC_LO.SEC i⟩,
   ⟨16, 0x20, 1, 0, fun i _ => R.OUT.TEV.START_SEC_HI.SEC i⟩,
   ⟨16, 0x20, 1, 0, fun i _ => R.OUT.TEV.PERIOD_NS.NS i⟩,
   ⟨16, 0x20, 1, 0, fun i _ => R.OUT.TEV.PERIOD_FRAC.FRAC i⟩,
   ⟨16, 0x20, 1, 0, fun i _ => R.OUT.TEV.CFG.COUNT i⟩,
   ⟨16, 0x20, 1, 0, fun i _ => R.OUT.TEV.CFG.POL i⟩,
   ⟨16, 0x20, 1, 0, fun i _ => R.OUT.TEV.CFG.WIDTH i⟩,
   ⟨16, 0x20, 1, 0, fun i _ => R.OUT.TEV.FIRED.COUNT i⟩]

/-- Every field the OUT block implements. -/
def R.OUT.table : List RegRow := R.OUT.table1 ++ R.OUT.table2

/-! ### TDC: 07_interval_measurement.md, R237 -/

/-- [0] CMD: Commit group TB; the TDC re-enters NOTBASE. -/
def R.TDC.CTL.TB_COMMIT : Field := ⟨0x90000, 0, 1, .cmd, 0, .second, none⟩
/-- [1:0] STAT: State (R220). -/
def R.TDC.STAT.STATE : Field := ⟨0x90004, 0, 2, .stat, 0b00, .immediate, none⟩
/-- [2] STAT: TBASE present (R221). -/
def R.TDC.STAT.TBASE_PRESENT : Field := ⟨0x90004, 2, 1, .stat, 0, .immediate, none⟩
/-- [3] STAT: Every channel exchanged since READY (R223). -/
def R.TDC.STAT.CAL_COMPLETE : Field := ⟨0x90004, 3, 1, .stat, 0, .immediate, none⟩
/-- [4] STAT: Hearth tie ratio out of range (R228). -/
def R.TDC.STAT.RATIO_FAIL : Field := ⟨0x90004, 4, 1, .stat, 0, .immediate, none⟩
/-- [13:8] STAT: Interpolator now spare, 0–32. -/
def R.TDC.STAT.SPARE : Field := ⟨0x90004, 8, 6, .stat, 0x20, .immediate, none⟩
/-- [21:16] STAT: Retired interpolator; 0x3F none (R227). -/
def R.TDC.STAT.RETIRED : Field := ⟨0x90004, 16, 6, .stat, 0x3F, .immediate, none⟩
/-- [0] RC: TBASE lost. -/
def R.TDC.EVT.TBASE_LOSS : Field := ⟨0x90008, 0, 1, .rc, 0, .immediate, none⟩
/-- [1] RC: READY entered after a loss. -/
def R.TDC.EVT.TBASE_RETURN : Field := ⟨0x90008, 1, 1, .rc, 0, .immediate, none⟩
/-- [2] RC: READY entered. -/
def R.TDC.EVT.READY : Field := ⟨0x90008, 2, 1, .rc, 0, .immediate, none⟩
/-- [3] RC: Interpolator retired. -/
def R.TDC.EVT.CAL_BAD : Field := ⟨0x90008, 3, 1, .rc, 0, .immediate, none⟩
/-- [4] RC: Exchange difference above 10 ps (R226). -/
def R.TDC.EVT.CAL_MISMATCH : Field := ⟨0x90008, 4, 1, .rc, 0, .immediate, none⟩
/-- [5] RC: A result queue overflowed. -/
def R.TDC.EVT.OVERFLOW : Field := ⟨0x90008, 5, 1, .rc, 0, .immediate, none⟩
/-- [6] RC: An interval timed out. -/
def R.TDC.EVT.TIMEOUT : Field := ⟨0x90008, 6, 1, .rc, 0, .immediate, none⟩
/-- [7] RC: A channel changed owner (R218). -/
def R.TDC.EVT.OWNER_CHANGE : Field := ⟨0x90008, 7, 1, .rc, 0, .immediate, none⟩
/-- [8] RC: Commit rejected. -/
def R.TDC.EVT.CFG_REJECTED : Field := ⟨0x90008, 8, 1, .rc, 0, .immediate, none⟩
/-- [8:0] LIVE: Interrupt enable per EVT bit. -/
def R.TDC.INT_EN.EN : Field := ⟨0x9000C, 0, 9, .live, 0x000, .immediate, none⟩
/-- [26:0] CFG: Nominal TBASE, Hz; 10 MHz at reset. -/
def R.TDC.TBASE.NOM : Field := ⟨0x90010, 0, 27, .cfg, 0x0989680, .second, (some .tdcTb)⟩
/-- [1:0] CFG: 0b00 differential, 0b01 single-ended. -/
def R.TDC.TBASE_CFG.IO : Field := ⟨0x90014, 0, 2, .cfg, 0b00, .second, (some .tdcTb)⟩
/-- [2] CFG: Internal 100 Ω termination. -/
def R.TDC.TBASE_CFG.TERM : Field := ⟨0x90014, 2, 1, .cfg, 0, .second, (some .tdcTb)⟩
/-- [31:0] STAT: TBASE frequency from the presence window. -/
def R.TDC.TBASE_MEAS.HZ : Field := ⟨0x90018, 0, 32, .stat, 0, .immediate, none⟩
/-- [0] LIVE: Calibration and exchanges enabled (R225). -/
def R.TDC.CAL.EN : Field := ⟨0x9001C, 0, 1, .live, 1, .immediate, none⟩
/-- [12:8] LIVE: log2 of hits per calibration, 16–24; applied at the next calibration. -/
def R.TDC.CAL.HITS : Field := ⟨0x9001C, 8, 5, .live, 0x14, .immediate, none⟩
/-- [5:0] STAT: Interpolator last calibrated. -/
def R.TDC.CAL_STAT.LAST : Field := ⟨0x90020, 0, 6, .stat, 0x00, .immediate, none⟩
/-- [15:8] STAT: Narrowest tap, 0.25 ps. -/
def R.TDC.CAL_STAT.WMIN : Field := ⟨0x90020, 8, 8, .stat, 0x00, .immediate, none⟩
/-- [23:16] STAT: Widest tap, 0.25 ps. -/
def R.TDC.CAL_STAT.WMAX : Field := ⟨0x90020, 16, 8, .stat, 0x00, .immediate, none⟩
/-- [31:0] CNT: Rotations completed. -/
def R.TDC.CAL_ROT_CNT.COUNT : Field := ⟨0x90024, 0, 32, .cnt, 0, .immediate, none⟩
/-- [15:0] STAT: Largest difference in the last overlap, ps. -/
def R.TDC.SWAP_DIFF.PS : Field := ⟨0x90028, 0, 16, .stat, 0x0000, .immediate, none⟩
/-- [15:0] CNT: TBASE losses. -/
def R.TDC.LOSS_CNT.COUNT : Field := ⟨0x9002C, 0, 16, .cnt, 0, .immediate, none⟩
/-- [0] CMD: Commit group CHn. -/
def R.TDC.CH.CTL.COMMIT (i : Nat) : Field := ⟨0x90100 + i * 0x40, 0, 1, .cmd, 0, .second, none⟩
/-- [1] CMD: Empty the result queue (R235). -/
def R.TDC.CH.CTL.FLUSH (i : Nat) : Field := ⟨0x90100 + i * 0x40, 1, 1, .cmd, 0, .immediate, none⟩
/-- [0] CFG: Channel enabled. -/
def R.TDC.CH.CFG.EN (i : Nat) : Field := ⟨0x90104 + i * 0x40, 0, 1, .cfg, 0, .second, (some (.tdcCh i))⟩
/-- [2:1] CFG: R231. -/
def R.TDC.CH.CFG.MODE (i : Nat) : Field := ⟨0x90104 + i * 0x40, 1, 2, .cfg, 0b00, .second, (some (.tdcCh i))⟩
/-- [3] CFG: Channels 8–23: 0 rising, 1 falling. -/
def R.TDC.CH.CFG.POL (i : Nat) : Field := ⟨0x90104 + i * 0x40, 3, 1, .cfg, 0, .second, (some (.tdcCh i))⟩
/-- [8:4] CFG: Stop channel (R232). -/
def R.TDC.CH.CFG.STOP_CH (i : Nat) : Field := ⟨0x90104 + i * 0x40, 4, 5, .cfg, 0x00, .second, (some (.tdcCh i))⟩
/-- [9] CFG: 0 TDC base; 1 timescale. -/
def R.TDC.CH.CFG.BASE (i : Nat) : Field := ⟨0x90104 + i * 0x40, 9, 1, .cfg, 0, .second, (some (.tdcCh i))⟩
/-- [10] CFG: Queue copies of owned results (R217). -/
def R.TDC.CH.CFG.SPY (i : Nat) : Field := ⟨0x90104 + i * 0x40, 10, 1, .cfg, 0, .second, (some (.tdcCh i))⟩
/-- [23:0] CFG: Edge divider; 0 rejected. -/
def R.TDC.CH.DIV.DIV (i : Nat) : Field := ⟨0x90108 + i * 0x40, 0, 24, .cfg, 0x000001, .second, (some (.tdcCh i))⟩
/-- [27:0] CFG: Interval timeout, 4 ns units; 1 s at reset; below 250 rejected. -/
def R.TDC.CH.TIMEOUT.T (i : Nat) : Field := ⟨0x9010C + i * 0x40, 0, 28, .cfg, 0xEE6B280, .second, (some (.tdcCh i))⟩
/-- [15:0] CFG: Signed trim, ps. -/
def R.TDC.CH.SKEW.PS (i : Nat) : Field := ⟨0x90110 + i * 0x40, 0, 16, .cfg, 0x0000, .second, (some (.tdcCh i))⟩
/-- [2:0] STAT: 0b000 HOST, 0b001 REF, 0b010 OUT, 0b011 RED, 0b100 SMP, 0b101 LTS. -/
def R.TDC.CH.STAT.OWNER (i : Nat) : Field := ⟨0x90114 + i * 0x40, 0, 3, .stat, (Reset.tdcOwner i), .immediate, none⟩
/-- [3] STAT: Interval open. -/
def R.TDC.CH.STAT.OPEN (i : Nat) : Field := ⟨0x90114 + i * 0x40, 3, 1, .stat, 0, .immediate, none⟩
/-- [4] STAT: Not exchanged since READY (R223). -/
def R.TDC.CH.STAT.STALE (i : Nat) : Field := ⟨0x90114 + i * 0x40, 4, 1, .stat, 1, .immediate, none⟩
/-- [12:8] STAT: Records queued, 0–16. -/
def R.TDC.CH.STAT.ENTRIES (i : Nat) : Field := ⟨0x90114 + i * 0x40, 8, 5, .stat, 0x00, .immediate, none⟩
/-- [0] STAT: A record was popped; the read pops (R235). -/
def R.TDC.CH.RES0.VALID (i : Nat) : Field := ⟨0x90118 + i * 0x40, 0, 1, .stat, 0, .immediate, none⟩
/-- [1] STAT: 0 timestamp, 1 interval. -/
def R.TDC.CH.RES0.KIND (i : Nat) : Field := ⟨0x90118 + i * 0x40, 1, 1, .stat, 0, .immediate, none⟩
/-- [2] STAT: Interval timed out (R233). -/
def R.TDC.CH.RES0.TIMEOUT (i : Nat) : Field := ⟨0x90118 + i * 0x40, 2, 1, .stat, 0, .immediate, none⟩
/-- [3] STAT: Taken before exchange since READY. -/
def R.TDC.CH.RES0.STALE (i : Nat) : Field := ⟨0x90118 + i * 0x40, 3, 1, .stat, 0, .immediate, none⟩
/-- [4] STAT: Records discarded before this one. -/
def R.TDC.CH.RES0.LOST (i : Nat) : Field := ⟨0x90118 + i * 0x40, 4, 1, .stat, 0, .immediate, none⟩
/-- [5] STAT: Interval aborted (R218, R222). -/
def R.TDC.CH.RES0.ABORT (i : Nat) : Field := ⟨0x90118 + i * 0x40, 5, 1, .stat, 0, .immediate, none⟩
/-- [6] STAT: Step removed from interval (R232). -/
def R.TDC.CH.RES0.STEPPED (i : Nat) : Field := ⟨0x90118 + i * 0x40, 6, 1, .stat, 0, .immediate, none⟩
/-- [7] STAT: TDC-base stamp only (R230). -/
def R.TDC.CH.RES0.NOTIME (i : Nat) : Field := ⟨0x90118 + i * 0x40, 7, 1, .stat, 0, .immediate, none⟩
/-- [31:16] STAT: Timestamp fraction. -/
def R.TDC.CH.RES0.FRAC (i : Nat) : Field := ⟨0x90118 + i * 0x40, 16, 16, .stat, 0x0000, .immediate, none⟩
/-- [31:0] STAT: Nanoseconds, or result ps [31:0]. -/
def R.TDC.CH.RES1.DATA (i : Nat) : Field := ⟨0x9011C + i * 0x40, 0, 32, .stat, 0, .immediate, none⟩
/-- [31:0] STAT: Seconds [31:0], or result ps [39:32]. -/
def R.TDC.CH.RES2.DATA (i : Nat) : Field := ⟨0x90120 + i * 0x40, 0, 32, .stat, 0, .immediate, none⟩
/-- [15:0] STAT: Seconds [47:32]. -/
def R.TDC.CH.RES3.DATA (i : Nat) : Field := ⟨0x90124 + i * 0x40, 0, 16, .stat, 0x0000, .immediate, none⟩
/-- [31:0] CNT: Stamps taken. -/
def R.TDC.CH.EDGE_CNT.COUNT (i : Nat) : Field := ⟨0x90128 + i * 0x40, 0, 32, .cnt, 0, .immediate, none⟩
/-- [31:0] CNT: Edges not stamped or starts ignored. -/
def R.TDC.CH.DEAD_CNT.COUNT (i : Nat) : Field := ⟨0x9012C + i * 0x40, 0, 32, .cnt, 0, .immediate, none⟩
/-- [31:0] CNT: Records discarded. -/
def R.TDC.CH.OVF_CNT.COUNT (i : Nat) : Field := ⟨0x90130 + i * 0x40, 0, 32, .cnt, 0, .immediate, none⟩
/-- [31:0] CNT: Intervals timed out. -/
def R.TDC.CH.TIMEOUT_CNT.COUNT (i : Nat) : Field := ⟨0x90134 + i * 0x40, 0, 32, .cnt, 0, .immediate, none⟩
/-- [15:0] STAT: Seconds since calibration, saturating. -/
def R.TDC.CH.CAL_AGE.SECS (i : Nat) : Field := ⟨0x90138 + i * 0x40, 0, 16, .stat, 0x0000, .immediate, none⟩

/-- The TDC fields, part 1. -/
def R.TDC.table1 : List RegRow :=
  [⟨1, 0, 1, 0, fun _ _ => R.TDC.CTL.TB_COMMIT⟩,
   ⟨1, 0, 1, 0, fun _ _ => R.TDC.STAT.STATE⟩,
   ⟨1, 0, 1, 0, fun _ _ => R.TDC.STAT.TBASE_PRESENT⟩,
   ⟨1, 0, 1, 0, fun _ _ => R.TDC.STAT.CAL_COMPLETE⟩,
   ⟨1, 0, 1, 0, fun _ _ => R.TDC.STAT.RATIO_FAIL⟩,
   ⟨1, 0, 1, 0, fun _ _ => R.TDC.STAT.SPARE⟩,
   ⟨1, 0, 1, 0, fun _ _ => R.TDC.STAT.RETIRED⟩,
   ⟨1, 0, 1, 0, fun _ _ => R.TDC.EVT.TBASE_LOSS⟩,
   ⟨1, 0, 1, 0, fun _ _ => R.TDC.EVT.TBASE_RETURN⟩,
   ⟨1, 0, 1, 0, fun _ _ => R.TDC.EVT.READY⟩,
   ⟨1, 0, 1, 0, fun _ _ => R.TDC.EVT.CAL_BAD⟩,
   ⟨1, 0, 1, 0, fun _ _ => R.TDC.EVT.CAL_MISMATCH⟩,
   ⟨1, 0, 1, 0, fun _ _ => R.TDC.EVT.OVERFLOW⟩,
   ⟨1, 0, 1, 0, fun _ _ => R.TDC.EVT.TIMEOUT⟩,
   ⟨1, 0, 1, 0, fun _ _ => R.TDC.EVT.OWNER_CHANGE⟩,
   ⟨1, 0, 1, 0, fun _ _ => R.TDC.EVT.CFG_REJECTED⟩,
   ⟨1, 0, 1, 0, fun _ _ => R.TDC.INT_EN.EN⟩,
   ⟨1, 0, 1, 0, fun _ _ => R.TDC.TBASE.NOM⟩,
   ⟨1, 0, 1, 0, fun _ _ => R.TDC.TBASE_CFG.IO⟩,
   ⟨1, 0, 1, 0, fun _ _ => R.TDC.TBASE_CFG.TERM⟩,
   ⟨1, 0, 1, 0, fun _ _ => R.TDC.TBASE_MEAS.HZ⟩,
   ⟨1, 0, 1, 0, fun _ _ => R.TDC.CAL.EN⟩,
   ⟨1, 0, 1, 0, fun _ _ => R.TDC.CAL.HITS⟩,
   ⟨1, 0, 1, 0, fun _ _ => R.TDC.CAL_STAT.LAST⟩,
   ⟨1, 0, 1, 0, fun _ _ => R.TDC.CAL_STAT.WMIN⟩,
   ⟨1, 0, 1, 0, fun _ _ => R.TDC.CAL_STAT.WMAX⟩,
   ⟨1, 0, 1, 0, fun _ _ => R.TDC.CAL_ROT_CNT.COUNT⟩,
   ⟨1, 0, 1, 0, fun _ _ => R.TDC.SWAP_DIFF.PS⟩,
   ⟨1, 0, 1, 0, fun _ _ => R.TDC.LOSS_CNT.COUNT⟩,
   ⟨32, 0x40, 1, 0, fun i _ => R.TDC.CH.CTL.COMMIT i⟩,
   ⟨32, 0x40, 1, 0, fun i _ => R.TDC.CH.CTL.FLUSH i⟩,
   ⟨32, 0x40, 1, 0, fun i _ => R.TDC.CH.CFG.EN i⟩,
   ⟨32, 0x40, 1, 0, fun i _ => R.TDC.CH.CFG.MODE i⟩,
   ⟨32, 0x40, 1, 0, fun i _ => R.TDC.CH.CFG.POL i⟩,
   ⟨32, 0x40, 1, 0, fun i _ => R.TDC.CH.CFG.STOP_CH i⟩,
   ⟨32, 0x40, 1, 0, fun i _ => R.TDC.CH.CFG.BASE i⟩,
   ⟨32, 0x40, 1, 0, fun i _ => R.TDC.CH.CFG.SPY i⟩,
   ⟨32, 0x40, 1, 0, fun i _ => R.TDC.CH.DIV.DIV i⟩,
   ⟨32, 0x40, 1, 0, fun i _ => R.TDC.CH.TIMEOUT.T i⟩,
   ⟨32, 0x40, 1, 0, fun i _ => R.TDC.CH.SKEW.PS i⟩]
/-- The TDC fields, part 2. -/
def R.TDC.table2 : List RegRow :=
  [⟨32, 0x40, 1, 0, fun i _ => R.TDC.CH.STAT.OWNER i⟩,
   ⟨32, 0x40, 1, 0, fun i _ => R.TDC.CH.STAT.OPEN i⟩,
   ⟨32, 0x40, 1, 0, fun i _ => R.TDC.CH.STAT.STALE i⟩,
   ⟨32, 0x40, 1, 0, fun i _ => R.TDC.CH.STAT.ENTRIES i⟩,
   ⟨32, 0x40, 1, 0, fun i _ => R.TDC.CH.RES0.VALID i⟩,
   ⟨32, 0x40, 1, 0, fun i _ => R.TDC.CH.RES0.KIND i⟩,
   ⟨32, 0x40, 1, 0, fun i _ => R.TDC.CH.RES0.TIMEOUT i⟩,
   ⟨32, 0x40, 1, 0, fun i _ => R.TDC.CH.RES0.STALE i⟩,
   ⟨32, 0x40, 1, 0, fun i _ => R.TDC.CH.RES0.LOST i⟩,
   ⟨32, 0x40, 1, 0, fun i _ => R.TDC.CH.RES0.ABORT i⟩,
   ⟨32, 0x40, 1, 0, fun i _ => R.TDC.CH.RES0.STEPPED i⟩,
   ⟨32, 0x40, 1, 0, fun i _ => R.TDC.CH.RES0.NOTIME i⟩,
   ⟨32, 0x40, 1, 0, fun i _ => R.TDC.CH.RES0.FRAC i⟩,
   ⟨32, 0x40, 1, 0, fun i _ => R.TDC.CH.RES1.DATA i⟩,
   ⟨32, 0x40, 1, 0, fun i _ => R.TDC.CH.RES2.DATA i⟩,
   ⟨32, 0x40, 1, 0, fun i _ => R.TDC.CH.RES3.DATA i⟩,
   ⟨32, 0x40, 1, 0, fun i _ => R.TDC.CH.EDGE_CNT.COUNT i⟩,
   ⟨32, 0x40, 1, 0, fun i _ => R.TDC.CH.DEAD_CNT.COUNT i⟩,
   ⟨32, 0x40, 1, 0, fun i _ => R.TDC.CH.OVF_CNT.COUNT i⟩,
   ⟨32, 0x40, 1, 0, fun i _ => R.TDC.CH.TIMEOUT_CNT.COUNT i⟩,
   ⟨32, 0x40, 1, 0, fun i _ => R.TDC.CH.CAL_AGE.SECS i⟩]

/-- Every field the TDC block implements. -/
def R.TDC.table : List RegRow := R.TDC.table1 ++ R.TDC.table2

end Sys2Proof.Machine
end

