-- ==== Sys2Proof/Machine/RegsSystem.lean ====
section
/-! DEFINITION. The register fields of the sample ports, redundancy, flash, host, counters, memory and fault blocks.
One definition per field of the register tables (spec chapters, R12, R13): its address, lowest bit, width, access code,
reset value, boundary and commit group; an array field is a function of its index. After them each block's table of
fields, which the address decoder reads (R539, R540). -/

namespace Sys2Proof.Machine

/-! ### SMP: 15_sample_ports.md, R485 -/

/-- [3:0] CMD: Bit k: arm group k (R473). -/
def R.SMP.CTL.GRP_START : Field := ⟨0x300000, 0, 4, .cmd, 0x0, .immediate, none⟩
/-- [7:4] CMD: Bit k: stop group k (R476). -/
def R.SMP.CTL.GRP_STOP : Field := ⟨0x300000, 4, 4, .cmd, 0x0, .sampleFrame, none⟩
/-- [2:0] CFG: Port measured on TDC channel 26 (R482). -/
def R.SMP.CFG.LEAD0 : Field := ⟨0x300004, 0, 3, .cfg, 0b000, .second, none⟩
/-- [3] CFG: Lead 0 enabled. -/
def R.SMP.CFG.LEAD0_EN : Field := ⟨0x300004, 3, 1, .cfg, 0, .second, none⟩
/-- [6:4] CFG: Port measured on TDC channel 27. -/
def R.SMP.CFG.LEAD1 : Field := ⟨0x300004, 4, 3, .cfg, 0b001, .second, none⟩
/-- [7] CFG: Lead 1 enabled. -/
def R.SMP.CFG.LEAD1_EN : Field := ⟨0x300004, 7, 1, .cfg, 0, .second, none⟩
/-- [3:0] STAT: Bit k: group k armed. -/
def R.SMP.STAT.ARMED : Field := ⟨0x300008, 0, 4, .stat, 0x0, .immediate, none⟩
/-- [11:8] STAT: Last group failure: 0x0 none, 0x1 LATE, 0x2 PREROLL, 0x3 STEP, 0x4 MASTER, 0x5 NOTIME. -/
def R.SMP.STAT.FAIL_CAUSE : Field := ⟨0x300008, 8, 4, .stat, 0x0, .immediate, none⟩
/-- [16] STAT: Lead 0 statistics valid for the last second. -/
def R.SMP.STAT.PH_VALID0 : Field := ⟨0x300008, 16, 1, .stat, 0, .immediate, none⟩
/-- [17] STAT: Lead 1 statistics valid for the last second. -/
def R.SMP.STAT.PH_VALID1 : Field := ⟨0x300008, 17, 1, .stat, 0, .immediate, none⟩
/-- [0] RC: A group started. -/
def R.SMP.EVT.GRP_STARTED : Field := ⟨0x30000C, 0, 1, .rc, 0, .immediate, none⟩
/-- [1] RC: A group arm or start failed. -/
def R.SMP.EVT.GRP_FAIL : Field := ⟨0x30000C, 1, 1, .rc, 0, .immediate, none⟩
/-- [2] RC: Block write or commit rejected. -/
def R.SMP.EVT.CFG_REJECTED : Field := ⟨0x30000C, 2, 1, .rc, 0, .immediate, none⟩
/-- [2:0] LIVE: Interrupt enable per EVT bit. -/
def R.SMP.INT_EN.EN : Field := ⟨0x300010, 0, 3, .live, 0b000, .immediate, none⟩
/-- [15:0] LIVE: T_s, TIME96 [15:0]. -/
def R.SMP.GRP.START_FRAC.FRAC (i : Nat) : Field := ⟨0x300040 + i * 0x20, 0, 16, .live, 0x0000, .immediate, none⟩
/-- [29:0] LIVE: T_s, nanoseconds. -/
def R.SMP.GRP.START_NS.NS (i : Nat) : Field := ⟨0x300044 + i * 0x20, 0, 30, .live, 0, .immediate, none⟩
/-- [31:0] LIVE: T_s, seconds [31:0]. -/
def R.SMP.GRP.START_SEC_LO.SEC (i : Nat) : Field := ⟨0x300048 + i * 0x20, 0, 32, .live, 0, .immediate, none⟩
/-- [15:0] LIVE: T_s, seconds [47:32]. -/
def R.SMP.GRP.START_SEC_HI.SEC (i : Nat) : Field := ⟨0x30004C + i * 0x20, 0, 16, .live, 0x0000, .immediate, none⟩
/-- [2:0] LIVE: Master port (R474). -/
def R.SMP.GRP.CFG.MASTER (i : Nat) : Field := ⟨0x300050 + i * 0x20, 0, 3, .live, 0b000, .immediate, none⟩
/-- [15:0] STAT: Latest frame-edge stamp, TIME96 fields. -/
def R.SMP.LEAD.STAMP_FRAC.STAMP (i : Nat) : Field := ⟨0x3000C0 + i * 0x20, 0, 16, .stat, 0, .immediate, none⟩
/-- [29:0] STAT: Latest frame-edge stamp, TIME96 fields. -/
def R.SMP.LEAD.STAMP_NS.STAMP (i : Nat) : Field := ⟨0x3000C4 + i * 0x20, 0, 30, .stat, 0, .immediate, none⟩
/-- [31:0] STAT: Latest frame-edge stamp, TIME96 fields. -/
def R.SMP.LEAD.STAMP_SEC_LO.STAMP (i : Nat) : Field := ⟨0x3000C8 + i * 0x20, 0, 32, .stat, 0, .immediate, none⟩
/-- [15:0] STAT: Latest frame-edge stamp, TIME96 fields. -/
def R.SMP.LEAD.STAMP_SEC_HI.STAMP (i : Nat) : Field := ⟨0x3000CC + i * 0x20, 0, 16, .stat, 0, .immediate, none⟩
/-- [31:0] STAT: Latest PHASE, signed ps. -/
def R.SMP.LEAD.PHASE.PS (i : Nat) : Field := ⟨0x3000D0 + i * 0x20, 0, 32, .stat, 0, .immediate, none⟩
/-- [31:0] STAT: PHASE statistics of the last valid second, signed ps. -/
def R.SMP.LEAD.PH_MIN.PS (i : Nat) : Field := ⟨0x3000D4 + i * 0x20, 0, 32, .stat, 0, .immediate, none⟩
/-- [31:0] STAT: PHASE statistics of the last valid second, signed ps. -/
def R.SMP.LEAD.PH_MAX.PS (i : Nat) : Field := ⟨0x3000D8 + i * 0x20, 0, 32, .stat, 0, .immediate, none⟩
/-- [31:0] STAT: PHASE statistics of the last valid second, signed ps. -/
def R.SMP.LEAD.PH_MEAN.PS (i : Nat) : Field := ⟨0x3000DC + i * 0x20, 0, 32, .stat, 0, .immediate, none⟩
/-- [0] CMD: Commit group PORTn. -/
def R.SMP.PORT.CTL.COMMIT (i : Nat) : Field := ⟨0x300100 + i * 0x100, 0, 1, .cmd, 0, .second, none⟩
/-- [1] CMD: Ungrouped start (R471). -/
def R.SMP.PORT.CTL.START (i : Nat) : Field := ⟨0x300100 + i * 0x100, 1, 1, .cmd, 0, .immediate, none⟩
/-- [2] CMD: Stop (R470, R472). -/
def R.SMP.PORT.CTL.STOP (i : Nat) : Field := ⟨0x300100 + i * 0x100, 2, 1, .cmd, 0, .sampleFrame, none⟩
/-- [3] CMD: Commit group CSTXn at the next Z frame (R481). -/
def R.SMP.PORT.CTL.CS_COMMIT (i : Nat) : Field := ⟨0x300100 + i * 0x100, 3, 1, .cmd, 0, .sampleFrame, none⟩
/-- [0] CFG: Port enabled. -/
def R.SMP.PORT.CFG.EN (i : Nat) : Field := ⟨0x300104 + i * 0x100, 0, 1, .cfg, 0, .second, (some (.smpPort i))⟩
/-- [1] CFG: Drive SDO. -/
def R.SMP.PORT.CFG.TX_EN (i : Nat) : Field := ⟨0x300104 + i * 0x100, 1, 1, .cfg, 0, .second, (some (.smpPort i))⟩
/-- [2] CFG: Capture SDI. -/
def R.SMP.PORT.CFG.RX_EN (i : Nat) : Field := ⟨0x300104 + i * 0x100, 2, 1, .cfg, 0, .second, (some (.smpPort i))⟩
/-- [3] CFG: 0 two-channel, 1 AES3 (R466). -/
def R.SMP.PORT.CFG.MODE (i : Nat) : Field := ⟨0x300104 + i * 0x100, 3, 1, .cfg, 0, .second, (some (.smpPort i))⟩
/-- [4] CFG: 0 I2S, 1 left-justified (R467). -/
def R.SMP.PORT.CFG.JUST (i : Nat) : Field := ⟨0x300104 + i * 0x100, 4, 1, .cfg, 0, .second, (some (.smpPort i))⟩
/-- [5] CFG: Invert the frame edge. -/
def R.SMP.PORT.CFG.WS_INV (i : Nat) : Field := ⟨0x300104 + i * 0x100, 5, 1, .cfg, 0, .second, (some (.smpPort i))⟩
/-- [6] CFG: Exchange BCLK data edges. -/
def R.SMP.PORT.CFG.BCLK_INV (i : Nat) : Field := ⟨0x300104 + i * 0x100, 6, 1, .cfg, 0, .second, (some (.smpPort i))⟩
/-- [7] CFG: Resume from STALL (R470). -/
def R.SMP.PORT.CFG.AUTO_RESUME (i : Nat) : Field := ⟨0x300104 + i * 0x100, 7, 1, .cfg, 1, .second, (some (.smpPort i))⟩
/-- [9:8] CFG: Start group. -/
def R.SMP.PORT.CFG.GROUP (i : Nat) : Field := ⟨0x300104 + i * 0x100, 8, 2, .cfg, 0b00, .second, (some (.smpPort i))⟩
/-- [10] CFG: Member of GROUP. -/
def R.SMP.PORT.CFG.GROUP_EN (i : Nat) : Field := ⟨0x300104 + i * 0x100, 10, 1, .cfg, 0, .second, (some (.smpPort i))⟩
/-- [11] CFG: Generate CRCC on transmit (R481). -/
def R.SMP.PORT.CFG.CRC_GEN (i : Nat) : Field := ⟨0x300104 + i * 0x100, 11, 1, .cfg, 1, .second, (some (.smpPort i))⟩
/-- [5:0] CFG: Word length, 16–32. -/
def R.SMP.PORT.FMT.BITS (i : Nat) : Field := ⟨0x300108 + i * 0x100, 0, 6, .cfg, 0x18, .second, (some (.smpPort i))⟩
/-- [13:8] CFG: Slot length, BITS–32. -/
def R.SMP.PORT.FMT.SLOT (i : Nat) : Field := ⟨0x300108 + i * 0x100, 8, 6, .cfg, 0x20, .second, (some (.smpPort i))⟩
/-- [18:0] CFG: Nominal frame rate, Hz; 48,000 at reset. -/
def R.SMP.PORT.RATE.FS_NOM (i : Nat) : Field := ⟨0x30010C + i * 0x100, 0, 19, .cfg, 0x0BB80, .second, (some (.smpPort i))⟩
/-- [23:20] CFG: Out-of-rate frames that stall; 0 rejected. -/
def R.SMP.PORT.RATE.RATE_N (i : Nat) : Field := ⟨0x30010C + i * 0x100, 20, 4, .cfg, 0x2, .second, (some (.smpPort i))⟩
/-- [31:24] CFG: Rate tolerance, ppm; 50 at reset. -/
def R.SMP.PORT.RATE.TOL (i : Nat) : Field := ⟨0x30010C + i * 0x100, 24, 8, .cfg, 0x32, .second, (some (.smpPort i))⟩
/-- [15:0] CFG: Pre-roll frames, 1–65,535. -/
def R.SMP.PORT.ROLL.PREROLL (i : Nat) : Field := ⟨0x300110 + i * 0x100, 0, 16, .cfg, 0x0040, .second, (some (.smpPort i))⟩
/-- [31:16] CFG: Post-roll frames, 0–65,535. -/
def R.SMP.PORT.ROLL.POSTROLL (i : Nat) : Field := ⟨0x300110 + i * 0x100, 16, 16, .cfg, 0x0040, .second, (some (.smpPort i))⟩
/-- [1:0] CFG: Enabled slots (R478). -/
def R.SMP.PORT.MASK.SLOT_MASK (i : Nat) : Field := ⟨0x300114 + i * 0x100, 0, 2, .cfg, 0b11, .sampleFrame, none⟩
/-- [2:0] STAT: R470. -/
def R.SMP.PORT.STAT.STATE (i : Nat) : Field := ⟨0x300118 + i * 0x100, 0, 3, .stat, 0b000, .immediate, none⟩
/-- [3] STAT: Channels may be exchanged (R479). -/
def R.SMP.PORT.STAT.SWAP_RISK (i : Nat) : Field := ⟨0x300118 + i * 0x100, 3, 1, .stat, 0, .immediate, none⟩
/-- [4] STAT: R469. -/
def R.SMP.PORT.STAT.CLK_PRESENT (i : Nat) : Field := ⟨0x300118 + i * 0x100, 4, 1, .stat, 0, .immediate, none⟩
/-- [5] STAT: AES3 receiver locked (R468). -/
def R.SMP.PORT.STAT.AES_LOCK (i : Nat) : Field := ⟨0x300118 + i * 0x100, 5, 1, .stat, 0, .immediate, none⟩
/-- [6] STAT: START stamp from the TDC (R472). -/
def R.SMP.PORT.STAT.START_FINE (i : Nat) : Field := ⟨0x300118 + i * 0x100, 6, 1, .stat, 0, .immediate, none⟩
/-- [7] STAT: SDO driven (R483). -/
def R.SMP.PORT.STAT.SDO_DRIVEN (i : Nat) : Field := ⟨0x300118 + i * 0x100, 7, 1, .stat, 0, .immediate, none⟩
/-- [10:8] STAT: 0b000 none, 0b001 STOP, 0b010 RATE, 0b011 LOCK. -/
def R.SMP.PORT.STAT.STALL_CAUSE (i : Nat) : Field := ⟨0x300118 + i * 0x100, 8, 3, .stat, 0b000, .immediate, none⟩
/-- [0] RC: Frame 0 reached. -/
def R.SMP.PORT.EVT.STARTED (i : Nat) : Field := ⟨0x30011C + i * 0x100, 0, 1, .rc, 0, .immediate, none⟩
/-- [1] RC: Post-roll ended. -/
def R.SMP.PORT.EVT.STOPPED (i : Nat) : Field := ⟨0x30011C + i * 0x100, 1, 1, .rc, 0, .immediate, none⟩
/-- [2] RC: R479. -/
def R.SMP.PORT.EVT.UNDERRUN (i : Nat) : Field := ⟨0x30011C + i * 0x100, 2, 1, .rc, 0, .immediate, none⟩
/-- [3] RC: R479. -/
def R.SMP.PORT.EVT.OVERRUN (i : Nat) : Field := ⟨0x30011C + i * 0x100, 3, 1, .rc, 0, .immediate, none⟩
/-- [4] RC: STALL entered. -/
def R.SMP.PORT.EVT.STALL (i : Nat) : Field := ⟨0x30011C + i * 0x100, 4, 1, .rc, 0, .immediate, none⟩
/-- [5] RC: RUN re-entered from STALL. -/
def R.SMP.PORT.EVT.RESUMED (i : Nat) : Field := ⟨0x30011C + i * 0x100, 5, 1, .rc, 0, .immediate, none⟩
/-- [6] RC: Group start failed for this port (R474, R475). -/
def R.SMP.PORT.EVT.START_FAIL (i : Nat) : Field := ⟨0x30011C + i * 0x100, 6, 1, .rc, 0, .immediate, none⟩
/-- [7] RC: Channel status latched (R480). -/
def R.SMP.PORT.EVT.BLOCK (i : Nat) : Field := ⟨0x30011C + i * 0x100, 7, 1, .rc, 0, .immediate, none⟩
/-- [8] RC: Channel status changed. -/
def R.SMP.PORT.EVT.CS_CHANGE (i : Nat) : Field := ⟨0x30011C + i * 0x100, 8, 1, .rc, 0, .immediate, none⟩
/-- [9] RC: R469. -/
def R.SMP.PORT.EVT.FRAME_ERR (i : Nat) : Field := ⟨0x30011C + i * 0x100, 9, 1, .rc, 0, .immediate, none⟩
/-- [10] RC: Commit or command rejected. -/
def R.SMP.PORT.EVT.CFG_REJECTED (i : Nat) : Field := ⟨0x30011C + i * 0x100, 10, 1, .rc, 0, .immediate, none⟩
/-- [10:0] LIVE: Interrupt enable per EVT bit. -/
def R.SMP.PORT.INT_EN.EN (i : Nat) : Field := ⟨0x300120 + i * 0x100, 0, 11, .live, 0x000, .immediate, none⟩
/-- [31:12] CFG: Ring base [31:12]. -/
def R.SMP.PORT.TX_BASE_LO.ADDR (i : Nat) : Field := ⟨0x300124 + i * 0x100, 12, 20, .cfg, 0x00000, .second, (some (.smpPort i))⟩
/-- [1:0] CFG: Ring base [33:32]. -/
def R.SMP.PORT.TX_BASE_HI.ADDR (i : Nat) : Field := ⟨0x300128 + i * 0x100, 0, 2, .cfg, 0b00, .second, (some (.smpPort i))⟩
/-- [12:0] CFG: 4 KiB units, 1–4,096; 0 none. -/
def R.SMP.PORT.TX_SIZE.SIZE (i : Nat) : Field := ⟨0x30012C + i * 0x100, 0, 13, .cfg, 0x0000, .second, (some (.smpPort i))⟩
/-- [23:0] LIVE: Host-owned offsets, bytes (R477). -/
def R.SMP.PORT.TX_WR.PTR (i : Nat) : Field := ⟨0x300130 + i * 0x100, 0, 24, .live, 0, .immediate, none⟩
/-- [23:0] STAT: Port-owned offsets, bytes. -/
def R.SMP.PORT.TX_RD.PTR (i : Nat) : Field := ⟨0x300134 + i * 0x100, 0, 24, .stat, 0, .immediate, none⟩
/-- [31:12] CFG: Ring base [31:12]. -/
def R.SMP.PORT.RX_BASE_LO.ADDR (i : Nat) : Field := ⟨0x300138 + i * 0x100, 12, 20, .cfg, 0x00000, .second, (some (.smpPort i))⟩
/-- [1:0] CFG: Ring base [33:32]. -/
def R.SMP.PORT.RX_BASE_HI.ADDR (i : Nat) : Field := ⟨0x30013C + i * 0x100, 0, 2, .cfg, 0b00, .second, (some (.smpPort i))⟩
/-- [12:0] CFG: 4 KiB units, 1–4,096; 0 none. -/
def R.SMP.PORT.RX_SIZE.SIZE (i : Nat) : Field := ⟨0x300140 + i * 0x100, 0, 13, .cfg, 0x0000, .second, (some (.smpPort i))⟩
/-- [23:0] STAT: Port-owned offsets, bytes. -/
def R.SMP.PORT.RX_WR.PTR (i : Nat) : Field := ⟨0x300144 + i * 0x100, 0, 24, .stat, 0, .immediate, none⟩
/-- [23:0] LIVE: Host-owned offsets, bytes (R477). -/
def R.SMP.PORT.RX_RD.PTR (i : Nat) : Field := ⟨0x300148 + i * 0x100, 0, 24, .live, 0, .immediate, none⟩
/-- [31:0] CNT: Frames since frame 0, bits [31:0] and [63:32]. -/
def R.SMP.PORT.FRAMES_LO.COUNT (i : Nat) : Field := ⟨0x30014C + i * 0x100, 0, 32, .cnt, 0, .immediate, none⟩
/-- [31:0] CNT: Frames since frame 0, bits [31:0] and [63:32]. -/
def R.SMP.PORT.FRAMES_HI.COUNT (i : Nat) : Field := ⟨0x300150 + i * 0x100, 0, 32, .cnt, 0, .immediate, none⟩
/-- [31:0] STAT: Frame of the last mask change, bits [31:0]. -/
def R.SMP.PORT.MASK_FRAME.FRAME (i : Nat) : Field := ⟨0x300154 + i * 0x100, 0, 32, .stat, 0, .immediate, none⟩
/-- [15:0] STAT: Stamp of frame 0, TIME96 fields. -/
def R.SMP.PORT.START_FRAC.STAMP (i : Nat) : Field := ⟨0x300158 + i * 0x100, 0, 16, .stat, 0, .immediate, none⟩
/-- [29:0] STAT: Stamp of frame 0, TIME96 fields. -/
def R.SMP.PORT.START_NS.STAMP (i : Nat) : Field := ⟨0x30015C + i * 0x100, 0, 30, .stat, 0, .immediate, none⟩
/-- [31:0] STAT: Stamp of frame 0, TIME96 fields. -/
def R.SMP.PORT.START_SEC_LO.STAMP (i : Nat) : Field := ⟨0x300160 + i * 0x100, 0, 32, .stat, 0, .immediate, none⟩
/-- [15:0] STAT: Stamp of frame 0, TIME96 fields. -/
def R.SMP.PORT.START_SEC_HI.STAMP (i : Nat) : Field := ⟨0x300164 + i * 0x100, 0, 16, .stat, 0, .immediate, none⟩
/-- [31:0] CNT: R469, R479, R480. -/
def R.SMP.PORT.UNDERRUN_CNT.COUNT (i : Nat) : Field := ⟨0x300168 + i * 0x100, 0, 32, .cnt, 0, .immediate, none⟩
/-- [31:0] CNT: R469, R479, R480. -/
def R.SMP.PORT.OVERRUN_CNT.COUNT (i : Nat) : Field := ⟨0x30016C + i * 0x100, 0, 32, .cnt, 0, .immediate, none⟩
/-- [31:0] CNT: R469, R479, R480. -/
def R.SMP.PORT.FRAME_ERR_CNT.COUNT (i : Nat) : Field := ⟨0x300170 + i * 0x100, 0, 32, .cnt, 0, .immediate, none⟩
/-- [31:0] CNT: R469, R479, R480. -/
def R.SMP.PORT.STALL_CNT.COUNT (i : Nat) : Field := ⟨0x300174 + i * 0x100, 0, 32, .cnt, 0, .immediate, none⟩
/-- [31:0] CNT: R469, R479, R480. -/
def R.SMP.PORT.CS_ERR_CNT.COUNT (i : Nat) : Field := ⟨0x300178 + i * 0x100, 0, 32, .cnt, 0, .immediate, none⟩
/-- [31:0] STAT: i = 0–5: channel A bytes 4i to 4i + 3; i = 6–11: channel B; first byte in [31:24]. -/
def R.SMP.PORT.CS_RX.CS (i : Nat) (j : Nat) : Field := ⟨0x300180 + i * 0x100 + j * 0x4, 0, 32, .stat, 0, .immediate, none⟩
/-- [31:0] CFG: Transmit channel status, laid out as CS_RX. -/
def R.SMP.PORT.CS_TX.CS (i : Nat) (j : Nat) : Field := ⟨0x3001C0 + i * 0x100 + j * 0x4, 0, 32, .cfg, 0, .sampleFrame, (some (.smpCstx i))⟩
/-- [0] CFG: V bit of subframe 1. -/
def R.SMP.PORT.VTX.V_A (i : Nat) : Field := ⟨0x3001F0 + i * 0x100, 0, 1, .cfg, 0, .sampleFrame, (some (.smpCstx i))⟩
/-- [1] CFG: V bit of subframe 2. -/
def R.SMP.PORT.VTX.V_B (i : Nat) : Field := ⟨0x3001F0 + i * 0x100, 1, 1, .cfg, 0, .sampleFrame, (some (.smpCstx i))⟩

/-- The SMP fields, part 1. -/
def R.SMP.table1 : List RegRow :=
  [⟨1, 0, 1, 0, fun _ _ => R.SMP.CTL.GRP_START⟩,
   ⟨1, 0, 1, 0, fun _ _ => R.SMP.CTL.GRP_STOP⟩,
   ⟨1, 0, 1, 0, fun _ _ => R.SMP.CFG.LEAD0⟩,
   ⟨1, 0, 1, 0, fun _ _ => R.SMP.CFG.LEAD0_EN⟩,
   ⟨1, 0, 1, 0, fun _ _ => R.SMP.CFG.LEAD1⟩,
   ⟨1, 0, 1, 0, fun _ _ => R.SMP.CFG.LEAD1_EN⟩,
   ⟨1, 0, 1, 0, fun _ _ => R.SMP.STAT.ARMED⟩,
   ⟨1, 0, 1, 0, fun _ _ => R.SMP.STAT.FAIL_CAUSE⟩,
   ⟨1, 0, 1, 0, fun _ _ => R.SMP.STAT.PH_VALID0⟩,
   ⟨1, 0, 1, 0, fun _ _ => R.SMP.STAT.PH_VALID1⟩,
   ⟨1, 0, 1, 0, fun _ _ => R.SMP.EVT.GRP_STARTED⟩,
   ⟨1, 0, 1, 0, fun _ _ => R.SMP.EVT.GRP_FAIL⟩,
   ⟨1, 0, 1, 0, fun _ _ => R.SMP.EVT.CFG_REJECTED⟩,
   ⟨1, 0, 1, 0, fun _ _ => R.SMP.INT_EN.EN⟩,
   ⟨4, 0x20, 1, 0, fun i _ => R.SMP.GRP.START_FRAC.FRAC i⟩,
   ⟨4, 0x20, 1, 0, fun i _ => R.SMP.GRP.START_NS.NS i⟩,
   ⟨4, 0x20, 1, 0, fun i _ => R.SMP.GRP.START_SEC_LO.SEC i⟩,
   ⟨4, 0x20, 1, 0, fun i _ => R.SMP.GRP.START_SEC_HI.SEC i⟩,
   ⟨4, 0x20, 1, 0, fun i _ => R.SMP.GRP.CFG.MASTER i⟩,
   ⟨2, 0x20, 1, 0, fun i _ => R.SMP.LEAD.STAMP_FRAC.STAMP i⟩,
   ⟨2, 0x20, 1, 0, fun i _ => R.SMP.LEAD.STAMP_NS.STAMP i⟩,
   ⟨2, 0x20, 1, 0, fun i _ => R.SMP.LEAD.STAMP_SEC_LO.STAMP i⟩,
   ⟨2, 0x20, 1, 0, fun i _ => R.SMP.LEAD.STAMP_SEC_HI.STAMP i⟩,
   ⟨2, 0x20, 1, 0, fun i _ => R.SMP.LEAD.PHASE.PS i⟩,
   ⟨2, 0x20, 1, 0, fun i _ => R.SMP.LEAD.PH_MIN.PS i⟩,
   ⟨2, 0x20, 1, 0, fun i _ => R.SMP.LEAD.PH_MAX.PS i⟩,
   ⟨2, 0x20, 1, 0, fun i _ => R.SMP.LEAD.PH_MEAN.PS i⟩,
   ⟨8, 0x100, 1, 0, fun i _ => R.SMP.PORT.CTL.COMMIT i⟩,
   ⟨8, 0x100, 1, 0, fun i _ => R.SMP.PORT.CTL.START i⟩,
   ⟨8, 0x100, 1, 0, fun i _ => R.SMP.PORT.CTL.STOP i⟩,
   ⟨8, 0x100, 1, 0, fun i _ => R.SMP.PORT.CTL.CS_COMMIT i⟩,
   ⟨8, 0x100, 1, 0, fun i _ => R.SMP.PORT.CFG.EN i⟩,
   ⟨8, 0x100, 1, 0, fun i _ => R.SMP.PORT.CFG.TX_EN i⟩,
   ⟨8, 0x100, 1, 0, fun i _ => R.SMP.PORT.CFG.RX_EN i⟩,
   ⟨8, 0x100, 1, 0, fun i _ => R.SMP.PORT.CFG.MODE i⟩,
   ⟨8, 0x100, 1, 0, fun i _ => R.SMP.PORT.CFG.JUST i⟩,
   ⟨8, 0x100, 1, 0, fun i _ => R.SMP.PORT.CFG.WS_INV i⟩,
   ⟨8, 0x100, 1, 0, fun i _ => R.SMP.PORT.CFG.BCLK_INV i⟩,
   ⟨8, 0x100, 1, 0, fun i _ => R.SMP.PORT.CFG.AUTO_RESUME i⟩,
   ⟨8, 0x100, 1, 0, fun i _ => R.SMP.PORT.CFG.GROUP i⟩]
/-- The SMP fields, part 2. -/
def R.SMP.table2 : List RegRow :=
  [⟨8, 0x100, 1, 0, fun i _ => R.SMP.PORT.CFG.GROUP_EN i⟩,
   ⟨8, 0x100, 1, 0, fun i _ => R.SMP.PORT.CFG.CRC_GEN i⟩,
   ⟨8, 0x100, 1, 0, fun i _ => R.SMP.PORT.FMT.BITS i⟩,
   ⟨8, 0x100, 1, 0, fun i _ => R.SMP.PORT.FMT.SLOT i⟩,
   ⟨8, 0x100, 1, 0, fun i _ => R.SMP.PORT.RATE.FS_NOM i⟩,
   ⟨8, 0x100, 1, 0, fun i _ => R.SMP.PORT.RATE.RATE_N i⟩,
   ⟨8, 0x100, 1, 0, fun i _ => R.SMP.PORT.RATE.TOL i⟩,
   ⟨8, 0x100, 1, 0, fun i _ => R.SMP.PORT.ROLL.PREROLL i⟩,
   ⟨8, 0x100, 1, 0, fun i _ => R.SMP.PORT.ROLL.POSTROLL i⟩,
   ⟨8, 0x100, 1, 0, fun i _ => R.SMP.PORT.MASK.SLOT_MASK i⟩,
   ⟨8, 0x100, 1, 0, fun i _ => R.SMP.PORT.STAT.STATE i⟩,
   ⟨8, 0x100, 1, 0, fun i _ => R.SMP.PORT.STAT.SWAP_RISK i⟩,
   ⟨8, 0x100, 1, 0, fun i _ => R.SMP.PORT.STAT.CLK_PRESENT i⟩,
   ⟨8, 0x100, 1, 0, fun i _ => R.SMP.PORT.STAT.AES_LOCK i⟩,
   ⟨8, 0x100, 1, 0, fun i _ => R.SMP.PORT.STAT.START_FINE i⟩,
   ⟨8, 0x100, 1, 0, fun i _ => R.SMP.PORT.STAT.SDO_DRIVEN i⟩,
   ⟨8, 0x100, 1, 0, fun i _ => R.SMP.PORT.STAT.STALL_CAUSE i⟩,
   ⟨8, 0x100, 1, 0, fun i _ => R.SMP.PORT.EVT.STARTED i⟩,
   ⟨8, 0x100, 1, 0, fun i _ => R.SMP.PORT.EVT.STOPPED i⟩,
   ⟨8, 0x100, 1, 0, fun i _ => R.SMP.PORT.EVT.UNDERRUN i⟩,
   ⟨8, 0x100, 1, 0, fun i _ => R.SMP.PORT.EVT.OVERRUN i⟩,
   ⟨8, 0x100, 1, 0, fun i _ => R.SMP.PORT.EVT.STALL i⟩,
   ⟨8, 0x100, 1, 0, fun i _ => R.SMP.PORT.EVT.RESUMED i⟩,
   ⟨8, 0x100, 1, 0, fun i _ => R.SMP.PORT.EVT.START_FAIL i⟩,
   ⟨8, 0x100, 1, 0, fun i _ => R.SMP.PORT.EVT.BLOCK i⟩,
   ⟨8, 0x100, 1, 0, fun i _ => R.SMP.PORT.EVT.CS_CHANGE i⟩,
   ⟨8, 0x100, 1, 0, fun i _ => R.SMP.PORT.EVT.FRAME_ERR i⟩,
   ⟨8, 0x100, 1, 0, fun i _ => R.SMP.PORT.EVT.CFG_REJECTED i⟩,
   ⟨8, 0x100, 1, 0, fun i _ => R.SMP.PORT.INT_EN.EN i⟩,
   ⟨8, 0x100, 1, 0, fun i _ => R.SMP.PORT.TX_BASE_LO.ADDR i⟩,
   ⟨8, 0x100, 1, 0, fun i _ => R.SMP.PORT.TX_BASE_HI.ADDR i⟩,
   ⟨8, 0x100, 1, 0, fun i _ => R.SMP.PORT.TX_SIZE.SIZE i⟩,
   ⟨8, 0x100, 1, 0, fun i _ => R.SMP.PORT.TX_WR.PTR i⟩,
   ⟨8, 0x100, 1, 0, fun i _ => R.SMP.PORT.TX_RD.PTR i⟩,
   ⟨8, 0x100, 1, 0, fun i _ => R.SMP.PORT.RX_BASE_LO.ADDR i⟩,
   ⟨8, 0x100, 1, 0, fun i _ => R.SMP.PORT.RX_BASE_HI.ADDR i⟩,
   ⟨8, 0x100, 1, 0, fun i _ => R.SMP.PORT.RX_SIZE.SIZE i⟩,
   ⟨8, 0x100, 1, 0, fun i _ => R.SMP.PORT.RX_WR.PTR i⟩,
   ⟨8, 0x100, 1, 0, fun i _ => R.SMP.PORT.RX_RD.PTR i⟩,
   ⟨8, 0x100, 1, 0, fun i _ => R.SMP.PORT.FRAMES_LO.COUNT i⟩]
/-- The SMP fields, part 3. -/
def R.SMP.table3 : List RegRow :=
  [⟨8, 0x100, 1, 0, fun i _ => R.SMP.PORT.FRAMES_HI.COUNT i⟩,
   ⟨8, 0x100, 1, 0, fun i _ => R.SMP.PORT.MASK_FRAME.FRAME i⟩,
   ⟨8, 0x100, 1, 0, fun i _ => R.SMP.PORT.START_FRAC.STAMP i⟩,
   ⟨8, 0x100, 1, 0, fun i _ => R.SMP.PORT.START_NS.STAMP i⟩,
   ⟨8, 0x100, 1, 0, fun i _ => R.SMP.PORT.START_SEC_LO.STAMP i⟩,
   ⟨8, 0x100, 1, 0, fun i _ => R.SMP.PORT.START_SEC_HI.STAMP i⟩,
   ⟨8, 0x100, 1, 0, fun i _ => R.SMP.PORT.UNDERRUN_CNT.COUNT i⟩,
   ⟨8, 0x100, 1, 0, fun i _ => R.SMP.PORT.OVERRUN_CNT.COUNT i⟩,
   ⟨8, 0x100, 1, 0, fun i _ => R.SMP.PORT.FRAME_ERR_CNT.COUNT i⟩,
   ⟨8, 0x100, 1, 0, fun i _ => R.SMP.PORT.STALL_CNT.COUNT i⟩,
   ⟨8, 0x100, 1, 0, fun i _ => R.SMP.PORT.CS_ERR_CNT.COUNT i⟩,
   ⟨8, 0x100, 12, 0x4, fun i j => R.SMP.PORT.CS_RX.CS i j⟩,
   ⟨8, 0x100, 12, 0x4, fun i j => R.SMP.PORT.CS_TX.CS i j⟩,
   ⟨8, 0x100, 1, 0, fun i _ => R.SMP.PORT.VTX.V_A i⟩,
   ⟨8, 0x100, 1, 0, fun i _ => R.SMP.PORT.VTX.V_B i⟩]

/-- Every field the SMP block implements. -/
def R.SMP.table : List RegRow := R.SMP.table1 ++ R.SMP.table2 ++ R.SMP.table3

/-! ### RED: 16_lanes_and_hats.md, R509 -/

/-- [0] CMD: Clear the latch, to STANDBY (R494). -/
def R.RED.CTL.RECLAIM : Field := ⟨0x380000, 0, 1, .cmd, 0, .immediate, none⟩
/-- [1] CMD: Set the latch (R488). -/
def R.RED.CTL.RENOUNCE : Field := ⟨0x380000, 1, 1, .cmd, 0, .immediate, none⟩
/-- [2] CMD: Hand over at mid-second (R495). -/
def R.RED.CTL.YIELD : Field := ⟨0x380000, 2, 1, .cmd, 0, .immediate, none⟩
/-- [3] CMD: Restart the self-tests (R506). -/
def R.RED.CTL.HEALTH_NOW : Field := ⟨0x380000, 3, 1, .cmd, 0, .immediate, none⟩
/-- [4] CMD: Commit group RED. -/
def R.RED.CTL.COMMIT : Field := ⟨0x380000, 4, 1, .cmd, 0, .second, none⟩
/-- [0] CFG: Single-chip operation (R496). -/
def R.RED.CFG.SOLO : Field := ⟨0x380004, 0, 1, .cfg, 0, .second, (some .red)⟩
/-- [1] CFG: A reset clears the latch (R489). -/
def R.RED.CFG.RESET_CLEARS : Field := ⟨0x380004, 1, 1, .cfg, 0, .second, (some .red)⟩
/-- [2] CFG: Measure the peer's PPS (R501). -/
def R.RED.CFG.PPS_EN : Field := ⟨0x380004, 2, 1, .cfg, 0, .second, (some .red)⟩
/-- [6:4] CFG: REF slot carrying the peer's PPS. -/
def R.RED.CFG.PPS_SLOT : Field := ⟨0x380004, 4, 3, .cfg, 0b000, .second, (some .red)⟩
/-- [15:8] CFG: Seed pair age limit, s, 1–255; 0 rejected. -/
def R.RED.CFG.EMBER_MAX_AGE : Field := ⟨0x380004, 8, 8, .cfg, 0x03, .second, (some .red)⟩
/-- [22:16] CFG: PPS intervals kept, 4–64; others rejected. -/
def R.RED.CFG.RATIO_N : Field := ⟨0x380004, 16, 7, .cfg, 0x10, .second, (some .red)⟩
/-- [7:0] STAT: Hat number from the kindling image. -/
def R.RED.HAT.HAT_NUM : Field := ⟨0x380008, 0, 8, .stat, 0x00, .immediate, none⟩
/-- [2:0] STAT: R486. -/
def R.RED.STAT.ROLE : Field := ⟨0x38000C, 0, 3, .stat, 0b000, .immediate, none⟩
/-- [3] STAT: The hat is held (R492). -/
def R.RED.STAT.HOLDING : Field := ⟨0x38000C, 3, 1, .stat, 0, .immediate, none⟩
/-- [4] STAT: Renounce latch (R489). -/
def R.RED.STAT.RENOUNCED : Field := ⟨0x38000C, 4, 1, .stat, 0, .immediate, none⟩
/-- [5] STAT: No valid frame for 3 ms. -/
def R.RED.STAT.LINE_FAULT : Field := ⟨0x38000C, 5, 1, .stat, 0, .immediate, none⟩
/-- [6] STAT: A valid seed pair is held (R500). -/
def R.RED.STAT.SEED_VALID : Field := ⟨0x38000C, 6, 1, .stat, 0, .immediate, none⟩
/-- [16:8] STAT: Claim now sent, bits 3–11 of the frame. -/
def R.RED.STAT.CLAIM : Field := ⟨0x38000C, 8, 9, .stat, 0x000, .immediate, none⟩
/-- [0] RC: Hearth seeded (R503). -/
def R.RED.EVT.TAKEOVER : Field := ⟨0x380010, 0, 1, .rc, 0, .immediate, none⟩
/-- [1] RC: Hat gained. -/
def R.RED.EVT.HAT_GAINED : Field := ⟨0x380010, 1, 1, .rc, 0, .immediate, none⟩
/-- [2] RC: Hat lost. -/
def R.RED.EVT.HAT_LOST : Field := ⟨0x380010, 2, 1, .rc, 0, .immediate, none⟩
/-- [3] RC: Lost in the version bits (R491). -/
def R.RED.EVT.HAT_VERSION : Field := ⟨0x380010, 3, 1, .rc, 0, .immediate, none⟩
/-- [4] RC: Hat link reached UP. -/
def R.RED.EVT.LINK_UP : Field := ⟨0x380010, 4, 1, .rc, 0, .immediate, none⟩
/-- [5] RC: No common link version. -/
def R.RED.EVT.LINK_VERSION : Field := ⟨0x380010, 5, 1, .rc, 0, .immediate, none⟩
/-- [6] RC: Marker or ember unpaired. -/
def R.RED.EVT.EMBER_MISS : Field := ⟨0x380010, 6, 1, .rc, 0, .immediate, none⟩
/-- [7] RC: \ | φ\ | beyond PHASE_MAX (R502). -/
def R.RED.EVT.PHASE_BAD : Field := ⟨0x380010, 7, 1, .rc, 0, .immediate, none⟩
/-- [8] RC: Peer's overall result changed. -/
def R.RED.EVT.PEER_HEALTH : Field := ⟨0x380010, 8, 1, .rc, 0, .immediate, none⟩
/-- [9] RC: Command or commit rejected. -/
def R.RED.EVT.CFG_REJECTED : Field := ⟨0x380010, 9, 1, .rc, 0, .immediate, none⟩
/-- [9:0] LIVE: Interrupt enable per EVT bit. -/
def R.RED.INT_EN.EN : Field := ⟨0x380014, 0, 10, .live, 0x000, .immediate, none⟩
/-- [31:0] CFG: Peer PPS path to the REF ball, signed ps. -/
def R.RED.PPS_DELAY.PS : Field := ⟨0x380018, 0, 32, .cfg, 0x00000000, .second, (some .red)⟩
/-- [31:0] CFG: TRIM of the peer's PPS output, signed ps. -/
def R.RED.PPS_TRIM.PS : Field := ⟨0x38001C, 0, 32, .cfg, 0x00000000, .second, (some .red)⟩
/-- [15:0] CFG: Marker path delay, ps. -/
def R.RED.MK_DELAY.PS : Field := ⟨0x380020, 0, 16, .cfg, 0x0000, .second, (some .red)⟩
/-- [15:0] CFG: Largest φ applied, ps; 2,000 at reset. -/
def R.RED.TAKE_CFG.PHASE_MAX : Field := ⟨0x380024, 0, 16, .cfg, 0x07D0, .second, (some .red)⟩
/-- [31:16] CFG: PPS path bound, ps; 500 at reset. -/
def R.RED.TAKE_CFG.PPS_B : Field := ⟨0x380024, 16, 16, .cfg, 0x01F4, .second, (some .red)⟩
/-- [0] CFG: Hat link enabled. -/
def R.RED.LINK_CFG.EN : Field := ⟨0x380028, 0, 1, .cfg, 1, .second, (some .red)⟩
/-- [2:1] CFG: Highest version offered, 1–2; others rejected. -/
def R.RED.LINK_CFG.VER_MAX : Field := ⟨0x380028, 1, 2, .cfg, 0b10, .second, (some .red)⟩
/-- [4] CFG: Invert the transmit pair. -/
def R.RED.LINK_CFG.TX_POL : Field := ⟨0x380028, 4, 1, .cfg, 0, .second, (some .red)⟩
/-- [5] CFG: Invert the receive pair. -/
def R.RED.LINK_CFG.RX_POL : Field := ⟨0x380028, 5, 1, .cfg, 0, .second, (some .red)⟩
/-- [1:0] STAT: R498. -/
def R.RED.LINK_STAT.STATE : Field := ⟨0x38002C, 0, 2, .stat, 0b00, .immediate, none⟩
/-- [5:4] STAT: Version in force; 0 none. -/
def R.RED.LINK_STAT.VER : Field := ⟨0x38002C, 4, 2, .stat, 0b00, .immediate, none⟩
/-- [15:8] STAT: Peer's hat number from HELLO. -/
def R.RED.LINK_STAT.PEER_HAT : Field := ⟨0x38002C, 8, 8, .stat, 0x00, .immediate, none⟩
/-- [18:16] STAT: Peer's role. -/
def R.RED.LINK_STAT.PEER_ROLE : Field := ⟨0x38002C, 16, 3, .stat, 0b000, .immediate, none⟩
/-- [19] STAT: Peer reports holding (R493). -/
def R.RED.LINK_STAT.PEER_HOLDING : Field := ⟨0x38002C, 19, 1, .stat, 0, .immediate, none⟩
/-- [0] CFG: Standby self-test enabled (R505). -/
def R.RED.TEST_CFG.EN : Field := ⟨0x380030, 0, 1, .cfg, 1, .second, (some .red)⟩
/-- [15:8] CFG: Minutes between band sweeps; 0 rejected. -/
def R.RED.TEST_CFG.SWEEP_MIN : Field := ⟨0x380030, 8, 8, .cfg, 0x0A, .second, (some .red)⟩
/-- [23:16] CFG: Seconds between SerDes loopbacks; 0 rejected. -/
def R.RED.TEST_CFG.LOOP_S : Field := ⟨0x380030, 16, 8, .cfg, 0x3C, .second, (some .red)⟩
/-- [31:0] STAT: Own report bytes 0–3, byte 0 in [7:0] (R507). -/
def R.RED.HEALTH.REPORT : Field := ⟨0x380034, 0, 32, .stat, 0, .immediate, none⟩
/-- [31:0] STAT: Peer's report bytes 0–3. -/
def R.RED.PEER_HEALTH.REPORT : Field := ⟨0x380038, 0, 32, .stat, 0, .immediate, none⟩
/-- [15:0] STAT: Seed value, TIME96 fields. -/
def R.RED.SEED_FRAC.SEED : Field := ⟨0x380040, 0, 16, .stat, 0, .immediate, none⟩
/-- [29:0] STAT: Seed value, TIME96 fields. -/
def R.RED.SEED_NS.SEED : Field := ⟨0x380044, 0, 30, .stat, 0, .immediate, none⟩
/-- [31:0] STAT: Seed value, TIME96 fields. -/
def R.RED.SEED_SEC_LO.SEED : Field := ⟨0x380048, 0, 32, .stat, 0, .immediate, none⟩
/-- [15:0] STAT: Seed value, TIME96 fields. -/
def R.RED.SEED_SEC_HI.SEED : Field := ⟨0x38004C, 0, 16, .stat, 0, .immediate, none⟩
/-- [31:0] STAT: φ, signed ps. -/
def R.RED.SEED_PHASE.PS : Field := ⟨0x380050, 0, 32, .stat, 0, .immediate, none⟩
/-- [31:0] STAT: EB_seed, 2^-8 ns. -/
def R.RED.SEED_EB.EB : Field := ⟨0x380054, 0, 32, .stat, 0xFFFFFFFF, .immediate, none⟩
/-- [15:0] STAT: Age of the pair at seeding, ms. -/
def R.RED.SEED_AGE.MS : Field := ⟨0x380058, 0, 16, .stat, 0x0000, .immediate, none⟩
/-- [31:0] STAT: S_seed, signed 40-bit, 10^-15. -/
def R.RED.SEED_STEER0.S : Field := ⟨0x38005C, 0, 32, .stat, 0, .immediate, none⟩
/-- [7:0] STAT: S_seed, signed 40-bit, 10^-15. -/
def R.RED.SEED_STEER1.S : Field := ⟨0x380060, 0, 8, .stat, 0, .immediate, none⟩
/-- [15:0] STAT: Bits sampled in the latest frame, bit 0 in [15]. -/
def R.RED.LAST_FRAME.BITS : Field := ⟨0x380064, 0, 16, .stat, 0xFFFF, .immediate, none⟩
/-- [31:0] CNT: Frames seen; invalid frames; frames won, that is, valid frames the chip did not lose and in which it sent a nonzero
hat number (R492). -/
def R.RED.FRAMES.COUNT : Field := ⟨0x380080, 0, 32, .cnt, 0, .immediate, none⟩
/-- [31:0] CNT: Frames seen; invalid frames; frames won, that is, valid frames the chip did not lose and in which it sent a nonzero
hat number (R492). -/
def R.RED.FRAME_ERR.COUNT : Field := ⟨0x380084, 0, 32, .cnt, 0, .immediate, none⟩
/-- [31:0] CNT: Frames seen; invalid frames; frames won, that is, valid frames the chip did not lose and in which it sent a nonzero
hat number (R492). -/
def R.RED.WON.COUNT : Field := ⟨0x380088, 0, 32, .cnt, 0, .immediate, none⟩
/-- [31:0] CNT: Seeded starts (R503); normal starts on gaining the hat (R502); latch sets. -/
def R.RED.TAKEOVERS.COUNT : Field := ⟨0x38008C, 0, 32, .cnt, 0, .immediate, none⟩
/-- [31:0] CNT: Seeded starts (R503); normal starts on gaining the hat (R502); latch sets. -/
def R.RED.TAKE_COLD.COUNT : Field := ⟨0x380090, 0, 32, .cnt, 0, .immediate, none⟩
/-- [31:0] CNT: Embers sent, seed pairs formed, unpaired. -/
def R.RED.EMBER_TX.COUNT : Field := ⟨0x380094, 0, 32, .cnt, 0, .immediate, none⟩
/-- [31:0] CNT: Embers sent, seed pairs formed, unpaired. -/
def R.RED.EMBER_RX.COUNT : Field := ⟨0x380098, 0, 32, .cnt, 0, .immediate, none⟩
/-- [31:0] CNT: Embers sent, seed pairs formed, unpaired. -/
def R.RED.EMBER_MISS.COUNT : Field := ⟨0x38009C, 0, 32, .cnt, 0, .immediate, none⟩
/-- [31:0] CNT: Hat link losses and discarded messages. -/
def R.RED.LINK_DOWN_CNT.COUNT : Field := ⟨0x3800A0, 0, 32, .cnt, 0, .immediate, none⟩
/-- [31:0] CNT: Hat link losses and discarded messages. -/
def R.RED.LINK_CRC_ERR.COUNT : Field := ⟨0x3800A4, 0, 32, .cnt, 0, .immediate, none⟩
/-- [31:0] CNT: Seeded starts (R503); normal starts on gaining the hat (R502); latch sets. -/
def R.RED.RENOUNCE_CNT.COUNT : Field := ⟨0x3800A8, 0, 32, .cnt, 0, .immediate, none⟩

/-- The RED fields, part 1. -/
def R.RED.table1 : List RegRow :=
  [⟨1, 0, 1, 0, fun _ _ => R.RED.CTL.RECLAIM⟩,
   ⟨1, 0, 1, 0, fun _ _ => R.RED.CTL.RENOUNCE⟩,
   ⟨1, 0, 1, 0, fun _ _ => R.RED.CTL.YIELD⟩,
   ⟨1, 0, 1, 0, fun _ _ => R.RED.CTL.HEALTH_NOW⟩,
   ⟨1, 0, 1, 0, fun _ _ => R.RED.CTL.COMMIT⟩,
   ⟨1, 0, 1, 0, fun _ _ => R.RED.CFG.SOLO⟩,
   ⟨1, 0, 1, 0, fun _ _ => R.RED.CFG.RESET_CLEARS⟩,
   ⟨1, 0, 1, 0, fun _ _ => R.RED.CFG.PPS_EN⟩,
   ⟨1, 0, 1, 0, fun _ _ => R.RED.CFG.PPS_SLOT⟩,
   ⟨1, 0, 1, 0, fun _ _ => R.RED.CFG.EMBER_MAX_AGE⟩,
   ⟨1, 0, 1, 0, fun _ _ => R.RED.CFG.RATIO_N⟩,
   ⟨1, 0, 1, 0, fun _ _ => R.RED.HAT.HAT_NUM⟩,
   ⟨1, 0, 1, 0, fun _ _ => R.RED.STAT.ROLE⟩,
   ⟨1, 0, 1, 0, fun _ _ => R.RED.STAT.HOLDING⟩,
   ⟨1, 0, 1, 0, fun _ _ => R.RED.STAT.RENOUNCED⟩,
   ⟨1, 0, 1, 0, fun _ _ => R.RED.STAT.LINE_FAULT⟩,
   ⟨1, 0, 1, 0, fun _ _ => R.RED.STAT.SEED_VALID⟩,
   ⟨1, 0, 1, 0, fun _ _ => R.RED.STAT.CLAIM⟩,
   ⟨1, 0, 1, 0, fun _ _ => R.RED.EVT.TAKEOVER⟩,
   ⟨1, 0, 1, 0, fun _ _ => R.RED.EVT.HAT_GAINED⟩,
   ⟨1, 0, 1, 0, fun _ _ => R.RED.EVT.HAT_LOST⟩,
   ⟨1, 0, 1, 0, fun _ _ => R.RED.EVT.HAT_VERSION⟩,
   ⟨1, 0, 1, 0, fun _ _ => R.RED.EVT.LINK_UP⟩,
   ⟨1, 0, 1, 0, fun _ _ => R.RED.EVT.LINK_VERSION⟩,
   ⟨1, 0, 1, 0, fun _ _ => R.RED.EVT.EMBER_MISS⟩,
   ⟨1, 0, 1, 0, fun _ _ => R.RED.EVT.PHASE_BAD⟩,
   ⟨1, 0, 1, 0, fun _ _ => R.RED.EVT.PEER_HEALTH⟩,
   ⟨1, 0, 1, 0, fun _ _ => R.RED.EVT.CFG_REJECTED⟩,
   ⟨1, 0, 1, 0, fun _ _ => R.RED.INT_EN.EN⟩,
   ⟨1, 0, 1, 0, fun _ _ => R.RED.PPS_DELAY.PS⟩,
   ⟨1, 0, 1, 0, fun _ _ => R.RED.PPS_TRIM.PS⟩,
   ⟨1, 0, 1, 0, fun _ _ => R.RED.MK_DELAY.PS⟩,
   ⟨1, 0, 1, 0, fun _ _ => R.RED.TAKE_CFG.PHASE_MAX⟩,
   ⟨1, 0, 1, 0, fun _ _ => R.RED.TAKE_CFG.PPS_B⟩,
   ⟨1, 0, 1, 0, fun _ _ => R.RED.LINK_CFG.EN⟩,
   ⟨1, 0, 1, 0, fun _ _ => R.RED.LINK_CFG.VER_MAX⟩,
   ⟨1, 0, 1, 0, fun _ _ => R.RED.LINK_CFG.TX_POL⟩,
   ⟨1, 0, 1, 0, fun _ _ => R.RED.LINK_CFG.RX_POL⟩,
   ⟨1, 0, 1, 0, fun _ _ => R.RED.LINK_STAT.STATE⟩,
   ⟨1, 0, 1, 0, fun _ _ => R.RED.LINK_STAT.VER⟩]
/-- The RED fields, part 2. -/
def R.RED.table2 : List RegRow :=
  [⟨1, 0, 1, 0, fun _ _ => R.RED.LINK_STAT.PEER_HAT⟩,
   ⟨1, 0, 1, 0, fun _ _ => R.RED.LINK_STAT.PEER_ROLE⟩,
   ⟨1, 0, 1, 0, fun _ _ => R.RED.LINK_STAT.PEER_HOLDING⟩,
   ⟨1, 0, 1, 0, fun _ _ => R.RED.TEST_CFG.EN⟩,
   ⟨1, 0, 1, 0, fun _ _ => R.RED.TEST_CFG.SWEEP_MIN⟩,
   ⟨1, 0, 1, 0, fun _ _ => R.RED.TEST_CFG.LOOP_S⟩,
   ⟨1, 0, 1, 0, fun _ _ => R.RED.HEALTH.REPORT⟩,
   ⟨1, 0, 1, 0, fun _ _ => R.RED.PEER_HEALTH.REPORT⟩,
   ⟨1, 0, 1, 0, fun _ _ => R.RED.SEED_FRAC.SEED⟩,
   ⟨1, 0, 1, 0, fun _ _ => R.RED.SEED_NS.SEED⟩,
   ⟨1, 0, 1, 0, fun _ _ => R.RED.SEED_SEC_LO.SEED⟩,
   ⟨1, 0, 1, 0, fun _ _ => R.RED.SEED_SEC_HI.SEED⟩,
   ⟨1, 0, 1, 0, fun _ _ => R.RED.SEED_PHASE.PS⟩,
   ⟨1, 0, 1, 0, fun _ _ => R.RED.SEED_EB.EB⟩,
   ⟨1, 0, 1, 0, fun _ _ => R.RED.SEED_AGE.MS⟩,
   ⟨1, 0, 1, 0, fun _ _ => R.RED.SEED_STEER0.S⟩,
   ⟨1, 0, 1, 0, fun _ _ => R.RED.SEED_STEER1.S⟩,
   ⟨1, 0, 1, 0, fun _ _ => R.RED.LAST_FRAME.BITS⟩,
   ⟨1, 0, 1, 0, fun _ _ => R.RED.FRAMES.COUNT⟩,
   ⟨1, 0, 1, 0, fun _ _ => R.RED.FRAME_ERR.COUNT⟩,
   ⟨1, 0, 1, 0, fun _ _ => R.RED.WON.COUNT⟩,
   ⟨1, 0, 1, 0, fun _ _ => R.RED.TAKEOVERS.COUNT⟩,
   ⟨1, 0, 1, 0, fun _ _ => R.RED.TAKE_COLD.COUNT⟩,
   ⟨1, 0, 1, 0, fun _ _ => R.RED.EMBER_TX.COUNT⟩,
   ⟨1, 0, 1, 0, fun _ _ => R.RED.EMBER_RX.COUNT⟩,
   ⟨1, 0, 1, 0, fun _ _ => R.RED.EMBER_MISS.COUNT⟩,
   ⟨1, 0, 1, 0, fun _ _ => R.RED.LINK_DOWN_CNT.COUNT⟩,
   ⟨1, 0, 1, 0, fun _ _ => R.RED.LINK_CRC_ERR.COUNT⟩,
   ⟨1, 0, 1, 0, fun _ _ => R.RED.RENOUNCE_CNT.COUNT⟩]

/-- Every field the RED block implements. -/
def R.RED.table : List RegRow := R.RED.table1 ++ R.RED.table2

/-! ### NVC: 17_start_up_kindling_embers.md, R532 -/

/-- [0] CMD: Switch to PROF_REQ (R522). -/
def R.NVC.CTL.PROFILE_SET : Field := ⟨0x400000, 0, 1, .cmd, 0, .second, none⟩
/-- [1] CMD: Reset with cause RELOAD (R510). -/
def R.NVC.CTL.RELOAD : Field := ⟨0x400000, 1, 1, .cmd, 0, .immediate, none⟩
/-- [2] CMD: Write the next record (R525). -/
def R.NVC.CTL.EMBER_NOW : Field := ⟨0x400000, 2, 1, .cmd, 0, .second, none⟩
/-- [3] CMD: Start a flash operation (R530). -/
def R.NVC.CTL.FL_GO : Field := ⟨0x400000, 3, 1, .cmd, 0, .immediate, none⟩
/-- [0] CFG: Ember writing enabled. -/
def R.NVC.CFG.EMBER_EN : Field := ⟨0x400004, 0, 1, .cfg, 1, .second, none⟩
/-- [15:8] CFG: Write interval, s, 4–255; others rejected. -/
def R.NVC.CFG.EMBER_INT : Field := ⟨0x400004, 8, 8, .cfg, 0x10, .second, none⟩
/-- [31:16] CFG: Write deadline, ms, 100 to EMBER_INT × 1,000; others rejected (R527). -/
def R.NVC.CFG.EMBER_DL : Field := ⟨0x400004, 16, 16, .cfg, 0x03E8, .second, none⟩
/-- [1:0] STAT: R513. -/
def R.NVC.STAT.SVC_STATE : Field := ⟨0x400008, 0, 2, .stat, 0b00, .immediate, none⟩
/-- [3:2] STAT: Profile in force. -/
def R.NVC.STAT.PROFILE : Field := ⟨0x400008, 2, 2, .stat, 0b00, .immediate, none⟩
/-- [4] STAT: Switch in progress. -/
def R.NVC.STAT.PROF_PEND : Field := ⟨0x400008, 4, 1, .stat, 0, .immediate, none⟩
/-- [5] STAT: Supplement read (R520). -/
def R.NVC.STAT.SUPPLEMENT : Field := ⟨0x400008, 5, 1, .stat, 0, .immediate, none⟩
/-- [6] STAT: Format 0x01 image. -/
def R.NVC.STAT.LEGACY : Field := ⟨0x400008, 6, 1, .stat, 0, .immediate, none⟩
/-- [9:8] STAT: PROF1:PROF0. -/
def R.NVC.STAT.STRAP_PROF : Field := ⟨0x400008, 8, 2, .stat, 0b00, .immediate, none⟩
/-- [11:10] STAT: BOOT1:BOOT0. -/
def R.NVC.STAT.STRAP_BOOT : Field := ⟨0x400008, 10, 2, .stat, 0b00, .immediate, none⟩
/-- [12] STAT: NVMSEL. -/
def R.NVC.STAT.STRAP_NVMSEL : Field := ⟨0x400008, 12, 1, .stat, 0, .immediate, none⟩
/-- [13] STAT: Start-up waits for SYN0 (R514). -/
def R.NVC.STAT.WAIT_HOSC : Field := ⟨0x400008, 13, 1, .stat, 0, .immediate, none⟩
/-- [14] STAT: R529. -/
def R.NVC.STAT.EMBER_RESTORED : Field := ⟨0x400008, 14, 1, .stat, 0, .immediate, none⟩
/-- [15] STAT: R528. -/
def R.NVC.STAT.EMBER_WORN : Field := ⟨0x400008, 15, 1, .stat, 0, .immediate, none⟩
/-- [27:24] STAT: R513; 0x0 none. -/
def R.NVC.STAT.RECOVERY_CAUSE : Field := ⟨0x400008, 24, 4, .stat, 0x0, .immediate, none⟩
/-- [0] RC: Switch applied. -/
def R.NVC.EVT.PROFILE_DONE : Field := ⟨0x40000C, 0, 1, .rc, 0, .immediate, none⟩
/-- [1] RC: Switch refused. -/
def R.NVC.EVT.PROFILE_FAIL : Field := ⟨0x40000C, 1, 1, .rc, 0, .immediate, none⟩
/-- [2] RC: R517. -/
def R.NVC.EVT.SECTION_BAD : Field := ⟨0x40000C, 2, 1, .rc, 0, .immediate, none⟩
/-- [3] RC: R527. -/
def R.NVC.EVT.EMBER_LATE : Field := ⟨0x40000C, 3, 1, .rc, 0, .immediate, none⟩
/-- [4] RC: Record dropped. -/
def R.NVC.EVT.EMBER_FAIL : Field := ⟨0x40000C, 4, 1, .rc, 0, .immediate, none⟩
/-- [5] RC: R528. -/
def R.NVC.EVT.SECTOR_RETIRED : Field := ⟨0x40000C, 5, 1, .rc, 0, .immediate, none⟩
/-- [6] RC: Flash operation ended. -/
def R.NVC.EVT.FL_DONE : Field := ⟨0x40000C, 6, 1, .rc, 0, .immediate, none⟩
/-- [7] RC: Write or command rejected. -/
def R.NVC.EVT.CFG_REJECTED : Field := ⟨0x40000C, 7, 1, .rc, 0, .immediate, none⟩
/-- [7:0] LIVE: Interrupt enable per EVT bit. -/
def R.NVC.INT_EN.EN : Field := ⟨0x400010, 0, 8, .live, 0x00, .immediate, none⟩
/-- [1:0] LIVE: Profile for PROFILE_SET. -/
def R.NVC.PROF_REQ.PROFILE : Field := ⟨0x400014, 0, 2, .live, 0b00, .immediate, none⟩
/-- [4:0] STAT: R510. -/
def R.NVC.RST_CAUSE.CAUSE : Field := ⟨0x400018, 0, 5, .stat, 0b00001, .immediate, none⟩
/-- [31:0] STAT: Header bytes 24–27. -/
def R.NVC.IMG_REV.REV : Field := ⟨0x40001C, 0, 32, .stat, 0, .immediate, none⟩
/-- [10:1] STAT: Bit t: section type t valid. -/
def R.NVC.SEC_STAT.VALID : Field := ⟨0x400020, 1, 10, .stat, 0x000, .immediate, none⟩
/-- [31:0] STAT: Ring base (R526). -/
def R.NVC.EMBER_BASE.ADDR : Field := ⟨0x400024, 0, 32, .stat, 0x02000000, .immediate, none⟩
/-- [31:0] STAT: Ring size. -/
def R.NVC.EMBER_SIZE.BYTES : Field := ⟨0x400028, 0, 32, .stat, 0x01000000, .immediate, none⟩
/-- [7:0] STAT: Sector being written. -/
def R.NVC.EMBER_SEC.SECTOR : Field := ⟨0x40002C, 0, 8, .stat, 0x00, .immediate, none⟩
/-- [8] STAT: 0: 4 KiB; 1: 64 KiB. -/
def R.NVC.EMBER_SEC.SIZE : Field := ⟨0x40002C, 8, 1, .stat, 0, .immediate, none⟩
/-- [24:16] STAT: Good sectors, 0–256. -/
def R.NVC.EMBER_SEC.GOOD : Field := ⟨0x40002C, 16, 9, .stat, 0x000, .immediate, none⟩
/-- [31:0] STAT: Sequence of the last record written, bits [31:0] and [63:32]. -/
def R.NVC.EMBER_SEQ_LO.SEQ : Field := ⟨0x400030, 0, 32, .stat, 0, .immediate, none⟩
/-- [31:0] STAT: Sequence of the last record written, bits [31:0] and [63:32]. -/
def R.NVC.EMBER_SEQ_HI.SEQ : Field := ⟨0x400034, 0, 32, .stat, 0, .immediate, none⟩
/-- [31:0] STAT: Lowest and highest erase count of good sectors. -/
def R.NVC.ERASE_MIN.COUNT : Field := ⟨0x400038, 0, 32, .stat, 0, .immediate, none⟩
/-- [31:0] STAT: Lowest and highest erase count of good sectors. -/
def R.NVC.ERASE_MAX.COUNT : Field := ⟨0x40003C, 0, 32, .stat, 0, .immediate, none⟩
/-- [31:0] CFG: Retirement count; 100,000 at reset (R528). -/
def R.NVC.ERASE_LIMIT.LIMIT : Field := ⟨0x400040, 0, 32, .cfg, 0x000186A0, .second, none⟩
/-- [31:0] CNT: Records written, late, dropped; sectors retired; records skipped; groups refused; client entries skipped; switches. -/
def R.NVC.EMBER_CNT.COUNT : Field := ⟨0x400048, 0, 32, .cnt, 0, .immediate, none⟩
/-- [31:0] CNT: Records written, late, dropped; sectors retired; records skipped; groups refused; client entries skipped; switches. -/
def R.NVC.EMBER_LATE_CNT.COUNT : Field := ⟨0x40004C, 0, 32, .cnt, 0, .immediate, none⟩
/-- [31:0] CNT: Records written, late, dropped; sectors retired; records skipped; groups refused; client entries skipped; switches. -/
def R.NVC.EMBER_FAIL_CNT.COUNT : Field := ⟨0x400050, 0, 32, .cnt, 0, .immediate, none⟩
/-- [31:0] CNT: Records written, late, dropped; sectors retired; records skipped; groups refused; client entries skipped; switches. -/
def R.NVC.RETIRED_CNT.COUNT : Field := ⟨0x400054, 0, 32, .cnt, 0, .immediate, none⟩
/-- [31:0] CNT: Records written, late, dropped; sectors retired; records skipped; groups refused; client entries skipped; switches. -/
def R.NVC.REC_SKIP_CNT.COUNT : Field := ⟨0x400058, 0, 32, .cnt, 0, .immediate, none⟩
/-- [31:0] CNT: Records written, late, dropped; sectors retired; records skipped; groups refused; client entries skipped; switches. -/
def R.NVC.GRP_REJ_CNT.COUNT : Field := ⟨0x40005C, 0, 32, .cnt, 0, .immediate, none⟩
/-- [31:0] CNT: Records written, late, dropped; sectors retired; records skipped; groups refused; client entries skipped; switches. -/
def R.NVC.CLIENT_SKIP_CNT.COUNT : Field := ⟨0x400060, 0, 32, .cnt, 0, .immediate, none⟩
/-- [31:0] CNT: Records written, late, dropped; sectors retired; records skipped; groups refused; client entries skipped; switches. -/
def R.NVC.SWITCH_CNT.COUNT : Field := ⟨0x400064, 0, 32, .cnt, 0, .immediate, none⟩
/-- [31:0] LIVE: Flash byte address. -/
def R.NVC.FL_ADDR.ADDR : Field := ⟨0x400080, 0, 32, .live, 0, .immediate, none⟩
/-- [1:0] LIVE: 0b01 READ, 0b10 PROGRAM, 0b11 ERASE; 0b00 rejected. -/
def R.NVC.FL_CMD.OP : Field := ⟨0x400084, 0, 2, .live, 0b00, .immediate, none⟩
/-- [16:8] LIVE: Bytes, 1–256. -/
def R.NVC.FL_CMD.LEN : Field := ⟨0x400084, 8, 9, .live, 0x001, .immediate, none⟩
/-- [2:0] STAT: 0b000 none, 0b001 DONE, 0b010 DENIED, 0b011 FAILED, 0b100 BAD_ARG. -/
def R.NVC.FL_STAT.RESULT : Field := ⟨0x400088, 0, 3, .stat, 0b000, .immediate, none⟩
/-- [4] STAT: Operation running. -/
def R.NVC.FL_STAT.BUSY : Field := ⟨0x400088, 4, 1, .stat, 0, .immediate, none⟩
/-- [31:0] LIVE: Bytes 4i to 4i + 3, byte 4i in [7:0]. -/
def R.NVC.FL_DATA.DATA (i : Nat) : Field := ⟨0x400100 + i * 0x4, 0, 32, .live, 0, .immediate, none⟩

/-- The NVC fields, part 1. -/
def R.NVC.table1 : List RegRow :=
  [⟨1, 0, 1, 0, fun _ _ => R.NVC.CTL.PROFILE_SET⟩,
   ⟨1, 0, 1, 0, fun _ _ => R.NVC.CTL.RELOAD⟩,
   ⟨1, 0, 1, 0, fun _ _ => R.NVC.CTL.EMBER_NOW⟩,
   ⟨1, 0, 1, 0, fun _ _ => R.NVC.CTL.FL_GO⟩,
   ⟨1, 0, 1, 0, fun _ _ => R.NVC.CFG.EMBER_EN⟩,
   ⟨1, 0, 1, 0, fun _ _ => R.NVC.CFG.EMBER_INT⟩,
   ⟨1, 0, 1, 0, fun _ _ => R.NVC.CFG.EMBER_DL⟩,
   ⟨1, 0, 1, 0, fun _ _ => R.NVC.STAT.SVC_STATE⟩,
   ⟨1, 0, 1, 0, fun _ _ => R.NVC.STAT.PROFILE⟩,
   ⟨1, 0, 1, 0, fun _ _ => R.NVC.STAT.PROF_PEND⟩,
   ⟨1, 0, 1, 0, fun _ _ => R.NVC.STAT.SUPPLEMENT⟩,
   ⟨1, 0, 1, 0, fun _ _ => R.NVC.STAT.LEGACY⟩,
   ⟨1, 0, 1, 0, fun _ _ => R.NVC.STAT.STRAP_PROF⟩,
   ⟨1, 0, 1, 0, fun _ _ => R.NVC.STAT.STRAP_BOOT⟩,
   ⟨1, 0, 1, 0, fun _ _ => R.NVC.STAT.STRAP_NVMSEL⟩,
   ⟨1, 0, 1, 0, fun _ _ => R.NVC.STAT.WAIT_HOSC⟩,
   ⟨1, 0, 1, 0, fun _ _ => R.NVC.STAT.EMBER_RESTORED⟩,
   ⟨1, 0, 1, 0, fun _ _ => R.NVC.STAT.EMBER_WORN⟩,
   ⟨1, 0, 1, 0, fun _ _ => R.NVC.STAT.RECOVERY_CAUSE⟩,
   ⟨1, 0, 1, 0, fun _ _ => R.NVC.EVT.PROFILE_DONE⟩,
   ⟨1, 0, 1, 0, fun _ _ => R.NVC.EVT.PROFILE_FAIL⟩,
   ⟨1, 0, 1, 0, fun _ _ => R.NVC.EVT.SECTION_BAD⟩,
   ⟨1, 0, 1, 0, fun _ _ => R.NVC.EVT.EMBER_LATE⟩,
   ⟨1, 0, 1, 0, fun _ _ => R.NVC.EVT.EMBER_FAIL⟩,
   ⟨1, 0, 1, 0, fun _ _ => R.NVC.EVT.SECTOR_RETIRED⟩,
   ⟨1, 0, 1, 0, fun _ _ => R.NVC.EVT.FL_DONE⟩,
   ⟨1, 0, 1, 0, fun _ _ => R.NVC.EVT.CFG_REJECTED⟩,
   ⟨1, 0, 1, 0, fun _ _ => R.NVC.INT_EN.EN⟩,
   ⟨1, 0, 1, 0, fun _ _ => R.NVC.PROF_REQ.PROFILE⟩,
   ⟨1, 0, 1, 0, fun _ _ => R.NVC.RST_CAUSE.CAUSE⟩,
   ⟨1, 0, 1, 0, fun _ _ => R.NVC.IMG_REV.REV⟩,
   ⟨1, 0, 1, 0, fun _ _ => R.NVC.SEC_STAT.VALID⟩,
   ⟨1, 0, 1, 0, fun _ _ => R.NVC.EMBER_BASE.ADDR⟩,
   ⟨1, 0, 1, 0, fun _ _ => R.NVC.EMBER_SIZE.BYTES⟩,
   ⟨1, 0, 1, 0, fun _ _ => R.NVC.EMBER_SEC.SECTOR⟩,
   ⟨1, 0, 1, 0, fun _ _ => R.NVC.EMBER_SEC.SIZE⟩,
   ⟨1, 0, 1, 0, fun _ _ => R.NVC.EMBER_SEC.GOOD⟩,
   ⟨1, 0, 1, 0, fun _ _ => R.NVC.EMBER_SEQ_LO.SEQ⟩,
   ⟨1, 0, 1, 0, fun _ _ => R.NVC.EMBER_SEQ_HI.SEQ⟩,
   ⟨1, 0, 1, 0, fun _ _ => R.NVC.ERASE_MIN.COUNT⟩]
/-- The NVC fields, part 2. -/
def R.NVC.table2 : List RegRow :=
  [⟨1, 0, 1, 0, fun _ _ => R.NVC.ERASE_MAX.COUNT⟩,
   ⟨1, 0, 1, 0, fun _ _ => R.NVC.ERASE_LIMIT.LIMIT⟩,
   ⟨1, 0, 1, 0, fun _ _ => R.NVC.EMBER_CNT.COUNT⟩,
   ⟨1, 0, 1, 0, fun _ _ => R.NVC.EMBER_LATE_CNT.COUNT⟩,
   ⟨1, 0, 1, 0, fun _ _ => R.NVC.EMBER_FAIL_CNT.COUNT⟩,
   ⟨1, 0, 1, 0, fun _ _ => R.NVC.RETIRED_CNT.COUNT⟩,
   ⟨1, 0, 1, 0, fun _ _ => R.NVC.REC_SKIP_CNT.COUNT⟩,
   ⟨1, 0, 1, 0, fun _ _ => R.NVC.GRP_REJ_CNT.COUNT⟩,
   ⟨1, 0, 1, 0, fun _ _ => R.NVC.CLIENT_SKIP_CNT.COUNT⟩,
   ⟨1, 0, 1, 0, fun _ _ => R.NVC.SWITCH_CNT.COUNT⟩,
   ⟨1, 0, 1, 0, fun _ _ => R.NVC.FL_ADDR.ADDR⟩,
   ⟨1, 0, 1, 0, fun _ _ => R.NVC.FL_CMD.OP⟩,
   ⟨1, 0, 1, 0, fun _ _ => R.NVC.FL_CMD.LEN⟩,
   ⟨1, 0, 1, 0, fun _ _ => R.NVC.FL_STAT.RESULT⟩,
   ⟨1, 0, 1, 0, fun _ _ => R.NVC.FL_STAT.BUSY⟩,
   ⟨64, 0x4, 1, 0, fun i _ => R.NVC.FL_DATA.DATA i⟩]

/-- Every field the NVC block implements. -/
def R.NVC.table : List RegRow := R.NVC.table1 ++ R.NVC.table2

/-! ### GLB: 18_host_access_and_crossings.md, R561 -/

/-- [7:0] STAT: Silicon stepping (R8). -/
def R.GLB.ID.STEPPING : Field := ⟨0x0, 0, 8, .stat, 0xB1, .immediate, none⟩
/-- [31:16] STAT: Part number. -/
def R.GLB.ID.PART : Field := ⟨0x0, 16, 16, .stat, 0x9640, .immediate, none⟩
/-- [0] CMD: Reset with cause HOST (R559). -/
def R.GLB.CTL.CHIP_RESET : Field := ⟨0x4, 0, 1, .cmd, 0, .immediate, none⟩
/-- [31:16] CMD: Must be 0x4852 in the same write. -/
def R.GLB.CTL.CONFIRM : Field := ⟨0x4, 16, 16, .cmd, 0x0000, .immediate, none⟩
/-- [26:0] STAT: Bit b: block b has an enabled event (R557). -/
def R.GLB.INT_STAT.BLOCK : Field := ⟨0x8, 0, 27, .stat, 0x0000000, .immediate, none⟩
/-- [26:0] LIVE: Bit b: block b drives INT_N. -/
def R.GLB.INT_EN.BLOCK : Field := ⟨0xC, 0, 27, .live, 0x0000000, .immediate, none⟩
/-- [0] RC: A hardware load was discarded (R548). -/
def R.GLB.EVT.SHARED_COLLIDE : Field := ⟨0x10, 0, 1, .rc, 0, .immediate, none⟩
/-- [1] RC: A domain clock stopped (R552). -/
def R.GLB.EVT.CLK_STOP : Field := ⟨0x10, 1, 1, .rc, 0, .immediate, none⟩
/-- [2] RC: A domain clock returned. -/
def R.GLB.EVT.CLK_RETURN : Field := ⟨0x10, 2, 1, .rc, 0, .immediate, none⟩
/-- [2:0] LIVE: Enable per EVT bit. -/
def R.GLB.EVT_EN.EN : Field := ⟨0x14, 0, 3, .live, 0b000, .immediate, none⟩
/-- [23:0] STAT: BAR0 offset of the last collision. -/
def R.GLB.COLLIDE_ADDR.ADDR : Field := ⟨0x18, 0, 24, .stat, 0x000000, .immediate, none⟩
/-- [23:0] STAT: Bit d: clock of domain d running; after a reset only CK_HOST and CK_AON run. -/
def R.GLB.CLK_RUN.RUN : Field := ⟨0x20, 0, 24, .stat, 0x801000, .immediate, none⟩
/-- [23:0] STAT: Bit d: domain d held in reset; after a reset every domain but CK_HOST is held, and CK_AON is never held. -/
def R.GLB.IN_RESET.RESET : Field := ⟨0x24, 0, 24, .stat, 0x7FEFFF, .immediate, none⟩
/-- [31:0] LIVE: No effect; for interface tests. -/
def R.GLB.SCRATCH.DATA : Field := ⟨0x28, 0, 32, .live, 0x00000000, .immediate, none⟩

/-- The GLB fields, part 1. -/
def R.GLB.table1 : List RegRow :=
  [⟨1, 0, 1, 0, fun _ _ => R.GLB.ID.STEPPING⟩,
   ⟨1, 0, 1, 0, fun _ _ => R.GLB.ID.PART⟩,
   ⟨1, 0, 1, 0, fun _ _ => R.GLB.CTL.CHIP_RESET⟩,
   ⟨1, 0, 1, 0, fun _ _ => R.GLB.CTL.CONFIRM⟩,
   ⟨1, 0, 1, 0, fun _ _ => R.GLB.INT_STAT.BLOCK⟩,
   ⟨1, 0, 1, 0, fun _ _ => R.GLB.INT_EN.BLOCK⟩,
   ⟨1, 0, 1, 0, fun _ _ => R.GLB.EVT.SHARED_COLLIDE⟩,
   ⟨1, 0, 1, 0, fun _ _ => R.GLB.EVT.CLK_STOP⟩,
   ⟨1, 0, 1, 0, fun _ _ => R.GLB.EVT.CLK_RETURN⟩,
   ⟨1, 0, 1, 0, fun _ _ => R.GLB.EVT_EN.EN⟩,
   ⟨1, 0, 1, 0, fun _ _ => R.GLB.COLLIDE_ADDR.ADDR⟩,
   ⟨1, 0, 1, 0, fun _ _ => R.GLB.CLK_RUN.RUN⟩,
   ⟨1, 0, 1, 0, fun _ _ => R.GLB.IN_RESET.RESET⟩,
   ⟨1, 0, 1, 0, fun _ _ => R.GLB.SCRATCH.DATA⟩]

/-- Every field the GLB block implements. -/
def R.GLB.table : List RegRow := R.GLB.table1

/-! ### HST: 18_host_access_and_crossings.md, R562 -/

/-- [0] LIVE: Legacy crossing latency (R16, R551). -/
def R.HST.CFG.LEGACY_XING : Field := ⟨0x10000, 0, 1, .live, 0, .immediate, none⟩
/-- [25:16] LIVE: Access watchdog, µs, 8–1,000 (R553, R554). -/
def R.HST.CFG.WDOG_US : Field := ⟨0x10000, 16, 10, .live, 0x040, .immediate, none⟩
/-- [0] STAT: 0 PCIe, 1 SPI (R533). -/
def R.HST.STAT.HOSTSEL : Field := ⟨0x10004, 0, 1, .stat, 0, .immediate, none⟩
/-- [1] STAT: PCIe link up. -/
def R.HST.STAT.LINK_UP : Field := ⟨0x10004, 1, 1, .stat, 0, .immediate, none⟩
/-- [3:2] STAT: 0b01 Gen1, 0b10 Gen2, 0b11 Gen3. -/
def R.HST.STAT.SPEED : Field := ⟨0x10004, 2, 2, .stat, 0b00, .immediate, none⟩
/-- [5:4] STAT: 0b01 x1, 0b10 x2. -/
def R.HST.STAT.WIDTH : Field := ⟨0x10004, 4, 2, .stat, 0b00, .immediate, none⟩
/-- [8] RC: An access was abandoned (R553). -/
def R.HST.STAT.ABANDONED : Field := ⟨0x10004, 8, 1, .rc, 0, .immediate, none⟩
/-- [9] RC: An abandoned write landed. -/
def R.HST.STAT.LATE_WRITE : Field := ⟨0x10004, 9, 1, .rc, 0, .immediate, none⟩
/-- [10] RC: Unimplemented address (R540). -/
def R.HST.STAT.UNSUPPORTED : Field := ⟨0x10004, 10, 1, .rc, 0, .immediate, none⟩
/-- [11] RC: Access refused (R535, R553, R555). -/
def R.HST.STAT.REFUSED : Field := ⟨0x10004, 11, 1, .rc, 0, .immediate, none⟩
/-- [12] RC: Uncorrectable error in window data (R536). -/
def R.HST.STAT.DATA_ERR : Field := ⟨0x10004, 12, 1, .rc, 0, .immediate, none⟩
/-- [13] RC: Out-of-range write ignored. -/
def R.HST.STAT.CFG_REJECTED : Field := ⟨0x10004, 13, 1, .rc, 0, .immediate, none⟩
/-- [20:16] STAT: Domain holding an abandoned write; 0x1F none. -/
def R.HST.STAT.PEND_DOM : Field := ⟨0x10004, 16, 5, .stat, 0x1F, .immediate, none⟩
/-- [13:8] LIVE: Enable per STAT bit [13:8]. -/
def R.HST.INT_EN.EN : Field := ⟨0x10008, 8, 6, .live, 0x00, .immediate, none⟩
/-- [27:0] STAT: Offset of the last errored access. -/
def R.HST.ERR_ADDR.ADDR : Field := ⟨0x1000C, 0, 28, .stat, 0x0000000, .immediate, none⟩
/-- [31] STAT: 1: ADDR is a window offset. -/
def R.HST.ERR_ADDR.WINDOW : Field := ⟨0x1000C, 31, 1, .stat, 0, .immediate, none⟩
/-- [15:0] CNT: Unsupported requests and 0xE1 statuses. -/
def R.HST.ERR_CNT.UR : Field := ⟨0x10010, 0, 16, .cnt, 0x0000, .immediate, none⟩
/-- [31:16] CNT: Abandoned and refused accesses. -/
def R.HST.ERR_CNT.CA : Field := ⟨0x10010, 16, 16, .cnt, 0x0000, .immediate, none⟩
/-- [13:0] LIVE: Window base, 1 MiB units, 0–16,383 (R536). -/
def R.HST.WIN_BASE.MIB : Field := ⟨0x10014, 0, 14, .live, 0x0000, .immediate, none⟩
/-- [5:0] LIVE: MSI-X vector of block b (R558). -/
def R.HST.VEC_MAP.VECTOR (i : Nat) : Field := ⟨0x10100 + i * 0x4, 0, 6, .live, 0x00, .immediate, none⟩
/-- [8] LIVE: Block b routed to its vector. -/
def R.HST.VEC_MAP.EN (i : Nat) : Field := ⟨0x10100 + i * 0x4, 8, 1, .live, 0, .immediate, none⟩

/-- The HST fields, part 1. -/
def R.HST.table1 : List RegRow :=
  [⟨1, 0, 1, 0, fun _ _ => R.HST.CFG.LEGACY_XING⟩,
   ⟨1, 0, 1, 0, fun _ _ => R.HST.CFG.WDOG_US⟩,
   ⟨1, 0, 1, 0, fun _ _ => R.HST.STAT.HOSTSEL⟩,
   ⟨1, 0, 1, 0, fun _ _ => R.HST.STAT.LINK_UP⟩,
   ⟨1, 0, 1, 0, fun _ _ => R.HST.STAT.SPEED⟩,
   ⟨1, 0, 1, 0, fun _ _ => R.HST.STAT.WIDTH⟩,
   ⟨1, 0, 1, 0, fun _ _ => R.HST.STAT.ABANDONED⟩,
   ⟨1, 0, 1, 0, fun _ _ => R.HST.STAT.LATE_WRITE⟩,
   ⟨1, 0, 1, 0, fun _ _ => R.HST.STAT.UNSUPPORTED⟩,
   ⟨1, 0, 1, 0, fun _ _ => R.HST.STAT.REFUSED⟩,
   ⟨1, 0, 1, 0, fun _ _ => R.HST.STAT.DATA_ERR⟩,
   ⟨1, 0, 1, 0, fun _ _ => R.HST.STAT.CFG_REJECTED⟩,
   ⟨1, 0, 1, 0, fun _ _ => R.HST.STAT.PEND_DOM⟩,
   ⟨1, 0, 1, 0, fun _ _ => R.HST.INT_EN.EN⟩,
   ⟨1, 0, 1, 0, fun _ _ => R.HST.ERR_ADDR.ADDR⟩,
   ⟨1, 0, 1, 0, fun _ _ => R.HST.ERR_ADDR.WINDOW⟩,
   ⟨1, 0, 1, 0, fun _ _ => R.HST.ERR_CNT.UR⟩,
   ⟨1, 0, 1, 0, fun _ _ => R.HST.ERR_CNT.CA⟩,
   ⟨1, 0, 1, 0, fun _ _ => R.HST.WIN_BASE.MIB⟩,
   ⟨27, 0x4, 1, 0, fun i _ => R.HST.VEC_MAP.VECTOR i⟩,
   ⟨27, 0x4, 1, 0, fun i _ => R.HST.VEC_MAP.EN i⟩]

/-- Every field the HST block implements. -/
def R.HST.table : List RegRow := R.HST.table1

/-! ### PMC: 19_counters_and_background_work.md, R586 -/

/-- [0] CMD: Commit group SEL (R568). -/
def R.PMC.CTL.SEL_COMMIT : Field := ⟨0x480000, 0, 1, .cmd, 0, .second, none⟩
/-- [1] CMD: Off-grid record (R570). -/
def R.PMC.CTL.DUMP_NOW : Field := ⟨0x480000, 1, 1, .cmd, 0, .immediate, none⟩
/-- [0] STAT: Dumps in force. -/
def R.PMC.STAT.DUMP_ACTIVE : Field := ⟨0x480004, 0, 1, .stat, 0, .immediate, none⟩
/-- [1] STAT: θ not missing (R583). -/
def R.PMC.STAT.THETA_OK : Field := ⟨0x480004, 1, 1, .stat, 0, .immediate, none⟩
/-- [0] RC: Unchained counter wrapped (R567). -/
def R.PMC.EVT.WRAP : Field := ⟨0x480008, 0, 1, .rc, 0, .immediate, none⟩
/-- [1] RC: R573. -/
def R.PMC.EVT.DUMP_LATE : Field := ⟨0x480008, 1, 1, .rc, 0, .immediate, none⟩
/-- [2] RC: Record discarded. -/
def R.PMC.EVT.DUMP_LOST : Field := ⟨0x480008, 2, 1, .rc, 0, .immediate, none⟩
/-- [3] RC: Supply out of range (R582). -/
def R.PMC.EVT.SUPPLY : Field := ⟨0x480008, 3, 1, .rc, 0, .immediate, none⟩
/-- [4] RC: Die above HOT. -/
def R.PMC.EVT.OVERTEMP : Field := ⟨0x480008, 4, 1, .rc, 0, .immediate, none⟩
/-- [5] RC: Commit rejected (R564). -/
def R.PMC.EVT.CFG_REJECTED : Field := ⟨0x480008, 5, 1, .rc, 0, .immediate, none⟩
/-- [5:0] LIVE: Interrupt enable per EVT bit. -/
def R.PMC.INT_EN.EN : Field := ⟨0x48000C, 0, 6, .live, 0b000000, .immediate, none⟩
/-- [9:0] STAT: Last wrapped counter. -/
def R.PMC.WRAP_IDX.INDEX : Field := ⟨0x480010, 0, 10, .stat, 0x000, .immediate, none⟩
/-- [0] CFG: Dumps enabled. -/
def R.PMC.DUMP_CFG.EN : Field := ⟨0x480014, 0, 1, .cfg, 0, .second, none⟩
/-- [7:4] CFG: R570; 1 s at reset. -/
def R.PMC.DUMP_CFG.PERIOD : Field := ⟨0x480014, 4, 4, .cfg, 0xC, .second, none⟩
/-- [0] CFG: Stoker sampling (R575). -/
def R.PMC.SAMP_CFG.EN : Field := ⟨0x480018, 0, 1, .cfg, 0, .second, none⟩
/-- [12:8] CFG: Trigger interval, 2^n CK_CORE cycles, 10–24. -/
def R.PMC.SAMP_CFG.LOG_INT : Field := ⟨0x480018, 8, 5, .cfg, 0x14, .second, none⟩
/-- [31:16] CFG: Bit s: stoker s sampled. -/
def R.PMC.SAMP_CFG.STOKERS : Field := ⟨0x480018, 16, 16, .cfg, 0xFFFF, .second, none⟩
/-- [31:12] CFG: Ring base [31:12]. -/
def R.PMC.DUMP_BASE_LO.ADDR : Field := ⟨0x480020, 12, 20, .cfg, 0x00000, .second, none⟩
/-- [1:0] CFG: Ring base [33:32]. -/
def R.PMC.DUMP_BASE_HI.ADDR : Field := ⟨0x480024, 0, 2, .cfg, 0b00, .second, none⟩
/-- [12:0] CFG: 4 KiB units, 1–4,096; 0 disables. -/
def R.PMC.DUMP_SIZE.SIZE : Field := ⟨0x480028, 0, 13, .cfg, 0x0000, .second, none⟩
/-- [23:0] STAT: Write offset, bytes. -/
def R.PMC.DUMP_WR.PTR : Field := ⟨0x48002C, 0, 24, .stat, 0, .immediate, none⟩
/-- [23:0] LIVE: Read offset, bytes. -/
def R.PMC.DUMP_RD.PTR : Field := ⟨0x480030, 0, 24, .live, 0, .immediate, none⟩
/-- [31:0] CNT: R573, R575. -/
def R.PMC.DUMP_LOST_CNT.COUNT : Field := ⟨0x480034, 0, 32, .cnt, 0, .immediate, none⟩
/-- [31:12] CFG: Ring base [31:12]. -/
def R.PMC.SAMP_BASE_LO.ADDR : Field := ⟨0x480040, 12, 20, .cfg, 0x00000, .second, none⟩
/-- [1:0] CFG: Ring base [33:32]. -/
def R.PMC.SAMP_BASE_HI.ADDR : Field := ⟨0x480044, 0, 2, .cfg, 0b00, .second, none⟩
/-- [12:0] CFG: 4 KiB units, 1–4,096; 0 disables. -/
def R.PMC.SAMP_SIZE.SIZE : Field := ⟨0x480048, 0, 13, .cfg, 0x0000, .second, none⟩
/-- [23:0] STAT: Write offset, bytes. -/
def R.PMC.SAMP_WR.PTR : Field := ⟨0x48004C, 0, 24, .stat, 0, .immediate, none⟩
/-- [23:0] LIVE: Read offset, bytes. -/
def R.PMC.SAMP_RD.PTR : Field := ⟨0x480050, 0, 24, .live, 0, .immediate, none⟩
/-- [31:0] CNT: R573, R575. -/
def R.PMC.SAMP_LOST_CNT.COUNT : Field := ⟨0x480054, 0, 32, .cnt, 0, .immediate, none⟩
/-- [31:0] CNT: R573, R575. -/
def R.PMC.SAMP_DROP_CNT.COUNT : Field := ⟨0x480058, 0, 32, .cnt, 0, .immediate, none⟩
/-- [15:0] STAT: Signed, 1/16 K above 0 °C. -/
def R.PMC.DIE.TEMP (i : Nat) : Field := ⟨0x480060 + i * 0x4, 0, 16, .stat, 0x0000, .immediate, none⟩
/-- [15:0] STAT: Rail r, mV (R582). -/
def R.PMC.SUPPLY.MV (i : Nat) : Field := ⟨0x480070 + i * 0x4, 0, 16, .stat, 0x0000, .immediate, none⟩
/-- [15:0] STAT: θ; 0x8000 missing. -/
def R.PMC.THETA.TEMP : Field := ⟨0x4800A0, 0, 16, .stat, 0x8000, .immediate, none⟩
/-- [6:0] CFG: 7-bit address; 0 sensor absent. -/
def R.PMC.TEL_EXT.ADDR (i : Nat) : Field := ⟨0x4800B0 + i * 0x4, 0, 7, .cfg, 0x00, .second, none⟩
/-- [31:16] STAT: Latest reading, 1/16 K; 0x8000 stale. -/
def R.PMC.TEL_EXT.TEMP (i : Nat) : Field := ⟨0x4800B0 + i * 0x4, 16, 16, .stat, 0x8000, .immediate, none⟩
/-- [1:0] CFG: R583; 0b11 rejected. -/
def R.PMC.TEL_CFG.THETA_SRC : Field := ⟨0x4800C0, 0, 2, .cfg, 0b00, .second, none⟩
/-- [3:2] CFG: External sensor for θ and refresh. -/
def R.PMC.TEL_CFG.EXT_K : Field := ⟨0x4800C0, 2, 2, .cfg, 0b00, .second, none⟩
/-- [15:4] CFG: 2 bits per bank 0–5: 0b00 1.8, 0b01 2.5, 0b10 3.3 V; 0b11 rejected. -/
def R.PMC.TEL_CFG.IO_NOM : Field := ⟨0x4800C0, 4, 12, .cfg, 0x000, .second, none⟩
/-- [23:16] CFG: Die limit, °C; 100 at reset. -/
def R.PMC.TEL_CFG.HOT : Field := ⟨0x4800C0, 16, 8, .cfg, 0x64, .second, none⟩
/-- [11:0] CFG: Event counted (R564). -/
def R.PMC.SEL.EVENT (i : Nat) : Field := ⟨0x481000 + i * 0x4, 0, 12, .cfg, 0x000, .second, (some .pmcSel)⟩
/-- [31:0] CNT: Bits [31:0]; latches HI (R569). -/
def R.PMC.CNT.LO.COUNT (i : Nat) : Field := ⟨0x482000 + i * 0x8, 0, 32, .cnt, 0, .immediate, none⟩
/-- [15:0] CNT: Bits [47:32]. -/
def R.PMC.CNT.HI.COUNT (i : Nat) : Field := ⟨0x482004 + i * 0x8, 0, 16, .cnt, 0x0000, .immediate, none⟩

/-- The PMC fields, part 1. -/
def R.PMC.table1 : List RegRow :=
  [⟨1, 0, 1, 0, fun _ _ => R.PMC.CTL.SEL_COMMIT⟩,
   ⟨1, 0, 1, 0, fun _ _ => R.PMC.CTL.DUMP_NOW⟩,
   ⟨1, 0, 1, 0, fun _ _ => R.PMC.STAT.DUMP_ACTIVE⟩,
   ⟨1, 0, 1, 0, fun _ _ => R.PMC.STAT.THETA_OK⟩,
   ⟨1, 0, 1, 0, fun _ _ => R.PMC.EVT.WRAP⟩,
   ⟨1, 0, 1, 0, fun _ _ => R.PMC.EVT.DUMP_LATE⟩,
   ⟨1, 0, 1, 0, fun _ _ => R.PMC.EVT.DUMP_LOST⟩,
   ⟨1, 0, 1, 0, fun _ _ => R.PMC.EVT.SUPPLY⟩,
   ⟨1, 0, 1, 0, fun _ _ => R.PMC.EVT.OVERTEMP⟩,
   ⟨1, 0, 1, 0, fun _ _ => R.PMC.EVT.CFG_REJECTED⟩,
   ⟨1, 0, 1, 0, fun _ _ => R.PMC.INT_EN.EN⟩,
   ⟨1, 0, 1, 0, fun _ _ => R.PMC.WRAP_IDX.INDEX⟩,
   ⟨1, 0, 1, 0, fun _ _ => R.PMC.DUMP_CFG.EN⟩,
   ⟨1, 0, 1, 0, fun _ _ => R.PMC.DUMP_CFG.PERIOD⟩,
   ⟨1, 0, 1, 0, fun _ _ => R.PMC.SAMP_CFG.EN⟩,
   ⟨1, 0, 1, 0, fun _ _ => R.PMC.SAMP_CFG.LOG_INT⟩,
   ⟨1, 0, 1, 0, fun _ _ => R.PMC.SAMP_CFG.STOKERS⟩,
   ⟨1, 0, 1, 0, fun _ _ => R.PMC.DUMP_BASE_LO.ADDR⟩,
   ⟨1, 0, 1, 0, fun _ _ => R.PMC.DUMP_BASE_HI.ADDR⟩,
   ⟨1, 0, 1, 0, fun _ _ => R.PMC.DUMP_SIZE.SIZE⟩,
   ⟨1, 0, 1, 0, fun _ _ => R.PMC.DUMP_WR.PTR⟩,
   ⟨1, 0, 1, 0, fun _ _ => R.PMC.DUMP_RD.PTR⟩,
   ⟨1, 0, 1, 0, fun _ _ => R.PMC.DUMP_LOST_CNT.COUNT⟩,
   ⟨1, 0, 1, 0, fun _ _ => R.PMC.SAMP_BASE_LO.ADDR⟩,
   ⟨1, 0, 1, 0, fun _ _ => R.PMC.SAMP_BASE_HI.ADDR⟩,
   ⟨1, 0, 1, 0, fun _ _ => R.PMC.SAMP_SIZE.SIZE⟩,
   ⟨1, 0, 1, 0, fun _ _ => R.PMC.SAMP_WR.PTR⟩,
   ⟨1, 0, 1, 0, fun _ _ => R.PMC.SAMP_RD.PTR⟩,
   ⟨1, 0, 1, 0, fun _ _ => R.PMC.SAMP_LOST_CNT.COUNT⟩,
   ⟨1, 0, 1, 0, fun _ _ => R.PMC.SAMP_DROP_CNT.COUNT⟩,
   ⟨4, 0x4, 1, 0, fun i _ => R.PMC.DIE.TEMP i⟩,
   ⟨12, 0x4, 1, 0, fun i _ => R.PMC.SUPPLY.MV i⟩,
   ⟨1, 0, 1, 0, fun _ _ => R.PMC.THETA.TEMP⟩,
   ⟨4, 0x4, 1, 0, fun i _ => R.PMC.TEL_EXT.ADDR i⟩,
   ⟨4, 0x4, 1, 0, fun i _ => R.PMC.TEL_EXT.TEMP i⟩,
   ⟨1, 0, 1, 0, fun _ _ => R.PMC.TEL_CFG.THETA_SRC⟩,
   ⟨1, 0, 1, 0, fun _ _ => R.PMC.TEL_CFG.EXT_K⟩,
   ⟨1, 0, 1, 0, fun _ _ => R.PMC.TEL_CFG.IO_NOM⟩,
   ⟨1, 0, 1, 0, fun _ _ => R.PMC.TEL_CFG.HOT⟩,
   ⟨1024, 0x4, 1, 0, fun i _ => R.PMC.SEL.EVENT i⟩]
/-- The PMC fields, part 2. -/
def R.PMC.table2 : List RegRow :=
  [⟨1024, 0x8, 1, 0, fun i _ => R.PMC.CNT.LO.COUNT i⟩,
   ⟨1024, 0x8, 1, 0, fun i _ => R.PMC.CNT.HI.COUNT i⟩]

/-- Every field the PMC block implements. -/
def R.PMC.table : List RegRow := R.PMC.table1 ++ R.PMC.table2

/-! ### FLT: 20_faults_and_deadlines.md, R601 -/

/-- [0] CMD: Clear DEGRADED (R589). -/
def R.FLT.CTL.CLEAR_DEG : Field := ⟨0x500000, 0, 1, .cmd, 0, .immediate, none⟩
/-- [1] CMD: Clear SURRENDERED. -/
def R.FLT.CTL.CLEAR_SURR : Field := ⟨0x500000, 1, 1, .cmd, 0, .immediate, none⟩
/-- [2] CMD: Empty the log; the sequence continues. -/
def R.FLT.CTL.LOG_CLEAR : Field := ⟨0x500000, 2, 1, .cmd, 0, .immediate, none⟩
/-- [0] CFG: DEGRADED drives ALARM_N (R590). -/
def R.FLT.CFG.ALARM_DEG : Field := ⟨0x500004, 0, 1, .cfg, 1, .second, none⟩
/-- [7:4] CFG: Retry budget, sixteenths, 1–15; 0 rejected (R599). -/
def R.FLT.CFG.NEST_FRAC : Field := ⟨0x500004, 4, 4, .cfg, 0xC, .second, none⟩
/-- [0] STAT: A DEGRADE fault since the last clear. -/
def R.FLT.STAT.DEGRADED : Field := ⟨0x500008, 0, 1, .stat, 0, .immediate, none⟩
/-- [1] STAT: A SURRENDER fault since the last clear. -/
def R.FLT.STAT.SURRENDERED : Field := ⟨0x500008, 1, 1, .stat, 0, .immediate, none⟩
/-- [2] STAT: ALARM_N driven low. -/
def R.FLT.STAT.ALARM : Field := ⟨0x500008, 2, 1, .stat, 0, .immediate, none⟩
/-- [12:8] STAT: Filings queued, 0–16. -/
def R.FLT.STAT.QUEUE : Field := ⟨0x500008, 8, 5, .stat, 0x00, .immediate, none⟩
/-- [0] RC: NOTE logged. -/
def R.FLT.EVT.NOTE : Field := ⟨0x50000C, 0, 1, .rc, 0, .immediate, none⟩
/-- [1] RC: DEGRADE filed. -/
def R.FLT.EVT.DEGRADE : Field := ⟨0x50000C, 1, 1, .rc, 0, .immediate, none⟩
/-- [2] RC: SURRENDER filed. -/
def R.FLT.EVT.SURRENDER : Field := ⟨0x50000C, 2, 1, .rc, 0, .immediate, none⟩
/-- [3] RC: Filings discarded (R592). -/
def R.FLT.EVT.DROP : Field := ⟨0x50000C, 3, 1, .rc, 0, .immediate, none⟩
/-- [4] RC: Ring record discarded (R595). -/
def R.FLT.EVT.RING_LOST : Field := ⟨0x50000C, 4, 1, .rc, 0, .immediate, none⟩
/-- [5] RC: Log entry overwritten. -/
def R.FLT.EVT.OVERWRITE : Field := ⟨0x50000C, 5, 1, .rc, 0, .immediate, none⟩
/-- [6] RC: Write or commit rejected. -/
def R.FLT.EVT.CFG_REJECTED : Field := ⟨0x50000C, 6, 1, .rc, 0, .immediate, none⟩
/-- [6:0] LIVE: Interrupt enable per EVT bit. -/
def R.FLT.INT_EN.EN : Field := ⟨0x500010, 0, 7, .live, 0x00, .immediate, none⟩
/-- [26:0] LIVE: Bit b: NOTE faults of block b counted, not logged. -/
def R.FLT.NOTE_MASK.MASK : Field := ⟨0x500014, 0, 27, .live, 0x0000000, .immediate, none⟩
/-- [5:0] STAT: Newest entry. -/
def R.FLT.LOG_HEAD.INDEX : Field := ⟨0x500018, 0, 6, .stat, 0x3F, .immediate, none⟩
/-- [8] STAT: Log empty. -/
def R.FLT.LOG_HEAD.EMPTY : Field := ⟨0x500018, 8, 1, .stat, 1, .immediate, none⟩
/-- [31:0] CNT: Resets since power-on. -/
def R.FLT.RESET_CNT.COUNT : Field := ⟨0x50001C, 0, 32, .cnt, 0, .immediate, none⟩
/-- [31:12] CFG: Ring base [31:12]. -/
def R.FLT.RING_BASE_LO.ADDR : Field := ⟨0x500020, 12, 20, .cfg, 0x00000, .second, none⟩
/-- [1:0] CFG: Ring base [33:32]. -/
def R.FLT.RING_BASE_HI.ADDR : Field := ⟨0x500024, 0, 2, .cfg, 0b00, .second, none⟩
/-- [12:0] CFG: 4 KiB units, 1–4,096; 0 disables. -/
def R.FLT.RING_SIZE.SIZE : Field := ⟨0x500028, 0, 13, .cfg, 0x0000, .second, none⟩
/-- [23:0] STAT: Write offset, bytes. -/
def R.FLT.RING_WR.PTR : Field := ⟨0x50002C, 0, 24, .stat, 0, .immediate, none⟩
/-- [23:0] LIVE: Read offset, bytes. -/
def R.FLT.RING_RD.PTR : Field := ⟨0x500030, 0, 24, .live, 0, .immediate, none⟩
/-- [31:0] CNT: Ring records discarded. -/
def R.FLT.RING_LOST_CNT.COUNT : Field := ⟨0x500034, 0, 32, .cnt, 0, .immediate, none⟩
/-- [31:0] CNT: Filings by class, masked NOTE included. -/
def R.FLT.NOTE_CNT.COUNT : Field := ⟨0x500040, 0, 32, .cnt, 0, .immediate, none⟩
/-- [31:0] CNT: Filings by class, masked NOTE included. -/
def R.FLT.DEGRADE_CNT.COUNT : Field := ⟨0x500044, 0, 32, .cnt, 0, .immediate, none⟩
/-- [31:0] CNT: Filings by class, masked NOTE included. -/
def R.FLT.SURRENDER_CNT.COUNT : Field := ⟨0x500048, 0, 32, .cnt, 0, .immediate, none⟩
/-- [31:0] CNT: R592, R593. -/
def R.FLT.DROP_CNT.COUNT : Field := ⟨0x50004C, 0, 32, .cnt, 0, .immediate, none⟩
/-- [31:0] CNT: R592, R593. -/
def R.FLT.OVERWRITE_CNT.COUNT : Field := ⟨0x500050, 0, 32, .cnt, 0, .immediate, none⟩
/-- [31:0] STAT: Latest SURRENDER record (R594). -/
def R.FLT.LAST_SURR.RECORD (i : Nat) : Field := ⟨0x500060 + i * 0x4, 0, 32, .stat, 0, .immediate, none⟩
/-- [31:0] STAT: Log entry k (R594). -/
def R.FLT.LOG.RECORD (i : Nat) (j : Nat) : Field := ⟨0x500400 + i * 0x20 + j * 0x4, 0, 32, .stat, 0, .immediate, none⟩

/-- The FLT fields, part 1. -/
def R.FLT.table1 : List RegRow :=
  [⟨1, 0, 1, 0, fun _ _ => R.FLT.CTL.CLEAR_DEG⟩,
   ⟨1, 0, 1, 0, fun _ _ => R.FLT.CTL.CLEAR_SURR⟩,
   ⟨1, 0, 1, 0, fun _ _ => R.FLT.CTL.LOG_CLEAR⟩,
   ⟨1, 0, 1, 0, fun _ _ => R.FLT.CFG.ALARM_DEG⟩,
   ⟨1, 0, 1, 0, fun _ _ => R.FLT.CFG.NEST_FRAC⟩,
   ⟨1, 0, 1, 0, fun _ _ => R.FLT.STAT.DEGRADED⟩,
   ⟨1, 0, 1, 0, fun _ _ => R.FLT.STAT.SURRENDERED⟩,
   ⟨1, 0, 1, 0, fun _ _ => R.FLT.STAT.ALARM⟩,
   ⟨1, 0, 1, 0, fun _ _ => R.FLT.STAT.QUEUE⟩,
   ⟨1, 0, 1, 0, fun _ _ => R.FLT.EVT.NOTE⟩,
   ⟨1, 0, 1, 0, fun _ _ => R.FLT.EVT.DEGRADE⟩,
   ⟨1, 0, 1, 0, fun _ _ => R.FLT.EVT.SURRENDER⟩,
   ⟨1, 0, 1, 0, fun _ _ => R.FLT.EVT.DROP⟩,
   ⟨1, 0, 1, 0, fun _ _ => R.FLT.EVT.RING_LOST⟩,
   ⟨1, 0, 1, 0, fun _ _ => R.FLT.EVT.OVERWRITE⟩,
   ⟨1, 0, 1, 0, fun _ _ => R.FLT.EVT.CFG_REJECTED⟩,
   ⟨1, 0, 1, 0, fun _ _ => R.FLT.INT_EN.EN⟩,
   ⟨1, 0, 1, 0, fun _ _ => R.FLT.NOTE_MASK.MASK⟩,
   ⟨1, 0, 1, 0, fun _ _ => R.FLT.LOG_HEAD.INDEX⟩,
   ⟨1, 0, 1, 0, fun _ _ => R.FLT.LOG_HEAD.EMPTY⟩,
   ⟨1, 0, 1, 0, fun _ _ => R.FLT.RESET_CNT.COUNT⟩,
   ⟨1, 0, 1, 0, fun _ _ => R.FLT.RING_BASE_LO.ADDR⟩,
   ⟨1, 0, 1, 0, fun _ _ => R.FLT.RING_BASE_HI.ADDR⟩,
   ⟨1, 0, 1, 0, fun _ _ => R.FLT.RING_SIZE.SIZE⟩,
   ⟨1, 0, 1, 0, fun _ _ => R.FLT.RING_WR.PTR⟩,
   ⟨1, 0, 1, 0, fun _ _ => R.FLT.RING_RD.PTR⟩,
   ⟨1, 0, 1, 0, fun _ _ => R.FLT.RING_LOST_CNT.COUNT⟩,
   ⟨1, 0, 1, 0, fun _ _ => R.FLT.NOTE_CNT.COUNT⟩,
   ⟨1, 0, 1, 0, fun _ _ => R.FLT.DEGRADE_CNT.COUNT⟩,
   ⟨1, 0, 1, 0, fun _ _ => R.FLT.SURRENDER_CNT.COUNT⟩,
   ⟨1, 0, 1, 0, fun _ _ => R.FLT.DROP_CNT.COUNT⟩,
   ⟨1, 0, 1, 0, fun _ _ => R.FLT.OVERWRITE_CNT.COUNT⟩,
   ⟨8, 0x4, 1, 0, fun i _ => R.FLT.LAST_SURR.RECORD i⟩,
   ⟨64, 0x20, 8, 0x4, fun i j => R.FLT.LOG.RECORD i j⟩]

/-- Every field the FLT block implements. -/
def R.FLT.table : List RegRow := R.FLT.table1

/-! ### MEM: 19_counters_and_background_work.md, R587 -/

/-- [0] CMD: Commit CFG, SWEEP and ARB. -/
def R.MEM.CTL.COMMIT : Field := ⟨0x580000, 0, 1, .cmd, 0, .second, none⟩
/-- [0] CFG: 0: one rank; 1: two. -/
def R.MEM.GEO.RANKS : Field := ⟨0x580004, 0, 1, .cfg, 0, .second, (some .memCfg)⟩
/-- [1] CFG: 0 x4, 1 x8. -/
def R.MEM.GEO.WIDTH : Field := ⟨0x580004, 1, 1, .cfg, 1, .second, (some .memCfg)⟩
/-- [3:2] CFG: 0b00 4, 0b01 8, 0b10 16 Gb; 0b11 rejected. -/
def R.MEM.GEO.DENSITY : Field := ⟨0x580004, 2, 2, .cfg, 0b01, .second, (some .memCfg)⟩
/-- [4] CFG: 0 DDR4-3200AA, 1 DDR4-3200AC. -/
def R.MEM.GEO.BIN : Field := ⟨0x580004, 4, 1, .cfg, 0, .second, (some .memCfg)⟩
/-- [1:0] CFG: R577; 0b11 rejected. -/
def R.MEM.CFG.REFRESH : Field := ⟨0x580008, 0, 2, .cfg, 0b00, .second, (some .memCfg)⟩
/-- [0] STAT: DRAM trained and ready. -/
def R.MEM.STAT.READY : Field := ⟨0x58000C, 0, 1, .stat, 0, .immediate, none⟩
/-- [1] STAT: Training failed. -/
def R.MEM.STAT.TRAIN_FAIL : Field := ⟨0x58000C, 1, 1, .stat, 0, .immediate, none⟩
/-- [2] STAT: Refresh at 3.9 µs. -/
def R.MEM.STAT.REF_2X : Field := ⟨0x58000C, 2, 1, .stat, 0, .immediate, none⟩
/-- [0] RC: DRAM corrected error. -/
def R.MEM.EVT.CE : Field := ⟨0x580010, 0, 1, .rc, 0, .immediate, none⟩
/-- [1] RC: DRAM uncorrectable error. -/
def R.MEM.EVT.UE : Field := ⟨0x580010, 1, 1, .rc, 0, .immediate, none⟩
/-- [2] RC: SRAM corrected error. -/
def R.MEM.EVT.SRAM_CE : Field := ⟨0x580010, 2, 1, .rc, 0, .immediate, none⟩
/-- [3] RC: SRAM uncorrectable error (R580). -/
def R.MEM.EVT.SRAM_UE : Field := ⟨0x580010, 3, 1, .rc, 0, .immediate, none⟩
/-- [4] RC: R581. -/
def R.MEM.EVT.SWEEP_SLOW : Field := ⟨0x580010, 4, 1, .rc, 0, .immediate, none⟩
/-- [5] RC: R584. -/
def R.MEM.EVT.BG_STARVED : Field := ⟨0x580010, 5, 1, .rc, 0, .immediate, none⟩
/-- [6] RC: Commit rejected. -/
def R.MEM.EVT.CFG_REJECTED : Field := ⟨0x580010, 6, 1, .rc, 0, .immediate, none⟩
/-- [6:0] LIVE: Interrupt enable per EVT bit. -/
def R.MEM.INT_EN.EN : Field := ⟨0x580014, 0, 7, .live, 0x00, .immediate, none⟩
/-- [15:0] CFG: SRAM pass period, ms, 100–10,000. -/
def R.MEM.SWEEP.SRAM_MS : Field := ⟨0x580018, 0, 16, .cfg, 0x03E8, .second, (some .memCfg)⟩
/-- [23:16] CFG: DRAM pass period, h, 1–168. -/
def R.MEM.SWEEP.DRAM_H : Field := ⟨0x580018, 16, 8, .cfg, 0x18, .second, (some .memCfg)⟩
/-- [7:0] CFG: Background floor, %, 1–BG_MAX. -/
def R.MEM.ARB.BG_MIN : Field := ⟨0x58001C, 0, 8, .cfg, 0x02, .second, (some .memCfg)⟩
/-- [15:8] CFG: Background ceiling, %, at most 10. -/
def R.MEM.ARB.BG_MAX : Field := ⟨0x58001C, 8, 8, .cfg, 0x0A, .second, (some .memCfg)⟩
/-- [31:0] STAT: DRAM address of the last uncorrectable error. -/
def R.MEM.UE_ADDR_LO.ADDR : Field := ⟨0x580030, 0, 32, .stat, 0, .immediate, none⟩
/-- [1:0] STAT: DRAM address of the last uncorrectable error. -/
def R.MEM.UE_ADDR_HI.ADDR : Field := ⟨0x580034, 0, 2, .stat, 0, .immediate, none⟩
/-- [31:0] STAT: [31:24] SRAM instance, [23:0] word. -/
def R.MEM.SRAM_UE_LOC.LOC : Field := ⟨0x580038, 0, 32, .stat, 0, .immediate, none⟩
/-- [14:0] STAT: Installed capacity, MiB. -/
def R.MEM.SIZE_MIB.MIB : Field := ⟨0x58003C, 0, 15, .stat, 0x0000, .immediate, none⟩
/-- [31:0] CNT: R578, R580, R581. -/
def R.MEM.CE_CNT.COUNT : Field := ⟨0x580040, 0, 32, .cnt, 0, .immediate, none⟩
/-- [31:0] CNT: R578, R580, R581. -/
def R.MEM.UE_CNT.COUNT : Field := ⟨0x580044, 0, 32, .cnt, 0, .immediate, none⟩
/-- [31:0] CNT: R578, R580, R581. -/
def R.MEM.SRAM_CE_CNT.COUNT : Field := ⟨0x580048, 0, 32, .cnt, 0, .immediate, none⟩
/-- [31:0] CNT: R578, R580, R581. -/
def R.MEM.SRAM_UE_CNT.COUNT : Field := ⟨0x58004C, 0, 32, .cnt, 0, .immediate, none⟩
/-- [31:0] CNT: R578, R580, R581. -/
def R.MEM.SRAM_PASS_CNT.COUNT : Field := ⟨0x580050, 0, 32, .cnt, 0, .immediate, none⟩
/-- [31:0] CNT: R578, R580, R581. -/
def R.MEM.DRAM_PASS_CNT.COUNT : Field := ⟨0x580054, 0, 32, .cnt, 0, .immediate, none⟩

/-- The MEM fields, part 1. -/
def R.MEM.table1 : List RegRow :=
  [⟨1, 0, 1, 0, fun _ _ => R.MEM.CTL.COMMIT⟩,
   ⟨1, 0, 1, 0, fun _ _ => R.MEM.GEO.RANKS⟩,
   ⟨1, 0, 1, 0, fun _ _ => R.MEM.GEO.WIDTH⟩,
   ⟨1, 0, 1, 0, fun _ _ => R.MEM.GEO.DENSITY⟩,
   ⟨1, 0, 1, 0, fun _ _ => R.MEM.GEO.BIN⟩,
   ⟨1, 0, 1, 0, fun _ _ => R.MEM.CFG.REFRESH⟩,
   ⟨1, 0, 1, 0, fun _ _ => R.MEM.STAT.READY⟩,
   ⟨1, 0, 1, 0, fun _ _ => R.MEM.STAT.TRAIN_FAIL⟩,
   ⟨1, 0, 1, 0, fun _ _ => R.MEM.STAT.REF_2X⟩,
   ⟨1, 0, 1, 0, fun _ _ => R.MEM.EVT.CE⟩,
   ⟨1, 0, 1, 0, fun _ _ => R.MEM.EVT.UE⟩,
   ⟨1, 0, 1, 0, fun _ _ => R.MEM.EVT.SRAM_CE⟩,
   ⟨1, 0, 1, 0, fun _ _ => R.MEM.EVT.SRAM_UE⟩,
   ⟨1, 0, 1, 0, fun _ _ => R.MEM.EVT.SWEEP_SLOW⟩,
   ⟨1, 0, 1, 0, fun _ _ => R.MEM.EVT.BG_STARVED⟩,
   ⟨1, 0, 1, 0, fun _ _ => R.MEM.EVT.CFG_REJECTED⟩,
   ⟨1, 0, 1, 0, fun _ _ => R.MEM.INT_EN.EN⟩,
   ⟨1, 0, 1, 0, fun _ _ => R.MEM.SWEEP.SRAM_MS⟩,
   ⟨1, 0, 1, 0, fun _ _ => R.MEM.SWEEP.DRAM_H⟩,
   ⟨1, 0, 1, 0, fun _ _ => R.MEM.ARB.BG_MIN⟩,
   ⟨1, 0, 1, 0, fun _ _ => R.MEM.ARB.BG_MAX⟩,
   ⟨1, 0, 1, 0, fun _ _ => R.MEM.UE_ADDR_LO.ADDR⟩,
   ⟨1, 0, 1, 0, fun _ _ => R.MEM.UE_ADDR_HI.ADDR⟩,
   ⟨1, 0, 1, 0, fun _ _ => R.MEM.SRAM_UE_LOC.LOC⟩,
   ⟨1, 0, 1, 0, fun _ _ => R.MEM.SIZE_MIB.MIB⟩,
   ⟨1, 0, 1, 0, fun _ _ => R.MEM.CE_CNT.COUNT⟩,
   ⟨1, 0, 1, 0, fun _ _ => R.MEM.UE_CNT.COUNT⟩,
   ⟨1, 0, 1, 0, fun _ _ => R.MEM.SRAM_CE_CNT.COUNT⟩,
   ⟨1, 0, 1, 0, fun _ _ => R.MEM.SRAM_UE_CNT.COUNT⟩,
   ⟨1, 0, 1, 0, fun _ _ => R.MEM.SRAM_PASS_CNT.COUNT⟩,
   ⟨1, 0, 1, 0, fun _ _ => R.MEM.DRAM_PASS_CNT.COUNT⟩]

/-- Every field the MEM block implements. -/
def R.MEM.table : List RegRow := R.MEM.table1

end Sys2Proof.Machine
end

