-- ==== Sys2Proof/Machine/RegsTime.lean ====
section
/-! DEFINITION. The register fields of the Hearth, error bound, reference, selection and oscillator blocks.
One definition per field of the register tables (spec chapters, R12, R13): its address, lowest bit, width, access code,
reset value, boundary and commit group; an array field is a function of its index. After them each block's table of
fields, which the address decoder reads (R539, R540). -/

namespace Sys2Proof.Machine

/-! ### TSC: 01_hearth_timescale.md, R62 -/

/-- [0] CMD: Re-arm the step (R39). -/
def R.TSC.CTL.STEP_ARM : Field := ⟨0x20000, 0, 1, .cmd, 0, .immediate, none⟩
/-- [1] CMD: Take a time snapshot (R60). -/
def R.TSC.CTL.SNAP : Field := ⟨0x20000, 1, 1, .cmd, 0, .immediate, none⟩
/-- [4] CMD: Return lane A to the vote (R54). -/
def R.TSC.CTL.UNFENCE_A : Field := ⟨0x20000, 4, 1, .cmd, 0, .second, none⟩
/-- [5] CMD: Return lane B to the vote. -/
def R.TSC.CTL.UNFENCE_B : Field := ⟨0x20000, 5, 1, .cmd, 0, .second, none⟩
/-- [6] CMD: Return lane C to the vote. -/
def R.TSC.CTL.UNFENCE_C : Field := ⟨0x20000, 6, 1, .cmd, 0, .second, none⟩
/-- [2:0] CFG: Loop update rate 2^n Hz, n = 0 to 4 (R22). -/
def R.TSC.CFG.LOOP_RATE : Field := ⟨0x20004, 0, 3, .cfg, 0b011, .second, none⟩
/-- [0] CFG: 0: hardware loop; 1: software, damper open (R26–R29). -/
def R.TSC.LOOP.OWNER : Field := ⟨0x20008, 0, 1, .cfg, 0, .loopUpdate, none⟩
/-- [1:0] STAT: 0b00 UNSET, 0b10 STEPPED, 0b01 ARMED (R33). -/
def R.TSC.STAT.STATE : Field := ⟨0x2000C, 0, 2, .stat, 0b00, .immediate, none⟩
/-- [4] STAT: Loop owner now in force. -/
def R.TSC.STAT.OWNER_APPLIED : Field := ⟨0x2000C, 4, 1, .stat, 0, .immediate, none⟩
/-- [8] STAT: Lane A fenced. -/
def R.TSC.STAT.FENCED_A : Field := ⟨0x2000C, 8, 1, .stat, 0, .immediate, none⟩
/-- [9] STAT: Lane B fenced. -/
def R.TSC.STAT.FENCED_B : Field := ⟨0x2000C, 9, 1, .stat, 0, .immediate, none⟩
/-- [10] STAT: Lane C fenced. -/
def R.TSC.STAT.FENCED_C : Field := ⟨0x2000C, 10, 1, .stat, 0, .immediate, none⟩
/-- [12] STAT: Copy of TSC.LEAP_NEXT.PENDING. -/
def R.TSC.STAT.LEAP_PENDING : Field := ⟨0x2000C, 12, 1, .stat, 0, .immediate, none⟩
/-- [16] STAT: Snapshot requested and not yet taken. -/
def R.TSC.STAT.SNAP_BUSY : Field := ⟨0x2000C, 16, 1, .stat, 0, .immediate, none⟩
/-- [20] STAT: A two-lane split has occurred since reset or the last unfence (R52). -/
def R.TSC.STAT.SPLIT : Field := ⟨0x2000C, 20, 1, .stat, 0, .immediate, none⟩
/-- [0] RC: A step executed (R36). -/
def R.TSC.EVT.STEPPED : Field := ⟨0x20010, 0, 1, .rc, 0, .immediate, none⟩
/-- [1] RC: STEP_ARM absorbed by a step (R39). -/
def R.TSC.EVT.ARM_ABSORBED : Field := ⟨0x20010, 1, 1, .rc, 0, .immediate, none⟩
/-- [2] RC: Software commit discarded (R26, R28). -/
def R.TSC.EVT.STEER_REFUSED : Field := ⟨0x20010, 2, 1, .rc, 0, .immediate, none⟩
/-- [3] RC: S or P clamped (R21, R30). -/
def R.TSC.EVT.STEER_CLAMPED : Field := ⟨0x20010, 3, 1, .rc, 0, .immediate, none⟩
/-- [4] RC: INTEG change limited (R31). -/
def R.TSC.EVT.INTEG_CLAMPED : Field := ⟨0x20010, 4, 1, .rc, 0, .immediate, none⟩
/-- [5] RC: Value deferred one loop update (R24). -/
def R.TSC.EVT.LATE_COMMIT : Field := ⟨0x20010, 5, 1, .rc, 0, .immediate, none⟩
/-- [6] RC: Reserved code written to a field. -/
def R.TSC.EVT.CFG_REJECTED : Field := ⟨0x20010, 6, 1, .rc, 0, .immediate, none⟩
/-- [8] RC: A lane resynchronised (R49). -/
def R.TSC.EVT.RESYNC : Field := ⟨0x20010, 8, 1, .rc, 0, .immediate, none⟩
/-- [9] RC: A lane fenced (R51). -/
def R.TSC.EVT.FENCE : Field := ⟨0x20010, 9, 1, .rc, 0, .immediate, none⟩
/-- [10] RC: Two remaining lanes disagreed (R52). -/
def R.TSC.EVT.SPLIT : Field := ⟨0x20010, 10, 1, .rc, 0, .immediate, none⟩
/-- [11] RC: All three lanes disagreed (R50). -/
def R.TSC.EVT.TRIPLE : Field := ⟨0x20010, 11, 1, .rc, 0, .immediate, none⟩
/-- [12] RC: Offset changed at LEAP_AT (R45). -/
def R.TSC.EVT.LEAP_APPLIED : Field := ⟨0x20010, 12, 1, .rc, 0, .immediate, none⟩
/-- [13] RC: Announcement or commit rejected (R43, R46). -/
def R.TSC.EVT.LEAP_REJECTED : Field := ⟨0x20010, 13, 1, .rc, 0, .immediate, none⟩
/-- [14] RC: Lower source disagreed (R44). -/
def R.TSC.EVT.LEAP_DISAGREE : Field := ⟨0x20010, 14, 1, .rc, 0, .immediate, none⟩
/-- [16] RC: Snapshot taken (R60). -/
def R.TSC.EVT.SNAP_DONE : Field := ⟨0x20010, 16, 1, .rc, 0, .immediate, none⟩
/-- [0] LIVE: Interrupt enable of EVT.STEPPED. -/
def R.TSC.INT_EN.STEPPED : Field := ⟨0x20014, 0, 1, .live, 0, .immediate, none⟩
/-- [1] LIVE: Interrupt enable of EVT.ARM_ABSORBED. -/
def R.TSC.INT_EN.ARM_ABSORBED : Field := ⟨0x20014, 1, 1, .live, 0, .immediate, none⟩
/-- [2] LIVE: Interrupt enable of EVT.STEER_REFUSED. -/
def R.TSC.INT_EN.STEER_REFUSED : Field := ⟨0x20014, 2, 1, .live, 0, .immediate, none⟩
/-- [3] LIVE: Interrupt enable of EVT.STEER_CLAMPED. -/
def R.TSC.INT_EN.STEER_CLAMPED : Field := ⟨0x20014, 3, 1, .live, 0, .immediate, none⟩
/-- [4] LIVE: Interrupt enable of EVT.INTEG_CLAMPED. -/
def R.TSC.INT_EN.INTEG_CLAMPED : Field := ⟨0x20014, 4, 1, .live, 0, .immediate, none⟩
/-- [5] LIVE: Interrupt enable of EVT.LATE_COMMIT. -/
def R.TSC.INT_EN.LATE_COMMIT : Field := ⟨0x20014, 5, 1, .live, 0, .immediate, none⟩
/-- [6] LIVE: Interrupt enable of EVT.CFG_REJECTED. -/
def R.TSC.INT_EN.CFG_REJECTED : Field := ⟨0x20014, 6, 1, .live, 0, .immediate, none⟩
/-- [8] LIVE: Interrupt enable of EVT.RESYNC. -/
def R.TSC.INT_EN.RESYNC : Field := ⟨0x20014, 8, 1, .live, 0, .immediate, none⟩
/-- [9] LIVE: Interrupt enable of EVT.FENCE. -/
def R.TSC.INT_EN.FENCE : Field := ⟨0x20014, 9, 1, .live, 0, .immediate, none⟩
/-- [10] LIVE: Interrupt enable of EVT.SPLIT. -/
def R.TSC.INT_EN.SPLIT : Field := ⟨0x20014, 10, 1, .live, 0, .immediate, none⟩
/-- [11] LIVE: Interrupt enable of EVT.TRIPLE. -/
def R.TSC.INT_EN.TRIPLE : Field := ⟨0x20014, 11, 1, .live, 0, .immediate, none⟩
/-- [12] LIVE: Interrupt enable of EVT.LEAP_APPLIED. -/
def R.TSC.INT_EN.LEAP_APPLIED : Field := ⟨0x20014, 12, 1, .live, 0, .immediate, none⟩
/-- [13] LIVE: Interrupt enable of EVT.LEAP_REJECTED. -/
def R.TSC.INT_EN.LEAP_REJECTED : Field := ⟨0x20014, 13, 1, .live, 0, .immediate, none⟩
/-- [14] LIVE: Interrupt enable of EVT.LEAP_DISAGREE. -/
def R.TSC.INT_EN.LEAP_DISAGREE : Field := ⟨0x20014, 14, 1, .live, 0, .immediate, none⟩
/-- [16] LIVE: Interrupt enable of EVT.SNAP_DONE. -/
def R.TSC.INT_EN.SNAP_DONE : Field := ⟨0x20014, 16, 1, .live, 0, .immediate, none⟩
/-- [15:0] STAT: TIME96 bits [15:0]. -/
def R.TSC.SNAP_FRAC.FRAC : Field := ⟨0x20020, 0, 16, .stat, 0x0000, .immediate, none⟩
/-- [29:0] STAT: TIME96 nanoseconds. -/
def R.TSC.SNAP_NS.NS : Field := ⟨0x20024, 0, 30, .stat, 0, .immediate, none⟩
/-- [31:0] STAT: TIME96 seconds [31:0]. -/
def R.TSC.SNAP_SEC_LO.SEC : Field := ⟨0x20028, 0, 32, .stat, 0, .immediate, none⟩
/-- [15:0] STAT: TIME96 seconds [47:32]. -/
def R.TSC.SNAP_SEC_HI.SEC : Field := ⟨0x2002C, 0, 16, .stat, 0, .immediate, none⟩
/-- [31:0] STAT: CK_HRT tick number of the snapshot. -/
def R.TSC.SNAP_TICK.TICK : Field := ⟨0x20030, 0, 32, .stat, 0, .immediate, none⟩
/-- [31:0] CFG: Requested S, low bits; held in shadow (R25). -/
def R.TSC.STEER0.VALUE : Field := ⟨0x20040, 0, 32, .cfg, 0x00000000, .loopUpdate, (some .tscSteer)⟩
/-- [7:0] CFG: Requested S, high bits; writing commits both words. -/
def R.TSC.STEER1.VALUE : Field := ⟨0x20044, 0, 8, .cfg, 0x00, .loopUpdate, (some .tscSteer)⟩
/-- [31:0] CFG: Integrator, counts of 10^-15; software commits accepted only with the damper open. -/
def R.TSC.INTEG0.VALUE : Field := ⟨0x20048, 0, 32, .cfg, 0x00000000, .loopUpdate, (some .tscInteg)⟩
/-- [7:0] CFG: Integrator high bits; writing commits both words. Reads return the applied INTEG. -/
def R.TSC.INTEG1.VALUE : Field := ⟨0x2004C, 0, 8, .cfg, 0x00, .loopUpdate, (some .tscInteg)⟩
/-- [31:0] STAT: Applied S, low bits. -/
def R.TSC.RATE0.VALUE : Field := ⟨0x20050, 0, 32, .stat, 0x00000000, .immediate, none⟩
/-- [7:0] STAT: Applied S, high bits. -/
def R.TSC.RATE1.VALUE : Field := ⟨0x20054, 0, 8, .stat, 0x00, .immediate, none⟩
/-- [19:0] CFG: P limit in ppt, 200,000 at reset; effective at most 500,000 (R30). -/
def R.TSC.SLEW.MAX : Field := ⟨0x20058, 0, 20, .cfg, 0x30D40, .loopUpdate, none⟩
/-- [31:20] CFG: INTEG change limit per update in ppt, 100 at reset (R31). -/
def R.TSC.SLEW.INTEG_STEP : Field := ⟨0x20058, 20, 12, .cfg, 0x064, .loopUpdate, none⟩
/-- [15:0] STAT: Fraction of the last D, non-negative. -/
def R.TSC.STEP_LAST_FRAC.FRAC : Field := ⟨0x20060, 0, 16, .stat, 0x0000, .immediate, none⟩
/-- [29:0] STAT: Nanoseconds of the last D, non-negative. -/
def R.TSC.STEP_LAST_NS.NS : Field := ⟨0x20064, 0, 30, .stat, 0, .immediate, none⟩
/-- [31:0] STAT: Signed seconds of the last D, bits [31:0]. -/
def R.TSC.STEP_LAST_SEC_LO.SEC : Field := ⟨0x20068, 0, 32, .stat, 0, .immediate, none⟩
/-- [15:0] STAT: Signed seconds of the last D, bits [47:32]; D = SEC + (NS + FRAC × 2^-16) × 10^-9 s. -/
def R.TSC.STEP_LAST_SEC_HI.SEC : Field := ⟨0x2006C, 0, 16, .stat, 0x0000, .immediate, none⟩
/-- [15:0] CFG: Current TAI − UTC in s, signed. -/
def R.TSC.LEAP_CUR.OFFSET : Field := ⟨0x20070, 0, 16, .cfg, 0x0000, .second, (some .tscLeap)⟩
/-- [19:16] STAT: Source of the values in force (R42). -/
def R.TSC.LEAP_CUR.SRC : Field := ⟨0x20070, 16, 4, .stat, 0x0, .immediate, none⟩
/-- [15:0] CFG: TAI − UTC after LEAP_AT, signed. -/
def R.TSC.LEAP_NEXT.OFFSET : Field := ⟨0x20074, 0, 16, .cfg, 0x0000, .second, (some .tscLeap)⟩
/-- [31] STAT: A leap is pending. -/
def R.TSC.LEAP_NEXT.PENDING : Field := ⟨0x20074, 31, 1, .stat, 0, .immediate, none⟩
/-- [31:0] CFG: TAI seconds of the leap, bits [31:0]. -/
def R.TSC.LEAP_AT_LO.AT : Field := ⟨0x20078, 0, 32, .cfg, 0x00000000, .second, (some .tscLeap)⟩
/-- [15:0] CFG: TAI seconds of the leap, bits [47:32]. -/
def R.TSC.LEAP_AT_HI.AT : Field := ⟨0x2007C, 0, 16, .cfg, 0x0000, .second, (some .tscLeap)⟩
/-- [0] CMD: Commit group LEAP (R46). -/
def R.TSC.LEAP_CTL.COMMIT : Field := ⟨0x20080, 0, 1, .cmd, 0, .second, none⟩
/-- [8] CFG: 1: host values rule, other sources ignored. -/
def R.TSC.LEAP_CTL.HOLD : Field := ⟨0x20080, 8, 1, .cfg, 0, .second, none⟩
/-- [3:0] CFG: Resynchronisations that fence; 0 disables fencing (R51). -/
def R.TSC.VOTE.FENCE_N : Field := ⟨0x20090, 0, 4, .cfg, 0x3, .second, none⟩
/-- [15:8] CFG: Fencing window in seconds, 64 at reset. -/
def R.TSC.VOTE.FENCE_WIN : Field := ⟨0x20090, 8, 8, .cfg, 0x40, .second, none⟩
/-- [17:16] CFG: First preferred lane: 0b00 A, 0b01 B, 0b10 C; 0b11 ignored with CFG_REJECTED. -/
def R.TSC.VOTE.PREFER : Field := ⟨0x20090, 16, 2, .cfg, 0b00, .second, none⟩
/-- [31:0] CNT: Ticks of disagreement of lane n, saturating (R48). -/
def R.TSC.LANE_DIS.TICKS (i : Nat) : Field := ⟨0x200A0 + i * 0x4, 0, 32, .cnt, 0, .immediate, none⟩
/-- [15:0] CNT: Resynchronisations of lane n, saturating at 0xFFFF. -/
def R.TSC.LANE_RSY.LOADS (i : Nat) : Field := ⟨0x200B0 + i * 0x4, 0, 16, .cnt, 0, .immediate, none⟩
/-- [31:0] CNT: Steps since reset. -/
def R.TSC.STEP_COUNT.COUNT : Field := ⟨0x200C0, 0, 32, .cnt, 0, .immediate, none⟩

/-- The TSC fields, part 1. -/
def R.TSC.table1 : List RegRow :=
  [⟨1, 0, 1, 0, fun _ _ => R.TSC.CTL.STEP_ARM⟩,
   ⟨1, 0, 1, 0, fun _ _ => R.TSC.CTL.SNAP⟩,
   ⟨1, 0, 1, 0, fun _ _ => R.TSC.CTL.UNFENCE_A⟩,
   ⟨1, 0, 1, 0, fun _ _ => R.TSC.CTL.UNFENCE_B⟩,
   ⟨1, 0, 1, 0, fun _ _ => R.TSC.CTL.UNFENCE_C⟩,
   ⟨1, 0, 1, 0, fun _ _ => R.TSC.CFG.LOOP_RATE⟩,
   ⟨1, 0, 1, 0, fun _ _ => R.TSC.LOOP.OWNER⟩,
   ⟨1, 0, 1, 0, fun _ _ => R.TSC.STAT.STATE⟩,
   ⟨1, 0, 1, 0, fun _ _ => R.TSC.STAT.OWNER_APPLIED⟩,
   ⟨1, 0, 1, 0, fun _ _ => R.TSC.STAT.FENCED_A⟩,
   ⟨1, 0, 1, 0, fun _ _ => R.TSC.STAT.FENCED_B⟩,
   ⟨1, 0, 1, 0, fun _ _ => R.TSC.STAT.FENCED_C⟩,
   ⟨1, 0, 1, 0, fun _ _ => R.TSC.STAT.LEAP_PENDING⟩,
   ⟨1, 0, 1, 0, fun _ _ => R.TSC.STAT.SNAP_BUSY⟩,
   ⟨1, 0, 1, 0, fun _ _ => R.TSC.STAT.SPLIT⟩,
   ⟨1, 0, 1, 0, fun _ _ => R.TSC.EVT.STEPPED⟩,
   ⟨1, 0, 1, 0, fun _ _ => R.TSC.EVT.ARM_ABSORBED⟩,
   ⟨1, 0, 1, 0, fun _ _ => R.TSC.EVT.STEER_REFUSED⟩,
   ⟨1, 0, 1, 0, fun _ _ => R.TSC.EVT.STEER_CLAMPED⟩,
   ⟨1, 0, 1, 0, fun _ _ => R.TSC.EVT.INTEG_CLAMPED⟩,
   ⟨1, 0, 1, 0, fun _ _ => R.TSC.EVT.LATE_COMMIT⟩,
   ⟨1, 0, 1, 0, fun _ _ => R.TSC.EVT.CFG_REJECTED⟩,
   ⟨1, 0, 1, 0, fun _ _ => R.TSC.EVT.RESYNC⟩,
   ⟨1, 0, 1, 0, fun _ _ => R.TSC.EVT.FENCE⟩,
   ⟨1, 0, 1, 0, fun _ _ => R.TSC.EVT.SPLIT⟩,
   ⟨1, 0, 1, 0, fun _ _ => R.TSC.EVT.TRIPLE⟩,
   ⟨1, 0, 1, 0, fun _ _ => R.TSC.EVT.LEAP_APPLIED⟩,
   ⟨1, 0, 1, 0, fun _ _ => R.TSC.EVT.LEAP_REJECTED⟩,
   ⟨1, 0, 1, 0, fun _ _ => R.TSC.EVT.LEAP_DISAGREE⟩,
   ⟨1, 0, 1, 0, fun _ _ => R.TSC.EVT.SNAP_DONE⟩,
   ⟨1, 0, 1, 0, fun _ _ => R.TSC.INT_EN.STEPPED⟩,
   ⟨1, 0, 1, 0, fun _ _ => R.TSC.INT_EN.ARM_ABSORBED⟩,
   ⟨1, 0, 1, 0, fun _ _ => R.TSC.INT_EN.STEER_REFUSED⟩,
   ⟨1, 0, 1, 0, fun _ _ => R.TSC.INT_EN.STEER_CLAMPED⟩,
   ⟨1, 0, 1, 0, fun _ _ => R.TSC.INT_EN.INTEG_CLAMPED⟩,
   ⟨1, 0, 1, 0, fun _ _ => R.TSC.INT_EN.LATE_COMMIT⟩,
   ⟨1, 0, 1, 0, fun _ _ => R.TSC.INT_EN.CFG_REJECTED⟩,
   ⟨1, 0, 1, 0, fun _ _ => R.TSC.INT_EN.RESYNC⟩,
   ⟨1, 0, 1, 0, fun _ _ => R.TSC.INT_EN.FENCE⟩,
   ⟨1, 0, 1, 0, fun _ _ => R.TSC.INT_EN.SPLIT⟩]
/-- The TSC fields, part 2. -/
def R.TSC.table2 : List RegRow :=
  [⟨1, 0, 1, 0, fun _ _ => R.TSC.INT_EN.TRIPLE⟩,
   ⟨1, 0, 1, 0, fun _ _ => R.TSC.INT_EN.LEAP_APPLIED⟩,
   ⟨1, 0, 1, 0, fun _ _ => R.TSC.INT_EN.LEAP_REJECTED⟩,
   ⟨1, 0, 1, 0, fun _ _ => R.TSC.INT_EN.LEAP_DISAGREE⟩,
   ⟨1, 0, 1, 0, fun _ _ => R.TSC.INT_EN.SNAP_DONE⟩,
   ⟨1, 0, 1, 0, fun _ _ => R.TSC.SNAP_FRAC.FRAC⟩,
   ⟨1, 0, 1, 0, fun _ _ => R.TSC.SNAP_NS.NS⟩,
   ⟨1, 0, 1, 0, fun _ _ => R.TSC.SNAP_SEC_LO.SEC⟩,
   ⟨1, 0, 1, 0, fun _ _ => R.TSC.SNAP_SEC_HI.SEC⟩,
   ⟨1, 0, 1, 0, fun _ _ => R.TSC.SNAP_TICK.TICK⟩,
   ⟨1, 0, 1, 0, fun _ _ => R.TSC.STEER0.VALUE⟩,
   ⟨1, 0, 1, 0, fun _ _ => R.TSC.STEER1.VALUE⟩,
   ⟨1, 0, 1, 0, fun _ _ => R.TSC.INTEG0.VALUE⟩,
   ⟨1, 0, 1, 0, fun _ _ => R.TSC.INTEG1.VALUE⟩,
   ⟨1, 0, 1, 0, fun _ _ => R.TSC.RATE0.VALUE⟩,
   ⟨1, 0, 1, 0, fun _ _ => R.TSC.RATE1.VALUE⟩,
   ⟨1, 0, 1, 0, fun _ _ => R.TSC.SLEW.MAX⟩,
   ⟨1, 0, 1, 0, fun _ _ => R.TSC.SLEW.INTEG_STEP⟩,
   ⟨1, 0, 1, 0, fun _ _ => R.TSC.STEP_LAST_FRAC.FRAC⟩,
   ⟨1, 0, 1, 0, fun _ _ => R.TSC.STEP_LAST_NS.NS⟩,
   ⟨1, 0, 1, 0, fun _ _ => R.TSC.STEP_LAST_SEC_LO.SEC⟩,
   ⟨1, 0, 1, 0, fun _ _ => R.TSC.STEP_LAST_SEC_HI.SEC⟩,
   ⟨1, 0, 1, 0, fun _ _ => R.TSC.LEAP_CUR.OFFSET⟩,
   ⟨1, 0, 1, 0, fun _ _ => R.TSC.LEAP_CUR.SRC⟩,
   ⟨1, 0, 1, 0, fun _ _ => R.TSC.LEAP_NEXT.OFFSET⟩,
   ⟨1, 0, 1, 0, fun _ _ => R.TSC.LEAP_NEXT.PENDING⟩,
   ⟨1, 0, 1, 0, fun _ _ => R.TSC.LEAP_AT_LO.AT⟩,
   ⟨1, 0, 1, 0, fun _ _ => R.TSC.LEAP_AT_HI.AT⟩,
   ⟨1, 0, 1, 0, fun _ _ => R.TSC.LEAP_CTL.COMMIT⟩,
   ⟨1, 0, 1, 0, fun _ _ => R.TSC.LEAP_CTL.HOLD⟩,
   ⟨1, 0, 1, 0, fun _ _ => R.TSC.VOTE.FENCE_N⟩,
   ⟨1, 0, 1, 0, fun _ _ => R.TSC.VOTE.FENCE_WIN⟩,
   ⟨1, 0, 1, 0, fun _ _ => R.TSC.VOTE.PREFER⟩,
   ⟨3, 0x4, 1, 0, fun i _ => R.TSC.LANE_DIS.TICKS i⟩,
   ⟨3, 0x4, 1, 0, fun i _ => R.TSC.LANE_RSY.LOADS i⟩,
   ⟨1, 0, 1, 0, fun _ _ => R.TSC.STEP_COUNT.COUNT⟩]

/-- Every field the TSC block implements. -/
def R.TSC.table : List RegRow := R.TSC.table1 ++ R.TSC.table2

/-! ### EBD: 02_error_bound.md, R92 -/

/-- [0] CMD: Evaluate EB at the query instant (R83). -/
def R.EBD.CTL.QUERY : Field := ⟨0x30000, 0, 1, .cmd, 0, .immediate, none⟩
/-- [1] CMD: Commit group BANK (R74). -/
def R.EBD.CTL.BANK_COMMIT : Field := ⟨0x30000, 1, 1, .cmd, 0, .second, none⟩
/-- [2] CMD: Drop host coefficients (R74). -/
def R.EBD.CTL.BANK_RELEASE : Field := ⟨0x30000, 2, 1, .cmd, 0, .second, none⟩
/-- [3] CMD: Commit group CCT (CC_TAB, CC_DEFAULT, CC_HYST). -/
def R.EBD.CTL.CC_COMMIT : Field := ⟨0x30000, 3, 1, .cmd, 0, .second, none⟩
/-- [3:0] CFG: Candidates needed to shrink, 1–15 (R67). -/
def R.EBD.CFG.SHRINK_WIN : Field := ⟨0x30004, 0, 4, .cfg, 0x8, .loopUpdate, none⟩
/-- [4] CFG: 0: computed; 1: from table (R86). -/
def R.EBD.CFG.OSLV_MODE : Field := ⟨0x30004, 4, 1, .cfg, 0, .second, none⟩
/-- [5] CFG: Permit IRIG-B time quality 0x0 (R90). -/
def R.EBD.CFG.IRIG_ZERO : Field := ⟨0x30004, 5, 1, .cfg, 0, .second, none⟩
/-- [15:8] CFG: Boundaries before moving to a better class (R89). -/
def R.EBD.CFG.CC_DWELL : Field := ⟨0x30004, 8, 8, .cfg, 0x0A, .second, none⟩
/-- [1:0] STAT: Mode (R65). -/
def R.EBD.STAT.MODE : Field := ⟨0x30008, 0, 2, .stat, 0b00, .immediate, none⟩
/-- [7:4] STAT: Slot of the last anchor. -/
def R.EBD.STAT.SLOT : Field := ⟨0x30008, 4, 4, .stat, 0x0, .immediate, none⟩
/-- [15:8] STAT: clockClass in force. -/
def R.EBD.STAT.CLASS : Field := ⟨0x30008, 8, 8, .stat, 0xF8, .immediate, none⟩
/-- [20:16] STAT: NTP stratum in force. -/
def R.EBD.STAT.STRATUM : Field := ⟨0x30008, 16, 5, .stat, 0x10, .immediate, none⟩
/-- [24] STAT: EB unknown (R64). -/
def R.EBD.STAT.SATURATED : Field := ⟨0x30008, 24, 1, .stat, 1, .immediate, none⟩
/-- [25] STAT: Span substituted (R75). -/
def R.EBD.STAT.TEMP_FAIL : Field := ⟨0x30008, 25, 1, .stat, 0, .immediate, none⟩
/-- [27:26] STAT: Coefficient source (R74). -/
def R.EBD.STAT.BANK_SRC : Field := ⟨0x30008, 26, 2, .stat, 0b00, .immediate, none⟩
/-- [28] STAT: Query pending. -/
def R.EBD.STAT.QUERY_BUSY : Field := ⟨0x30008, 28, 1, .stat, 0, .immediate, none⟩
/-- [0] RC: Anchor rose (R67). -/
def R.EBD.EVT.RISE : Field := ⟨0x3000C, 0, 1, .rc, 0, .immediate, none⟩
/-- [1] RC: Anchor fell (R67). -/
def R.EBD.EVT.SHRINK : Field := ⟨0x3000C, 1, 1, .rc, 0, .immediate, none⟩
/-- [2] RC: Bound broken (R68). -/
def R.EBD.EVT.BREACH : Field := ⟨0x3000C, 2, 1, .rc, 0, .immediate, none⟩
/-- [3] RC: EB became unknown. -/
def R.EBD.EVT.SATURATE : Field := ⟨0x3000C, 3, 1, .rc, 0, .immediate, none⟩
/-- [4] RC: clockClass or stratum changed (R89). -/
def R.EBD.EVT.CLASS_CHANGE : Field := ⟨0x3000C, 4, 1, .rc, 0, .immediate, none⟩
/-- [5] RC: Temperature missing (R75). -/
def R.EBD.EVT.TEMP_FAIL : Field := ⟨0x3000C, 5, 1, .rc, 0, .immediate, none⟩
/-- [6] RC: Query result ready (R83). -/
def R.EBD.EVT.QUERY_DONE : Field := ⟨0x3000C, 6, 1, .rc, 0, .immediate, none⟩
/-- [7] RC: Reserved value written. -/
def R.EBD.EVT.CFG_REJECTED : Field := ⟨0x3000C, 7, 1, .rc, 0, .immediate, none⟩
/-- [0] LIVE: Interrupt enable of EVT.RISE. -/
def R.EBD.INT_EN.RISE : Field := ⟨0x30010, 0, 1, .live, 0, .immediate, none⟩
/-- [1] LIVE: Interrupt enable of EVT.SHRINK. -/
def R.EBD.INT_EN.SHRINK : Field := ⟨0x30010, 1, 1, .live, 0, .immediate, none⟩
/-- [2] LIVE: Interrupt enable of EVT.BREACH. -/
def R.EBD.INT_EN.BREACH : Field := ⟨0x30010, 2, 1, .live, 0, .immediate, none⟩
/-- [3] LIVE: Interrupt enable of EVT.SATURATE. -/
def R.EBD.INT_EN.SATURATE : Field := ⟨0x30010, 3, 1, .live, 0, .immediate, none⟩
/-- [4] LIVE: Interrupt enable of EVT.CLASS_CHANGE. -/
def R.EBD.INT_EN.CLASS_CHANGE : Field := ⟨0x30010, 4, 1, .live, 0, .immediate, none⟩
/-- [5] LIVE: Interrupt enable of EVT.TEMP_FAIL. -/
def R.EBD.INT_EN.TEMP_FAIL : Field := ⟨0x30010, 5, 1, .live, 0, .immediate, none⟩
/-- [6] LIVE: Interrupt enable of EVT.QUERY_DONE. -/
def R.EBD.INT_EN.QUERY_DONE : Field := ⟨0x30010, 6, 1, .live, 0, .immediate, none⟩
/-- [7] LIVE: Interrupt enable of EVT.CFG_REJECTED. -/
def R.EBD.INT_EN.CFG_REJECTED : Field := ⟨0x30010, 7, 1, .live, 0, .immediate, none⟩
/-- [31:0] STAT: EB at the latest second boundary. -/
def R.EBD.EB_SEC.EB : Field := ⟨0x30020, 0, 32, .stat, 0xFFFFFFFF, .immediate, none⟩
/-- [31:0] STAT: Latest anchor value. -/
def R.EBD.ANCHOR.EB : Field := ⟨0x30024, 0, 32, .stat, 0xFFFFFFFF, .immediate, none⟩
/-- [31:0] STAT: REFB of the latest candidate, 2^-8 ns. -/
def R.EBD.REFB.BOUND : Field := ⟨0x30028, 0, 32, .stat, 0, .immediate, none⟩
/-- [31:0] STAT: MEASB of the latest candidate. -/
def R.EBD.MEASB.BOUND : Field := ⟨0x3002C, 0, 32, .stat, 0, .immediate, none⟩
/-- [31:0] STAT: \ | D\ | + LOOP_MARGIN of the latest candidate. -/
def R.EBD.LOOPB.BOUND : Field := ⟨0x30030, 0, 32, .stat, 0, .immediate, none⟩
/-- [31:0] CNT: Seconds since BANKING or SWITCHING entry. -/
def R.EBD.BANK_SECS.SECS : Field := ⟨0x30034, 0, 32, .cnt, 0, .immediate, none⟩
/-- [31:0] STAT: EB_0 latched at entry. -/
def R.EBD.BANK_ENTRY.EB : Field := ⟨0x30038, 0, 32, .stat, 0, .immediate, none⟩
/-- [31:0] CNT: Breaches since reset (R68). -/
def R.EBD.BREACH_CNT.COUNT : Field := ⟨0x3003C, 0, 32, .cnt, 0, .immediate, none⟩
/-- [23:0] CFG: Locked frequency uncertainty, 10^-15; 5 ppt at reset. -/
def R.EBD.LOCK_B.VALUE : Field := ⟨0x30040, 0, 24, .cfg, 0x001388, .loopUpdate, none⟩
/-- [31:0] CFG: Candidate margin, 2^-8 ns; 1 ns at reset. -/
def R.EBD.LOOP_MARGIN.VALUE : Field := ⟨0x30044, 0, 32, .cfg, 0x00000100, .loopUpdate, none⟩
/-- [31:0] CFG: a, 2^-8 ns. -/
def R.EBD.BANK_A.A : Field := ⟨0x30050, 0, 32, .cfg, 0, .second, (some .ebdBank)⟩
/-- [23:0] CFG: b, 10^-15. -/
def R.EBD.BANK_B.B : Field := ⟨0x30054, 0, 24, .cfg, 0, .second, (some .ebdBank)⟩
/-- [23:0] CFG: c, 10^-21 s^-1. -/
def R.EBD.BANK_C.C : Field := ⟨0x30058, 0, 24, .cfg, 0, .second, (some .ebdBank)⟩
/-- [15:0] CFG: q, 10^-15 per K. -/
def R.EBD.BANK_Q.Q : Field := ⟨0x3005C, 0, 16, .cfg, 0, .second, (some .ebdBank)⟩
/-- [7:0] CFG: m, 1/16 K; 0.5 K at reset. -/
def R.EBD.THETA.MARGIN : Field := ⟨0x30060, 0, 8, .cfg, 0x08, .second, (some .ebdBank)⟩
/-- [23:16] CFG: Substitute span, K; 40 K at reset. -/
def R.EBD.THETA.SPAN_MAX : Field := ⟨0x30060, 16, 8, .cfg, 0x28, .second, (some .ebdBank)⟩
/-- [15:0] LIVE: Query instant, TIME96 [15:0]. -/
def R.EBD.QUERY_FRAC.FRAC : Field := ⟨0x30070, 0, 16, .live, 0x0000, .immediate, none⟩
/-- [29:0] LIVE: Query instant, nanoseconds. -/
def R.EBD.QUERY_NS.NS : Field := ⟨0x30074, 0, 30, .live, 0, .immediate, none⟩
/-- [31:0] LIVE: Query instant, seconds [31:0]. -/
def R.EBD.QUERY_SEC_LO.SEC : Field := ⟨0x30078, 0, 32, .live, 0, .immediate, none⟩
/-- [15:0] LIVE: Query instant, seconds [47:32]. -/
def R.EBD.QUERY_SEC_HI.SEC : Field := ⟨0x3007C, 0, 16, .live, 0x0000, .immediate, none⟩
/-- [31:0] STAT: Result (R83). -/
def R.EBD.QUERY_EB.EB : Field := ⟨0x30080, 0, 32, .stat, 0, .immediate, none⟩
/-- [0] STAT: Instant preceded t_E. -/
def R.EBD.QUERY_STAT.PAST : Field := ⟨0x30084, 0, 1, .stat, 0, .immediate, none⟩
/-- [1] STAT: Instant beyond 1 s; result saturated. -/
def R.EBD.QUERY_STAT.RANGE : Field := ⟨0x30084, 1, 1, .stat, 0, .immediate, none⟩
/-- [31:0] CFG: Entry threshold, 2^-8 ns. -/
def R.EBD.CC_TAB.W0.THRESH (i : Nat) : Field := ⟨0x300A0 + i * 0x8, 0, 32, .cfg, 0, .second, (some .ebdCct)⟩
/-- [7:0] CFG: clockClass. -/
def R.EBD.CC_TAB.W1.CLASS (i : Nat) : Field := ⟨0x300A4 + i * 0x8, 0, 8, .cfg, 0x00, .second, (some .ebdCct)⟩
/-- [12:8] CFG: NTP stratum. -/
def R.EBD.CC_TAB.W1.STRATUM (i : Nat) : Field := ⟨0x300A4 + i * 0x8, 8, 5, .cfg, 0x00, .second, (some .ebdCct)⟩
/-- [15:13] CFG: Mode mask (R88). -/
def R.EBD.CC_TAB.W1.STATES (i : Nat) : Field := ⟨0x300A4 + i * 0x8, 13, 3, .cfg, 0b000, .second, (some .ebdCct)⟩
/-- [31:16] CFG: Fixed offsetScaledLogVariance. -/
def R.EBD.CC_TAB.W1.OSLV (i : Nat) : Field := ⟨0x300A4 + i * 0x8, 16, 16, .cfg, 0xFFFF, .second, (some .ebdCct)⟩
/-- [7:0] CFG: Default clockClass, 248. -/
def R.EBD.CC_DEFAULT.CLASS : Field := ⟨0x300E0, 0, 8, .cfg, 0xF8, .second, (some .ebdCct)⟩
/-- [12:8] CFG: Default stratum, 16. -/
def R.EBD.CC_DEFAULT.STRATUM : Field := ⟨0x300E0, 8, 5, .cfg, 0x10, .second, (some .ebdCct)⟩
/-- [31:16] CFG: Default fixed OSLV. -/
def R.EBD.CC_DEFAULT.OSLV : Field := ⟨0x300E0, 16, 16, .cfg, 0xFFFF, .second, (some .ebdCct)⟩
/-- [31:0] CFG: Hysteresis, 2^-8 ns. -/
def R.EBD.CC_HYST.HYST : Field := ⟨0x300E4, 0, 32, .cfg, 0, .second, (some .ebdCct)⟩
/-- [0] CFG: TLV on Sync (R87). -/
def R.EBD.TLV_CFG.EN_SYNC : Field := ⟨0x300F0, 0, 1, .cfg, 0, .packet, none⟩
/-- [1] CFG: TLV on Delay_Resp. -/
def R.EBD.TLV_CFG.EN_DELAY_RESP : Field := ⟨0x300F0, 1, 1, .cfg, 0, .packet, none⟩
/-- [2] CFG: TLV on Pdelay_Resp. -/
def R.EBD.TLV_CFG.EN_PDELAY_RESP : Field := ⟨0x300F0, 2, 1, .cfg, 0, .packet, none⟩
/-- [3] CFG: TLV on Announce. -/
def R.EBD.TLV_CFG.EN_ANNOUNCE : Field := ⟨0x300F0, 3, 1, .cfg, 0, .packet, none⟩
/-- [23:0] STAT: organizationId from the kindling image. -/
def R.EBD.TLV_ORG.ORG_ID : Field := ⟨0x300F4, 0, 24, .stat, 0x000000, .immediate, none⟩

/-- The EBD fields, part 1. -/
def R.EBD.table1 : List RegRow :=
  [⟨1, 0, 1, 0, fun _ _ => R.EBD.CTL.QUERY⟩,
   ⟨1, 0, 1, 0, fun _ _ => R.EBD.CTL.BANK_COMMIT⟩,
   ⟨1, 0, 1, 0, fun _ _ => R.EBD.CTL.BANK_RELEASE⟩,
   ⟨1, 0, 1, 0, fun _ _ => R.EBD.CTL.CC_COMMIT⟩,
   ⟨1, 0, 1, 0, fun _ _ => R.EBD.CFG.SHRINK_WIN⟩,
   ⟨1, 0, 1, 0, fun _ _ => R.EBD.CFG.OSLV_MODE⟩,
   ⟨1, 0, 1, 0, fun _ _ => R.EBD.CFG.IRIG_ZERO⟩,
   ⟨1, 0, 1, 0, fun _ _ => R.EBD.CFG.CC_DWELL⟩,
   ⟨1, 0, 1, 0, fun _ _ => R.EBD.STAT.MODE⟩,
   ⟨1, 0, 1, 0, fun _ _ => R.EBD.STAT.SLOT⟩,
   ⟨1, 0, 1, 0, fun _ _ => R.EBD.STAT.CLASS⟩,
   ⟨1, 0, 1, 0, fun _ _ => R.EBD.STAT.STRATUM⟩,
   ⟨1, 0, 1, 0, fun _ _ => R.EBD.STAT.SATURATED⟩,
   ⟨1, 0, 1, 0, fun _ _ => R.EBD.STAT.TEMP_FAIL⟩,
   ⟨1, 0, 1, 0, fun _ _ => R.EBD.STAT.BANK_SRC⟩,
   ⟨1, 0, 1, 0, fun _ _ => R.EBD.STAT.QUERY_BUSY⟩,
   ⟨1, 0, 1, 0, fun _ _ => R.EBD.EVT.RISE⟩,
   ⟨1, 0, 1, 0, fun _ _ => R.EBD.EVT.SHRINK⟩,
   ⟨1, 0, 1, 0, fun _ _ => R.EBD.EVT.BREACH⟩,
   ⟨1, 0, 1, 0, fun _ _ => R.EBD.EVT.SATURATE⟩,
   ⟨1, 0, 1, 0, fun _ _ => R.EBD.EVT.CLASS_CHANGE⟩,
   ⟨1, 0, 1, 0, fun _ _ => R.EBD.EVT.TEMP_FAIL⟩,
   ⟨1, 0, 1, 0, fun _ _ => R.EBD.EVT.QUERY_DONE⟩,
   ⟨1, 0, 1, 0, fun _ _ => R.EBD.EVT.CFG_REJECTED⟩,
   ⟨1, 0, 1, 0, fun _ _ => R.EBD.INT_EN.RISE⟩,
   ⟨1, 0, 1, 0, fun _ _ => R.EBD.INT_EN.SHRINK⟩,
   ⟨1, 0, 1, 0, fun _ _ => R.EBD.INT_EN.BREACH⟩,
   ⟨1, 0, 1, 0, fun _ _ => R.EBD.INT_EN.SATURATE⟩,
   ⟨1, 0, 1, 0, fun _ _ => R.EBD.INT_EN.CLASS_CHANGE⟩,
   ⟨1, 0, 1, 0, fun _ _ => R.EBD.INT_EN.TEMP_FAIL⟩,
   ⟨1, 0, 1, 0, fun _ _ => R.EBD.INT_EN.QUERY_DONE⟩,
   ⟨1, 0, 1, 0, fun _ _ => R.EBD.INT_EN.CFG_REJECTED⟩,
   ⟨1, 0, 1, 0, fun _ _ => R.EBD.EB_SEC.EB⟩,
   ⟨1, 0, 1, 0, fun _ _ => R.EBD.ANCHOR.EB⟩,
   ⟨1, 0, 1, 0, fun _ _ => R.EBD.REFB.BOUND⟩,
   ⟨1, 0, 1, 0, fun _ _ => R.EBD.MEASB.BOUND⟩,
   ⟨1, 0, 1, 0, fun _ _ => R.EBD.LOOPB.BOUND⟩,
   ⟨1, 0, 1, 0, fun _ _ => R.EBD.BANK_SECS.SECS⟩,
   ⟨1, 0, 1, 0, fun _ _ => R.EBD.BANK_ENTRY.EB⟩,
   ⟨1, 0, 1, 0, fun _ _ => R.EBD.BREACH_CNT.COUNT⟩]
/-- The EBD fields, part 2. -/
def R.EBD.table2 : List RegRow :=
  [⟨1, 0, 1, 0, fun _ _ => R.EBD.LOCK_B.VALUE⟩,
   ⟨1, 0, 1, 0, fun _ _ => R.EBD.LOOP_MARGIN.VALUE⟩,
   ⟨1, 0, 1, 0, fun _ _ => R.EBD.BANK_A.A⟩,
   ⟨1, 0, 1, 0, fun _ _ => R.EBD.BANK_B.B⟩,
   ⟨1, 0, 1, 0, fun _ _ => R.EBD.BANK_C.C⟩,
   ⟨1, 0, 1, 0, fun _ _ => R.EBD.BANK_Q.Q⟩,
   ⟨1, 0, 1, 0, fun _ _ => R.EBD.THETA.MARGIN⟩,
   ⟨1, 0, 1, 0, fun _ _ => R.EBD.THETA.SPAN_MAX⟩,
   ⟨1, 0, 1, 0, fun _ _ => R.EBD.QUERY_FRAC.FRAC⟩,
   ⟨1, 0, 1, 0, fun _ _ => R.EBD.QUERY_NS.NS⟩,
   ⟨1, 0, 1, 0, fun _ _ => R.EBD.QUERY_SEC_LO.SEC⟩,
   ⟨1, 0, 1, 0, fun _ _ => R.EBD.QUERY_SEC_HI.SEC⟩,
   ⟨1, 0, 1, 0, fun _ _ => R.EBD.QUERY_EB.EB⟩,
   ⟨1, 0, 1, 0, fun _ _ => R.EBD.QUERY_STAT.PAST⟩,
   ⟨1, 0, 1, 0, fun _ _ => R.EBD.QUERY_STAT.RANGE⟩,
   ⟨8, 0x8, 1, 0, fun i _ => R.EBD.CC_TAB.W0.THRESH i⟩,
   ⟨8, 0x8, 1, 0, fun i _ => R.EBD.CC_TAB.W1.CLASS i⟩,
   ⟨8, 0x8, 1, 0, fun i _ => R.EBD.CC_TAB.W1.STRATUM i⟩,
   ⟨8, 0x8, 1, 0, fun i _ => R.EBD.CC_TAB.W1.STATES i⟩,
   ⟨8, 0x8, 1, 0, fun i _ => R.EBD.CC_TAB.W1.OSLV i⟩,
   ⟨1, 0, 1, 0, fun _ _ => R.EBD.CC_DEFAULT.CLASS⟩,
   ⟨1, 0, 1, 0, fun _ _ => R.EBD.CC_DEFAULT.STRATUM⟩,
   ⟨1, 0, 1, 0, fun _ _ => R.EBD.CC_DEFAULT.OSLV⟩,
   ⟨1, 0, 1, 0, fun _ _ => R.EBD.CC_HYST.HYST⟩,
   ⟨1, 0, 1, 0, fun _ _ => R.EBD.TLV_CFG.EN_SYNC⟩,
   ⟨1, 0, 1, 0, fun _ _ => R.EBD.TLV_CFG.EN_DELAY_RESP⟩,
   ⟨1, 0, 1, 0, fun _ _ => R.EBD.TLV_CFG.EN_PDELAY_RESP⟩,
   ⟨1, 0, 1, 0, fun _ _ => R.EBD.TLV_CFG.EN_ANNOUNCE⟩,
   ⟨1, 0, 1, 0, fun _ _ => R.EBD.TLV_ORG.ORG_ID⟩]

/-- Every field the EBD block implements. -/
def R.EBD.table : List RegRow := R.EBD.table1 ++ R.EBD.table2

/-! ### REF: 03_reference_inputs.md, R122 -/

/-- [15:0] STAT: Bit n: slot n QUALIFIED. -/
def R.REF.STAT_Q.QUALIFIED : Field := ⟨0x40000, 0, 16, .stat, 0x0000, .immediate, none⟩
/-- [31:16] STAT: Bit n: source n present (R99). -/
def R.REF.STAT_Q.PRESENT : Field := ⟨0x40000, 16, 16, .stat, 0x0000, .immediate, none⟩
/-- [15:0] RC: Bit n: slot n changed state. -/
def R.REF.CHG.CHANGED : Field := ⟨0x40004, 0, 16, .rc, 0x0000, .immediate, none⟩
/-- [15:0] LIVE: Interrupt enable per CHG bit. -/
def R.REF.INT_EN.CHANGED : Field := ⟨0x40008, 0, 16, .live, 0x0000, .immediate, none⟩
/-- [0] CFG: Slot enabled. -/
def R.REF.SLOT.CFG.EN (i : Nat) : Field := ⟨0x40100 + i * 0x80, 0, 1, .cfg, 0, .second, (some (.refSlot i))⟩
/-- [2:1] CFG: 0b00 FREQ, 0b01 PHASE, 0b10 TIME (R94); default 0b01 for S0–S7, 0b10 for S8–S12, 0b00 for S13–S15. -/
def R.REF.SLOT.CFG.KIND (i : Nat) : Field := ⟨0x40100 + i * 0x80, 1, 2, .cfg, (Reset.slotKind i), .second, (some (.refSlot i))⟩
/-- [3] CFG: 0: rising edge; 1: falling edge. -/
def R.REF.SLOT.CFG.POL (i : Nat) : Field := ⟨0x40100 + i * 0x80, 3, 1, .cfg, 0, .second, (some (.refSlot i))⟩
/-- [5:4] CFG: 0b00 differential, 0b01 single-ended; others rejected. -/
def R.REF.SLOT.CFG.IO (i : Nat) : Field := ⟨0x40100 + i * 0x80, 4, 2, .cfg, 0b00, .second, (some (.refSlot i))⟩
/-- [6] CFG: Internal 100 Ω termination. -/
def R.REF.SLOT.CFG.TERM (i : Nat) : Field := ⟨0x40100 + i * 0x80, 6, 1, .cfg, 0, .second, (some (.refSlot i))⟩
/-- [31:0] CFG: Edge divider; 0 rejected (R97). -/
def R.REF.SLOT.DIV.DIV (i : Nat) : Field := ⟨0x40104 + i * 0x80, 0, 32, .cfg, 0x00000001, .second, (some (.refSlot i))⟩
/-- [31:0] CFG: Nominal input frequency, Hz. -/
def R.REF.SLOT.NOM.NOM (i : Nat) : Field := ⟨0x40108 + i * 0x80, 0, 32, .cfg, 0x00000001, .second, (some (.refSlot i))⟩
/-- [31:0] CFG: Cable delay δ, signed, 2^-8 ns (R98, R111). -/
def R.REF.SLOT.DELAY.DELAY (i : Nat) : Field := ⟨0x4010C + i * 0x80, 0, 32, .cfg, 0x00000000, .second, (some (.refSlot i))⟩
/-- [31:0] CFG: Declared reference bound, 2^-8 ns; 40 ns at reset. -/
def R.REF.SLOT.REFB.REFB (i : Nat) : Field := ⟨0x40110 + i * 0x80, 0, 32, .cfg, 0x00002800, .second, (some (.refSlot i))⟩
/-- [31:0] CFG: Declared jitter bound, 2^-8 ns; 2 ns at reset. -/
def R.REF.SLOT.JITB.JITB (i : Nat) : Field := ⟨0x40114 + i * 0x80, 0, 32, .cfg, 0x00000200, .second, (some (.refSlot i))⟩
/-- [31:0] CFG: Largest REFB + MEASB accepted; 1 µs at reset (R116). -/
def R.REF.SLOT.BOUND_MAX.MAX (i : Nat) : Field := ⟨0x40118 + i * 0x80, 0, 32, .cfg, 0x0003E800, .second, (some (.refSlot i))⟩
/-- [5:0] CFG: History H, 8–64. -/
def R.REF.SLOT.JUMP.HIST (i : Nat) : Field := ⟨0x4011C + i * 0x80, 0, 6, .cfg, 0x10, .second, (some (.refSlot i))⟩
/-- [13:8] CFG: Threshold in quarters of σ; 6σ at reset. -/
def R.REF.SLOT.JUMP.K (i : Nat) : Field := ⟨0x4011C + i * 0x80, 8, 6, .cfg, 0x18, .second, (some (.refSlot i))⟩
/-- [19:16] CFG: Outliers that confirm a jump, 2–15. -/
def R.REF.SLOT.JUMP.CONFIRM (i : Nat) : Field := ⟨0x4011C + i * 0x80, 16, 4, .cfg, 0x3, .second, (some (.refSlot i))⟩
/-- [31:0] CFG: Threshold floor, 2^-8 ns; 5 ns at reset. -/
def R.REF.SLOT.JUMP_MIN.J (i : Nat) : Field := ⟨0x40120 + i * 0x80, 0, 32, .cfg, 0x00000500, .second, (some (.refSlot i))⟩
/-- [23:0] CFG: Frequency limit, ppt; 1 ppm at reset (R109). -/
def R.REF.SLOT.FREQ_LIM.LIM (i : Nat) : Field := ⟨0x40124 + i * 0x80, 0, 24, .cfg, 0x0F4240, .second, (some (.refSlot i))⟩
/-- [15:0] CFG: Acceptance half-window, ns (R101). -/
def R.REF.SLOT.TIMING.MISS_WIN (i : Nat) : Field := ⟨0x40128 + i * 0x80, 0, 16, .cfg, 0x03E8, .second, (some (.refSlot i))⟩
/-- [19:16] CFG: Consecutive misses that disqualify. -/
def R.REF.SLOT.TIMING.MISS_N (i : Nat) : Field := ⟨0x40128 + i * 0x80, 16, 4, .cfg, 0x2, .second, (some (.refSlot i))⟩
/-- [27:24] CFG: Glitches per 16 intervals tolerated. -/
def R.REF.SLOT.TIMING.GLITCH_N (i : Nat) : Field := ⟨0x40128 + i * 0x80, 24, 4, .cfg, 0x4, .second, (some (.refSlot i))⟩
/-- [15:0] CFG: Qualification time, s. -/
def R.REF.SLOT.QUAL.QUAL_TIME (i : Nat) : Field := ⟨0x4012C + i * 0x80, 0, 16, .cfg, 0x000A, .second, (some (.refSlot i))⟩
/-- [31:16] CFG: Holdoff, s. -/
def R.REF.SLOT.QUAL.HOLDOFF (i : Nat) : Field := ⟨0x4012C + i * 0x80, 16, 16, .cfg, 0x003C, .second, (some (.refSlot i))⟩
/-- [0] CFG: Time-of-day message on TODINn. -/
def R.REF.SLOT.TOD.EN (i : Nat) : Field := ⟨0x40130 + i * 0x80, 0, 1, .cfg, 0, .second, (some (.refSlot i))⟩
/-- [2:1] CFG: 0b00 ZDA, 0b01 binary record; others rejected. -/
def R.REF.SLOT.TOD.FORMAT (i : Nat) : Field := ⟨0x40130 + i * 0x80, 1, 2, .cfg, 0b00, .second, (some (.refSlot i))⟩
/-- [3] CFG: 0: labels preceding pulse; 1: following (R104). -/
def R.REF.SLOT.TOD.ALIGN (i : Nat) : Field := ⟨0x40130 + i * 0x80, 3, 1, .cfg, 0, .second, (some (.refSlot i))⟩
/-- [7:4] CFG: 0x0 9,600; 0x1 19,200; 0x2 38,400; 0x3 57,600; 0x4 115,200; 0x5 230,400; 0x6 460,800; 0x7 921,600; others rejected. -/
def R.REF.SLOT.TOD.BAUD (i : Nat) : Field := ⟨0x40130 + i * 0x80, 4, 4, .cfg, 0x4, .second, (some (.refSlot i))⟩
/-- [11:8] CFG: Good messages for TOD_OK (R106). -/
def R.REF.SLOT.TOD.CONFIRM (i : Nat) : Field := ⟨0x40130 + i * 0x80, 8, 4, .cfg, 0x3, .second, (some (.refSlot i))⟩
/-- [15:12] CFG: Consecutive errors that disqualify. -/
def R.REF.SLOT.TOD.ERR_N (i : Nat) : Field := ⟨0x40130 + i * 0x80, 12, 4, .cfg, 0x2, .second, (some (.refSlot i))⟩
/-- [7:0] CFG: PREF: highest clockClass accepted. -/
def R.REF.SLOT.SRCQ.CC_MAX (i : Nat) : Field := ⟨0x40134 + i * 0x80, 0, 8, .cfg, 0x07, .second, (some (.refSlot i))⟩
/-- [8] CFG: PREF: require timeTraceable. -/
def R.REF.SLOT.SRCQ.REQ_TRACE (i : Nat) : Field := ⟨0x40134 + i * 0x80, 8, 1, .cfg, 1, .second, (some (.refSlot i))⟩
/-- [10:9] CFG: GREF: bit 0 spoof, bit 1 jam (R112). -/
def R.REF.SLOT.SRCQ.FLAG_MASK (i : Nat) : Field := ⟨0x40134 + i * 0x80, 9, 2, .cfg, 0b11, .second, (some (.refSlot i))⟩
/-- [31:16] CFG: SREF: accepted SSM codes (R114). -/
def R.REF.SLOT.SRCQ.QL_MASK (i : Nat) : Field := ⟨0x40134 + i * 0x80, 16, 16, .cfg, 0x0014, .second, (some (.refSlot i))⟩
/-- [0] CMD: Commit group SLOTn. -/
def R.REF.SLOT.CTL.COMMIT (i : Nat) : Field := ⟨0x40138 + i * 0x80, 0, 1, .cmd, 0, .second, none⟩
/-- [1] CMD: Restart qualification (R121). -/
def R.REF.SLOT.CTL.RESTART (i : Nat) : Field := ⟨0x40138 + i * 0x80, 1, 1, .cmd, 0, .second, none⟩
/-- [2:0] STAT: State (R117). -/
def R.REF.SLOT.STAT.STATE (i : Nat) : Field := ⟨0x4013C + i * 0x80, 0, 3, .stat, 0b000, .immediate, none⟩
/-- [4] STAT: Source present. -/
def R.REF.SLOT.STAT.PRESENT (i : Nat) : Field := ⟨0x4013C + i * 0x80, 4, 1, .stat, 0, .immediate, none⟩
/-- [5] STAT: Time-of-day confirmed (R106). -/
def R.REF.SLOT.STAT.TOD_OK (i : Nat) : Field := ⟨0x4013C + i * 0x80, 5, 1, .stat, 0, .immediate, none⟩
/-- [11:8] STAT: Last disqualification: 0x0 none, 0x1 ABSENT, 0x2 RATE, 0x3 MISS, 0x4 JUMP, 0x5 FREQ, 0x6 TOD, 0x7 SPOOF, 0x8 JAM,
0x9 UPSTREAM, 0xA QL, 0xB NOTDC, . -/
def R.REF.SLOT.STAT.CAUSE (i : Nat) : Field := ⟨0x4013C + i * 0x80, 8, 4, .stat, 0x0, .immediate, none⟩
/-- [0] RC: Slot became QUALIFIED. -/
def R.REF.SLOT.EVT.QUALIFIED (i : Nat) : Field := ⟨0x40140 + i * 0x80, 0, 1, .rc, 0, .immediate, none⟩
/-- [1] RC: Slot entered HOLDOFF. -/
def R.REF.SLOT.EVT.DISQUALIFIED (i : Nat) : Field := ⟨0x40140 + i * 0x80, 1, 1, .rc, 0, .immediate, none⟩
/-- [2] RC: Isolated outlier discarded. -/
def R.REF.SLOT.EVT.OUTLIER (i : Nat) : Field := ⟨0x40140 + i * 0x80, 2, 1, .rc, 0, .immediate, none⟩
/-- [3] RC: Jump confirmed (R108). -/
def R.REF.SLOT.EVT.JUMP (i : Nat) : Field := ⟨0x40140 + i * 0x80, 3, 1, .rc, 0, .immediate, none⟩
/-- [4] RC: Observation missed. -/
def R.REF.SLOT.EVT.MISS (i : Nat) : Field := ⟨0x40140 + i * 0x80, 4, 1, .rc, 0, .immediate, none⟩
/-- [5] RC: Edge discarded (R101). -/
def R.REF.SLOT.EVT.GLITCH (i : Nat) : Field := ⟨0x40140 + i * 0x80, 5, 1, .rc, 0, .immediate, none⟩
/-- [6] RC: Gate out of rate (R99). -/
def R.REF.SLOT.EVT.RATE (i : Nat) : Field := ⟨0x40140 + i * 0x80, 6, 1, .rc, 0, .immediate, none⟩
/-- [7] RC: ToD error (R105). -/
def R.REF.SLOT.EVT.TOD_ERR (i : Nat) : Field := ⟨0x40140 + i * 0x80, 7, 1, .rc, 0, .immediate, none⟩
/-- [8] RC: Source check failed (R112–R116). -/
def R.REF.SLOT.EVT.FLAG (i : Nat) : Field := ⟨0x40140 + i * 0x80, 8, 1, .rc, 0, .immediate, none⟩
/-- [9] RC: Commit rejected (R95, R97). -/
def R.REF.SLOT.EVT.CFG_REJECTED (i : Nat) : Field := ⟨0x40140 + i * 0x80, 9, 1, .rc, 0, .immediate, none⟩
/-- [10] RC: History shifted for a delay change (R111). -/
def R.REF.SLOT.EVT.REBASE (i : Nat) : Field := ⟨0x40140 + i * 0x80, 10, 1, .rc, 0, .immediate, none⟩
/-- [10:0] LIVE: Interrupt enable per EVT bit. -/
def R.REF.SLOT.INT_EN.EN (i : Nat) : Field := ⟨0x40144 + i * 0x80, 0, 11, .live, 0x000, .immediate, none⟩
/-- [15:0] STAT: Latest accepted D, fraction, non-negative. -/
def R.REF.SLOT.D_FRAC.FRAC (i : Nat) : Field := ⟨0x40148 + i * 0x80, 0, 16, .stat, 0x0000, .immediate, none⟩
/-- [29:0] STAT: Latest accepted D, nanoseconds, non-negative. -/
def R.REF.SLOT.D_NS.NS (i : Nat) : Field := ⟨0x4014C + i * 0x80, 0, 30, .stat, 0, .immediate, none⟩
/-- [31:0] STAT: Latest accepted D, signed seconds [31:0]. -/
def R.REF.SLOT.D_SEC_LO.SEC (i : Nat) : Field := ⟨0x40150 + i * 0x80, 0, 32, .stat, 0, .immediate, none⟩
/-- [15:0] STAT: Signed seconds [47:32]; D = SEC + (NS + FRAC × 2^-16) × 10^-9 s. -/
def R.REF.SLOT.D_SEC_HI.SEC (i : Nat) : Field := ⟨0x40154 + i * 0x80, 0, 16, .stat, 0x0000, .immediate, none⟩
/-- [31:0] STAT: Source frequency relative to unsteered CK_HRT, 10^-15 (R109). -/
def R.REF.SLOT.FREQ0.Y (i : Nat) : Field := ⟨0x40158 + i * 0x80, 0, 32, .stat, 0, .immediate, none⟩
/-- [7:0] STAT: High bits, signed. -/
def R.REF.SLOT.FREQ1.Y (i : Nat) : Field := ⟨0x4015C + i * 0x80, 0, 8, .stat, 0x00, .immediate, none⟩
/-- [31:0] STAT: Fit residual σ, 2^-8 ns. -/
def R.REF.SLOT.RESID.SIGMA (i : Nat) : Field := ⟨0x40160 + i * 0x80, 0, 32, .stat, 0, .immediate, none⟩
/-- [31:0] STAT: Latest MEASB, 2^-8 ns (R115). -/
def R.REF.SLOT.MEASB.BOUND (i : Nat) : Field := ⟨0x40164 + i * 0x80, 0, 32, .stat, 0, .immediate, none⟩
/-- [31:0] STAT: Latest REFB, 2^-8 ns; 0xFFFF_FFFF if saturated. -/
def R.REF.SLOT.REFB_EFF.BOUND (i : Nat) : Field := ⟨0x40168 + i * 0x80, 0, 32, .stat, 0, .immediate, none⟩
/-- [31:0] CNT: Observations accepted. -/
def R.REF.SLOT.OBS_CNT.COUNT (i : Nat) : Field := ⟨0x4016C + i * 0x80, 0, 32, .cnt, 0, .immediate, none⟩
/-- [31:0] CNT: Isolated outliers discarded. -/
def R.REF.SLOT.OUTLIER_CNT.COUNT (i : Nat) : Field := ⟨0x40170 + i * 0x80, 0, 32, .cnt, 0, .immediate, none⟩
/-- [31:0] CNT: Misses. -/
def R.REF.SLOT.MISS_CNT.COUNT (i : Nat) : Field := ⟨0x40174 + i * 0x80, 0, 32, .cnt, 0, .immediate, none⟩
/-- [31:0] CNT: Edges discarded. -/
def R.REF.SLOT.GLITCH_CNT.COUNT (i : Nat) : Field := ⟨0x40178 + i * 0x80, 0, 32, .cnt, 0, .immediate, none⟩
/-- [31:0] CNT: ToD errors. -/
def R.REF.SLOT.TOD_ERR_CNT.COUNT (i : Nat) : Field := ⟨0x4017C + i * 0x80, 0, 32, .cnt, 0, .immediate, none⟩

/-- The REF fields, part 1. -/
def R.REF.table1 : List RegRow :=
  [⟨1, 0, 1, 0, fun _ _ => R.REF.STAT_Q.QUALIFIED⟩,
   ⟨1, 0, 1, 0, fun _ _ => R.REF.STAT_Q.PRESENT⟩,
   ⟨1, 0, 1, 0, fun _ _ => R.REF.CHG.CHANGED⟩,
   ⟨1, 0, 1, 0, fun _ _ => R.REF.INT_EN.CHANGED⟩,
   ⟨16, 0x80, 1, 0, fun i _ => R.REF.SLOT.CFG.EN i⟩,
   ⟨16, 0x80, 1, 0, fun i _ => R.REF.SLOT.CFG.KIND i⟩,
   ⟨16, 0x80, 1, 0, fun i _ => R.REF.SLOT.CFG.POL i⟩,
   ⟨16, 0x80, 1, 0, fun i _ => R.REF.SLOT.CFG.IO i⟩,
   ⟨16, 0x80, 1, 0, fun i _ => R.REF.SLOT.CFG.TERM i⟩,
   ⟨16, 0x80, 1, 0, fun i _ => R.REF.SLOT.DIV.DIV i⟩,
   ⟨16, 0x80, 1, 0, fun i _ => R.REF.SLOT.NOM.NOM i⟩,
   ⟨16, 0x80, 1, 0, fun i _ => R.REF.SLOT.DELAY.DELAY i⟩,
   ⟨16, 0x80, 1, 0, fun i _ => R.REF.SLOT.REFB.REFB i⟩,
   ⟨16, 0x80, 1, 0, fun i _ => R.REF.SLOT.JITB.JITB i⟩,
   ⟨16, 0x80, 1, 0, fun i _ => R.REF.SLOT.BOUND_MAX.MAX i⟩,
   ⟨16, 0x80, 1, 0, fun i _ => R.REF.SLOT.JUMP.HIST i⟩,
   ⟨16, 0x80, 1, 0, fun i _ => R.REF.SLOT.JUMP.K i⟩,
   ⟨16, 0x80, 1, 0, fun i _ => R.REF.SLOT.JUMP.CONFIRM i⟩,
   ⟨16, 0x80, 1, 0, fun i _ => R.REF.SLOT.JUMP_MIN.J i⟩,
   ⟨16, 0x80, 1, 0, fun i _ => R.REF.SLOT.FREQ_LIM.LIM i⟩,
   ⟨16, 0x80, 1, 0, fun i _ => R.REF.SLOT.TIMING.MISS_WIN i⟩,
   ⟨16, 0x80, 1, 0, fun i _ => R.REF.SLOT.TIMING.MISS_N i⟩,
   ⟨16, 0x80, 1, 0, fun i _ => R.REF.SLOT.TIMING.GLITCH_N i⟩,
   ⟨16, 0x80, 1, 0, fun i _ => R.REF.SLOT.QUAL.QUAL_TIME i⟩,
   ⟨16, 0x80, 1, 0, fun i _ => R.REF.SLOT.QUAL.HOLDOFF i⟩,
   ⟨16, 0x80, 1, 0, fun i _ => R.REF.SLOT.TOD.EN i⟩,
   ⟨16, 0x80, 1, 0, fun i _ => R.REF.SLOT.TOD.FORMAT i⟩,
   ⟨16, 0x80, 1, 0, fun i _ => R.REF.SLOT.TOD.ALIGN i⟩,
   ⟨16, 0x80, 1, 0, fun i _ => R.REF.SLOT.TOD.BAUD i⟩,
   ⟨16, 0x80, 1, 0, fun i _ => R.REF.SLOT.TOD.CONFIRM i⟩,
   ⟨16, 0x80, 1, 0, fun i _ => R.REF.SLOT.TOD.ERR_N i⟩,
   ⟨16, 0x80, 1, 0, fun i _ => R.REF.SLOT.SRCQ.CC_MAX i⟩,
   ⟨16, 0x80, 1, 0, fun i _ => R.REF.SLOT.SRCQ.REQ_TRACE i⟩,
   ⟨16, 0x80, 1, 0, fun i _ => R.REF.SLOT.SRCQ.FLAG_MASK i⟩,
   ⟨16, 0x80, 1, 0, fun i _ => R.REF.SLOT.SRCQ.QL_MASK i⟩,
   ⟨16, 0x80, 1, 0, fun i _ => R.REF.SLOT.CTL.COMMIT i⟩,
   ⟨16, 0x80, 1, 0, fun i _ => R.REF.SLOT.CTL.RESTART i⟩,
   ⟨16, 0x80, 1, 0, fun i _ => R.REF.SLOT.STAT.STATE i⟩,
   ⟨16, 0x80, 1, 0, fun i _ => R.REF.SLOT.STAT.PRESENT i⟩,
   ⟨16, 0x80, 1, 0, fun i _ => R.REF.SLOT.STAT.TOD_OK i⟩]
/-- The REF fields, part 2. -/
def R.REF.table2 : List RegRow :=
  [⟨16, 0x80, 1, 0, fun i _ => R.REF.SLOT.STAT.CAUSE i⟩,
   ⟨16, 0x80, 1, 0, fun i _ => R.REF.SLOT.EVT.QUALIFIED i⟩,
   ⟨16, 0x80, 1, 0, fun i _ => R.REF.SLOT.EVT.DISQUALIFIED i⟩,
   ⟨16, 0x80, 1, 0, fun i _ => R.REF.SLOT.EVT.OUTLIER i⟩,
   ⟨16, 0x80, 1, 0, fun i _ => R.REF.SLOT.EVT.JUMP i⟩,
   ⟨16, 0x80, 1, 0, fun i _ => R.REF.SLOT.EVT.MISS i⟩,
   ⟨16, 0x80, 1, 0, fun i _ => R.REF.SLOT.EVT.GLITCH i⟩,
   ⟨16, 0x80, 1, 0, fun i _ => R.REF.SLOT.EVT.RATE i⟩,
   ⟨16, 0x80, 1, 0, fun i _ => R.REF.SLOT.EVT.TOD_ERR i⟩,
   ⟨16, 0x80, 1, 0, fun i _ => R.REF.SLOT.EVT.FLAG i⟩,
   ⟨16, 0x80, 1, 0, fun i _ => R.REF.SLOT.EVT.CFG_REJECTED i⟩,
   ⟨16, 0x80, 1, 0, fun i _ => R.REF.SLOT.EVT.REBASE i⟩,
   ⟨16, 0x80, 1, 0, fun i _ => R.REF.SLOT.INT_EN.EN i⟩,
   ⟨16, 0x80, 1, 0, fun i _ => R.REF.SLOT.D_FRAC.FRAC i⟩,
   ⟨16, 0x80, 1, 0, fun i _ => R.REF.SLOT.D_NS.NS i⟩,
   ⟨16, 0x80, 1, 0, fun i _ => R.REF.SLOT.D_SEC_LO.SEC i⟩,
   ⟨16, 0x80, 1, 0, fun i _ => R.REF.SLOT.D_SEC_HI.SEC i⟩,
   ⟨16, 0x80, 1, 0, fun i _ => R.REF.SLOT.FREQ0.Y i⟩,
   ⟨16, 0x80, 1, 0, fun i _ => R.REF.SLOT.FREQ1.Y i⟩,
   ⟨16, 0x80, 1, 0, fun i _ => R.REF.SLOT.RESID.SIGMA i⟩,
   ⟨16, 0x80, 1, 0, fun i _ => R.REF.SLOT.MEASB.BOUND i⟩,
   ⟨16, 0x80, 1, 0, fun i _ => R.REF.SLOT.REFB_EFF.BOUND i⟩,
   ⟨16, 0x80, 1, 0, fun i _ => R.REF.SLOT.OBS_CNT.COUNT i⟩,
   ⟨16, 0x80, 1, 0, fun i _ => R.REF.SLOT.OUTLIER_CNT.COUNT i⟩,
   ⟨16, 0x80, 1, 0, fun i _ => R.REF.SLOT.MISS_CNT.COUNT i⟩,
   ⟨16, 0x80, 1, 0, fun i _ => R.REF.SLOT.GLITCH_CNT.COUNT i⟩,
   ⟨16, 0x80, 1, 0, fun i _ => R.REF.SLOT.TOD_ERR_CNT.COUNT i⟩]

/-- Every field the REF block implements. -/
def R.REF.table : List RegRow := R.REF.table1 ++ R.REF.table2

/-! ### SEL: 04_selection_and_banking.md, R159 -/

/-- [0] CMD: Commit group PRIO (R125). -/
def R.SEL.CTL.PRIO_COMMIT : Field := ⟨0x50000, 0, 1, .cmd, 0, .second, none⟩
/-- [1] CMD: End all wait-to-restore timers (R128). -/
def R.SEL.CTL.CLEAR_WTR : Field := ⟨0x50000, 1, 1, .cmd, 0, .second, none⟩
/-- [2] CMD: Empty the drift model (R145). -/
def R.SEL.CTL.MODEL_RESET : Field := ⟨0x50000, 2, 1, .cmd, 0, .second, none⟩
/-- [3] CMD: Commit group LOOP. -/
def R.SEL.CTL.LOOP_COMMIT : Field := ⟨0x50000, 3, 1, .cmd, 0, .second, none⟩
/-- [0] CFG: Revertive selection (R127). -/
def R.SEL.CFG.REVERT : Field := ⟨0x50004, 0, 1, .cfg, 1, .loopUpdate, none⟩
/-- [1] CFG: Apply wait-to-restore in FREERUN and BANKING (R128). -/
def R.SEL.CFG.BANK_WTR : Field := ⟨0x50004, 1, 1, .cfg, 0, .loopUpdate, none⟩
/-- [2] CFG: Only FORCE_SLOT eligible (R126). -/
def R.SEL.CFG.FORCE_EN : Field := ⟨0x50004, 2, 1, .cfg, 0, .loopUpdate, none⟩
/-- [7:4] CFG: Forced slot. -/
def R.SEL.CFG.FORCE_SLOT : Field := ⟨0x50004, 4, 4, .cfg, 0x0, .loopUpdate, none⟩
/-- [31:16] CFG: Wait-to-restore, s; 300 at reset. -/
def R.SEL.CFG.WTR : Field := ⟨0x50004, 16, 16, .cfg, 0x012C, .second, none⟩
/-- [2:0] STAT: State (R123). -/
def R.SEL.STAT.STATE : Field := ⟨0x50008, 0, 3, .stat, 0b000, .immediate, none⟩
/-- [7:4] STAT: Selected slot; valid in LOCKED. -/
def R.SEL.STAT.SLOT : Field := ⟨0x50008, 4, 4, .stat, 0x0, .immediate, none⟩
/-- [11:8] STAT: Switch target; valid in FREEZE, MEASURE, BUILD-OUT. -/
def R.SEL.STAT.TARGET : Field := ⟨0x50008, 8, 4, .stat, 0x0, .immediate, none⟩
/-- [12] STAT: Model learned (R143). -/
def R.SEL.STAT.MODEL_LEARNED : Field := ⟨0x50008, 12, 1, .stat, 0, .immediate, none⟩
/-- [13] STAT: Temperature coefficient learned. -/
def R.SEL.STAT.TEMP_LEARNED : Field := ⟨0x50008, 13, 1, .stat, 0, .immediate, none⟩
/-- [0] RC: Direct selection made (R127). -/
def R.SEL.EVT.SELECT : Field := ⟨0x5000C, 0, 1, .rc, 0, .immediate, none⟩
/-- [1] RC: FREEZE entered. -/
def R.SEL.EVT.SWITCH_START : Field := ⟨0x5000C, 1, 1, .rc, 0, .immediate, none⟩
/-- [2] RC: Switch reached LOCKED. -/
def R.SEL.EVT.SWITCH_DONE : Field := ⟨0x5000C, 2, 1, .rc, 0, .immediate, none⟩
/-- [3] RC: Switch ended early (R130). -/
def R.SEL.EVT.SW_ABORT : Field := ⟨0x5000C, 3, 1, .rc, 0, .immediate, none⟩
/-- [4] RC: BANKING entered (R136). -/
def R.SEL.EVT.BANK_ENTER : Field := ⟨0x5000C, 4, 1, .rc, 0, .immediate, none⟩
/-- [5] RC: LOCKED reached from BANKING. -/
def R.SEL.EVT.BANK_EXIT : Field := ⟨0x5000C, 5, 1, .rc, 0, .immediate, none⟩
/-- [6] RC: No LOCKED samples in the window (R132). -/
def R.SEL.EVT.SHORT_AVG : Field := ⟨0x5000C, 6, 1, .rc, 0, .immediate, none⟩
/-- [7] RC: Report discarded as too old (R139). -/
def R.SEL.EVT.STALE : Field := ⟨0x5000C, 7, 1, .rc, 0, .immediate, none⟩
/-- [8] RC: Model became learned. -/
def R.SEL.EVT.MODEL_LEARNED : Field := ⟨0x5000C, 8, 1, .rc, 0, .immediate, none⟩
/-- [9] RC: Model emptied. -/
def R.SEL.EVT.MODEL_RESET : Field := ⟨0x5000C, 9, 1, .rc, 0, .immediate, none⟩
/-- [10] RC: Commit rejected (R125, R141). -/
def R.SEL.EVT.CFG_REJECTED : Field := ⟨0x5000C, 10, 1, .rc, 0, .immediate, none⟩
/-- [10:0] LIVE: Interrupt enable per EVT bit. -/
def R.SEL.INT_EN.EN : Field := ⟨0x50010, 0, 11, .live, 0x000, .immediate, none⟩
/-- [3:0] CFG: FREEZE length in loop updates, 1–15; 0 rejected. -/
def R.SEL.SW.FREEZE_UPD : Field := ⟨0x50014, 0, 4, .cfg, 0x1, .second, (some .selLoop)⟩
/-- [7:4] CFG: Reports in MEASURE, 2–15; 0 and 1 rejected. -/
def R.SEL.SW.MEAS_N : Field := ⟨0x50014, 4, 4, .cfg, 0x4, .second, (some .selLoop)⟩
/-- [23:8] CFG: MEASURE timeout, s; 0 rejected. -/
def R.SEL.SW.TIMEOUT : Field := ⟨0x50014, 8, 16, .cfg, 0x000A, .second, (some .selLoop)⟩
/-- [15:0] CFG: Phase time constant, s (R141). -/
def R.SEL.LOOP.TP : Field := ⟨0x50018, 0, 16, .cfg, 0x0010, .second, (some .selLoop)⟩
/-- [31:16] CFG: Integrator time constant, s. -/
def R.SEL.LOOP.TI : Field := ⟨0x50018, 16, 16, .cfg, 0x0040, .second, (some .selLoop)⟩
/-- [15:0] CFG: Averaging window, s; 600 at reset; 0 rejected. -/
def R.SEL.BANK.AVG_WIN : Field := ⟨0x5001C, 0, 16, .cfg, 0x0258, .second, (some .selLoop)⟩
/-- [23:16] CFG: Guard before the freeze instant, s. -/
def R.SEL.BANK.GUARD : Field := ⟨0x5001C, 16, 8, .cfg, 0x0A, .second, (some .selLoop)⟩
/-- [7:0] CFG: Hours to learn, 24 at reset; 0 rejected. -/
def R.SEL.MODEL_CFG.LEARN_MIN : Field := ⟨0x50020, 0, 8, .cfg, 0x18, .second, (some .selLoop)⟩
/-- [15:8] CFG: Sample age limit, h; 168 at reset; below LEARN_MIN rejected. -/
def R.SEL.MODEL_CFG.WIN : Field := ⟨0x50020, 8, 8, .cfg, 0xA8, .second, (some .selLoop)⟩
/-- [23:16] CFG: Temperature span to learn k, 1/16 K; 2 K at reset. -/
def R.SEL.MODEL_CFG.TSPAN_MIN : Field := ⟨0x50020, 16, 8, .cfg, 0x20, .second, (some .selLoop)⟩
/-- [15:0] STAT: Bit n: slot n's timer running. -/
def R.SEL.WTR_RUN.RUNNING : Field := ⟨0x50024, 0, 16, .stat, 0x0000, .immediate, none⟩
/-- [31:0] CNT: Switches completed. -/
def R.SEL.SW_CNT.COUNT : Field := ⟨0x50028, 0, 32, .cnt, 0, .immediate, none⟩
/-- [31:0] CNT: BANKING entries. -/
def R.SEL.BANK_CNT.COUNT : Field := ⟨0x5002C, 0, 32, .cnt, 0, .immediate, none⟩
/-- [31:0] STAT: F_frz, signed 40-bit, 10^-15. -/
def R.SEL.FROZEN0.F_FRZ : Field := ⟨0x50030, 0, 32, .stat, 0, .immediate, none⟩
/-- [7:0] STAT: F_frz, signed 40-bit, 10^-15. -/
def R.SEL.FROZEN1.F_FRZ : Field := ⟨0x50034, 0, 8, .stat, 0, .immediate, none⟩
/-- [31:0] STAT: F at the latest update, signed 40-bit. -/
def R.SEL.FTOTAL0.F : Field := ⟨0x50038, 0, 32, .stat, 0, .immediate, none⟩
/-- [7:0] STAT: F at the latest update, signed 40-bit. -/
def R.SEL.FTOTAL1.F : Field := ⟨0x5003C, 0, 8, .stat, 0, .immediate, none⟩
/-- [31:0] STAT: α in force, signed, 10^-21 s^-1. -/
def R.SEL.ALPHA.ALPHA : Field := ⟨0x50040, 0, 32, .stat, 0, .immediate, none⟩
/-- [23:0] STAT: k in force, signed, 10^-15 per K. -/
def R.SEL.KTEMP.K : Field := ⟨0x50044, 0, 24, .stat, 0, .immediate, none⟩
/-- [15:0] STAT: θ_c, signed, 1/16 K. -/
def R.SEL.THETA_C.THETA : Field := ⟨0x50048, 0, 16, .stat, 0, .immediate, none⟩
/-- [15:0] CNT: Hours of samples held (R142). -/
def R.SEL.MODEL_HOURS.HOURS : Field := ⟨0x5004C, 0, 16, .cnt, 0, .immediate, none⟩
/-- [31:0] STAT: Learned a, 2^-8 ns (R144). -/
def R.SEL.MODEL_A.A : Field := ⟨0x50050, 0, 32, .stat, 0, .immediate, none⟩
/-- [23:0] STAT: Learned b, 10^-15. -/
def R.SEL.MODEL_B.B : Field := ⟨0x50054, 0, 24, .stat, 0, .immediate, none⟩
/-- [23:0] STAT: Learned c, 10^-21 s^-1. -/
def R.SEL.MODEL_C.C : Field := ⟨0x50058, 0, 24, .stat, 0, .immediate, none⟩
/-- [15:0] STAT: Learned q, 10^-15 per K. -/
def R.SEL.MODEL_Q.Q : Field := ⟨0x5005C, 0, 16, .stat, 0, .immediate, none⟩
/-- [31:0] STAT: Build-out offset, signed, 2^-8 ns (R134). -/
def R.SEL.BO.BO : Field := ⟨0x50060, 0, 32, .stat, 0, .immediate, none⟩
/-- [3:0] CFG: Slot of entry k. -/
def R.SEL.PRIO.SLOT (i : Nat) : Field := ⟨0x50100 + i * 0x4, 0, 4, .cfg, i, .second, (some .selPrio)⟩
/-- [11:8] CFG: Rank, 1–15, lower ranks higher. -/
def R.SEL.PRIO.PRIO (i : Nat) : Field := ⟨0x50100 + i * 0x4, 8, 4, .cfg, 0xF, .second, (some .selPrio)⟩
/-- [16] CFG: Entry enabled. -/
def R.SEL.PRIO.EN (i : Nat) : Field := ⟨0x50100 + i * 0x4, 16, 1, .cfg, 0, .second, (some .selPrio)⟩
/-- [17] CFG: Entry excluded from choice. -/
def R.SEL.PRIO.LOCKOUT (i : Nat) : Field := ⟨0x50100 + i * 0x4, 17, 1, .cfg, 0, .second, (some .selPrio)⟩

/-- The SEL fields, part 1. -/
def R.SEL.table1 : List RegRow :=
  [⟨1, 0, 1, 0, fun _ _ => R.SEL.CTL.PRIO_COMMIT⟩,
   ⟨1, 0, 1, 0, fun _ _ => R.SEL.CTL.CLEAR_WTR⟩,
   ⟨1, 0, 1, 0, fun _ _ => R.SEL.CTL.MODEL_RESET⟩,
   ⟨1, 0, 1, 0, fun _ _ => R.SEL.CTL.LOOP_COMMIT⟩,
   ⟨1, 0, 1, 0, fun _ _ => R.SEL.CFG.REVERT⟩,
   ⟨1, 0, 1, 0, fun _ _ => R.SEL.CFG.BANK_WTR⟩,
   ⟨1, 0, 1, 0, fun _ _ => R.SEL.CFG.FORCE_EN⟩,
   ⟨1, 0, 1, 0, fun _ _ => R.SEL.CFG.FORCE_SLOT⟩,
   ⟨1, 0, 1, 0, fun _ _ => R.SEL.CFG.WTR⟩,
   ⟨1, 0, 1, 0, fun _ _ => R.SEL.STAT.STATE⟩,
   ⟨1, 0, 1, 0, fun _ _ => R.SEL.STAT.SLOT⟩,
   ⟨1, 0, 1, 0, fun _ _ => R.SEL.STAT.TARGET⟩,
   ⟨1, 0, 1, 0, fun _ _ => R.SEL.STAT.MODEL_LEARNED⟩,
   ⟨1, 0, 1, 0, fun _ _ => R.SEL.STAT.TEMP_LEARNED⟩,
   ⟨1, 0, 1, 0, fun _ _ => R.SEL.EVT.SELECT⟩,
   ⟨1, 0, 1, 0, fun _ _ => R.SEL.EVT.SWITCH_START⟩,
   ⟨1, 0, 1, 0, fun _ _ => R.SEL.EVT.SWITCH_DONE⟩,
   ⟨1, 0, 1, 0, fun _ _ => R.SEL.EVT.SW_ABORT⟩,
   ⟨1, 0, 1, 0, fun _ _ => R.SEL.EVT.BANK_ENTER⟩,
   ⟨1, 0, 1, 0, fun _ _ => R.SEL.EVT.BANK_EXIT⟩,
   ⟨1, 0, 1, 0, fun _ _ => R.SEL.EVT.SHORT_AVG⟩,
   ⟨1, 0, 1, 0, fun _ _ => R.SEL.EVT.STALE⟩,
   ⟨1, 0, 1, 0, fun _ _ => R.SEL.EVT.MODEL_LEARNED⟩,
   ⟨1, 0, 1, 0, fun _ _ => R.SEL.EVT.MODEL_RESET⟩,
   ⟨1, 0, 1, 0, fun _ _ => R.SEL.EVT.CFG_REJECTED⟩,
   ⟨1, 0, 1, 0, fun _ _ => R.SEL.INT_EN.EN⟩,
   ⟨1, 0, 1, 0, fun _ _ => R.SEL.SW.FREEZE_UPD⟩,
   ⟨1, 0, 1, 0, fun _ _ => R.SEL.SW.MEAS_N⟩,
   ⟨1, 0, 1, 0, fun _ _ => R.SEL.SW.TIMEOUT⟩,
   ⟨1, 0, 1, 0, fun _ _ => R.SEL.LOOP.TP⟩,
   ⟨1, 0, 1, 0, fun _ _ => R.SEL.LOOP.TI⟩,
   ⟨1, 0, 1, 0, fun _ _ => R.SEL.BANK.AVG_WIN⟩,
   ⟨1, 0, 1, 0, fun _ _ => R.SEL.BANK.GUARD⟩,
   ⟨1, 0, 1, 0, fun _ _ => R.SEL.MODEL_CFG.LEARN_MIN⟩,
   ⟨1, 0, 1, 0, fun _ _ => R.SEL.MODEL_CFG.WIN⟩,
   ⟨1, 0, 1, 0, fun _ _ => R.SEL.MODEL_CFG.TSPAN_MIN⟩,
   ⟨1, 0, 1, 0, fun _ _ => R.SEL.WTR_RUN.RUNNING⟩,
   ⟨1, 0, 1, 0, fun _ _ => R.SEL.SW_CNT.COUNT⟩,
   ⟨1, 0, 1, 0, fun _ _ => R.SEL.BANK_CNT.COUNT⟩,
   ⟨1, 0, 1, 0, fun _ _ => R.SEL.FROZEN0.F_FRZ⟩]
/-- The SEL fields, part 2. -/
def R.SEL.table2 : List RegRow :=
  [⟨1, 0, 1, 0, fun _ _ => R.SEL.FROZEN1.F_FRZ⟩,
   ⟨1, 0, 1, 0, fun _ _ => R.SEL.FTOTAL0.F⟩,
   ⟨1, 0, 1, 0, fun _ _ => R.SEL.FTOTAL1.F⟩,
   ⟨1, 0, 1, 0, fun _ _ => R.SEL.ALPHA.ALPHA⟩,
   ⟨1, 0, 1, 0, fun _ _ => R.SEL.KTEMP.K⟩,
   ⟨1, 0, 1, 0, fun _ _ => R.SEL.THETA_C.THETA⟩,
   ⟨1, 0, 1, 0, fun _ _ => R.SEL.MODEL_HOURS.HOURS⟩,
   ⟨1, 0, 1, 0, fun _ _ => R.SEL.MODEL_A.A⟩,
   ⟨1, 0, 1, 0, fun _ _ => R.SEL.MODEL_B.B⟩,
   ⟨1, 0, 1, 0, fun _ _ => R.SEL.MODEL_C.C⟩,
   ⟨1, 0, 1, 0, fun _ _ => R.SEL.MODEL_Q.Q⟩,
   ⟨1, 0, 1, 0, fun _ _ => R.SEL.BO.BO⟩,
   ⟨16, 0x4, 1, 0, fun i _ => R.SEL.PRIO.SLOT i⟩,
   ⟨16, 0x4, 1, 0, fun i _ => R.SEL.PRIO.PRIO i⟩,
   ⟨16, 0x4, 1, 0, fun i _ => R.SEL.PRIO.EN i⟩,
   ⟨16, 0x4, 1, 0, fun i _ => R.SEL.PRIO.LOCKOUT i⟩]

/-- Every field the SEL block implements. -/
def R.SEL.table : List RegRow := R.SEL.table1 ++ R.SEL.table2

/-! ### OSC: 04_selection_and_banking.md, R160 -/

/-- [0] CMD: Read the identity now (R149). -/
def R.OSC.CTL.ID_READ : Field := ⟨0x60000, 0, 1, .cmd, 0, .immediate, none⟩
/-- [1] CMD: Send SWCMD, damper open only (R158). -/
def R.OSC.CTL.SWCMD_SEND : Field := ⟨0x60000, 1, 1, .cmd, 0, .second, none⟩
/-- [2] CMD: Commit group OSC. -/
def R.OSC.CTL.COMMIT : Field := ⟨0x60000, 2, 1, .cmd, 0, .second, none⟩
/-- [2:0] CFG: Class record 0–7 (R147). -/
def R.OSC.CFG.CLASS : Field := ⟨0x60004, 0, 3, .cfg, 0b000, .second, (some .osc)⟩
/-- [5:4] CFG: Steering path (R153). -/
def R.OSC.CFG.MODE : Field := ⟨0x60004, 4, 2, .cfg, 0b00, .second, (some .osc)⟩
/-- [1:0] STAT: 0b00 rubidium, 0b01 chip-scale atomic, 0b10 OCXO. -/
def R.OSC.STAT.KIND : Field := ⟨0x60008, 0, 2, .stat, 0b00, .immediate, none⟩
/-- [4] STAT: Last identity read succeeded. -/
def R.OSC.STAT.ID_OK : Field := ⟨0x60008, 4, 1, .stat, 0, .immediate, none⟩
/-- [5] STAT: OSC_LOCK ball asserted (R152). -/
def R.OSC.STAT.MOD_LOCK : Field := ⟨0x60008, 5, 1, .stat, 0, .immediate, none⟩
/-- [6] STAT: Command sent, not yet complete. -/
def R.OSC.STAT.CMD_PEND : Field := ⟨0x60008, 6, 1, .stat, 0, .immediate, none⟩
/-- [7] STAT: C at CMD_MAX (R157). -/
def R.OSC.STAT.RAIL_HI : Field := ⟨0x60008, 7, 1, .stat, 0, .immediate, none⟩
/-- [8] STAT: C at CMD_MIN. -/
def R.OSC.STAT.RAIL_LO : Field := ⟨0x60008, 8, 1, .stat, 0, .immediate, none⟩
/-- [9] STAT: Transfers stopped after failures (R154). -/
def R.OSC.STAT.STEER_DIS : Field := ⟨0x60008, 9, 1, .stat, 0, .immediate, none⟩
/-- [0] RC: Identity changed (R150). -/
def R.OSC.EVT.ID_CHANGE : Field := ⟨0x6000C, 0, 1, .rc, 0, .immediate, none⟩
/-- [1] RC: Identity read failed. -/
def R.OSC.EVT.ID_FAIL : Field := ⟨0x6000C, 1, 1, .rc, 0, .immediate, none⟩
/-- [2] RC: Command not acknowledged. -/
def R.OSC.EVT.CMD_FAIL : Field := ⟨0x6000C, 2, 1, .rc, 0, .immediate, none⟩
/-- [3] RC: Command range reached. -/
def R.OSC.EVT.RAIL : Field := ⟨0x6000C, 3, 1, .rc, 0, .immediate, none⟩
/-- [4] RC: Current out of range (R151). -/
def R.OSC.EVT.WEAR : Field := ⟨0x6000C, 4, 1, .rc, 0, .immediate, none⟩
/-- [5] RC: Run-hour limit passed. -/
def R.OSC.EVT.LIFE : Field := ⟨0x6000C, 5, 1, .rc, 0, .immediate, none⟩
/-- [6] RC: Module lock lost. -/
def R.OSC.EVT.UNLOCK : Field := ⟨0x6000C, 6, 1, .rc, 0, .immediate, none⟩
/-- [7] RC: Commit or command rejected. -/
def R.OSC.EVT.CFG_REJECTED : Field := ⟨0x6000C, 7, 1, .rc, 0, .immediate, none⟩
/-- [7:0] LIVE: Interrupt enable per EVT bit. -/
def R.OSC.INT_EN.EN : Field := ⟨0x60010, 0, 8, .live, 0x00, .immediate, none⟩
/-- [6:0] CFG: EEPROM 7-bit address. -/
def R.OSC.I2C.ADDR : Field := ⟨0x60014, 0, 7, .cfg, 0x50, .second, (some .osc)⟩
/-- [15:8] CFG: First identity byte. -/
def R.OSC.I2C.ID_OFF : Field := ⟨0x60014, 8, 8, .cfg, 0x00, .second, (some .osc)⟩
/-- [23:16] CFG: Identity bytes, 16–128; others rejected. -/
def R.OSC.I2C.ID_LEN : Field := ⟨0x60014, 16, 8, .cfg, 0x40, .second, (some .osc)⟩
/-- [31:24] CFG: Identity poll interval, s; 60 at reset. -/
def R.OSC.I2C.POLL : Field := ⟨0x60014, 24, 8, .cfg, 0x3C, .second, (some .osc)⟩
/-- [3:0] CFG: Codes as REF.SLOT[n].TOD.BAUD; 9,600 at reset. -/
def R.OSC.UART.BAUD : Field := ⟨0x60018, 0, 4, .cfg, 0x0, .second, (some .osc)⟩
/-- [15:8] CFG: Acknowledgement timeout, 10 ms units; 100 ms at reset. -/
def R.OSC.UART.ACK_TO : Field := ⟨0x60018, 8, 8, .cfg, 0x0A, .second, (some .osc)⟩
/-- [23:16] CFG: Status poll interval, s. -/
def R.OSC.UART.STAT_POLL : Field := ⟨0x60018, 16, 8, .cfg, 0x0A, .second, (some .osc)⟩
/-- [23:0] CFG: Tuning gain, signed, 10^-15 per LSB; 1 ppt per LSB at reset. -/
def R.OSC.GAIN.G : Field := ⟨0x6001C, 0, 24, .cfg, 0x0003E8, .second, (some .osc)⟩
/-- [15:0] CFG: Command effect latency, ms; 200 at reset. -/
def R.OSC.LATENCY.MS : Field := ⟨0x60020, 0, 16, .cfg, 0x00C8, .second, (some .osc)⟩
/-- [4:0] CFG: DAC bits, 12–24; others rejected. -/
def R.OSC.DAC.WIDTH : Field := ⟨0x60024, 0, 5, .cfg, 0x10, .second, (some .osc)⟩
/-- [8] CFG: 0: offset binary; 1: two's complement. -/
def R.OSC.DAC.FORMAT : Field := ⟨0x60024, 8, 1, .cfg, 0, .second, (some .osc)⟩
/-- [14:12] CFG: SPI controller chip select. -/
def R.OSC.DAC.CS : Field := ⟨0x60024, 12, 3, .cfg, 0b000, .second, (some .osc)⟩
/-- [31:0] CFG: Lowest C, signed LSB; −10,000 at reset. -/
def R.OSC.CMD_MIN.MIN : Field := ⟨0x60028, 0, 32, .cfg, 0xFFFFD8F0, .second, (some .osc)⟩
/-- [31:0] CFG: Highest C, signed LSB; 10,000 at reset. -/
def R.OSC.CMD_MAX.MAX : Field := ⟨0x6002C, 0, 32, .cfg, 0x00002710, .second, (some .osc)⟩
/-- [15:0] CFG: Transfer threshold, ppt (R156). -/
def R.OSC.XFER.THR : Field := ⟨0x60030, 0, 16, .cfg, 0x000A, .second, (some .osc)⟩
/-- [31:16] CFG: Largest ΔC, LSB. -/
def R.OSC.XFER.STEP_MAX : Field := ⟨0x60030, 16, 16, .cfg, 0x0064, .second, (some .osc)⟩
/-- [31:0] STAT: Command in force, signed LSB; restored from embers. -/
def R.OSC.CMD_NOW.C : Field := ⟨0x60034, 0, 32, .stat, 0, .immediate, none⟩
/-- [31:0] LIVE: Software command value (R158). -/
def R.OSC.SWCMD.C : Field := ⟨0x60038, 0, 32, .live, 0, .immediate, none⟩
/-- [31:0] STAT: Current identity; 0 unknown. -/
def R.OSC.ID.ID : Field := ⟨0x60040, 0, 32, .stat, 0, .immediate, none⟩
/-- [31:0] STAT: Identity before the last change. -/
def R.OSC.ID_PREV.ID : Field := ⟨0x60044, 0, 32, .stat, 0, .immediate, none⟩
/-- [31:0] CNT: Hours run with this identity (R151). -/
def R.OSC.RUN_HOURS.HOURS : Field := ⟨0x60048, 0, 32, .cnt, 0, .immediate, none⟩
/-- [15:0] STAT: Lamp or heater current, 10 µA units. -/
def R.OSC.CURRENT.CUR : Field := ⟨0x6004C, 0, 16, .stat, 0, .immediate, none⟩
/-- [15:0] STAT: Module temperature, signed, 1/16 K. -/
def R.OSC.TEMP.TEMP : Field := ⟨0x60050, 0, 16, .stat, 0, .immediate, none⟩
/-- [15:0] CFG: Lowest current accepted, 10 µA. -/
def R.OSC.LIFE.CUR_MIN : Field := ⟨0x60054, 0, 16, .cfg, 0x0000, .second, (some .osc)⟩
/-- [31:16] CFG: Highest current accepted, 10 µA. -/
def R.OSC.LIFE.CUR_MAX : Field := ⟨0x60054, 16, 16, .cfg, 0xFFFF, .second, (some .osc)⟩
/-- [31:0] CFG: Run-hour warning limit. -/
def R.OSC.LIFE_HOURS.HOURS : Field := ⟨0x60058, 0, 32, .cfg, 0xFFFFFFFF, .second, (some .osc)⟩
/-- [15:0] CNT: Identity changes since reset. -/
def R.OSC.ID_CHG_CNT.COUNT : Field := ⟨0x6005C, 0, 16, .cnt, 0, .immediate, none⟩
/-- [31:0] CNT: Commands sent. -/
def R.OSC.CMD_CNT.COUNT : Field := ⟨0x60060, 0, 32, .cnt, 0, .immediate, none⟩
/-- [15:0] CNT: Commands not acknowledged. -/
def R.OSC.CMD_FAIL_CNT.COUNT : Field := ⟨0x60064, 0, 16, .cnt, 0, .immediate, none⟩

/-- The OSC fields, part 1. -/
def R.OSC.table1 : List RegRow :=
  [⟨1, 0, 1, 0, fun _ _ => R.OSC.CTL.ID_READ⟩,
   ⟨1, 0, 1, 0, fun _ _ => R.OSC.CTL.SWCMD_SEND⟩,
   ⟨1, 0, 1, 0, fun _ _ => R.OSC.CTL.COMMIT⟩,
   ⟨1, 0, 1, 0, fun _ _ => R.OSC.CFG.CLASS⟩,
   ⟨1, 0, 1, 0, fun _ _ => R.OSC.CFG.MODE⟩,
   ⟨1, 0, 1, 0, fun _ _ => R.OSC.STAT.KIND⟩,
   ⟨1, 0, 1, 0, fun _ _ => R.OSC.STAT.ID_OK⟩,
   ⟨1, 0, 1, 0, fun _ _ => R.OSC.STAT.MOD_LOCK⟩,
   ⟨1, 0, 1, 0, fun _ _ => R.OSC.STAT.CMD_PEND⟩,
   ⟨1, 0, 1, 0, fun _ _ => R.OSC.STAT.RAIL_HI⟩,
   ⟨1, 0, 1, 0, fun _ _ => R.OSC.STAT.RAIL_LO⟩,
   ⟨1, 0, 1, 0, fun _ _ => R.OSC.STAT.STEER_DIS⟩,
   ⟨1, 0, 1, 0, fun _ _ => R.OSC.EVT.ID_CHANGE⟩,
   ⟨1, 0, 1, 0, fun _ _ => R.OSC.EVT.ID_FAIL⟩,
   ⟨1, 0, 1, 0, fun _ _ => R.OSC.EVT.CMD_FAIL⟩,
   ⟨1, 0, 1, 0, fun _ _ => R.OSC.EVT.RAIL⟩,
   ⟨1, 0, 1, 0, fun _ _ => R.OSC.EVT.WEAR⟩,
   ⟨1, 0, 1, 0, fun _ _ => R.OSC.EVT.LIFE⟩,
   ⟨1, 0, 1, 0, fun _ _ => R.OSC.EVT.UNLOCK⟩,
   ⟨1, 0, 1, 0, fun _ _ => R.OSC.EVT.CFG_REJECTED⟩,
   ⟨1, 0, 1, 0, fun _ _ => R.OSC.INT_EN.EN⟩,
   ⟨1, 0, 1, 0, fun _ _ => R.OSC.I2C.ADDR⟩,
   ⟨1, 0, 1, 0, fun _ _ => R.OSC.I2C.ID_OFF⟩,
   ⟨1, 0, 1, 0, fun _ _ => R.OSC.I2C.ID_LEN⟩,
   ⟨1, 0, 1, 0, fun _ _ => R.OSC.I2C.POLL⟩,
   ⟨1, 0, 1, 0, fun _ _ => R.OSC.UART.BAUD⟩,
   ⟨1, 0, 1, 0, fun _ _ => R.OSC.UART.ACK_TO⟩,
   ⟨1, 0, 1, 0, fun _ _ => R.OSC.UART.STAT_POLL⟩,
   ⟨1, 0, 1, 0, fun _ _ => R.OSC.GAIN.G⟩,
   ⟨1, 0, 1, 0, fun _ _ => R.OSC.LATENCY.MS⟩,
   ⟨1, 0, 1, 0, fun _ _ => R.OSC.DAC.WIDTH⟩,
   ⟨1, 0, 1, 0, fun _ _ => R.OSC.DAC.FORMAT⟩,
   ⟨1, 0, 1, 0, fun _ _ => R.OSC.DAC.CS⟩,
   ⟨1, 0, 1, 0, fun _ _ => R.OSC.CMD_MIN.MIN⟩,
   ⟨1, 0, 1, 0, fun _ _ => R.OSC.CMD_MAX.MAX⟩,
   ⟨1, 0, 1, 0, fun _ _ => R.OSC.XFER.THR⟩,
   ⟨1, 0, 1, 0, fun _ _ => R.OSC.XFER.STEP_MAX⟩,
   ⟨1, 0, 1, 0, fun _ _ => R.OSC.CMD_NOW.C⟩,
   ⟨1, 0, 1, 0, fun _ _ => R.OSC.SWCMD.C⟩,
   ⟨1, 0, 1, 0, fun _ _ => R.OSC.ID.ID⟩]
/-- The OSC fields, part 2. -/
def R.OSC.table2 : List RegRow :=
  [⟨1, 0, 1, 0, fun _ _ => R.OSC.ID_PREV.ID⟩,
   ⟨1, 0, 1, 0, fun _ _ => R.OSC.RUN_HOURS.HOURS⟩,
   ⟨1, 0, 1, 0, fun _ _ => R.OSC.CURRENT.CUR⟩,
   ⟨1, 0, 1, 0, fun _ _ => R.OSC.TEMP.TEMP⟩,
   ⟨1, 0, 1, 0, fun _ _ => R.OSC.LIFE.CUR_MIN⟩,
   ⟨1, 0, 1, 0, fun _ _ => R.OSC.LIFE.CUR_MAX⟩,
   ⟨1, 0, 1, 0, fun _ _ => R.OSC.LIFE_HOURS.HOURS⟩,
   ⟨1, 0, 1, 0, fun _ _ => R.OSC.ID_CHG_CNT.COUNT⟩,
   ⟨1, 0, 1, 0, fun _ _ => R.OSC.CMD_CNT.COUNT⟩,
   ⟨1, 0, 1, 0, fun _ _ => R.OSC.CMD_FAIL_CNT.COUNT⟩]

/-- Every field the OSC block implements. -/
def R.OSC.table : List RegRow := R.OSC.table1 ++ R.OSC.table2

end Sys2Proof.Machine
end

