-- ==== Sys2Proof/Machine/Memory.lean ====
section
/-! DEFINITION. Byte-addressed memory in one canonical form: addresses strictly rising, no byte listed that an unlisted
address already reads as. DRAM's unlisted bytes read zero, the flash's read 0xFF (assumption log 3 and 4). -/

namespace Sys2Proof.Machine

/-- A memory: the listed bytes by address. -/
abbrev Mem := List Host.Cell

/-- What an address of DRAM reads as that nothing has written. DESIGN CHOICE: no rule gives DRAM's contents. -/
def dramBlank : Byte := 0

/-- What an erased or never-written byte of the NOR flash reads as. PRESUMED: NOR flash erases to ones. -/
def flashBlank : Byte := 0xFF

/-- The byte at `a`, in a memory whose unlisted bytes read `d`. -/
def Mem.byte (d : Byte) (m : Mem) (a : Nat) : Byte := Map.getD m a d

/-- The byte `b` stored at `a`; storing the blank value removes the entry. -/
def Mem.store (d : Byte) (m : Mem) (a : Nat) (b : Byte) : Mem :=
  if b = d then Map.del m a else Map.put m a b

/-- `n` bytes from address `a`. -/
def Mem.read (d : Byte) (m : Mem) (a : Nat) : Nat → List Byte
  | 0 => []
  | n + 1 => Mem.byte d m a :: Mem.read d m (a + 1) n

/-- Bytes stored from address `a` on, in address order. -/
def Mem.write (d : Byte) (m : Mem) (a : Nat) : List Byte → Mem
  | [] => m
  | b :: bs => Mem.write d (Mem.store d m a b) (a + 1) bs

/-- The canonical form. -/
def Mem.wf (d : Byte) (m : Mem) : Bool := Map.wf m && m.all (fun e => e.2 != d)

end Sys2Proof.Machine
end

