-- ==== Sys2Proof/Machine/StBase.lean ====
section
/-! DEFINITION. State that every block shares: what leaves the part, pending writes and commits, filings of faults. -/

namespace Sys2Proof.Machine

/-- What the part sends out: host completions and interrupts, frames, messages on its serial links, edges. The state
keeps them, newest first, so that statements can speak about them. -/
inductive Emission where
  /-- A host read's data, or a write's acknowledgement (R535, R538). -/
  | hostData (data : Word)
  | hostBytes (data : List Byte)
  | hostOk
  /-- Unsupported Request or status 0xE1; Completer Abort or 0xE2, 0xE3; poisoned data or 0xE4 (R535 to R540, R553). -/
  | hostUnsupported
  | hostAbandoned
  | hostRefused
  | hostDataError (data : List Byte)
  /-- A completion of BAR2 data, some of whose dwords are poisoned. -/
  | spiFrame (status : Byte)
  /-- An AER report of an abandoned posted write (R553). -/
  | aerAbort
  /-- An MSI-X message of a vector (R558). -/
  | msix (vector : Nat)
  /-- A frame on port `p`, scheduled to leave at an instant or as it comes (R357, R378). -/
  | frame (p : Nat) (at_ : Option Int) (bytes : List Byte)
  /-- Bytes on the oscillator UART at a baud code, a DAC frame, an I2C read, an SPI transfer to a front end with the SPI mode and
  the divider in use (R149, R153, R243, R245). -/
  | oscCommand (baud : Nat) (tpl : List Byte) (c : Int)
  | oscStatus (baud : Nat) (tpl : List Byte)
  | dacFrame (cs : Nat) (bytes : List Byte)
  | i2cRead (addr off len : Nat)
  | spi (cs len : Nat) (read : Bool) (data mode div : Nat)
  /-- A result, a navigation record or an epoch record handed to the solution core (R257, R268, R288). -/
  | coreResult (outcome prn ch tag hyp stat : Nat) (doppler : Int) (vfail : Nat)
  | coreRecord (bytes : List Byte)
  /-- An IRIG-B frame begun or cut, a time-of-day message, the active edge of an event line or of an output, rising or falling
  (R190, R203, R207, R211). -/
  | irig (i : Nat) (elements : List Nat)
  | irigCut (i : Nat)
  | todMessage (j : Nat) (bytes : List Byte)
  | todCut (j : Nat)
  | tevEdge (m : Nat) (at_ : Int) (width : Nat) (falling : Bool)
  | outEdge (n : Nat) (at_ : Int) (falling : Bool)
  /-- The frame in transmission on port `p` is cut short (R312). -/
  | frameCut (p : Nat)
  /-- Hat link messages, and the bits of a HAT frame that were driven low, bit 0 in [15] (R491, R497 to R507). -/
  | hatMessage (kind : Nat) (body : List Byte)
  | hatClaim (frame : Nat)
  /-- Flash commands at CK_NVM's divider, 0 for the boot oscillator: read, program, erase (R512, R527, R528, R530). -/
  | flashRead (div addr len : Nat)
  | flashProgram (div addr : Nat) (bytes : List Byte)
  | flashErase (div addr : Nat)
  /-- Words on a sample port's serial data output (R477 to R481). -/
  | sampleWords (n : Nat) (words : List Nat)
  deriving DecidableEq, Repr

/-- A written value of a field that waits for its boundary or its group's commit (R542 to R544). -/
structure Waiting where
  field : Field
  value : Nat
  deriving DecidableEq, Repr

/-- A commit of a group: the copy of its shadows taken in the cycle of the command (R544), and the timescale then. -/
structure Commit where
  group : Group
  at_ : Int
  copy : List Waiting
  deriving DecidableEq, Repr

/-- The classes of faults (R588). -/
inductive FaultClass where
  | note | degrade | surrender
  deriving DecidableEq, Repr

/-- A code with its class (R591). -/
structure FaultKind where
  code : Nat
  cls : FaultClass
  deriving DecidableEq, Repr

/-- A filing (R588, R594), before it has a sequence number. -/
structure FaultRec where
  kind : FaultKind
  noTime : Bool
  solo : Bool
  role : Nat
  /-- TIME96 in 2^-16 ns, or CK_AON cycles since the last reset with `noTime`. -/
  instant : Nat
  element : Nat
  cause : Nat
  dropped : Nat
  ebSec : Nat
  resetCnt : Nat
  deriving DecidableEq, Repr

/-- Fault collection (chapter 20). -/
structure Flt where
  queue : List FaultRec
  /-- Filings discarded since FLT_DROP was last filed (R592). -/
  discarded : Nat
  /-- Sequence number of the next entry, kept but over POWER_ON (R594); entries the log holds. -/
  seq : Nat
  logged : Nat
  /-- Log entries with their sequence numbers that the ring has still to receive, oldest first; and whether the next
  ring record carries LOST (R595). -/
  ringDue : List (Nat × List Byte)
  ringLost : Bool
  /-- (code, element, second) of the first misses of R597. -/
  firsts : List (Nat × Nat × Nat)
  deriving DecidableEq, Repr

/-- One MSI-X table entry (R534): message address and data, vector control bit 0 the mask. -/
structure MsixEntry where
  addrLo : Word
  addrHi : Word
  data : Word
  masked : Bool
  deriving DecidableEq, Repr

/-- A host access that waits in a crossing (R553, R556). -/
structure HostAccess where
  write : Bool
  addr : Nat
  data : Nat
  be : Nat
  /-- When it began to wait, as State.mark tells. -/
  since : Option Int
  deriving DecidableEq, Repr

/-- The host interface behind its registers (chapter 18). -/
structure HostIf where
  /-- Bus Master Enable, D3hot, PERST_N low (R535, R560). -/
  busMaster : Bool
  d3hot : Bool
  perst : Bool
  msix : Map MsixEntry
  /-- The pending-bit array, bit v for vector v. -/
  pba : Nat
  /-- Accesses that stall or are blocked, by domain, oldest first (R553, R556). -/
  stalled : List (Nat × HostAccess)
  /-- The abandoned writes each domain holds, oldest first (R553). -/
  abandoned : Map (List HostAccess)
  /-- Domains whose reset handshake with the host crossing has not ended (R556). -/
  handshakes : List Nat
  deriving DecidableEq, Repr

end Sys2Proof.Machine
end

