-- ==== Sys2Proof/Machine/StNet.lean ====
section
/-! DEFINITION. The state behind the registers of the Ethernet ports, the flue, the response engine, the protocols and the
glovebox (spec chapters 10 to 14). Instants count 2^-16 ns. -/

namespace Sys2Proof.Machine

/-! ### Ports (chapter 10) -/

/-- An unscheduled frame that waits on a port (R356): a descriptor of a host transmit ring (R378), a frame of a transaction
(R408, R420), or one that the port makes itself (R334). -/
inductive Unsched where
  | ring (n idx : Nat)
  | txn (ctx : Nat)
  | own (bytes : List Byte)
  deriving DecidableEq, Repr

/-- A port. -/
structure EthPort where
  /-- End of the running pause (R318). -/
  pauseEnd : Option Int
  /-- The counter last read by LO, and its high bits (R323). -/
  shadow : Option (Nat × Nat)
  /-- The wake detector: armed, bursts counted, the last burst already a wake (R327 to R330). -/
  armed : Bool
  bursts : Nat
  /-- ESMC PDUs sent since the second boundary; an event PDU is due (R334). -/
  esmcSent : Nat
  qlDue : Bool
  /-- End of the occupancy of the frame last passed to the PCS (R352, R357). -/
  lineEnd : Rat
  /-- The frame last passed to the PCS, which a loss of the link cuts short while it is in transmission (R312). -/
  lastTx : List Byte
  /-- Unscheduled frames in order of arrival, and since when the head waits as such (R356). -/
  unsched : List Unsched
  headAt : Option Int
  /-- Since when the conditions that lead to UP have held (R310), and those that let RCLKp through (R331); when a valid ESMC PDU
  last arrived, the link came up or the QL was given up (R333). -/
  linkAt : Option Int
  rclkAt : Option Int
  esmcAt : Option Int
  deriving DecidableEq, Repr

/-- The ports together; `released` is false while every port with PWR = ON is held in WAKE (R314, R494, R504). -/
structure Eth where
  ports : Map EthPort
  released : Bool
  deriving DecidableEq, Repr

/-! ### The flue (chapter 11) -/

/-- A reservation: of a transaction, or without one for the head unscheduled frame (R356). `drift` is δ of R359 as it has
accumulated, in 2^-16 ns. -/
structure Resv where
  ctx : Option Nat
  tL : Int
  len : Nat
  drift : Rat
  deriving DecidableEq, Repr

/-- The flue on one port. -/
structure LtsPort where
  resv : List Resv
  /-- The receive mapping's stamps (recovered cycle, instant), newest first; accepted since PENDING; discarded in
  succession (R343). -/
  stamps : List (Int × Int)
  accepted : Nat
  discards : Nat
  /-- A TXPH measurement runs (R342). -/
  txphRun : Bool
  deriving DecidableEq, Repr

/-- The flue: grant requests in order of arrival (R354), and why they are held (R355). -/
structure Lts where
  ports : Map LtsPort
  requests : List Nat
  stepHold : Bool
  coastHold : Bool
  /-- PMA_RX and PMA_TX of the kindling image by SPEED × 4 + FEC (R365). -/
  pma : Map (Nat × Nat)
  deriving DecidableEq, Repr

/-! ### The response engine (chapter 12) -/

/-- A ring as the ring table describes it (R375), with its pointers and drop count (R379); whether its hardware pointer has moved
since its last writeback and since its last interrupt, and when these were (R379, R380). -/
structure Ring where
  desc : Nat
  buf : Nat
  logN : Nat
  role : Nat
  pri : Nat
  kind : Nat
  slot : Nat
  vector : Nat
  modUs : Nat
  wr : Nat
  rd : Nat
  drops : Nat
  moved : Bool
  raise : Bool
  wbAt : Option Int
  intAt : Option Int
  deriving DecidableEq, Repr

/-- What a transaction is to send. -/
inductive Reply where
  | ntp
  | nts
  | kod (code : List Byte)
  | delayResp
  | pdelayResp
  | sync
  | followUp
  | announce
  | management
  | signaling (tlvs : List Byte)
  | delayReq
  | pdelayReq
  | raw (bytes : List Byte)
  deriving DecidableEq, Repr

/-- A request's key (R390): family, 16 address bytes, receiving port, PTP sourcePortIdentity (zero for NTP). -/
structure ClientKey where
  af : Nat
  address : List Byte
  port : Nat
  portId : List Byte
  deriving DecidableEq, Repr

/-- Where a transaction stands (R370): before LOOKUP, in the flue's queue, refused FULL, waiting for a transmit slot, in the
glovebox, queued for release, in the unscheduled queue. -/
inductive TxnStep where
  | lookup | request | retry | slot | auth | queued | unsched
  deriving DecidableEq, Repr

/-- Whom a message goes to: Ethernet address, tags, IP address and UDP port (empty and 0 for L2), and the server address
index it leaves from. -/
structure Peer where
  mac : List Byte
  tags : List Byte
  ip : List Byte
  port : Nat
  deriving DecidableEq, Repr

/-- What NTS keeps of a request (R454): the keys, the Unique Identifier field, cookies asked for, cookies minted. -/
structure NtsCtx where
  c2s : List Byte
  s2c : List Byte
  uid : List Byte
  wanted : Nat
  cookies : List (List Byte)
  deriving DecidableEq, Repr

/-- Operations of the glovebox (R454, R460). -/
inductive GlvOp where
  | mint | seal | sign
  deriving DecidableEq, Repr

/-- A transaction (R382). -/
structure Txn where
  handler : Nat
  port : Nat
  /-- The received frame, empty for none; T_rx, or the instant of creation. -/
  frame : List Byte
  start : Int
  coarse : Bool
  step : TxnStep
  reply : Reply
  /-- The client entry, if there is one, and the key it was found under. -/
  entry : Option Nat
  key : ClientKey
  /-- Destination of what is sent. -/
  peer : Peer
  /-- The source address of what is sent: Ethernet and IP, and its index k. -/
  srcMac : List Byte
  srcIp : List Byte
  addr : Nat
  /-- Sequence number and log interval of a PTP message; the t_L of a Follow_Up's Sync. -/
  seq : Nat
  log : Int
  origin : Int
  /-- Sent by the PREF client and not by the serving instance. -/
  client : Bool
  len : Nat
  cls : Nat
  tReq : Int
  tOrig : Option Int
  tL : Option Int
  retimes : Nat
  /-- When the flue last refused it as FULL (R384). -/
  tried : Option Int
  /-- The transmit ring and slot it holds (R381). -/
  slot : Option (Nat × Nat)
  out : List Byte
  nts : Option NtsCtx
  /-- How the received message fared at authentication: 0 none carried, 1 good, 2 bad, or its cookie failed, 3 its
  authenticator failed (R455, R461). -/
  auth : Nat
  /-- Glovebox operations issued and not complete, oldest first. -/
  ops : List GlvOp
  deriving DecidableEq, Repr

/-- The response engine. -/
structure Rse where
  rings : Map Ring
  txns : Map Txn
  /-- The client cache: entries of each set with their dirty bits, most recently used first (R397). -/
  cache : Map (List (Nat × Bool))
  /-- Credits by port × 8 + class; the port, and the ring of each port and class, that dispatch served last (R387). -/
  credits : Map Int
  lastPort : Nat
  lastRing : Map Nat
  /-- Transactions that wait for a transmit slot, and responder frames that wait for a context (R381, R408). -/
  slotWait : List Nat
  respWait : List (Nat × List Byte × Int)
  deriving DecidableEq, Repr

/-! ### The protocols (chapter 13) -/

/-- A unicast grant being served (R424): the client entry, messageType, interval, start, expiry second, next k. -/
structure UniGrant where
  entry : Nat
  port : Nat
  msg : Nat
  log : Int
  start : Int
  expiry : Nat
  next : Nat
  peer : Peer
  addr : Nat
  deriving DecidableEq, Repr

/-- A foreign master of a PREF client (R426) with its latest Announce. -/
structure Master where
  /-- sourcePortIdentity, 80 bits. -/
  id : Nat
  /-- Instants of its latest Announces, newest first. -/
  heard : List Int
  log : Int
  prio1 : Nat
  cls : Nat
  acc : Nat
  oslv : Nat
  prio2 : Nat
  gm : Nat
  steps : Nat
  timeTraceable : Bool
  utc : Int
  utcValid : Bool
  leap61 : Bool
  leap59 : Bool
  deriving DecidableEq, Repr

/-- A Sync that waits for its Follow_Up (R427). -/
structure SyncWait where
  seq : Nat
  t2 : Int
  corr : Int
  coarse : Bool
  deriving DecidableEq, Repr

/-- A delay exchange under way: its sequence number, the t_L of the request once it has left, and for a two-step peer delay
T_rx of the Pdelay_Resp, its receipt time and correction. -/
structure Exchange where
  seq : Nat
  t3 : Option Int
  resp : Option (Int × Int × Int × Bool)
  deriving DecidableEq, Repr

/-- A PREF client (R425 to R427). -/
structure Pref where
  masters : List Master
  selected : Option Nat
  annExpired : Bool
  /-- The latest Sync's t2 − t1 − c_s and whether a stamp of it was COARSE; a Sync that waits. -/
  lastSync : Option (Int × Bool)
  wait : Option SyncWait
  exch : Option Exchange
  mpds : List Int
  /-- Grants held: messageType, when granted, duration in s, granted interval. -/
  grants : List (Nat × Int × Nat × Int)
  seq : Nat
  /-- When the latest delay request was made (R427). -/
  reqAt : Option Int
  /-- The upstream's extension TLV: errorBound, growthRate, the instant it arrived (R115). -/
  ext : Option (Nat × Nat × Int)
  logSync : Int
  /-- The Ethernet address its upstream was last heard from. -/
  mac : Option (List Byte)
  deriving DecidableEq, Repr

/-- A smear window that is open (R432): CUR, Δ, start. -/
structure Smear where
  cur : Int
  delta : Int
  start : Int
  deriving DecidableEq, Repr

/-- The protocols. -/
structure Pro where
  prefs : Map Pref
  grants : List UniGrant
  /-- Sequence numbers by port × 16 + messageType. -/
  seqs : Map Nat
  /-- The due instant last served by port × 16 + messageType (R416). -/
  due : Map Int
  smears : Map Smear
  /-- Indices whose window has ended for the pending leap. -/
  smeared : List Nat
  deriving DecidableEq, Repr

/-! ### The glovebox (chapter 14) -/

/-- The glovebox: the 256-bit keys of the gloves, in the always-on domain (R445). -/
structure Glv where
  keys : Map Nat
  /-- Calls of the random bit generator since it was last seeded (R438). -/
  calls : Nat
  deriving DecidableEq, Repr

end Sys2Proof.Machine
end

