-- ==== Sys2Proof/Machine/StSmp.lean ====
section
/-! DEFINITION. The state behind the registers of the sample ports (spec chapter 15). Instants count 2^-16 ns. -/

namespace Sys2Proof.Machine

/-- One sample port. -/
structure SmpPort where
  /-- Good frames counted in PREROLL; post-roll frames still to send (R470 to R472). -/
  count : Nat
  post : Nat
  /-- Consecutive out-of-rate frames (R469). -/
  badRun : Nat
  /-- The coarse stamp of the latest frame edge, while the Hearth runs. -/
  lastEdge : Option Int
  /-- PREROLL was entered from STALL (R471). -/
  resume : Bool
  /-- A received frame in RUN is in progress, under which slot mask (R477, R478). -/
  inRun : Bool
  mask : Nat
  /-- The words of the frame in progress, and TX_RD before they were fetched. -/
  sending : List Nat
  prevRd : Nat
  /-- The frame of the transmit block (R468). -/
  blockNo : Nat
  /-- Frames since the last Z preamble, with no preamble error between (R468). -/
  sinceZ : Option Nat
  /-- C bits assembled of each subframe, and how many (R480). -/
  csA : Nat
  csB : Nat
  csN : Option Nat
  /-- The group in which the port is armed; from which instant its start edge, or its post-roll edge, may come (R474,
  R476). -/
  armed : Option Nat
  startAt : Option Int
  stopAt : Option Int
  deriving DecidableEq, Repr

/-- The phase statistics of a lead in the running second (R482). -/
structure SmpLead where
  n : Nat
  lo : Int
  hi : Int
  sum : Int
  bad : Bool
  /-- The latest stamp and its port (R472). -/
  last : Option Int
  deriving DecidableEq, Repr

/-- An armed start group: T_s, and its master as it was at the arm (R473). -/
structure SmpGroup where
  ts : Int
  master : Nat
  deriving DecidableEq, Repr

/-- The sample ports. -/
structure Smp where
  ports : Map SmpPort
  leads : Map SmpLead
  groups : Map SmpGroup
  deriving DecidableEq, Repr

end Sys2Proof.Machine
end

