-- ==== Sys2Proof/Machine/StSyn.lean ====
section
/-! DEFINITION. The state behind the registers of the synthesizers and the outputs (spec chapters 05 and 06). -/

namespace Sys2Proof.Machine

/-- A synthesizer. -/
structure SynCh where
  /-- The search's copy of the band table, (LO, HI) by band (R174), the band on trial and the trials left (R176). -/
  copy : List (Nat × Nat)
  band : Nat
  trials : Nat
  /-- Windows of the running ACQUIRE and those that passed in succession (R178). -/
  windows : Nat
  passes : Nat
  /-- Fine words of completed windows, newest first (R180). -/
  fines : List Nat
  /-- A word has been frozen; LOCKED has been declared; the fine word has reached an end (R173, R177, R186). -/
  frozen : Bool
  locked : Bool
  fineSeen : Bool
  /-- The running ACQUIRE was entered from COAST (R183); the search is the last one it allows. -/
  fromCoast : Bool
  final : Bool
  /-- Tracking (R167): the effective ratio in 2^-48 and the residue carried. -/
  ratio : Int
  residue : Rat
  /-- What changes of the ratio have added to the fraction accumulator, in VCO cycles (R167). -/
  added : Rat
  /-- COAST was entered in the present window, with cause FREQ (R184). -/
  justCoast : Bool
  deriving DecidableEq, Repr

/-- The synthesizers. -/
structure Syn where
  chans : Map SynCh
  /-- SYN0 coasts and its coast has not reached CK_HRT; it has (R188). -/
  coastDue : Bool
  coasting : Bool
  /-- The tick at which the coast reached CK_HRT. -/
  coastTick : BitVec 32
  /-- SYN0 is LOCKED again and the slots are restarted at the next second boundary (R188). -/
  restartDue : Bool
  /-- SYN0's first search or acquisition has failed (R186). -/
  firstFailed : Bool
  deriving DecidableEq, Repr

/-- An output. -/
structure OutCh where
  /-- The instant A of a running alignment, if it is fixed (R195, R196). -/
  alignAt : Option Int
  /-- The instant of the last alignment: the grid's origin (R191). -/
  origin : Int
  /-- The trim in force, ps (R191, R192). -/
  trim : Int
  /-- Aligned since it was enabled; aligned since its source's PHASE_LOST was last set (R193, R199). -/
  since : Bool
  sinceLost : Bool
  /-- The realign that waits was commanded in the tick of the first step (R198). -/
  auto : Bool
  deriving DecidableEq, Repr

/-- An event line as armed (R211, R212): START and PERIOD in 2^-16 ns, and the index of its next edge. -/
structure TevLine where
  start : Int
  period : Nat
  count : Nat
  falling : Bool
  width : Nat
  next : Nat
  deriving DecidableEq, Repr

/-- The outputs. -/
structure OutSt where
  chans : Map OutCh
  /-- Armed event lines. -/
  tev : Map TevLine
  /-- IRIG-B lines with a frame in progress (R203, R206). -/
  irigBusy : List Nat
  /-- The messages in progress: when each began and its bit times (R207, R210), the record sequence (R209), and the second whose
  message has been started (R207). -/
  todBusy : Map (Int × Nat)
  todSeq : Map Nat
  todLast : Map Nat
  /-- The calibration loop: the output whose turn is next, and the one that the loopback channel measures with the errors of its
  edges, ps (R200). -/
  calTurn : Nat
  calOut : Option Nat
  calErrs : List Rat
  /-- The chip's drivers are enabled: it holds the hat and has released its balls (R193, R504). -/
  drive : Bool
  deriving DecidableEq, Repr

end Sys2Proof.Machine
end

