-- ==== Sys2Proof/Machine/StSys.lean ====
section
/-! DEFINITION. The state behind the registers of redundancy, start-up and embers, counters and telemetry, and of the part's
supplies and clocks (spec chapters 16, 17, 19 and 21). -/

namespace Sys2Proof.Machine

/-- The part runs, is held in reset by RESET_N, or has lost the always-on supply (R510, R612, R613). -/
inductive Power where
  | on | held | lost
  deriving DecidableEq, Repr

/-- A seed pair (R500): the second it names, the marker stamp in own TDC-base ps, the ember. -/
structure SeedPair where
  second : Nat
  u : Int
  ember : List Byte
  deriving DecidableEq, Repr

/-- Redundancy (chapter 16). -/
structure Red where
  /-- SOLO as the hat controller took it at start-up (R496). -/
  solo : Bool
  /-- Start-up is complete and the first valid frame is still to decide the role (R487). -/
  arbitrating : Bool
  /-- The drivers and ports wait for h + 1 ms, after a seeded start or a normal one (R504, R631). -/
  winDue : Option Bool
  /-- The loser's balls wait for h + 500 µs (R504). -/
  loseDue : Bool
  /-- A normal start waits for the first tick of CK_HRT (R515). -/
  startDue : Bool
  /-- The claim that the last frame sent (R490). -/
  claim : Nat
  /-- The mid-second instant of a YIELD (R495). -/
  yieldAt : Option Int
  /-- A marker stamp that waits for its ember; the second of the previous pair; the pair held (R500). -/
  marker : Option Int
  lastSecond : Option Nat
  pair : Option SeedPair
  /-- PPS stamps in own TDC-base ps, newest first (R501). -/
  pps : List Int
  /-- Versions the peer offers (R498). -/
  peerVers : Option (Nat × Nat)
  /-- Self-test results by array, synthesizer and port: 1 PASS, 2 WARN, 3 FAIL (R505). -/
  mbist : Map Nat
  synTest : Map Nat
  serdes : Map Nat
  /-- The synthesizer, less one, and the port whose test comes next (R505). -/
  synTurn : Nat
  serdesTurn : Nat
  healthSeq : Nat
  /-- The overall result has been FAIL (R506). -/
  failed : Bool
  /-- The second whose ember was last sent (R499). -/
  sent : Option Nat
  /-- RECLAIM has been accepted and the role changes at the next frame (R494). -/
  reclaim : Bool
  deriving DecidableEq, Repr

/-- The ember ring (R526 to R528). -/
structure EmberRing where
  /-- The ring may be used: its size and place are as R526 demands. -/
  on : Bool
  /-- The sector being written, its sequence, and the next free slot of it; none before a sector is opened. -/
  cur : Option Nat
  secSeq : Nat
  slot : Nat
  /-- The next sector has been erased; a sector is being erased; the sector before the current one. -/
  next : Option Nat
  erasing : Option Nat
  prev : Option Nat
  /-- Erase counts by sector; the retired map. -/
  counts : Map Nat
  retired : Nat
  /-- A record has been programmed and verified in the current sector; its last slot failed. -/
  opened : Bool
  slotFailed : Bool
  deriving DecidableEq, Repr

/-- A record to be written (R527), oldest first in its list: its instant, its failures so far, and the address at which a
program of it is under way; or it is abandoned, and only the deadline is still watched (R599). -/
structure EmberWrite where
  bytes : List Byte
  at_ : Int
  fails : Nat
  flying : Option Nat
  abandoned : Bool
  /-- The deadline has fallen: what is under way is not used. -/
  judged : Bool
  deriving DecidableEq, Repr

/-- A profile switch that is staged (R522): the earliest boundary, the profile, and the values of fields outside groups. -/
structure Staged where
  from_ : Int
  profile : Nat
  values : List Waiting
  deriving DecidableEq, Repr

/-- Start-up, flash and embers (chapter 17). -/
structure Nvc where
  flash : Mem
  /-- The flash's erase sector is 64 KiB (R512, R526). -/
  sector64 : Bool
  /-- The last stage of R514 that is done. -/
  stage : Nat
  /-- Listed sections by type: absolute flash address, length, CRC-32C (R517, R520). -/
  sections : Map (Nat × Nat × Nat)
  /-- Gloves of the image that stage 6 loads. -/
  gloves : List ImageGlove
  /-- EMBER_INT of the header (R532). -/
  emberInt : Nat
  /-- Profile records that wait for a domain's reset to end (R555). -/
  kept : List (Nat × Nat)
  staged : Option Staged
  /-- Groups committed by a switch and not yet judged (R523). -/
  switching : List Group
  /-- Leap values of start-up: now, next, LEAP_AT (R516, R529). -/
  leap : Option (Int × Int × Nat)
  /-- The latest valid ember found by the scan (R529); the latest formed; the sequence of the next. -/
  restored : Option (List Byte)
  latest : Option (List Byte)
  seq : Nat
  /-- The model page that the next record carries (R524). -/
  page : Nat
  ring : EmberRing
  write : List EmberWrite
  /-- The host's flash operation: 1 READ, 2 PROGRAM, 3 ERASE, its address and length (R530). -/
  hostOp : Option (Nat × Nat × Nat)
  /-- The bytes that its PROGRAM took from FL_DATA. -/
  hostData : List Byte
  /-- NVM_DIV of the header (R512). -/
  nvmDiv : Nat
  /-- The hat number of the header (R516). -/
  hat : Nat
  /-- RELOAD waits for a program or erase of the flash (R531). -/
  reload : Bool
  deriving DecidableEq, Repr

/-- The pass of the sweep under way: when it began, as State.mark tells, and whether it has been reported slow (R581). -/
structure SweepPass where
  since : Option Int
  slow : Bool
  deriving DecidableEq, Repr

/-- Counters, dumps, sampling, telemetry, the sweep (chapter 19). -/
structure Pmc where
  /-- What the next read of a HI register returns (R569). -/
  shadow : Nat
  /-- Counters changed and wrapped since the last record (R572). -/
  changed : List Nat
  wrapped : List Nat
  /-- Dump: sequence, the last grid instant, skipped instants, a step and a discarded record since the last (R572 to R574). -/
  seq : Nat
  lastDump : Option Int
  skipped : Nat
  stepped : Bool
  lostNext : Bool
  /-- Sampling: sequence, the next thread of each stoker (R575, R576). -/
  sampSeq : Nat
  turn : Map Nat
  /-- The CK_HRT tick of the last trigger; none before one (R575). -/
  sampAt : Option Word
  /-- The sweep's passes over SRAM and DRAM (R581). -/
  sramSweep : SweepPass
  dramSweep : SweepPass
  /-- Telemetry: supplies out of range in the last sample, and reported; dies reported hot (R582). -/
  supplyOut : List Nat
  supplyBad : List Nat
  hot : List Nat
  /-- Seconds since each external sensor gave a reading, that reading, and seconds since the oscillator gave one; none before
  one (R583). -/
  extAge : Map Nat
  extLast : Map Nat
  oscAge : Option Nat
  deriving DecidableEq, Repr

end Sys2Proof.Machine
end

