-- ==== Sys2Proof/Machine/StTdc.lean ====
section
/-! DEFINITION. The state behind the registers of the time-interval block (spec chapter 07). TDC-base stamps count ps. -/

namespace Sys2Proof.Machine

/-- One record of a channel's result queue (R235): a timestamp in 2^-16 ns, an interval in ps, or with `noTime` a TDC-base
stamp in ps. -/
structure TdcRec where
  interval : Bool
  timeout : Bool
  stale : Bool
  lost : Bool
  abort : Bool
  stepped : Bool
  noTime : Bool
  data : Nat
  deriving DecidableEq, Repr

/-- A stamp: its TDC-base value, compensated; its instant in the timescale if the Hearth runs; and the steps executed before that
instant, with the sum of their D (R229 to R232). -/
structure Stamp where
  u : Int
  t : Option Int
  steps : Nat
  stepSum : Int
  deriving DecidableEq, Repr

/-- A channel: its queue, whether the next record carries LOST, the start of its open interval, its last accepted edge, the active
edges that its divider has counted since the last divided one (R231). -/
structure TdcCh where
  queue : List TdcRec
  lostNext : Bool
  opened : Option Stamp
  lastEdge : Option Int
  divided : Nat
  deriving DecidableEq, Repr

/-- A tie of TDC base to the Hearth: the record of its tick, and its stamp (R228). -/
structure TdcTie where
  rec_ : HearthRecord
  u : Int
  deriving DecidableEq, Repr

/-- The time-interval block. -/
structure Tdc where
  /-- Presence windows in and out of range in succession (R220, R221). -/
  good : Nat
  bad : Nat
  /-- TBASE has been lost since the last entry to READY; READY has been entered since reset (R223). -/
  lossSince : Bool
  readyOnce : Bool
  /-- The latest 16 ties, newest first. -/
  ties : List TdcTie
  chans : Map TdcCh
  /-- Interpolator that serves each channel, where not the one of its own number (R224). -/
  interp : Map Nat
  /-- The table of 1,024 bin centres, in ps, that each interpolator has been loaded with (R224, R225). -/
  tables : Map (List Rat)
  nextCh : Nat
  exchanged : List Nat
  /-- Interpolators calibrated in the running rotation of the 33 (R225). -/
  rotated : List Nat
  /-- HITS as the running calibration uses it (R225). -/
  hits : Nat
  deriving DecidableEq, Repr

end Sys2Proof.Machine
end

