-- ==== Sys2Proof/Machine/State.lean ====
section
/-! DEFINITION. The whole state of the part, the reasons a command can stop, and the state right after reset. -/

namespace Sys2Proof.Machine

/-- Faults that stop the machine. None: every row of the table has an effect in every state, and what the manual calls
a fault is filed in FLT (R588) and the part goes on. -/
inductive Fault where
  deriving DecidableEq, Repr

/-- Refusals. -/
inductive Refusal where
  /-- Raised by a row of the table that has no meaning in the model yet. Safe: it stops. -/
  | notModelled (mnemonic : String)
  deriving DecidableEq, Repr

/-- The state. -/
structure State where
  /-- Commands waiting, first in, first out. -/
  pending : List Instr
  /-- Register fields whose value differs from their reset value, by key (R12). -/
  regs : Map Nat
  /-- Written CFG values not yet in force: those of no group by key, those of a group likewise (R542, R543). -/
  shadow : Map Waiting
  /-- Commits that wait for their boundary (R544). -/
  commits : List Commit
  /-- Advanced by each draw of a value the manual leaves open; the model's own field, not the manual's. -/
  freeCtr : Nat
  /-- What has left the part, newest first. -/
  emitted : List Emission
  hearth : Hearth
  ebd : Ebd
  /-- The source slots by number. -/
  ref : Map RefSlot
  sel : Sel
  osc : Osc
  syn : Syn
  out : OutSt
  tdc : Tdc
  spi : Spi
  gna : Gna
  gns : Gns
  eth : Eth
  lts : Lts
  rse : Rse
  pro : Pro
  glv : Glv
  smp : Smp
  red : Red
  nvc : Nvc
  pmc : Pmc
  flt : Flt
  host : HostIf
  dram : Mem
  /-- The 64-bit words of DRAM that hold an uncorrectable error, rising (R578, R579). -/
  dramBad : List Nat
  /-- The supplies and RESET_N; the clocks that have edges, bit d for domain d of R561. -/
  power : Power
  clocks : Nat
  deriving DecidableEq, Repr

/-! ### The state right after reset -/

/-- A lane at zero (R55). -/
def Lane.zero : Lane := { time := 0, acc := 0, phase := 0, rate := 0, integ := 0, prop := 0, eb := 0 }

/-- The Hearth held in reset (R34, R55). -/
def Hearth.reset : Hearth :=
  { running := false, laneA := Lane.zero, laneB := Lane.zero, laneC := Lane.zero, tick := 0, secondDue := false,
    updateDue := false, stepTick := none, stepAt := none, steps := 0, stepSum := 0, disagreed := [], triple := none, resyncs := [],
    steerPend := [], integPend := [], swSteer := 0, loopLate := false, lastUpdate := 0, announced := false, armDue := false,
    snapDue := false, recordDue := none, recordTick := none,
    leapPost := none, leapPoster := 0, phi := [], phiOsc := [], replicas := [] }

/-- The error bound in UNKNOWN, saturated (R64, R65). -/
def Ebd.reset : Ebd :=
  { anchor := 0xFFFFFFFF * 256, tm := 0, cands := [], segs := [], bank := none, hostSet := none, ccEntry := none, ccDwell := [],
    identPending := false, identLate := false, saturating := false, unknownHold := false, selSeen := 0 }

/-- Selection in FREERUN, no model (R123, R145). -/
def Sel.reset : Sel :=
  { q := 0, e := 0, clamped := false, tObs := 0, qHist := [], bo := 0, fHist := [], fFrz := 0, tc := 0, thc := 0, freezeN := 0,
    measN := 0, measStart := 0, lastMeas := 0, lastMeasTm := 0, heldFreeze := 0, heldMeasN := 0, heldTimeout := 0,
    fromBank := false, seed := 0,
    notional := none, wtrEnd := [], wtrRan := [], absD := [], lockedUntil := 0, lockedSince := 0, accSince := 0, acc64 := [],
    model := [], alphaFit := 0, kFit := 0,
    modelSet := ⟨0, 0, 0, 0⟩, zeroLaw := false, lastRep := [], thLast := 0, accBad := true }

/-- The oscillator interface before the image is read (R147, R149). -/
def Osc.reset : Osc :=
  { classes := [], idReading := false, idFails := 0, prevId := none, idRead := false, flight := [], comp := [], ackFails := 0,
    wearPolls := 0, modePend := false, idPollAt := none, statPollAt := none,
    hourAt := none }

/-- The synthesizers (R172, R186). -/
def Syn.reset : Syn :=
  { chans := [], coastDue := false, coasting := false, coastTick := 0, restartDue := false, firstFailed := false }

/-- The outputs, undriven (R193). -/
def OutSt.reset : OutSt :=
  { chans := [], tev := [], irigBusy := [], todBusy := [], todSeq := [], todLast := [], calTurn := 0, calOut := none, calErrs := [],
    drive := false }

/-- The time-interval block in NOTBASE, the 33rd interpolator spare (R220, R224). -/
def Tdc.reset : Tdc :=
  { good := 0, bad := 0, lossSince := false, readyOnce := false, ties := [], chans := [], interp := [], tables := [], nextCh := 0,
    exchanged := [], rotated := [], hits := 0x14 }

/-- The GNSS blocks without an image (R244, R289). -/
def Gna.reset : Gna :=
  { jobs := [], engines := [], results := [], fes := [], chans := [], scripts := [], e1Codes := [],
    e5aCodes := [], navLostNext := false }

/-- The solution side. -/
def Gns.reset : Gns :=
  { sequence := 0, stepD := none, skipped := 0, lostNext := false, ratePend := none, missed := 0, lastHalt := none, passes := 0,
    suspects := 0, survey := ⟨0, 0, 0, 0, 0, 0⟩, due := [], loaded := false }

/-- The response engine: no ring, no transaction, an empty cache (R375, R382, R397). -/
def Rse.reset : Rse :=
  { rings := [], txns := [], cache := [], credits := [], lastPort := 3, lastRing := [], slotWait := [], respWait := [] }

/-- The protocols. -/
def Pro.reset : Pro := { prefs := [], grants := [], seqs := [], due := [], smears := [], smeared := [] }

/-- Redundancy in START (R487). -/
def Red.reset : Red :=
  { solo := false, arbitrating := false, winDue := none, loseDue := false, startDue := false, claim := 0, yieldAt := none,
    marker := none, lastSecond := none, pair := none, pps := [], peerVers := none, mbist := [], synTest := [], serdes := [], synTurn := 0, serdesTurn := 0,
    healthSeq := 0, failed := false, sent := none, reclaim := false }

/-- The ember ring before it is scanned (R529). -/
def EmberRing.reset : EmberRing :=
  { on := false, cur := none, secSeq := 0, slot := 0, next := none, erasing := none, prev := none, counts := [], retired := 0,
    opened := false, slotFailed := false }

/-- Start-up before stage 1, the flash erased (R514). -/
def Nvc.reset : Nvc :=
  { flash := [], sector64 := false, stage := 0, sections := [], gloves := [], emberInt := 16, kept := [], staged := none,
    switching := [], leap := none, restored := none, latest := none, seq := 0, page := 0, ring := EmberRing.reset, write := [],
    hostOp := none, hostData := [], nvmDiv := 0, hat := 0, reload := false }

/-- Counters, dumps and telemetry (R563, R572, R582). -/
def Pmc.reset : Pmc :=
  { shadow := 0, changed := [], wrapped := [], seq := 0, lastDump := none, skipped := 0, stepped := false, lostNext := false,
    sampSeq := 0, turn := [], sampAt := none, sramSweep := ⟨none, false⟩, dramSweep := ⟨none, false⟩, supplyOut := [], supplyBad := [], hot := [], extAge := [], extLast := [], oscAge := none }

/-- Fault collection with an empty log (R592, R594). -/
def Flt.reset : Flt :=
  { queue := [], discarded := 0, seq := 0, logged := 0, ringDue := [], ringLost := false, firsts := [] }

/-- The host interface (R534, R560). -/
def HostIf.reset : HostIf :=
  { busMaster := false, d3hot := false, perst := false, msix := [], pba := 0, stalled := [], abandoned := [], handshakes := [] }

/-- The machine right after reset: POWER_ON has just ended, every register reads its reset value, the straps read 0, the flash
is erased, and only CK_HOST and CK_AON run (R510, R561). -/
def State.reset : State :=
  { pending := [], regs := [], shadow := [], commits := [], freeCtr := 0, emitted := [], hearth := Hearth.reset, ebd := Ebd.reset,
    ref := [], sel := Sel.reset, osc := Osc.reset, syn := Syn.reset, out := OutSt.reset, tdc := Tdc.reset,
    spi := { current := none, dac := none, host := none }, gna := Gna.reset, gns := Gns.reset,
    eth := { ports := [], released := false }, lts := { ports := [], requests := [], stepHold := false, coastHold := false, pma := [] },
    rse := Rse.reset, pro := Pro.reset, glv := { keys := [], calls := 0 }, smp := { ports := [], leads := [], groups := [] },
    red := Red.reset, nvc := Nvc.reset, pmc := Pmc.reset, flt := Flt.reset, host := HostIf.reset, dram := [], dramBad := [], power := .on,
    clocks := 0x801000 }

end Sys2Proof.Machine
end

