-- ==== Sys2Proof/Machine/Ops.lean ====
section
/-! DEFINITION. The named operations the meanings are written over: register fields, shadows and commits, free values,
emissions, memory, rings in DRAM, the filing of faults. -/

namespace Sys2Proof.Machine

/-- The outcome of a command. -/
abbrev Out := Host.Outcome State Fault Refusal

/-! ### Register fields -/

/-- The value in force of a field: what is listed, else its reset value (R12, R542). -/
def State.get (s : State) (f : Field) : Nat := Map.getD s.regs f.key f.rst

/-- A one-bit field as a Bool. -/
def State.flag (s : State) (f : Field) : Bool := s.get f != 0

/-- The field as a two's complement number. -/
def State.sget (s : State) (f : Field) : Int := toSigned f.width (s.get f)

/-- `v` put into a field, cut to its width; a field at its reset value is not listed. -/
def State.set (f : Field) (v : Nat) (s : State) : State :=
  let x := v % 2 ^ f.width
  { s with regs := if x = f.rst then Map.del s.regs f.key else Map.put s.regs f.key x }

/-- A Bool put into a one-bit field. -/
def State.setB (f : Field) (b : Bool) (s : State) : State := s.set f (ofBool b)

/-- A two's complement number put into a field. -/
def State.setI (f : Field) (x : Int) (s : State) : State := s.set f (ofSigned f.width x)

/-- A counter advanced by `n`, modulo its width. -/
def State.incBy (f : Field) (n : Nat) (s : State) : State := s.set f (s.get f + n)

/-- A counter advanced by one, modulo its width. -/
def State.inc (f : Field) (s : State) : State := s.incBy f 1

/-- A counter advanced by `n`, saturating at all ones. -/
def State.incSat (f : Field) (n : Nat) (s : State) : State := s.set f (satN f.width (s.get f + n))

/-- A value split over two registers, `wlo` bits in the low one. -/
def State.get2 (s : State) (lo hi : Field) : Nat := s.get lo + s.get hi * 2 ^ lo.width

/-- A value put into two registers. -/
def State.set2 (lo hi : Field) (v : Nat) (s : State) : State := (s.set lo v).set hi (v / 2 ^ lo.width)

/-- A two's complement value in two registers. -/
def State.sget2 (s : State) (lo hi : Field) : Int := toSigned (lo.width + hi.width) (s.get2 lo hi)

/-- A two's complement value put into two registers. -/
def State.setI2 (lo hi : Field) (x : Int) (s : State) : State :=
  s.set2 lo hi (ofSigned (lo.width + hi.width) x)

/-- An instant in four registers FRAC, NS, SEC_LO, SEC_HI, in 2^-16 ns. -/
def State.getTime (s : State) (fr ns lo hi : Field) : Nat :=
  s.get2 lo hi * secU + s.get ns * nsU + s.get fr

/-- An instant put into four registers. -/
def State.setTime (fr ns lo hi : Field) (u : Nat) (s : State) : State :=
  ((s.set fr (u % nsU)).set ns (u % secU / nsU)).set2 lo hi (u / secU)

/-- A signed interval put into four registers: non-negative fraction and nanoseconds, signed seconds. -/
def State.setSpan (fr ns lo hi : Field) (x : Int) (s : State) : State :=
  ((s.set fr ((x % (secU : Int)).toNat % nsU)).set ns ((x % (secU : Int)).toNat / nsU)).setI2 lo hi (x / (secU : Int))

/-- Every listed field of the register at address `a` with its value. -/
def State.listedAt (s : State) (a : Nat) : List (Nat × Nat) := s.regs.filter (fun e => e.1 / 32 == a)

/-- The listed fields of a register assembled into a word. It is the register's word where every field of it resets to
zero, which holds of every event and interrupt-enable register. -/
def State.rawWord (s : State) (a : Nat) : Nat :=
  ((s.listedAt a).map (fun e => e.2 * 2 ^ (e.1 % 32))).sum

/-! ### Free values and emissions -/

/-- The value the manual leaves open that a command draws next. -/
def State.fresh (s : State) : Nat := Config.freeValue s.freeCtr

/-- One free value drawn. -/
def State.bump (s : State) : State := { s with freeCtr := s.freeCtr + 1 }

/-- A quotient whose rounding no rule states: rounded down or up, freely. -/
def State.roundFree (s : State) (x : Rat) : Int := if s.fresh % 2 = 0 then x.floor else x.ceil

/-- Something sent out. -/
def State.emit (e : Emission) (s : State) : State := { s with emitted := e :: s.emitted }

/-! ### Events and interrupts (R557, R558) -/

/-- The INT_STAT bit of the block that holds address `a` (R557, R539). -/
def blockBit (a : Nat) : Nat :=
  if a < 0x100000 then a / 0x10000
  else if a < 0x140000 then 13 + (a - 0x100000) / 0x10000
  else if a < 0x180000 then 17
  else if a < 0x200000 then 18
  else if a < 0x280000 then 19
  else if a < 0x300000 then 20
  else if a < 0x380000 then 21
  else if a < 0x400000 then 22
  else if a < 0x480000 then 23
  else if a < 0x500000 then 24
  else if a < 0x580000 then 25
  else 26

/-! ### Shadows and commits (R542 to R545) -/

/-- A CFG write held in shadow. -/
def State.hold (f : Field) (v : Nat) (s : State) : State :=
  { s with shadow := Map.put s.shadow f.key ⟨f, v % 2 ^ f.width⟩ }

/-- Shadows dropped. -/
def State.dropShadow (p : Waiting → Bool) (s : State) : State := { s with shadow := s.shadow.filter (fun e => !p e.2) }

/-- The written values of a group, in address order. -/
def State.shadowOf (s : State) (g : Group) : List Waiting :=
  (Map.vals s.shadow).filter (fun w => w.field.grp == some g)

/-- The copy of a group that waits. -/
def State.committed (s : State) (g : Group) : Option Commit := s.commits.find? (fun c => c.group == g)

/-- Values put into force. -/
def State.load : List Waiting → State → State
  | [], s => s
  | w :: ws, s => (s.set w.field w.value).load ws

/-- A group's copy no longer waits. -/
def State.uncommit (g : Group) (s : State) : State :=
  { s with commits := s.commits.filter (fun c => c.group != g) }

/-- The writes outside any group that wait for a boundary. -/
def State.waitingFor (s : State) (b : Boundary) : List Waiting :=
  (Map.vals s.shadow).filter (fun w => w.field.grp == none && w.field.eff == b)

/-- Writes outside any group put into force at their boundary, those only that `sel` selects (R543). -/
def State.applyWaiting (b : Boundary) (sel : Field → Bool) (s : State) : State :=
  let ws := (s.waitingFor b).filter (fun w => sel w.field)
  { s.load ws with
    shadow := s.shadow.filter (fun e => !(e.2.field.grp == none && e.2.field.eff == b && sel e.2.field)) }

/-! ### DRAM -/

/-- `n` bytes of DRAM. -/
def State.dramRead (s : State) (a n : Nat) : List Byte := Mem.read dramBlank s.dram a n

/-- Bytes stored into DRAM. -/
def State.dramWrite (a : Nat) (bs : List Byte) (s : State) : State :=
  { s with dram := Mem.write dramBlank s.dram a bs,
           dramBad := s.dramBad.filter (fun w => !(decide (a ≤ 8 * w) && decide (8 * w + 8 ≤ a + bs.length))) }

/-! ### The Hearth as others see it -/

/-- Lane `n`, 0 A, 1 B, 2 C. -/
def Hearth.lane (h : Hearth) (n : Nat) : Lane := if n = 0 then h.laneA else if n = 1 then h.laneB else h.laneC

/-- The bits that mark a fenced lane (R51). -/
def fencedField (n : Nat) : Field :=
  if n = 0 then R.TSC.STAT.FENCED_A else if n = 1 then R.TSC.STAT.FENCED_B else R.TSC.STAT.FENCED_C

/-- Lane `n` is fenced. -/
def State.fenced (s : State) (n : Nat) : Bool := s.flag (fencedField n)

/-- The lanes in the order of preference, beginning at VOTE.PREFER (R52). -/
def State.laneOrder (s : State) : List Nat :=
  let p := s.get R.TSC.VOTE.PREFER
  [p % 3, (p + 1) % 3, (p + 2) % 3]

/-- The first unfenced lane in the order of preference (R52), lane A if all are fenced. -/
def State.preferred (s : State) : Nat := (s.laneOrder.find? (fun n => !s.fenced n)).getD 0

/-- What the voter takes for lane `n`: the lane, or the preferred lane in place of a fenced one (R52). -/
def State.voterInput (s : State) (n : Nat) : Lane :=
  if s.fenced n then s.hearth.lane s.preferred else s.hearth.lane n

/-- The bitwise majority of three lanes (R47). -/
def Lane.vote (a b c : Lane) : Lane :=
  { time := majority a.time b.time c.time, acc := majority a.acc b.acc c.acc, phase := majority a.phase b.phase c.phase,
    rate := majority a.rate b.rate c.rate, integ := majority a.integ b.integ c.integ,
    prop := majority a.prop b.prop c.prop, eb := majority a.eb b.eb c.eb }

/-- The number of fenced lanes. -/
def State.fencedCount (s : State) : Nat := ([0, 1, 2].filter (fun n => s.fenced n)).length

/-- The voter's output: the majority (R47); with one lane fenced the preferred lane where the two remaining disagree,
since it is two of the three inputs (R52); with two fenced the last lane alone (R53). -/
def State.voted (s : State) : Lane := Lane.vote (s.voterInput 0) (s.voterInput 1) (s.voterInput 2)

/-- The timescale, in 2^-16 ns. -/
def State.now (s : State) : Int := (t96Lin s.voted.time : Nat)

/-- The commit of a group: a copy of its shadows as they stand, which replaces an earlier copy that still waits, and the
command's bit reads 1 until the boundary (R542, R544). -/
def State.commit (g : Group) (cmd : Field) (s : State) : State :=
  let s1 := s.set cmd 1
  { s1 with commits := s1.commits.filter (fun c => c.group != g) ++ [⟨g, s.now, s.shadowOf g⟩] }

/-- The present second of the timescale. -/
def State.second (s : State) : Nat := t96Sec s.voted.time

/-- The applied S, INTEG and P, in counts of 10^-15. -/
def Lane.s (l : Lane) : Int := l.rate.toInt
/-- The applied INTEG. -/
def Lane.i (l : Lane) : Int := l.integ.toInt
/-- The applied P. -/
def Lane.p (l : Lane) : Int := l.prop.toInt

/-- A domain's clock has edges (R552). GLB.CLK_RUN follows with CLK_STOP and CLK_RETURN. -/
def State.clock (s : State) (d : Nat) : Bool := bitOf s.clocks d

/-- A domain's clock begins or ceases to have edges. -/
def State.setClock (d : Nat) (b : Bool) (s : State) : State := { s with clocks := putBit s.clocks d b }

/-- CK_HRT runs (R187). -/
def State.hrtRuns (s : State) : Bool := s.clock 1

/-- The Hearth is out of reset and its clock runs, so that its instants occur. -/
def State.ticking (s : State) : Bool := s.hearth.running && s.hrtRuns

/-- The present on a clock that no step moves: the timescale less what it has stepped. Spans that a rule gives in s, ms or µs are
measured on it; none while the Hearth gives no time. -/
def State.mark (s : State) : Option Int := if s.ticking then some (s.now - s.hearth.stepSum) else none

/-- `d` units of 2^-16 ns have passed since a mark. Where there is no time now, or was none then, the command itself says that they
have; a mark ahead of now was set before the Hearth's latest start (log entry 126). -/
def State.passed (s : State) (since : Option Int) (d : Nat) : Bool :=
  match s.mark, since with
  | some now, some t => decide (now < t) || decide (t + d ≤ now)
  | _, _ => true

/-- No more than `d` units of 2^-16 ns have passed since a mark, as far as the Hearth tells. -/
def State.within (s : State) (since : Option Int) (d : Nat) : Bool :=
  match s.mark, since with
  | some now, some t => decide (now ≤ t + d)
  | _, _ => true

/-- A millisecond in units of 2^-16 ns. -/
def msU : Nat := 1000000 * nsU

/-! ### Interrupt requests (R558) -/

/-- The MSI-X table entry of a vector; the mask is set at reset, as the PCIe base specification has it. -/
def HostIf.entry (h : HostIf) (v : Nat) : MsixEntry := Map.getD h.msix v ⟨0, 0, 0, true⟩

/-- A vector requested: its message is sent, or its pending bit set where the table entry is masked or Bus Master Enable
is clear (R535, R558). Requests due while PERST_N is low are dropped (R560), and over SPI there is no MSI-X (R538). -/
def State.requestVector (v : Nat) (s : State) : State :=
  if s.host.perst || s.flag R.HST.STAT.HOSTSEL then s
  else if (s.host.entry v).masked || !s.host.busMaster then
    { s with host := { s.host with pba := putBit s.host.pba v true } }
  else s.emit (.msix v)

/-- The rise of a block's INT_STAT bit requests the block's vector, if it is routed (R557, R558). -/
def State.raiseBlock (b : Nat) (s : State) : State :=
  let st := s.get R.GLB.INT_STAT.BLOCK
  if bitOf st b then s
  else
    let s1 := s.set R.GLB.INT_STAT.BLOCK (putBit st b true)
    if s1.flag (R.HST.VEC_MAP.EN b) then s1.requestVector (s1.get (R.HST.VEC_MAP.VECTOR b)) else s1

/-- The event bit `f` is enabled: the bit at its position in the register that follows its own, which in every block is
the interrupt-enable register of its event register. -/
def State.enabled (s : State) (f : Field) : Bool := bitOf (s.rawWord (f.addr + 4)) f.lo

/-- An event bit is set; where it is enabled its block's INT_STAT bit follows (R557). -/
def State.evt (f : Field) (s : State) : State :=
  let s1 := s.set f (2 ^ f.width - 1)
  if s1.enabled f then s1.raiseBlock (blockBit f.addr) else s1

/-- Bit `i` of an event field of several bits is set. -/
def State.evtBit (f : Field) (i : Nat) (s : State) : State :=
  let s1 := s.set f (putBit (s.get f) i true)
  if bitOf (s1.rawWord (f.addr + 4)) (f.lo + i) then s1.raiseBlock (blockBit f.addr) else s1

/-! ### Crossings towards the host (R553, R556) -/

/-- An answer to a host access: a status byte over SPI, else a completion (R535, R538). -/
def State.answer (status : Nat) (pcie : Emission) (s : State) : State :=
  s.emit (if s.flag R.HST.STAT.HOSTSEL then .spiFrame (BitVec.ofNat 8 status) else pcie)

/-- PEND_DOM names a domain that holds an abandoned write, 0x1F none. -/
def State.showPend (s : State) : State :=
  s.set R.HST.STAT.PEND_DOM (match s.host.abandoned.find? (fun e => !e.2.isEmpty) with | some e => e.1 | none => 0x1F)

/-- Domain `d` enters reset: what was queued towards it is discarded and answered as refused, an abandoned write is dropped
(R553, R556). -/
def State.crossingReset (d : Nat) (s : State) : State :=
  let gone := s.host.stalled.filter (fun e => e.1 == d)
  let s1 := { s with host := { s.host with
    stalled := s.host.stalled.filter (fun e => e.1 != d), abandoned := Map.del s.host.abandoned d,
    handshakes := s.host.handshakes.filter (fun x => x != d) } }
  (gone.foldl (fun st _ => st.answer 0xE3 .hostRefused) s1).showPend

/-- The reset of domain `d` is released: its handshake begins (R556). -/
def State.crossingOpen (d : Nat) (s : State) : State :=
  { s with host := { s.host with handshakes := (d :: s.host.handshakes).eraseDups } }

/-! ### Performance counters (R563 to R567) -/

/-- PMC.SEL[0] and the counters that count event `e`, in order. -/
def State.counters (s : State) (e : Nat) : List Nat :=
  let base := (R.PMC.SEL.EVENT 0).addr
  s.regs.filterMap (fun x =>
    let a := x.1 / 32
    if base ≤ a ∧ a < base + 4096 ∧ x.2 = e then some ((a - base) / 4) else none)

/-- Counter `i` advanced by `n`: a wrap counts in the chain that follows, or is an event (R566, R567). -/
def State.addCounter : Nat → Nat → Nat → State → State
  | 0, _, _, s => s
  | fuel + 1, i, n, s =>
    let v := s.get2 (R.PMC.CNT.LO.COUNT i) (R.PMC.CNT.HI.COUNT i) + n
    let wraps := v / 2 ^ 48
    let s1 := s.set2 (R.PMC.CNT.LO.COUNT i) (R.PMC.CNT.HI.COUNT i) (v % 2 ^ 48)
    if wraps = 0 then s1
    else
      let s2 := { s1 with pmc := { s1.pmc with wrapped := (i :: s1.pmc.wrapped).eraseDups } }
      if i + 1 < 1024 ∧ s2.get (R.PMC.SEL.EVENT (i + 1)) = 0xFFF then s2.addCounter fuel (i + 1) wraps
      else (s2.set R.PMC.WRAP_IDX.INDEX i).evt R.PMC.EVT.WRAP

/-- Event `e` has occurred `n` times (R564). -/
def State.count (e n : Nat) (s : State) : State := (s.counters e).foldl (fun st i => st.addCounter 1024 i n) s

/-- The flue of a port with nothing in it. -/
def LtsPort.empty : LtsPort := { resv := [], stamps := [], accepted := 0, discards := 0, txphRun := false }

end Sys2Proof.Machine
end

