-- ==== Sys2Proof/Machine/Replica.lean ====
section
/-! DEFINITION. The advance of a lane by ticks (R17 to R20), and the time replicas of the other domains, with the records that
feed them (R56 to R59). -/

namespace Sys2Proof.Machine

/-! ### One tick, and many (R17 to R20) -/

/-- The advance of a tick by its cadence phase, in 2^-16 ns (R17). -/
def cadence (phase : Nat) : Nat := if phase % 2 = 0 then 104858 else 104857

/-- The units of ACC in one 2^-16 ns: 5^15 (R20). -/
def accMod : Nat := 30517578125

/-- A TIME96 moved by `du` units of 2^-16 ns in one tick: at 10^9 ns or more the nanoseconds lose 10^9 and the seconds gain
one (R19). -/
def t96Advance (t : Time96) (du : Int) : Time96 :=
  let low := (bitsOf t.toNat 0 48 : Int) + du
  if (secU : Int) ≤ low then BitVec.ofNat 96 ((t96Sec t + 1) % 2 ^ 48 * 2 ^ 48 + (low - secU).toNat % 2 ^ 48)
  else BitVec.ofNat 96 (t96Sec t * 2 ^ 48 + low.toNat % 2 ^ 48)

/-- The carry out of ACC on a phase-4 tick: floor((ACC + 16 S) / 5^15) (R20). -/
def accCarry (acc : Nat) (rate : Int) : Int := (acc + 16 * rate) / (accMod : Int)

/-- What stays in ACC (R20). -/
def accLeft (acc : Nat) (rate : Int) : Nat := ((acc + 16 * rate) % (accMod : Int)).toNat

/-- A lane through one CK_HRT tick (R17 to R20). -/
def Lane.tick (l : Lane) : Lane :=
  let ph := l.phase.toNat
  if ph = 4 then
    { l with time := t96Advance l.time (cadence ph + accCarry l.acc.toNat l.s),
             acc := BitVec.ofNat 35 (accLeft l.acc.toNat l.s), phase := 0 }
  else { l with time := t96Advance l.time (cadence ph), phase := BitVec.ofNat 3 ((ph + 1) % 5) }

/-- The cadence units of `n` ticks from a phase. -/
def cadenceSum (phase n : Nat) : Nat :=
  let r := n % 5
  n / 5 * 524288 +
    ((if 0 < r then cadence (phase % 5) else 0) + (if 1 < r then cadence ((phase + 1) % 5) else 0) +
     (if 2 < r then cadence ((phase + 2) % 5) else 0) + (if 3 < r then cadence ((phase + 3) % 5) else 0))

/-- The phase-4 ticks among `n` ticks from a phase. -/
def carries (phase n : Nat) : Nat := (phase + n) / 5

/-- The units of 2^-16 ns a lane gains in `n` ticks. -/
def Lane.gain (l : Lane) (n : Nat) : Int :=
  let k := carries l.phase.toNat n
  (cadenceSum l.phase.toNat n : Int) + (l.acc.toNat + 16 * l.s * k) / (accMod : Int)

/-- A lane through `n` ticks at once: what `n` single ticks come to. -/
def Lane.advance (l : Lane) (n : Nat) : Lane :=
  let k := carries l.phase.toNat n
  { l with time := linT96 ((t96Lin l.time : Int) + l.gain n).toNat,
           acc := BitVec.ofNat 35 ((l.acc.toNat + 16 * l.s * k) % (accMod : Int)).toNat,
           phase := BitVec.ofNat 3 ((l.phase.toNat + n) % 5) }

/-- The fewest ticks in which a lane gains at least `u` units, by bisection on `fuel` bits. -/
def ticksAux (l : Lane) (u : Int) : Nat → Nat → Nat
  | 0, n => n
  | k + 1, n => ticksAux l u k (if l.gain (n + 2 ^ k) < u then n + 2 ^ k else n)

/-- The fewest ticks, at least one, in which a lane gains at least `u` units, for u below two seconds' worth. -/
def Lane.ticksTo (l : Lane) (u : Int) : Nat := ticksAux l u 31 0 + 1

/-- The Hearth's own fields changed. -/
def State.modHearth (f : Hearth → Hearth) (s : State) : State := { s with hearth := f s.hearth }

/-- The loop updates in a second: 2^LOOP_RATE (R22). -/
def State.updatesPerSecond (s : State) : Nat := 2 ^ s.get R.TSC.CFG.LOOP_RATE

/-! ### Replicas (R56 to R59) -/

/-- The domains that hold a time replica: CK_CORE, CK_PCS0-3, CK_TDC, CK_SOL, CK_HOST (R56). -/
def replicaDomains : List Nat := [0, 2, 3, 4, 5, 11, 22, 12]

/-- The present record (R56, R81). -/
def State.record (s : State) : HearthRecord :=
  { tick := s.hearth.tick, lane := s.voted, mode := s.get R.EBD.STAT.MODE, anchor := s.ebd.anchor, bank := s.ebd.bank,
    lockB := s.get R.EBD.LOCK_B.VALUE, lastUpdate := if s.get R.EBD.STAT.MODE = 1 then s.hearth.lastUpdate else 0,
    perSecond := s.updatesPerSecond, steps := s.hearth.steps, stepSum := s.hearth.stepSum }

/-- A record received by a replica; two after an invalidation make it valid (R59). It keeps the records it may still need:
those announced lie ahead, and a late edge goes back (R57, R229). -/
def Replica.receive (rec_ : HearthRecord) (r : Replica) : Replica :=
  { r with valid := r.valid || decide (1 ≤ r.received), received := r.received + 1, records := (rec_ :: r.records).take 20 }

/-- A replica that has received nothing and has not been invalidated. -/
def Replica.empty : Replica := { valid := true, received := 0, records := [], frozen := none }

/-- A replica whose domain's clock has returned: invalid until two records have come (R59). -/
def Replica.invalid : Replica := { Replica.empty with valid := false }

/-- The replica of domain `d`. -/
def State.replica (s : State) (d : Nat) : Replica := Map.getD s.hearth.replicas d Replica.empty

/-- The replica of domain `d` changed. -/
def State.setReplica (d : Nat) (r : Replica) (s : State) : State :=
  s.modHearth fun h => { h with replicas := Map.put h.replicas d r }

/-- A record sent to every replica whose domain's clock runs (R56). -/
def State.sendRecord (r : HearthRecord) (s : State) : State :=
  replicaDomains.foldl (fun st d => if s.clock d then st.setReplica d ((s.replica d).receive r) else st) s

/-- The tick number that domain `d` is fed: the Hearth's, or the last one it saw before its clock stopped (R56). -/
def State.fedTick (s : State) (d : Nat) : BitVec 32 := (s.replica d).frozen.getD s.hearth.tick

/-- The record that governs tick `k`: the one with the latest tick number not after it (R57). -/
def Replica.recordFor (r : Replica) (k : BitVec 32) : Option HearthRecord :=
  (r.records.filter (fun x => decide ((k - x.tick).toNat < 2 ^ 31))).foldl (fun (best : Option HearthRecord) x =>
    match best with
    | none => some x
    | some b => if (k - x.tick).toNat < (k - b.tick).toNat then some x else some b) none

/-- A record advanced to tick `k` with the arithmetic of R17 and R20 (R57). -/
def HearthRecord.at_ (r : HearthRecord) (k : BitVec 32) : HearthRecord :=
  { r with tick := k, lane := r.lane.advance (k - r.tick).toNat }

/-- What the replica of domain `d` computes for tick `k`: from the record that governs it, or as the Hearth has it where none has
come yet. -/
def State.replicaAt (s : State) (d : Nat) (k : BitVec 32) : HearthRecord :=
  match (s.replica d).recordFor k with
  | some r => r.at_ k
  | none => { s.record with tick := k }

/-- A record that no announcement brought (R23) reaches the replicas with the tick it describes; it does not count among those
received. -/
def State.amendRecord (r : HearthRecord) (s : State) : State :=
  replicaDomains.foldl (fun st d =>
    if s.clock d && s.replicaAt d r.tick != r then
      st.setReplica d { s.replica d with records := (r :: (s.replica d).records).take 20 }
    else st) s

/-- The least and the greatest age of the value read in a cycle of domain `d`, and its compensation, in units of 0.01 ns (R58). The
greatest age of the legacy crossing is the compensation and the residual of that column. CK_PCS has its 25G row at 25 Gb/s. -/
def State.replicaRow (s : State) (d : Nat) : Nat × Nat × Nat :=
  let row (lo hi comp legacy : Nat) : Nat × Nat × Nat :=
    (lo, if s.flag R.HST.CFG.LEGACY_XING then comp + legacy else hi, comp)
  if d = 0 then row 200 460 330 430
  else if d = 22 then row 400 760 580 880
  else if 2 ≤ d ∧ d ≤ 5 then
    (if s.get (R.ETH.CFG.SPEED (d - 2)) = 1 then row 496 905 701 1072 else row 1241 2022 1632 2452)
  else row 800 1360 1080 1480

/-- Ticks between the present tick and the one that domain `d` has seen: as many as the age of R58 allows, which depends on the
phase of its clock, a free value. -/
def State.seenLag (s : State) (d : Nat) : Nat :=
  let (lo, hi, _) := s.replicaRow d
  let a := lo / 160
  a + Config.replicaLag d s.now % (hi / 160 - a + 1)

/-- Time as domain `d` reads it now: its replica's value for the tick it has seen, plus the compensation (R58); none while the
replica is invalid (R59). DESIGN CHOICE: until a first record it reads the present value of the Hearth (log entry 14). -/
def State.replicaTime (s : State) (d : Nat) : Option Int :=
  let k := s.fedTick d - BitVec.ofNat 32 (s.seenLag d)
  if (s.replica d).valid then
    match (s.replica d).recordFor k with
    | some r => some ((t96Lin (r.at_ k).lane.time + (s.replicaRow d).2.2 * nsU / 100 : Nat) : Int)
    | none => some s.now
  else none

end Sys2Proof.Machine
end

