-- ==== Sys2Proof/Machine/Filing.lean ====
section
/-! DEFINITION. The filing of faults (R588 to R592): the catalogue, the class actions, the queue. -/

namespace Sys2Proof.Machine

/-! ### The catalogue (R591) -/

def F.hstAccessAbandoned : FaultKind := ⟨0x0101, .note⟩
def F.tscLaneResync : FaultKind := ⟨0x0201, .note⟩
def F.tscLaneTriple : FaultKind := ⟨0x0202, .degrade⟩
def F.tscLaneFenced : FaultKind := ⟨0x0203, .degrade⟩
def F.tscSplit : FaultKind := ⟨0x0204, .surrender⟩
def F.tscLastLane : FaultKind := ⟨0x0205, .surrender⟩
def F.ebdBreach : FaultKind := ⟨0x0301, .degrade⟩
def F.ebdBadTime : FaultKind := ⟨0x0302, .note⟩
def F.selSwAbort : FaultKind := ⟨0x0501, .note⟩
def F.selLoopLate : FaultKind := ⟨0x0502, .degrade⟩
def F.oscIdFail : FaultKind := ⟨0x0601, .degrade⟩
def F.oscIdChange : FaultKind := ⟨0x0602, .note⟩
def F.oscLife : FaultKind := ⟨0x0603, .note⟩
def F.oscWear : FaultKind := ⟨0x0604, .degrade⟩
def F.oscUnlock : FaultKind := ⟨0x0605, .degrade⟩
def F.oscCmdFail : FaultKind := ⟨0x0606, .degrade⟩
def F.oscRail : FaultKind := ⟨0x0607, .degrade⟩
def F.synFineEdge : FaultKind := ⟨0x0701, .note⟩
def F.synCoast : FaultKind := ⟨0x0702, .degrade⟩
/-- SURRENDER at SYN0's first lock, DEGRADE otherwise. -/
def F.synBandFail (first : Bool) : FaultKind := ⟨0x0703, if first then .surrender else .degrade⟩
/-- SURRENDER at SYN0's first lock, DEGRADE otherwise. -/
def F.synLockFail (first : Bool) : FaultKind := ⟨0x0704, if first then .surrender else .degrade⟩
def F.syn0Relock : FaultKind := ⟨0x0705, .surrender⟩
def F.syn0Coast : FaultKind := ⟨0x0706, .surrender⟩
def F.outCalFail : FaultKind := ⟨0x0801, .note⟩
def F.outBadTime : FaultKind := ⟨0x0802, .note⟩
def F.tdcLockFail : FaultKind := ⟨0x0901, .degrade⟩
def F.tdcTbaseLoss : FaultKind := ⟨0x0902, .degrade⟩
def F.tdcCalMismatch : FaultKind := ⟨0x0903, .note⟩
def F.tdcCalBad : FaultKind := ⟨0x0904, .degrade⟩
def F.gnaFeClk : FaultKind := ⟨0x0A01, .degrade⟩
def F.gnaFeFault : FaultKind := ⟨0x0A02, .degrade⟩
def F.gnsMapBad : FaultKind := ⟨0x0C01, .note⟩
def F.gnsEpochLate : FaultKind := ⟨0x0C02, .note⟩
def F.gnsFwHalt : FaultKind := ⟨0x0C03, .degrade⟩
def F.gnsPosSuspect : FaultKind := ⟨0x0C04, .degrade⟩
def F.gnsSpoof : FaultKind := ⟨0x0C05, .degrade⟩
def F.gnsSolLate : FaultKind := ⟨0x0C06, .note⟩
def F.ethLinkDown : FaultKind := ⟨0x0D01, .note⟩
def F.ethEsmcTo : FaultKind := ⟨0x0D02, .note⟩
def F.ltsTxphShift : FaultKind := ⟨0x1101, .note⟩
def F.ltsMapBad : FaultKind := ⟨0x1102, .note⟩
def F.ltsLaunchMiss : FaultKind := ⟨0x1103, .note⟩
def F.rseHsetBad : FaultKind := ⟨0x1201, .surrender⟩
def F.rseStepOverrun : FaultKind := ⟨0x1202, .degrade⟩
def F.rseRespDeadline : FaultKind := ⟨0x1203, .note⟩
def F.glvEngineFail : FaultKind := ⟨0x1401, .degrade⟩
def F.glvRngFail : FaultKind := ⟨0x1402, .degrade⟩
def F.glvKeySpent : FaultKind := ⟨0x1403, .note⟩
def F.glvLcChange : FaultKind := ⟨0x1404, .note⟩
def F.smpStall : FaultKind := ⟨0x1501, .note⟩
def F.smpBadTime : FaultKind := ⟨0x1502, .note⟩
def F.redHatVersion : FaultKind := ⟨0x1601, .degrade⟩
def F.redHatLine : FaultKind := ⟨0x1602, .degrade⟩
def F.redHatLost : FaultKind := ⟨0x1603, .degrade⟩
def F.redHatConflict : FaultKind := ⟨0x1604, .surrender⟩
def F.redLinkVersion : FaultKind := ⟨0x1605, .degrade⟩
def F.redLinkDown : FaultKind := ⟨0x1606, .note⟩
def F.redEmberMiss : FaultKind := ⟨0x1607, .note⟩
def F.redTakePhase : FaultKind := ⟨0x1608, .note⟩
def F.redStbyHealth : FaultKind := ⟨0x1609, .surrender⟩
def F.redPeerFail : FaultKind := ⟨0x160A, .note⟩
/-- Of the class that the row of R518 for the section's type names. -/
def F.nvcSectionBad (c : FaultClass) : FaultKind := ⟨0x1701, c⟩
def F.nvcProfileFallback : FaultKind := ⟨0x1702, .degrade⟩
def F.nvcEmberLate : FaultKind := ⟨0x1703, .note⟩
def F.nvcEmberFail : FaultKind := ⟨0x1704, .note⟩
def F.nvcSectorRetired : FaultKind := ⟨0x1705, .note⟩
def F.nvcEmberWorn : FaultKind := ⟨0x1706, .degrade⟩
def F.pmcDumpLate : FaultKind := ⟨0x1801, .note⟩
def F.pmcSupply : FaultKind := ⟨0x1802, .degrade⟩
def F.pmcOvertemp : FaultKind := ⟨0x1803, .degrade⟩
def F.fltDrop : FaultKind := ⟨0x1901, .note⟩
def F.memTrainFail : FaultKind := ⟨0x1A01, .surrender⟩
def F.memDramCe : FaultKind := ⟨0x1A02, .note⟩
def F.memDramUe : FaultKind := ⟨0x1A03, .degrade⟩
def F.memSramUe : FaultKind := ⟨0x1A04, .degrade⟩
def F.memSweepSlow : FaultKind := ⟨0x1A05, .note⟩
def F.memBgStarved : FaultKind := ⟨0x1A06, .note⟩

/-! ### Records -/

/-- The class code of a record (R594). -/
def FaultClass.code : FaultClass → Nat
  | .note => 1
  | .degrade => 2
  | .surrender => 3

/-- The 32 bytes of a log entry or DRAM record (R594), with its sequence number and its LOST bit. -/
def FaultRec.bytes (r : FaultRec) (seq : Nat) (lost : Bool) : List Byte :=
  leBytes 2 r.kind.code ++
  leBytes 1 (r.kind.cls.code + 4 * ofBool r.noTime + 8 * ofBool lost + 16 * ofBool r.solo) ++
  leBytes 1 r.role ++ leBytes 4 seq ++
  (if r.noTime then leBytes 8 r.instant ++ leBytes 4 0
   else leBytes 2 (r.instant % nsU) ++ leBytes 4 (r.instant % secU / nsU) ++ leBytes 6 (r.instant / secU)) ++
  leBytes 4 (r.element % 256 + 256 * (r.cause % 256) + 65536 * r.dropped) ++
  leBytes 4 r.ebSec ++ leBytes 4 r.resetCnt

/-! ### The class actions and the queue -/

/-- RED acts as with SOLO = 1: as the hat controller took it at start-up, or in service state TEST (R496, R513, R589). -/
def State.soloInForce (s : State) : Bool := s.red.solo || s.get R.NVC.STAT.SVC_STATE == 2

/-- The instant of a filing made now, from the CK_HOST replica (R594); none while the Hearth is held in reset. DESIGN CHOICE: none
either while that replica is invalid, when R59 has its consumers treat time as unavailable (log entry 14). -/
def State.filingTime (s : State) : Option Int := if s.hearth.running then s.replicaTime 12 else none

/-- The record of a filing made now. Without an instant it bears the CK_AON cycles since the last reset, which no command of the
table counts: a free value (assumption log 6). -/
def State.faultRec (s : State) (k : FaultKind) (element cause dropped : Nat) : FaultRec :=
  { kind := k, noTime := s.filingTime.isNone, solo := k.cls == .surrender && s.soloInForce,
    role := s.get R.RED.STAT.ROLE,
    instant := match s.filingTime with | some t => t.toNat | none => s.fresh % 2 ^ 64,
    element := element, cause := cause, dropped := dropped,
    ebSec := s.get R.EBD.EB_SEC.EB, resetCnt := s.get R.FLT.RESET_CNT.COUNT }

/-- A list of register words put into consecutive fields. -/
def State.setWords (f : Nat → Field) : Nat → List Byte → State → State
  | _, [], s => s
  | i, b0 :: bs, s => (s.set (f (i / 4))
      (putBits (s.get (f (i / 4))) (8 * (i % 4)) 8 b0.toNat)).setWords f (i + 1) bs

/-- The renounce latch is set (R488): counted, and a chip that does not hold the hat moves to RENOUNCED (R487). A holder keeps
hat and role until the end of a frame (R486, R490, R492). -/
def State.renounce (s : State) : State :=
  if s.flag R.RED.STAT.RENOUNCED then s
  else
    let s1 := (s.set R.RED.STAT.RENOUNCED 1).inc R.RED.RENOUNCE_CNT.COUNT
    let role := s.get R.RED.STAT.ROLE
    if s.flag R.RED.STAT.HOLDING = false ∧ (role = 1 ∨ role = 2 ∨ role = 4) then s1.set R.RED.STAT.ROLE 3 else s1

/-- ALARM_N is driven while SURRENDERED, or DEGRADED with ALARM_DEG (R590). -/
def State.showAlarm (s : State) : State :=
  s.setB R.FLT.STAT.ALARM (s.flag R.FLT.STAT.SURRENDERED || (s.flag R.FLT.STAT.DEGRADED && s.flag R.FLT.CFG.ALARM_DEG))

/-- The sequence that the log gives a SURRENDER filing made now: those queued go first, and the one it displaces goes no more. A
filing that finds only SURRENDER filings queued is given none, and what its copy bears is open (R592, R594). -/
def State.logSeq (s : State) : Nat :=
  if s.flt.queue.length < 16 then s.flt.seq + s.flt.queue.length
  else if s.flt.queue.any (fun r => r.kind.cls != .surrender) then s.flt.seq + 15
  else s.fresh / 2 ^ 64 % 2 ^ 32

/-- The action of a class at the source, in the filing cycle (R589). -/
def State.classAction (r : FaultRec) (s : State) : State :=
  match r.kind.cls with
  | .note => s.inc R.FLT.NOTE_CNT.COUNT
  | .degrade => ((s.inc R.FLT.DEGRADE_CNT.COUNT).set R.FLT.STAT.DEGRADED 1).showAlarm.evt R.FLT.EVT.DEGRADE
  | .surrender =>
    let s1 := ((s.inc R.FLT.SURRENDER_CNT.COUNT).set R.FLT.STAT.SURRENDERED 1).showAlarm.evt R.FLT.EVT.SURRENDER
    let s2 := s1.setWords R.FLT.LAST_SURR.RECORD 0 (r.bytes s.logSeq false)
    if r.solo then s2 else s2.renounce

/-- The newest filing of a class taken out of the queue, newest last. -/
def dropNewest (c : FaultClass) (q : List FaultRec) : Option (List FaultRec) :=
  match q.reverse.findIdx? (fun r => r.kind.cls == c) with
  | none => none
  | some i => some ((q.reverse.eraseIdx i).reverse)

/-- A filing enters the 16-entry queue, is discarded, or displaces another (R592). -/
def State.enqueue (r : FaultRec) (s : State) : State :=
  let f := s.flt
  let put (q : List FaultRec) (s : State) : State :=
    { s with flt := { s.flt with queue := q } }.set R.FLT.STAT.QUEUE q.length
  let drop (s : State) : State :=
    ({ s with flt := { s.flt with discarded := s.flt.discarded + 1 } }.inc R.FLT.DROP_CNT.COUNT).evt R.FLT.EVT.DROP
  if f.queue.length < 16 then put (f.queue ++ [r]) s
  else if r.kind.cls == .surrender then
    match dropNewest .note f.queue with
    | some q => drop (put (q ++ [r]) s)
    | none =>
      match dropNewest .degrade f.queue with
      | some q => drop (put (q ++ [r]) s)
      | none => drop s
  else drop s

/-- A fault is filed: its class action at once, and its record into the queue unless it is a NOTE of a masked block
(R588, R589). A draw is spent on what the record leaves open. -/
def State.file (k : FaultKind) (element cause : Nat) (s : State) : State :=
  let r := s.faultRec k element cause 0
  let s1 := (s.classAction r).bump
  if k.cls == .note && bitOf (s.get R.FLT.NOTE_MASK.MASK) (k.code / 256) then s1 else s1.enqueue r

/-- The second that a first-miss rule counts in (R597): that of the timescale, or while the Hearth is held in reset a
free one, since no command counts the chip's own elapsed time. -/
def State.missSecond (s : State) : Nat := if s.hearth.running then s.second else s.fresh

/-- A fault that files at most once per element and second (R597). -/
def State.fileFirst (k : FaultKind) (element cause : Nat) (s : State) : State :=
  let key := (k.code, element, s.missSecond)
  if s.flt.firsts.contains key then s
  else
    { s with flt := { s.flt with
        firsts := key :: s.flt.firsts.filter (fun e => !(e.1 == k.code && e.2.1 == element)) } }.file k element cause

end Sys2Proof.Machine
end

