-- ==== Sys2Proof/Machine/Time.lean ====
section
/-! DEFINITION. The Hearth: advance, vote, boundaries, software commits, the step, leap seconds (chapter 01). -/

namespace Sys2Proof.Machine

/-! ### The lanes together -/

/-- Every lane changed alike. -/
def Hearth.mapLanes (f : Lane → Lane) (h : Hearth) : Hearth :=
  { h with laneA := f h.laneA, laneB := f h.laneB, laneC := f h.laneC }

/-- Lane `n` replaced. -/
def Hearth.setLane (n : Nat) (l : Lane) (h : Hearth) : Hearth :=
  if n = 0 then { h with laneA := l } else if n = 1 then { h with laneB := l } else { h with laneC := l }

/-- A write of lane state lands in all unfenced lanes in the same tick (R55). -/
def State.writeLanes (f : Lane → Lane) (s : State) : State :=
  let fa := s.fenced 0; let fb := s.fenced 1; let fc := s.fenced 2
  s.modHearth fun h =>
    { h with laneA := if fa then h.laneA else f h.laneA, laneB := if fb then h.laneB else f h.laneB,
             laneC := if fc then h.laneC else f h.laneC }

/-- Lane `n` disagrees: a bit it holds differs from the majority (R48), be it fenced or not. -/
def State.disagrees (s : State) (n : Nat) : Bool := s.hearth.lane n != s.voted

/-- Bit flips of an upset in one lane. -/
def Lane.flip (l : Lane) (part : LanePart) (bit : Nat) : Lane :=
  match part with
  | .time => { l with time := l.time ^^^ BitVec.ofNat 96 (2 ^ bit) }
  | .acc => { l with acc := l.acc ^^^ BitVec.ofNat 35 (2 ^ bit) }
  | .phase => { l with phase := l.phase ^^^ BitVec.ofNat 3 (2 ^ bit) }
  | .rate => { l with rate := l.rate ^^^ BitVec.ofNat 40 (2 ^ bit) }
  | .integ => { l with integ := l.integ ^^^ BitVec.ofNat 40 (2 ^ bit) }
  | .prop => { l with prop := l.prop ^^^ BitVec.ofNat 48 (2 ^ bit) }
  | .eb => { l with eb := l.eb ^^^ BitVec.ofNat 64 (2 ^ bit) }

/-- What the vote of a tick, or of the `n` ticks up to the present one through which the same lanes disagree, records (R48, R50,
R52): the lanes that disagree are counted; unfenced ones are remembered with their first disagreeing tick, and so is a tick in
which all three disagree; a two-lane split is flagged, and filed at its onset. -/
def State.judgeVote (n : Nat) (s : State) : State :=
  let all := [0, 1, 2].filter (fun k => s.disagrees k)
  let dis := all.filter (fun k => !s.fenced k)
  let count (k : Nat) (s : State) : State :=
    if all.contains k then s.incSat (R.TSC.LANE_DIS.TICKS k) n else s
  let s1 := if all = [] then s else (count 2 (count 1 (count 0 s))).count 0x581 n
  let first := s.hearth.tick - BitVec.ofNat 32 (n - 1)
  let s2 := s1.modHearth fun h =>
    { h with disagreed := h.disagreed ++ (dis.filter (fun k => h.disagreed.all (fun e => e.1 != k))).map (fun k => (k, first)),
             triple := h.triple.or (if dis.length = 3 then some first else none) }
  if s.fencedCount = 1 ∧ dis ≠ [] then
    let s3 := (s2.set R.TSC.STAT.SPLIT 1).evt R.TSC.EVT.SPLIT
    if s.hearth.disagreed = [] then s3.file F.tscSplit s.preferred 0 else s3
  else s2

/-! ### Loop-update and second instants -/

/-- The offset within its second, in 2^-16 ns, of an instant. -/
def inSecond (t : Int) : Nat := (t % (secU : Int)).toNat

/-- The least k whose multiple k × 10^9 / N the instant `t` of its second has not reached (R22). -/
def nextMultiple (n t : Nat) : Nat := t * n / secU + 1

/-- The units of 2^-16 ns from an instant to the next multiple of R22, with `n` updates in a second. -/
def untilMultiple (n : Nat) (now : Int) : Nat :=
  let t := inSecond now
  ceilDiv (nextMultiple n t * secU) n - t

/-- The units of 2^-16 ns from the present tick to the next multiple of R22. -/
def State.toUpdate (s : State) : Nat := untilMultiple s.updatesPerSecond s.now

/-- The units of 2^-16 ns from the present tick to the next second. -/
def State.toSecond (s : State) : Nat := secU - inSecond s.now

/-- After ticks have passed from the voted instant `before`: the tick that wraps the nanoseconds is a second boundary, and
the one that reaches or passes a multiple of R22 a loop update. -/
def State.markDue (before : Int) (s : State) : State :=
  let n := s.updatesPerSecond
  let wrapped := before / (secU : Int) < s.now / (secU : Int)
  let reached := wrapped ∨ inSecond before * n / secU < inSecond s.now * n / secU
  s.modHearth fun h =>
    { h with secondDue := h.secondDue || wrapped, updateDue := h.updateDue || decide reached }

/-- One tick: every lane advances, after the upset, if any, and the voter judges (R17 to R20, R47, R48, R52). -/
def State.oneTick (upset : Option LaneUpset) (s : State) : State :=
  let before := s.now
  let s1 := match upset with
    | none => s
    | some u => s.modHearth fun h => h.setLane u.lane.val ((h.lane u.lane.val).flip u.part u.bit)
  let s2 := s1.modHearth fun h => { h.mapLanes Lane.tick with tick := h.tick + 1, stepTick := none }
  (s2.markDue before).judgeVote 1

/-- The copy of a lane is regular: a cadence phase of R18, an ACC of R20, nanoseconds of R19. Distinct regular lanes stay
distinct however many ticks pass. -/
def Lane.inOrder (l : Lane) : Bool :=
  decide (l.phase.toNat < 5) && decide (l.acc.toNat < accMod) && decide (t96Ns l.time < 1000000000)

/-- Two of the voter's inputs agree and every lane is regular: the same lanes disagree in every tick to come, and many ticks
may pass at once. -/
def State.steady (s : State) : Bool :=
  let a := s.voterInput 0; let b := s.voterInput 1; let c := s.voterInput 2
  ([0, 1, 2].all fun n => (s.hearth.lane n).inOrder) && (a == b || a == c || b == c)

/-- `n` ticks, one after the other. -/
def State.tickByTick : Nat → State → State
  | 0, s => s
  | n + 1, s => (s.oneTick none).tickByTick n

/-- `n` ticks pass in all lanes; where the vote may change from tick to tick each is judged for itself. -/
def State.passTicks (n : Nat) (s : State) : State :=
  if s.steady then
    let before := s.now
    let s1 := s.modHearth fun h =>
      { h.mapLanes (fun l => l.advance n) with tick := h.tick + BitVec.ofNat 32 n, stepTick := none }
    (s1.markDue before).judgeVote n
  else s.tickByTick n

/-- The ticks, at most the fuel, until `due` first holds. -/
def State.ticksUntil (due : State → Bool) : Nat → State → Nat
  | 0, _ => 0
  | k + 1, s => if due (s.oneTick none) then 1 else 1 + (s.oneTick none).ticksUntil due k

/-- No boundary of the present tick is due. -/
def State.clearDue (s : State) : State := s.modHearth fun h => { h with secondDue := false, updateDue := false }

/-- The ticks that lead to the next loop update (R22). -/
def State.ticksToUpdate (s : State) : Nat :=
  if s.steady then s.voted.ticksTo s.toUpdate else s.clearDue.ticksUntil (fun t => t.hearth.updateDue) (2 ^ 31)

/-- The ticks that lead to the next second boundary (R19). -/
def State.ticksToSecond (s : State) : Nat :=
  if s.steady then s.voted.ticksTo s.toSecond else s.clearDue.ticksUntil (fun t => t.hearth.secondDue) (2 ^ 31)

/-! ### Leap seconds (R41 to R46) -/

/-- R43's three checks of an announcement, against a current offset. -/
def State.leapOk (s : State) (cur next : Int) (at_ : Nat) : Bool :=
  (next - cur == 1 || cur - next == 1) && ((at_ : Int) - next) % 86400 == 0 && s.second + 2 ≤ at_

/-- The rank of the source whose values are in force: host values rank below every other source while HOLD = 0, and a
source that is no longer qualified does not rule (R42). -/
def State.leapRank (s : State) : Int :=
  let src := s.get R.TSC.LEAP_CUR.SRC
  if src = 3 then (if s.flag R.TSC.LEAP_CTL.HOLD then 3 else -1)
  else if src = 2 then (if bitOf (s.get R.REF.STAT_Q.QUALIFIED) 8 then 2 else 0)
  else if src = 1 then (if s.get R.REF.STAT_Q.QUALIFIED / 512 % 16 = 0 then 0 else 1)
  else 0

/-- LEAP_AT in force. -/
def State.leapAt (s : State) : Nat := s.get2 R.TSC.LEAP_AT_LO.AT R.TSC.LEAP_AT_HI.AT

/-- A pending leap set or withdrawn: NEXT, LEAP_AT, PENDING and its copy, SRC. -/
def State.leapLoad (src : Nat) (next : Int) (at_ : Nat) (pending : Bool) (s : State) : State :=
  (((((s.setI R.TSC.LEAP_NEXT.OFFSET next).setB R.TSC.LEAP_NEXT.PENDING pending).setB R.TSC.STAT.LEAP_PENDING
    pending).set2 R.TSC.LEAP_AT_LO.AT R.TSC.LEAP_AT_HI.AT at_).set R.TSC.LEAP_CUR.SRC src).modHearth
      fun h => { h with leapPoster := src }

/-- The rank of a source against others: host values rank below every other source while HOLD = 0 (R42). -/
def State.sourceRank (s : State) (src : Nat) : Int := if src = 3 ∧ s.flag R.TSC.LEAP_CTL.HOLD = false then -1 else src

/-- CUR, NEXT and LEAP_AT of a source judged together (R43, R44): accepted, or, with a failing announcement, rejected, in which
case a new current offset still takes effect and any pending leap is withdrawn. -/
def State.leapJudge (src : Nat) (cur next : Int) (at_ : Nat) (s : State) : State :=
  if next = cur ∨ s.leapOk cur next at_ = true then
    (s.setI R.TSC.LEAP_CUR.OFFSET cur).leapLoad src next at_ (decide (next ≠ cur))
  else
    (if s.sget R.TSC.LEAP_CUR.OFFSET = cur then s
     else (s.setI R.TSC.LEAP_CUR.OFFSET cur).leapLoad src cur s.leapAt false).evt R.TSC.EVT.LEAP_REJECTED

/-- An announcement NEXT, LEAP_AT judged against the current offset `cur` (R43): accepted, a withdrawal by the source that posted
the leap or a higher one, or rejected. -/
def State.leapAnnounce (src : Nat) (cur next : Int) (at_ : Nat) (s : State) : State :=
  if next = cur then
    if s.flag R.TSC.LEAP_NEXT.PENDING && decide (s.sourceRank s.hearth.leapPoster ≤ s.sourceRank src) then
      s.leapLoad src next at_ false
    else s
  else s.leapJudge src cur next at_

/-- A source whose values count: the GNSS solution only while GREF is qualified (R42). -/
def State.leapEntitled (s : State) (src : Nat) : Bool := src != 2 || bitOf (s.get R.REF.STAT_Q.QUALIFIED) 8

/-- A source posts CUR, NEXT and LEAP_AT (R42 to R44). With HOLD = 1 every source but the host is ignored. A source below
the one that rules is ignored, and flagged where it differs; one not below it whose values are those in force is their source
from then on. A new current offset waits for the second boundary. -/
def State.leapPost (p : LeapPost) (s : State) : State :=
  if s.flag R.TSC.LEAP_CTL.HOLD || !s.leapEntitled p.src then s
  else
    let cur := s.sget R.TSC.LEAP_CUR.OFFSET
    let pendNow := s.flag R.TSC.LEAP_NEXT.PENDING
    let differs := p.cur != cur || (if pendNow then p.next != s.sget R.TSC.LEAP_NEXT.OFFSET || p.at_ != s.leapAt
      else p.next != p.cur)
    if (p.src : Int) < s.leapRank then
      if differs then s.evt R.TSC.EVT.LEAP_DISAGREE else s
    else if p.cur = cur then
      if differs then s.leapAnnounce p.src cur p.next p.at_ else s.set R.TSC.LEAP_CUR.SRC p.src
    else s.modHearth fun h => { h with leapPost := some p }

/-- At a second boundary a posted new current offset takes effect, and the announcement that came with it is judged against
it; rejected, the pending leap is withdrawn (R44). -/
def State.leapTakePost (s : State) : State :=
  match s.hearth.leapPost with
  | none => s
  | some p =>
    let s1 := (s.modHearth fun h => { h with leapPost := none })
    if s1.flag R.TSC.LEAP_CTL.HOLD then s1 else s1.leapJudge p.src p.cur p.next p.at_

/-- The waiting value of a field in a group's copy, or its value in force. -/
def State.valueIn (s : State) (copy : List Waiting) (f : Field) : Nat :=
  match copy.find? (fun w => w.field.key == f.key) with
  | some w => w.value
  | none => s.get f

/-- The host's leap group at the boundary (R46): rejected while the HOLD in force is 0; otherwise judged as any source's
values (R43, R44). -/
def State.leapHost (s : State) : State :=
  match s.committed .tscLeap with
  | none => s
  | some c =>
    let s1 := (s.uncommit .tscLeap).set R.TSC.LEAP_CTL.COMMIT 0
    let cur := toSigned 16 (s1.valueIn c.copy R.TSC.LEAP_CUR.OFFSET)
    let next := toSigned 16 (s1.valueIn c.copy R.TSC.LEAP_NEXT.OFFSET)
    let at_ := s1.valueIn c.copy R.TSC.LEAP_AT_LO.AT + s1.valueIn c.copy R.TSC.LEAP_AT_HI.AT * 2 ^ 32
    let hold := s1.flag R.TSC.LEAP_CTL.HOLD
    let takes := hold && (next == cur || s1.leapOk cur next at_ || cur != s1.sget R.TSC.LEAP_CUR.OFFSET)
    let s2 := if hold then s1.leapJudge 3 cur next at_ else s1.evt R.TSC.EVT.LEAP_REJECTED
    if !takes && s1.nvc.switching.contains .tscLeap then s2.inc R.NVC.GRP_REJ_CNT.COUNT else s2

/-- At the first second boundary at or past LEAP_AT the current offset becomes NEXT (R45). -/
def State.leapApply (s : State) : State :=
  if s.flag R.TSC.LEAP_NEXT.PENDING ∧ s.leapAt ≤ s.second then
    (((s.set R.TSC.LEAP_CUR.OFFSET (s.get R.TSC.LEAP_NEXT.OFFSET)).set R.TSC.LEAP_NEXT.PENDING 0).set
      R.TSC.STAT.LEAP_PENDING 0).evt R.TSC.EVT.LEAP_APPLIED
  else s

/-! ### The lanes at a second boundary (R49 to R54) -/

/-- Boundaries within the last FENCE_WIN seconds at which lane `n` was resynchronised (R51). -/
def State.recentResyncs (s : State) (n : Nat) : List Nat :=
  (Map.getD s.hearth.resyncs n []).filter (fun t => s.second ≤ t + s.get R.TSC.VOTE.FENCE_WIN)

/-- The lanes whose first disagreeing tick lies before the present one (R49). -/
def State.ripeLanes (s : State) : List Nat :=
  ((s.hearth.disagreed.filter (fun e => e.2 != s.hearth.tick)).map Prod.fst).filter (fun n => !s.fenced n)

/-- The lanes that the boundary loads: those that disagreed at least a tick before it; with one lane fenced, the one that is not
preferred (R49, R52). -/
def State.toResync (s : State) : List Nat :=
  if s.fencedCount = 0 then s.ripeLanes
  else if s.fencedCount = 1 ∧ s.ripeLanes ≠ [] then
    [0, 1, 2].filter (fun n => !s.fenced n && n != s.preferred)
  else []

/-- A lane loaded with the majority, counted and filed (R49). -/
def State.loadLane (out : Lane) (n : Nat) (s : State) : State :=
  (((s.modHearth fun h =>
      { h.setLane n out with resyncs := Map.put h.resyncs n (s.second :: s.recentResyncs n) }).incSat
    (R.TSC.LANE_RSY.LOADS n) 1).evt R.TSC.EVT.RESYNC).file F.tscLaneResync n 0

/-- A lane at the boundary: fenced if it has been resynchronised too often, else loaded with the majority (R49, R51,
R53). The last unfenced lane is left alone. -/
def State.resyncLane (out : Lane) (n : Nat) (s : State) : State :=
  let fn := s.get R.TSC.VOTE.FENCE_N
  if 2 ≤ s.fencedCount then s
  else if fn ≠ 0 ∧ fn ≤ (s.recentResyncs n).length + 1 then
    let s1 := ((s.set (fencedField n) 1).evt R.TSC.EVT.FENCE).file F.tscLaneFenced n 0
    if s1.fencedCount = 2 then s1.file F.tscLastLane s1.preferred 0 else s1
  else s.loadLane out n

/-- The unfence command of a lane. -/
def unfenceField (n : Nat) : Field :=
  if n = 0 then R.TSC.CTL.UNFENCE_A else if n = 1 then R.TSC.CTL.UNFENCE_B else R.TSC.CTL.UNFENCE_C

/-- A fenced lane is loaded with the output and returns to the vote (R54); the split mark clears with the last unfence. -/
def State.unfenceLane (out : Lane) (n : Nat) (s : State) : State :=
  if s.flag (unfenceField n) then
    let s1 := s.set (unfenceField n) 0
    if s.fenced n then
      ((s1.modHearth fun h => { h.setLane n out with resyncs := Map.put h.resyncs n [] }).set (fencedField n) 0).set
        R.TSC.STAT.SPLIT 0
    else s1
  else s

/-- The vote's work at a second boundary (R49 to R54). Where all three lanes disagreed in one earlier tick all three are loaded
(R50), and none is fenced. A disagreement that began in this very tick waits for the next boundary. -/
def State.voteSecond (s : State) : State :=
  let out := s.voted
  let tick := s.hearth.tick
  let ripe := match s.hearth.triple with | some t => t != tick | none => false
  let s1 := if ripe then
      let t := ((s.loadLane out 0).loadLane out 1).loadLane out 2
      (t.evt R.TSC.EVT.TRIPLE).file F.tscLaneTriple 0 0
    else s.toResync.foldl (fun st n => st.resyncLane out n) s
  let s2 := s1.modHearth fun h => { h with disagreed := h.disagreed.filter (fun e => e.2 == tick),
                                           triple := if ripe then none else h.triple }
  ((s2.unfenceLane out 0).unfenceLane out 1).unfenceLane out 2

/-! ### The rate at a loop update (R20 to R32) -/

/-- What a loop update is to apply: INTEG, P, S, and the flags of the limits it met. -/
structure RatePlan where
  integ : Int
  prop : Int
  rate : Int
  integClamped : Bool
  steerClamped : Bool
  deriving DecidableEq, Repr

/-- Counts of 10^-15 in one ppt. -/
def ppt : Int := 1000

/-- The slew limit in counts: min(SLEW.MAX, 500,000) ppt (R30). -/
def State.slewLimit (s : State) : Nat := min (s.get R.TSC.SLEW.MAX) 500000 * 1000

/-- S saturated at the ends of 40 bits (R21). -/
def satS (x : Int) : Int := max (-(2 ^ 39)) (min (2 ^ 39 - 1) x)

/-- The limits of R30 to R32 on a requested INTEG and, as a function of the INTEG applied, a requested P; then S saturates
(R21). DESIGN CHOICE: INTEG, for which R21 names no limit, is held at the ends of its 40 bits (log entry 21). -/
def State.planRate (s : State) (integ : Int) (prop : Int → Int) : RatePlan :=
  let unset := s.get R.TSC.STAT.STATE == 0
  let cur := s.voted.i
  let step := (s.get R.TSC.SLEW.INTEG_STEP : Int) * ppt
  let asked := if unset then integ else cur + max (-step) (min step (integ - cur))
  let i := satS asked
  let p := prop i
  let lim : Int := s.slewLimit
  let p' := if unset then p else max (-lim) (min lim p)
  { integ := i, prop := p', rate := satS (i + p'), integClamped := asked != integ,
    steerClamped := p' != p || satS (i + p') != asked + p' }

/-- A plan applied to the lanes, with its events (R21, R30, R31). -/
def State.applyRate (r : RatePlan) (s : State) : State :=
  let s1 := s.writeLanes fun l =>
    { l with integ := BitVec.ofInt 40 r.integ, prop := BitVec.ofInt 48 r.prop, rate := BitVec.ofInt 40 r.rate }
  let s2 := if r.integClamped then s1.evt R.TSC.EVT.INTEG_CLAMPED else s1
  if r.steerClamped then s2.evt R.TSC.EVT.STEER_CLAMPED else s2

/-- A commit joins those that wait: it replaces an earlier one for the same update. -/
def SoftCommit.join (c : SoftCommit) (cs : List SoftCommit) : List SoftCommit := cs.filter (fun x => x.deferred != c.deferred) ++ [c]

/-- The value due at this update. -/
def softDue (cs : List SoftCommit) : Option Int := (cs.find? (fun c => !c.deferred)).map SoftCommit.value

/-- What is left for the next update, now in time for it (R24). -/
def softRest (cs : List SoftCommit) : List SoftCommit := (cs.filter (fun c => c.deferred)).map (fun c => { c with deferred := false })

/-- The commits of an update are over. -/
def Hearth.softOver (h : Hearth) : Hearth := { h with steerPend := softRest h.steerPend, integPend := softRest h.integPend }

/-- Software commits are discarded (R26, R28). -/
def State.refuseSoft (s : State) : State :=
  let s1 := s.modHearth Hearth.softOver
  if (softDue s.hearth.steerPend).isSome || (softDue s.hearth.integPend).isSome then s1.evt R.TSC.EVT.STEER_REFUSED else s1

/-- With the damper open: the commits that are in time replace STEER and INTEG (R27, R29); INTEG and STEER they leave as
they were otherwise. -/
def State.takeSoft (s : State) : State × RatePlan :=
  let steer := (softDue s.hearth.steerPend).getD s.hearth.swSteer
  let integ := (softDue s.hearth.integPend).getD s.voted.i
  (s.modHearth fun h => { h.softOver with swSteer := steer }, s.planRate integ (fun i => steer - i))

/-- The ticks from a write that arrives now to the next loop update: none where the present tick is one whose work is still to
be done (R24). -/
def State.leadTicks (s : State) : Nat := if !s.ticking then 128 else if s.hearth.updateDue then 0 else s.ticksToUpdate

/-- A value of STEER (`steer`) or INTEG committed, `lead` ticks before the next loop update (R24, R25): the words read as
committed, the low word's shadow is that value from now on, and one that comes too late is deferred, with its event. -/
def State.softCommit (steer : Bool) (value lead : Nat) (s : State) : State :=
  let lo := if steer then R.TSC.STEER0.VALUE else R.TSC.INTEG0.VALUE
  let hi := if steer then R.TSC.STEER1.VALUE else R.TSC.INTEG1.VALUE
  let c : SoftCommit := ⟨toSigned 40 value, decide (lead < 128)⟩
  let s1 := (s.set2 lo hi value).dropShadow fun w => w.field.key == lo.key || w.field.key == hi.key
  let s2 := s1.modHearth fun h =>
    if steer then { h with steerPend := c.join h.steerPend } else { h with integPend := c.join h.integPend }
  if lead < 128 then s2.evt R.TSC.EVT.LATE_COMMIT else s2

/-! ### The step (R35 to R40) -/

/-- D added to all unfenced lanes (R36). DESIGN CHOICE: a D that would take TIME96 below zero, for which the rule says nothing,
leaves it at zero (log entry 111). -/
def Lane.step (d : Int) (l : Lane) : Lane := { l with time := linT96 ((t96Lin l.time : Int) + d).toNat }

/-- The step of the Hearth: D in all unfenced lanes, the step record, STATE, and a second boundary where the seconds field
changes (R36, R37). -/
def State.hearthStep (d : Int) (s : State) : State :=
  let before := s.second
  let s1 := s.writeLanes (Lane.step d)
  let s2 := s1.modHearth fun h =>
    { h with stepTick := some h.tick, stepAt := some s1.now, steps := h.steps + 1, stepSum := h.stepSum + d,
             secondDue := h.secondDue || decide (s1.second ≠ before), updateDue := false }
  ((((s2.set R.TSC.STAT.STATE 2).setSpan R.TSC.STEP_LAST_FRAC.FRAC R.TSC.STEP_LAST_NS.NS R.TSC.STEP_LAST_SEC_LO.SEC
    R.TSC.STEP_LAST_SEC_HI.SEC d).inc R.TSC.STEP_COUNT.COUNT).evt R.TSC.EVT.STEPPED).count 0x582 1

/-! ### The commands of the chapter -/

/-- STEER_COMMIT (R24, R25): word 1 is written. Both words are committed, word 0 as its shadow stands, or as last committed; a read
returns the value committed. -/
def execSteerCommit (hi : BitVec 8) (s : State) : Out :=
  let lo := match Map.get? s.shadow R.TSC.STEER0.VALUE.key with | some w => w.value | none => s.get R.TSC.STEER0.VALUE
  .next (s.softCommit true (lo + hi.toNat * 2 ^ 32) s.leadTicks)

/-- INTEG_COMMIT (R24, R27): the same of the integrator; a read returns the applied INTEG. -/
def execIntegCommit (hi : BitVec 8) (s : State) : Out :=
  let lo := match Map.get? s.shadow R.TSC.INTEG0.VALUE.key with | some w => w.value | none => s.get R.TSC.INTEG0.VALUE
  .next (s.softCommit false (lo + hi.toNat * 2 ^ 32) s.leadTicks)

/-- STEP_ARM takes effect where no step has executed in its tick (R39). -/
def State.arm (s : State) : State :=
  if s.hearth.stepTick = some s.hearth.tick then s.evt R.TSC.EVT.ARM_ABSORBED
  else if s.get R.TSC.STAT.STATE = 2 then s.set R.TSC.STAT.STATE 1
  else s

/-- STEP_ARM (R39): in STEPPED the Hearth becomes ARMED; in the tick of a step the step absorbs it; elsewhere it has no effect.
In the tick of an update whose work is still to be done, that work decides. -/
def execStepArm (s : State) : Out :=
  if s.hearth.updateDue ∧ s.hearth.stepTick ≠ some s.hearth.tick then .next (s.modHearth fun h => { h with armDue := true })
  else .next s.arm

/-- UNFENCE (R54): on a fenced lane it waits for the next second boundary; on an unfenced one it has no effect. -/
def execUnfence (lane : Fin 3) (s : State) : Out :=
  .next (if s.fenced lane.val then s.set (unfenceField lane.val) 1 else s)

/-- SNAP (R60, R61): ignored while a snapshot is pending. -/
def execSnap (s : State) : Out :=
  if s.flag R.TSC.STAT.SNAP_BUSY then .next s
  else .next ((s.set R.TSC.STAT.SNAP_BUSY 1).set R.TSC.CTL.SNAP 1)

/-- The voted TIME96 and tick number of the present tick are latched (R60). -/
def State.snapTake (s : State) : State :=
  let s1 := s.setTime R.TSC.SNAP_FRAC.FRAC R.TSC.SNAP_NS.NS R.TSC.SNAP_SEC_LO.SEC R.TSC.SNAP_SEC_HI.SEC s.now.toNat
  (((s1.set R.TSC.SNAP_TICK.TICK s.hearth.tick.toNat).set R.TSC.STAT.SNAP_BUSY 0).set R.TSC.CTL.SNAP 0).evt R.TSC.EVT.SNAP_DONE

/-- SNAP_LATCH (R60, R61): the present tick is latched; in the tick of an update whose work is still to be done, with the values
that work leaves. -/
def execSnapLatch (s : State) : Out :=
  if s.ticking && s.flag R.TSC.STAT.SNAP_BUSY then
    (if s.hearth.updateDue then .next (s.modHearth fun h => { h with snapDue := true }) else .next s.snapTake)
  else .next s

/-- LEAP_COMMIT (R46): the host's leap group waits for the second. -/
def execLeapCommit (s : State) : Out := .next (s.commit .tscLeap R.TSC.LEAP_CTL.COMMIT)

end Sys2Proof.Machine
end

