-- ==== Sys2Proof/Machine/Ebd.lean ====
section
/-! DEFINITION. The error bound: anchors, growth, banking, evaluation at an instant, stamps, clockClass (chapter 02).
Internal values count 2^-16 ns; every product and quotient rounds upward (R63). -/

namespace Sys2Proof.Machine

/-- The EBD's own state changed. -/
def State.modEbd (f : Ebd → Ebd) (s : State) : State := { s with ebd := f s.ebd }

/-- A saturated value, in 2^-16 ns. -/
def ebMax : Nat := 0xFFFFFFFF * 256

/-- An internal value as reported: rounded up to 2^-8 ns, saturating (R63, R64). -/
def ebReport (u : Nat) : Nat := min 0xFFFFFFFF (ceilDiv u 256)

/-- Growth at `rate` counts of 10^-15 over `d` units of time, rounded up. -/
def growOver (rate : Nat) (d : Int) : Nat := if d ≤ 0 then 0 else ceilDiv (rate * d.toNat) (10 ^ 15)

/-- The rate at which EB grows in LOCKED: |P| + LOCK_B (R71). -/
def State.lockRate (s : State) : Nat := s.voted.p.natAbs + s.get R.EBD.LOCK_B.VALUE

/-- Growth from instant `a` to `b` over the recorded rate segments, newest first (R71); the oldest rate holds before it. -/
def growSegs : List (Int × Nat) → Int → Int → Nat
  | [], _, _ => 0
  | [(_, r)], a, b => growOver r (b - a)
  | (t, r) :: rest, a, b =>
    if t ≤ a then growOver r (b - a) else growOver r (b - max a t) + growSegs rest a (min b t)

/-- Θ's rate bracket, in 1/16 K: the larger of the last two distances from the entry sample, or the substitute span, plus
the margin (R75). -/
def BankLatch.bracket (l : BankLatch) (prev now : Int) : Nat :=
  (if l.substituted then l.span else max (now - l.theta0).natAbs (prev - l.theta0).natAbs) + l.margin

/-- q × bracket over `d` units of time, in 2^-16 ns, rounded up. -/
def thetaGrow (q bracket : Nat) (d : Int) : Nat := if d ≤ 0 then 0 else ceilDiv (q * bracket * d.toNat) (16 * 10 ^ 15)

/-- The banking formula at an instant (R73, R80), from the accumulator's EB_0 + a + Θ. -/
def BankLatch.at_ (l : BankLatch) (acc : Nat) (t : Int) : Nat :=
  let d := (t - l.t0).toNat
  min ebMax (acc + growOver l.set.b (t - l.t0) + ceilDiv (l.set.c * d * d) (2 * 10 ^ 21 * secU) +
    thetaGrow l.set.q (l.bracket l.thetaLast l.thetaLast) (t - l.tLast))

/-- The EB mode in force (R65). -/
def State.ebMode (s : State) : Nat := s.get R.EBD.STAT.MODE

/-- A record's EB at an instant not before its own, in 2^-16 ns, without the limits of R80. -/
def HearthRecord.ebExtend (r : HearthRecord) (t : Int) : Nat :=
  let now : Int := (t96Lin r.lane.time : Nat)
  match r.mode with
  | 1 =>
    let tn := now + untilMultiple r.perSecond now
    let base := r.lane.eb.toNat + growOver (r.lane.p.natAbs + r.lockB) (min t tn - r.lastUpdate)
    min ebMax (base + growOver (500000000 + r.lockB) (t - max tn now))
  | 2 | 3 => match r.bank with | some l => l.at_ r.lane.eb.toNat t | none => ebMax
  | _ => ebMax

/-- EB(t) evaluated by a record at its own instant t_E (R80, R81). -/
def HearthRecord.ebAt (r : HearthRecord) (t : Int) : Nat :=
  let now : Int := (t96Lin r.lane.time : Nat)
  if t < now then ebReport (r.ebExtend now)
  else if (secU : Int) < t - now then 0xFFFFFFFF
  else ebReport (r.ebExtend t)

/-- The growth rate dEB/dt of a record at an instant, in 2^-8 ns per second, rounded up (R87). -/
def HearthRecord.ebRate (r : HearthRecord) (t : Int) : Nat :=
  let perSec (counts : Nat) : Nat := ceilDiv (counts * 256) (10 ^ 6)
  let now : Int := (t96Lin r.lane.time : Nat)
  match r.mode with
  | 1 => perSec (if t < now + untilMultiple r.perSecond now then r.lane.p.natAbs + r.lockB else 500000000 + r.lockB)
  | 2 | 3 =>
    match r.bank with
    | some l =>
      perSec (l.set.b + ceilDiv (l.set.c * (t - l.t0).toNat) (10 ^ 6 * secU) +
        ceilDiv (l.set.q * l.bracket l.thetaLast l.thetaLast) 16)
    | none => 0
  | _ => 0

/-- EB at an instant not before the present one, in 2^-16 ns, without the limits of R80. -/
def State.ebExtend (s : State) (t : Int) : Nat := s.record.ebExtend t

/-- EB(t) evaluated at the present tick (R80). -/
def State.ebAt (s : State) (t : Int) : Nat := s.record.ebAt t

/-- The record by which a stoker evaluates EB: that of the tick its replica in CK_CORE has seen (R81, R82). -/
def State.coreRecord (s : State) : HearthRecord := s.replicaAt 0 (s.fedTick 0 - BitVec.ofNat 32 (s.seenLag 0))

/-- The lanes' error-bound accumulators set. -/
def State.setEb (u : Nat) (s : State) : State := s.writeLanes fun l => { l with eb := BitVec.ofNat 64 (min (2 ^ 64 - 1) u) }

/-- The lanes' error-bound accumulators grow. -/
def State.growEb (u : Nat) (s : State) : State :=
  s.writeLanes fun l => { l with eb := BitVec.ofNat 64 (min (2 ^ 64 - 1) (l.eb.toNat + u)) }

/-- The bits of EB saturation follow the value at the present instant (R64). -/
def State.ebSaturation (s : State) : State :=
  let sat := decide (0xFFFFFFFF ≤ ebReport (s.ebExtend s.now))
  if sat && !s.flag R.EBD.STAT.SATURATED then (s.set R.EBD.STAT.SATURATED 1).evt R.EBD.EVT.SATURATE
  else s.setB R.EBD.STAT.SATURATED sat

/-! ### Stamps (R84 to R90) -/

/-- NTP root dispersion, in 2^-16 s (R84). EB counts 2^-8 ns: 2^-16 s is 10^9 / 256 of them. -/
def ntpDispersion (eb : Nat) : Nat := if eb = 0xFFFFFFFF then 0xFFFFFFFF else ceilDiv (eb * 256) (10 ^ 9)

/-- The bounds of the clockAccuracy codes from 0x17 on, in units of 10^-1 ps. -/
def accuracyBounds : List Nat :=
  [10, 25, 100, 250, 1000, 2500, 10000, 25000, 100000, 250000, 1000000, 2500000, 10000000, 25000000, 100000000,
   250000000, 1000000000, 2500000000, 10000000000, 25000000000, 100000000000, 250000000000]

/-- The first code whose bound is at least `x` tenths of a picosecond × 256; 0xFE past the table. -/
def accuracyCode (x : Nat) : List Nat → Nat → Nat
  | [], _ => 0xFE
  | b :: bs, c => if x ≤ b * 256 then c else accuracyCode x bs (c + 1)

/-- PTP clockAccuracy (R85). -/
def clockAccuracy (eb : Nat) : Nat :=
  if eb = 0xFFFFFFFF then 0xFE else accuracyCode (eb * 10000) accuracyBounds 0x17

/-- The bound of a clockAccuracy code in 2^-8 ns, rounded up; none outside the table (R115). -/
def accuracyBound (code : Nat) : Option Nat :=
  if code < 0x17 then none else (accuracyBounds[code - 0x17]?).map (fun b => ceilDiv (b * 256) 10000)

/-- The least integer m with n ≤ 2^m · d, for n and d above zero. -/
def ceilLog2 (n d : Nat) : Int :=
  let m0 : Int := (Nat.log2 n : Int) - Nat.log2 d - 1
  let fits (m : Int) : Bool := if 0 ≤ m then n ≤ 2 ^ m.toNat * d else n * 2 ^ (-m).toNat ≤ d
  if fits m0 then m0 else if fits (m0 + 1) then m0 + 1 else m0 + 2

/-- offsetScaledLogVariance computed from EB: 0x8000 + ceil(256 log2 σ²), σ = EB/3 s, clamped (R86). -/
def oslvOf (eb : Nat) : Nat :=
  if eb = 0xFFFFFFFF then 0xFFFF
  else if eb = 0 then 0
  else
    let m := ceilLog2 ((eb * eb) ^ 256) (((3 * 256 * 10 ^ 9) ^ 2) ^ 256)
    (max 0 (min 0xFFFE (0x8000 + m))).toNat

/-- The class table entry in force: clockClass, stratum, OSLV (R88). -/
def State.classEntry (s : State) : Nat × Nat × Nat :=
  match s.ebd.ccEntry with
  | some k => (s.get (R.EBD.CC_TAB.W1.CLASS k), s.get (R.EBD.CC_TAB.W1.STRATUM k), s.get (R.EBD.CC_TAB.W1.OSLV k))
  | none => (s.get R.EBD.CC_DEFAULT.CLASS, s.get R.EBD.CC_DEFAULT.STRATUM, s.get R.EBD.CC_DEFAULT.OSLV)

/-- offsetScaledLogVariance as sent (R86). -/
def State.oslv (s : State) (eb : Nat) : Nat :=
  if s.flag R.EBD.CFG.OSLV_MODE then s.classEntry.2.2 else oslvOf eb

/-- The organization extension TLV of a frame that leaves at `t` (R87). DEDUCED: sourceSlot is SEL.STAT.SLOT in LOCKED, in which
alone SEL reports a slot as selected (R124), and 0xFF in every other state (log entry 112). -/
def State.ebTlv (s : State) (t : Int) : List Byte :=
  let r := s.coreRecord
  let m := r.mode
  beBytes 2 3 ++ beBytes 2 0x12 ++ beBytes 3 (s.get R.EBD.TLV_ORG.ORG_ID) ++ beBytes 3 1 ++ beBytes 1 1 ++
  beBytes 1 (ofBool (m == 3) + 2 * ofBool (m == 2) + 4 * ofBool (m == 0) + 8 * ofBool (s.get R.TSC.STAT.STATE != 0)) ++
  beBytes 1 (if s.get R.SEL.STAT.STATE = 1 then s.get R.SEL.STAT.SLOT else 0xFF) ++ beBytes 1 0 ++
  beBytes 4 (r.ebAt t) ++ beBytes 4 (r.ebRate t)

/-- IRIG-B time quality of an EB in 2^-8 ns (R90). -/
def irigQuality (eb : Nat) (zeroOk locked : Bool) : Nat :=
  if zeroOk && locked && decide (eb ≤ 256000) then 0
  else if eb = 0xFFFFFFFF then 0xF
  else
    match (List.range 11).find? (fun i => decide (eb ≤ 10 ^ i * 256)) with
    | some i => i + 1
    | none => 0xF

/-- IRIG-B continuous time quality (R90). -/
def irigContinuous (eb : Nat) : Nat :=
  if eb < 100 * 256 then 1 else if eb < 1000 * 256 then 2 else if eb < 10000 * 256 then 3
  else if eb < 100000 * 256 then 4 else if eb < 1000000 * 256 then 5 else if eb < 10000000 * 256 then 6 else 7

/-! ### clockClass at the second (R88, R89) -/

/-- EB is at or below entry `k`'s threshold less `hyst`; a saturated EB is unknown, and below none (R64, R88, R89). -/
def State.ccBelow (s : State) (eb hyst k : Nat) : Bool := eb != 0xFFFFFFFF && decide (eb + hyst ≤ s.get (R.EBD.CC_TAB.W0.THRESH k))

/-- Entry `k` meets its mask and its threshold (R88). -/
def State.ccMeets (s : State) (eb k : Nat) : Bool :=
  let m := s.ebMode
  m != 0 && bitOf (s.get (R.EBD.CC_TAB.W1.STATES k)) (m - 1) && s.ccBelow eb 0 k

/-- The index of an entry in the order of the table, the default last. -/
def ccRank (e : Option Nat) : Nat := e.getD 8

/-- The table evaluated at a second boundary: a later entry or the default takes effect at once, an earlier one after its
dwell, and after a mode that the entry in force does not admit the first that meets (R89). A class or stratum that a commit
gives the same entry is a change too. -/
def State.classSecond (s : State) : State :=
  let eb := s.get R.EBD.EB_SEC.EB
  let hyst := s.get R.EBD.CC_HYST.HYST
  let dwell := (List.range 8).map (fun k => if s.ccBelow eb hyst k then (s.ebd.ccDwell.getD k 0) + 1 else 0)
  let first := (List.range 8).find? (fun k => s.ccMeets eb k)
  let cur := s.ebd.ccEntry
  let better := (List.range 8).find? (fun k =>
    decide (k < ccRank cur) && s.ccMeets eb k && decide (s.get R.EBD.CFG.CC_DWELL ≤ dwell.getD k 0))
  let maskOk := match cur with
    | some k => s.ebMode != 0 && bitOf (s.get (R.EBD.CC_TAB.W1.STATES k)) (s.ebMode - 1)
    | none => true
  let curOk := match cur with | some k => s.ccMeets eb k | none => true
  let later := (List.range 8).find? (fun k => decide (ccRank cur < k) && s.ccMeets eb k)
  let new := if !maskOk then first else match better with
    | some k => some k
    | none => if curOk then cur else later
  let s1 := s.modEbd fun e => { e with ccEntry := new, ccDwell := dwell }
  let (c, st, _) := s1.classEntry
  let changed := new != cur || c != s.get R.EBD.STAT.CLASS || st != s.get R.EBD.STAT.STRATUM
  let s2 := (s1.set R.EBD.STAT.CLASS c).set R.EBD.STAT.STRATUM st
  if changed then s2.evt R.EBD.EVT.CLASS_CHANGE else s2

/-! ### Banking (R73 to R78) -/

/-- The oscillator temperature sample, 1/16 K, if not missing (R583). -/
def State.theta? (s : State) : Option Int :=
  if s.flag R.PMC.STAT.THETA_OK then some (s.sget R.PMC.THETA.TEMP) else none

/-- The class record in force (R147, R148), an empty one before the image is read. -/
def State.oscClass (s : State) : OscClass :=
  Map.getD s.osc.classes (s.get R.OSC.CFG.CLASS)
    { kind := 0, gain := 1000, latency := 200, cmdMin := -10000, cmdMax := 10000, dac := 0x10, cmdTpl := [], ackTpl := [],
      statTpl := [], alpha := 0, k := none, set := ⟨0, 0, 0, 0⟩, bFloor := 0, cFloor := 0, qFloor := 0,
      hasCurrent := false, hasTemp := false }

/-- The coefficient set in force and its source code (R74). -/
def State.bankInForce (s : State) : BankSet × Nat :=
  match s.ebd.hostSet with
  | some b => (b, 2)
  | none => if s.flag R.SEL.STAT.MODEL_LEARNED then (s.sel.modelSet, 1) else (s.oscClass.set, 0)

/-- The set in force shown in the BANK registers (R74, R548). -/
def State.showBank (s : State) : State :=
  let (b, src) := s.bankInForce
  ((((s.set R.EBD.BANK_A.A b.a).set R.EBD.BANK_B.B b.b).set R.EBD.BANK_C.C b.c).set R.EBD.BANK_Q.Q b.q).set
    R.EBD.STAT.BANK_SRC src

/-- Entry to BANKING or SWITCHING at the present update: EB_0 and the coefficients are latched (R73, R74, R75). -/
def State.bankLatch (s : State) : State :=
  let eb0 := s.ebExtend s.now
  let (b, src) := s.bankInForce
  let th := s.theta?
  let l : BankLatch :=
    { t0 := s.now, set := b, theta0 := th.getD 0, margin := s.get R.EBD.THETA.MARGIN,
      span := 16 * s.get R.EBD.THETA.SPAN_MAX, thetaLast := th.getD 0, tLast := s.now, secs := 0,
      substituted := th.isNone }
  let s1 := ((((s.modEbd fun e => { e with bank := some l, segs := [] }).setEb (eb0 + b.a * 256)).set R.EBD.BANK_ENTRY.EB
    (ebReport eb0)).set R.EBD.BANK_SECS.SECS 0).set R.EBD.STAT.BANK_SRC src
  if th.isNone then (s1.set R.EBD.STAT.TEMP_FAIL 1).evt R.EBD.EVT.TEMP_FAIL else s1.set R.EBD.STAT.TEMP_FAIL 0

/-- Whole seconds since t_0 that BANK_SECS has still to count (R73). -/
def State.bankUncounted (s : State) : Nat :=
  match s.ebd.bank with
  | some l => if s.ebMode = 2 ∨ s.ebMode = 3 then (s.now - l.t0).toNat / secU - l.secs else 0
  | none => 0

/-- BANK_SECS brought up to the present tick: a CNT field, which counts on from what software has loaded (R73, R549). -/
def State.bankCount (s : State) : State :=
  let n := s.bankUncounted
  (s.modEbd fun e => { e with bank := e.bank.map (fun l => { l with secs := l.secs + n }) }).incBy R.EBD.BANK_SECS.SECS n

/-- Θ at a second boundary after t_0 (R75), and the whole seconds of banking (R73). -/
def State.bankSecond (s : State) : State :=
  match s.ebd.bank with
  | none => s
  | some l =>
    if (s.ebMode ≠ 2 ∧ s.ebMode ≠ 3) ∨ s.now ≤ l.t0 then s
    else
      let th := s.theta?
      let fail := th.isNone && !l.substituted
      let l1 := { l with substituted := l.substituted || th.isNone }
      let now := th.getD l.thetaLast
      let l2 := { l1 with thetaLast := now, tLast := s.now }
      let s1 := ((s.modEbd fun e => { e with bank := some l2 }).growEb
        (thetaGrow l.set.q (l1.bracket l.thetaLast now) secU)).bankCount
      if fail then (s1.set R.EBD.STAT.TEMP_FAIL 1).evt R.EBD.EVT.TEMP_FAIL else s1

/-- The EBD's work at a second boundary: Θ, EB_SEC, the model's reload, clockClass (R74, R75, R89). -/
def State.ebdSecond (s : State) : State :=
  let s1 := s.bankSecond.showBank
  let s2 := s1.set R.EBD.EB_SEC.EB (s1.ebAt s1.now)
  s2.ebSaturation.classSecond

/-! ### Loop updates (R65 to R72) -/

/-- The mode that the Hearth and SEL imply at an update (R65). UNKNOWN is left for LOCKED, for SWITCHING when SEL enters FREEZE
and for BANKING when SEL enters banking; after SYN0's coast only for LOCKED (R188). -/
def State.ebNextMode (s : State) : Nat :=
  let sel := s.get R.SEL.STAT.STATE
  if s.get R.TSC.STAT.STATE = 0 ∨ s.ebd.saturating then 0
  else if sel = 1 then 1
  else if sel = 0 ∨ s.ebd.unknownHold = true then 0
  else if s.ebMode = 0 then (if sel = s.ebd.selSeen then 0 else if sel = 2 then 2 else if sel = 5 then 3 else 0)
  else if sel = 5 then 3
  else 2

/-- LOCKED entered: EB goes on from its extrapolated value, with no candidates (R77, R79). -/
def State.ebLockEntry (s : State) : State :=
  let e := s.ebExtend s.now
  (s.modEbd fun x => { x with anchor := e, tm := s.now, cands := [], segs := [(s.now, s.lockRate)], unknownHold := false
                     }).setEb e

/-- EB saturates and enters UNKNOWN (R64, R76, R187, R188). -/
def State.ebUnknown (s : State) : State :=
  (((s.modEbd fun e => { e with anchor := ebMax, cands := [], segs := [] }).setEb ebMax).set R.EBD.STAT.MODE 0).ebSaturation

/-- The mode change of a loop update (R65, R73, R77). -/
def State.ebModeUpdate (s : State) : State :=
  let old := s.ebMode
  let new := s.ebNextMode
  let entering := s.get R.SEL.STAT.STATE ≠ s.ebd.selSeen
  let s1 :=
    if new = 0 then (if old = 0 then s else s.bankCount.ebUnknown)
    else if new = 1 then (if old = 1 then s else (s.bankCount.ebLockEntry).set R.EBD.STAT.MODE 1)
    else if old = new ∧ !entering then s
    else if old = 2 ∧ new = 2 then s
    else (s.bankLatch).set R.EBD.STAT.MODE new
  s1.modEbd fun e => { e with selSeen := s.get R.SEL.STAT.STATE }

/-- |D| in 2^-16 ns, rounded up, of an offset in ns. -/
def absU (d : Rat) : Nat := ((if d < 0 then -d else d) * 65536).ceil.toNat

/-- Growth of the interval that ends at this update, charged to the accumulator (R71). -/
def State.ebAccrue (s : State) : State :=
  if s.ebMode = 1 then s.growEb (growSegs s.ebd.segs s.hearth.lastUpdate s.now) else s

/-- The segments that still matter after an anchor at `tm`: those that begin after it, and the one it lies in. -/
def segsFrom (tm : Int) : List (Int × Nat) → List (Int × Nat)
  | [] => []
  | (t, r) :: rest => if t ≤ tm then [(t, r)] else (t, r) :: segsFrom tm rest

/-- A candidate from a report of the selected slot (R66 to R68): the anchor, the accumulator from t_m on, the events. A
saturated E is unknown and can be broken by no measurement (R64). -/
def State.ebCandidate (r : Report) (s : State) : State :=
  let margin := s.get R.EBD.LOOP_MARGIN.VALUE * 256
  let refb := r.refb * 256
  let meas := r.meas * 256
  let d := absU r.d
  let x := min ebMax (refb + meas + d + margin)
  let tm := (r.tm * secU).floor
  let e := min ebMax (s.ebd.anchor + growSegs s.ebd.segs s.ebd.tm tm)
  let cands := (x :: s.ebd.cands).take 15
  let win := s.get R.EBD.CFG.SHRINK_WIN
  let w := (cands.take win).foldl max 0
  let enough := decide (win ≤ s.ebd.cands.length + 1)
  let breach := decide (ebReport e < 0xFFFFFFFF) && decide (e + meas + refb < d)
  let anchor := if e < x ∨ breach then x else if enough then min e w else e
  let s1 := (s.modEbd fun b => { b with anchor := anchor, tm := tm, cands := cands, segs := segsFrom tm b.segs }).setEb
    (anchor + growSegs s.ebd.segs tm s.now)
  let s2 := ((((s1.set R.EBD.REFB.BOUND r.refb).set R.EBD.MEASB.BOUND r.meas).set R.EBD.LOOPB.BOUND
    (min 0xFFFFFFFF (ceilDiv (d + margin) 256))).set R.EBD.ANCHOR.EB (ebReport anchor)).set R.EBD.STAT.SLOT r.slot
  let s3 := if e < x ∨ breach then s2.evt R.EBD.EVT.RISE else if anchor < e then s2.evt R.EBD.EVT.SHRINK else s2
  if breach then ((s3.inc R.EBD.BREACH_CNT.COUNT).evt R.EBD.EVT.BREACH).file F.ebdBreach r.slot 0 else s3

/-- The step's anchor: the bounds of the stepping slot, at the instant of D moved by the step (R69). -/
def State.ebStepAnchor (r : Report) (d : Int) (s : State) : State :=
  let anchor := min ebMax ((r.refb + r.meas + s.get R.EBD.LOOP_MARGIN.VALUE) * 256)
  let tm := (r.tm * secU).floor + d
  let segs := if s.ebd.segs = [] then [(tm, s.lockRate)] else s.ebd.segs.map (fun (t, k) => (t + d, k))
  let s1 := (s.modEbd fun e => { e with anchor := anchor, tm := tm, cands := [anchor], segs := segs, unknownHold := false }).setEb
    (anchor + growSegs segs tm s.now)
  (((((s1.set R.EBD.REFB.BOUND r.refb).set R.EBD.MEASB.BOUND r.meas).set R.EBD.LOOPB.BOUND
    (s.get R.EBD.LOOP_MARGIN.VALUE)).set R.EBD.ANCHOR.EB (ebReport anchor)).set R.EBD.STAT.SLOT r.slot).set R.EBD.STAT.MODE
        (if s.get R.SEL.STAT.STATE = 1 then 1 else s.ebMode) |>.ebSaturation

/-- After the new P is in force: the segment that grows from this update on (R71), without limit of their number (R72), and the
saturation that growth or an anchor has brought or ended (R64). -/
def State.ebSegment (s : State) : State :=
  (if s.ebMode = 1 then s.modEbd fun e => { e with segs := (s.now, s.lockRate) :: e.segs } else s).ebSaturation

/-- An identity change taken at the first update at least 128 ticks after it: in BANKING or SWITCHING EB saturates (R76). -/
def State.ebIdentity (s : State) : State :=
  if s.ebd.identPending then
    if s.ebd.identLate then s.modEbd fun e => { e with identLate := false }
    else
      let s1 := s.modEbd fun e => { e with identPending := false }
      if s.ebMode = 2 ∨ s.ebMode = 3 then s1.ebUnknown else s1
  else s

/-! ### Groups of the block -/

/-- Group BANK at the second: the host's values become the set in force (R74). DESIGN CHOICE: R74 names only BANK_COMMIT as the way
to host values, and a profile's or a switch's values of the group, which R521 and R523 commit as the host would, count as such
too, those of the reset column included (log entry 112). -/
def State.bankTakeCommit (s : State) : State :=
  match s.committed .ebdBank with
  | none => s
  | some c =>
    let s1 := ((s.uncommit .ebdBank).set R.EBD.CTL.BANK_COMMIT 0)
    let b : BankSet := ⟨s.valueIn c.copy R.EBD.BANK_A.A, s.valueIn c.copy R.EBD.BANK_B.B,
      s.valueIn c.copy R.EBD.BANK_C.C, s.valueIn c.copy R.EBD.BANK_Q.Q⟩
    (s1.load c.copy).modEbd fun e => { e with hostSet := some b }

/-- BANK_RELEASE at the second (R74). DESIGN CHOICE: a commit due at the same boundary comes first, and the release then drops it;
the spec gives no order (log entry 112). -/
def State.bankTakeRelease (s : State) : State :=
  if s.flag R.EBD.CTL.BANK_RELEASE then (s.set R.EBD.CTL.BANK_RELEASE 0).modEbd fun e => { e with hostSet := none }
  else s

/-! ### The commands of the chapter -/

/-- BANK_COMMIT (R74). -/
def execBankCommit (s : State) : Out := .next (s.commit .ebdBank R.EBD.CTL.BANK_COMMIT)

/-- BANK_RELEASE (R74): taken at the next second. -/
def execBankRelease (s : State) : Out := .next (s.set R.EBD.CTL.BANK_RELEASE 1)

/-- CC_COMMIT (R92). -/
def execCcCommit (s : State) : Out := .next (s.commit .ebdCct R.EBD.CTL.CC_COMMIT)

/-- QUERY (R83): EB at the query instant, t_E the present tick; saturated while the Hearth is held in reset; an invalid
instant is rejected with a fault. A query is over in its own command, so that QUERY_BUSY reads 0 between commands. -/
def execQuery (s : State) : Out :=
  if s.flag R.EBD.STAT.QUERY_BUSY then .next s
  else if 1000000000 ≤ s.get R.EBD.QUERY_NS.NS then .next (s.file F.ebdBadTime 0 0)
  else
    let t : Int := (s.getTime R.EBD.QUERY_FRAC.FRAC R.EBD.QUERY_NS.NS R.EBD.QUERY_SEC_LO.SEC R.EBD.QUERY_SEC_HI.SEC : Nat)
    let past := s.hearth.running && decide (t < s.now)
    let range := s.hearth.running && decide ((secU : Int) < t - s.now)
    let eb := if s.hearth.running then s.ebAt t else 0xFFFFFFFF
    .next (((((s.set R.EBD.QUERY_EB.EB eb).setB R.EBD.QUERY_STAT.PAST past).setB R.EBD.QUERY_STAT.RANGE range).set
      R.EBD.STAT.QUERY_BUSY 0).evt R.EBD.EVT.QUERY_DONE)

end Sys2Proof.Machine
end

