-- ==== Sys2Proof/Machine/Civil.lean ====
section
/-! DEFINITION. Calendar dates, decimal digits, NMEA checksums, CRC-16 and CRC-32C (R103, R149, R203,
R208, R209). -/

namespace Sys2Proof.Machine

/-- Days of each month in a common year. -/
def monthDays : List Nat := [31, 28, 31, 30, 31, 30, 31, 31, 30, 31, 30, 31]

/-- A Gregorian leap year. -/
def leapYear (y : Nat) : Bool := y % 4 == 0 && (y % 100 != 0 || y % 400 == 0)

/-- Days from 1970-01-01 to the first day of year `y`, for y at least 1970. -/
def daysToYear (y : Nat) : Nat :=
  let p := y - 1
  (y - 1970) * 365 + (p / 4 - 492) - (p / 100 - 19) + (p / 400 - 4)

/-- Days of the year before month `m`, counted from 1. -/
def daysBeforeMonth (y m : Nat) : Nat :=
  (monthDays.take (m - 1)).sum + (if leapYear y && decide (2 < m) then 1 else 0)

/-- Days from 1970-01-01 to a date. -/
def daysOfDate (y m d : Nat) : Nat := daysToYear y + daysBeforeMonth y m + (d - 1)

/-- The year that holds day `n` from 1970-01-01. -/
def yearOfDay (n : Nat) : Nat :=
  let y := 1970 + n * 400 / 146097
  if daysToYear (y + 1) ≤ n then y + 1 else if n < daysToYear y then y - 1 else y

/-- The day of the year, from 0. -/
def yearDay (n : Nat) : Nat := n - daysToYear (yearOfDay n)

/-- The month of day `n`, from 1. -/
def monthOfDay (n : Nat) : Nat :=
  let y := yearOfDay n
  ((List.range 12).filter (fun m => decide (daysBeforeMonth y (m + 1) ≤ yearDay n))).length

/-- The day of the month, from 1. -/
def dayOfMonth (n : Nat) : Nat := yearDay n - daysBeforeMonth (yearOfDay n) (monthOfDay n) + 1

/-- ASCII of a decimal digit. -/
def digit (d : Nat) : Byte := BitVec.ofNat 8 (48 + d % 10)

/-- `n` decimal digits of `v`. -/
def digits (n v : Nat) : List Byte := (List.range n).reverse.map (fun i => digit (v / 10 ^ i))

/-- `v` in decimal without leading zeros. -/
def decimal (v : Nat) : List Byte :=
  let ds := digits 24 v
  let t := ds.dropWhile (fun b => b == 48)
  if t.isEmpty then [48] else t

/-- ASCII of a hexadecimal digit, capital. -/
def hexDigit (d : Nat) : Byte := BitVec.ofNat 8 (if d % 16 < 10 then 48 + d % 16 else 55 + d % 16)

/-- The value of an ASCII decimal digit. -/
def digitVal? (b : Byte) : Option Nat := if 48 ≤ b.toNat ∧ b.toNat ≤ 57 then some (b.toNat - 48) else none

/-- The number a list of decimal digits spells; none for no digits or any other character. -/
def decimalVal? : List Byte → Option Nat
  | [] => none
  | bs => bs.foldl (fun acc b => match acc, digitVal? b with | some v, some d => some (v * 10 + d) | _, _ => none) (some 0)

/-- The value of an ASCII hexadecimal digit. -/
def hexVal? (b : Byte) : Option Nat :=
  let n := b.toNat
  if 48 ≤ n ∧ n ≤ 57 then some (n - 48) else if 65 ≤ n ∧ n ≤ 70 then some (n - 55)
  else if 97 ≤ n ∧ n ≤ 102 then some (n - 87) else none

/-- The XOR of characters. -/
def xorAll (bs : List Byte) : Byte := bs.foldl (· ^^^ ·) 0

/-- A sentence body between $ and *, framed with its checksum, CR and LF (R208). -/
def nmea (body : List Byte) : List Byte :=
  let x := (xorAll body).toNat
  [0x24] ++ body ++ [0x2A, hexDigit (x / 16), hexDigit x, 0x0D, 0x0A]

/-- The characters of a string. -/
def ascii (t : String) : List Byte := t.toList.map (fun c => BitVec.ofNat 8 c.toNat)

/-- A list cut at each comma. -/
def splitCommas (bs : List Byte) : List (List Byte) :=
  bs.foldr (fun b acc => if b = 0x2C then [] :: acc else match acc with | [] => [[b]] | x :: xs => (b :: x) :: xs) [[]]

/-- One bit of CRC-16/CCITT-FALSE. -/
def crc16Bit (c : Nat) : Nat := if bitOf c 15 then (c * 2 % 65536) ^^^ 0x1021 else c * 2 % 65536

/-- CRC-16/CCITT-FALSE: polynomial 0x1021, initial 0xFFFF (R209). -/
def crc16 (bs : List Byte) : Nat :=
  bs.foldl (fun c b => (List.range 8).foldl (fun c _ => crc16Bit c) (c ^^^ (b.toNat * 256))) 0xFFFF

/-- One bit of CRC-32C, reflected. -/
def crc32cBit (c : Nat) : Nat := if c % 2 = 1 then (c / 2) ^^^ 0x82F63B78 else c / 2

/-- CRC-32C (Castagnoli), as the identity, the kindling image and the embers use it (R149). -/
def crc32c (bs : List Byte) : Nat :=
  (bs.foldl (fun c b => (List.range 8).foldl (fun c _ => crc32cBit c) (c ^^^ b.toNat)) 0xFFFFFFFF) ^^^ 0xFFFFFFFF

end Sys2Proof.Machine
end

