-- ==== Sys2Proof/Machine/Commit.lean ====
section
/-! DEFINITION. A group at its boundary (R544, R545): the copy is put into force whole where the group's rule accepts it,
else nothing of it changes and the block's CFG_REJECTED event is set; a refusal within a profile switch is counted (R523). -/

namespace Sys2Proof.Machine

/-- The copy of group `g` taken at its boundary. `ok old new` judges the registers as the commit would leave them, and
`after old new` is what the change brings with it. -/
def State.takeGroup (g : Group) (cmd reject : Field) (ok : State → State → Bool) (after : State → State → State)
    (s : State) : State :=
  match s.committed g with
  | none => s
  | some c =>
    let s0 := (s.uncommit g).set cmd 0
    let new := s0.load c.copy
    let done (t : State) : State := { t with nvc := { t.nvc with switching := t.nvc.switching.filter (fun x => x != g) } }
    if ok s0 new then done (after s0 new)
    else if s0.nvc.switching.contains g then (done (s0.evt reject)).inc R.NVC.GRP_REJ_CNT.COUNT
    else s0.evt reject

/-- A field differs between two states. -/
def State.differ (a b : State) (f : Field) : Bool := a.get f != b.get f

end Sys2Proof.Machine
end

