-- ==== Sys2Proof/Machine/Tdc.lean ====
section
/-! DEFINITION. Time-interval measurement: states, calibration, ties and stamps, intervals, result queues (chapter 07). -/

namespace Sys2Proof.Machine

/-- The block's own state changed. -/
def State.modTdc (f : Tdc → Tdc) (s : State) : State := { s with tdc := f s.tdc }

/-- A channel with nothing in it. -/
def TdcCh.empty : TdcCh := { queue := [], lostNext := false, opened := none, lastEdge := none, divided := 0 }

/-- Channel `n`. -/
def State.tdcCh (s : State) (n : Nat) : TdcCh := Map.getD s.tdc.chans n TdcCh.empty

/-- Channel `n` changed; ENTRIES and OPEN follow. -/
def State.setTdcCh (n : Nat) (c : TdcCh) (s : State) : State :=
  ((s.modTdc fun t => { t with chans := Map.put t.chans n c }).set (R.TDC.CH.STAT.ENTRIES n) c.queue.length).setB
    (R.TDC.CH.STAT.OPEN n) c.opened.isSome

/-- The owner codes of STAT.OWNER (R216). -/
def State.tdcOwner (s : State) (n : Nat) : Nat := s.get (R.TDC.CH.STAT.OWNER n)

/-- A channel stamps: the TDC is READY and the channel has an owner other than HOST or is enabled. -/
def State.tdcOn (s : State) (n : Nat) : Bool :=
  s.get R.TDC.STAT.STATE == 2 && (s.tdcOwner n != 0 || s.flag (R.TDC.CH.CFG.EN n))

/-- MODE in force: an owner other than HOST uses its channel in timestamp mode (R95, R217). -/
def State.tdcMode (s : State) (n : Nat) : Nat := if s.tdcOwner n = 0 then s.get (R.TDC.CH.CFG.MODE n) else 0

/-- A record into the result queue of a channel whose owner is HOST or that is spied on (R217, R235). -/
def State.tdcQueue (n : Nat) (r : TdcRec) (s : State) : State :=
  if s.tdcOwner n = 0 ∨ s.flag (R.TDC.CH.CFG.SPY n) then
    let c := s.tdcCh n
    if c.queue.length < 16 then
      s.setTdcCh n { c with queue := c.queue ++ [{ r with lost := c.lostNext }], lostNext := false }
    else ((s.setTdcCh n { c with lostNext := true }).inc (R.TDC.CH.OVF_CNT.COUNT n)).evt R.TDC.EVT.OVERFLOW
  else s

/-- The flags every record takes: STALE of its channel. -/
def State.tdcRec (s : State) (n : Nat) : TdcRec :=
  { interval := false, timeout := false, stale := s.flag (R.TDC.CH.STAT.STALE n), lost := false, abort := false,
    stepped := false, noTime := false, data := 0 }

/-- An open interval aborted with an ABORT record (R218, R222, R234). -/
def State.tdcAbort (n : Nat) (s : State) : State :=
  match (s.tdcCh n).opened with
  | none => s
  | some _ =>
    (s.setTdcCh n { s.tdcCh n with opened := none }).tdcQueue n { s.tdcRec n with interval := true, abort := true }

/-- Every open interval aborted. -/
def State.tdcAbortAll (s : State) : State := (List.range 32).foldl (fun st n => st.tdcAbort n) s

/-! ### States (R220 to R223) -/

/-- The TDC leaves for NOTBASE: CK_TDC is gated, open intervals abort, and no edge is remembered, since u counts anew from the next
READY (R220, R222, R230). -/
def State.tdcNoTbase (s : State) : State :=
  let s1 := s.tdcAbortAll.set R.TDC.STAT.STATE 0
  (s1.setClock 11 false).modTdc fun t =>
    { t with good := 0, bad := 0, ties := [], chans := t.chans.map (fun (n, c) => (n, { c with lastEdge := none })) }

/-- TBASE is lost (R221). -/
def State.tdcLoss (s : State) : State :=
  let s1 := (s.tdcNoTbase.set R.TDC.STAT.TBASE_PRESENT 0).modTdc fun t => { t with lossSince := true }
  ((s1.evt R.TDC.EVT.TBASE_LOSS).inc R.TDC.LOSS_CNT.COUNT).file F.tdcTbaseLoss 0 0

/-- A window of 64 CK_AON cycles, 1.953125 ms, in range: within ±10 % of NOM × 1.953125 ms (R221). -/
def State.tbaseInRange (s : State) (count : Nat) : Bool :=
  let nom := s.get R.TDC.TBASE.NOM * 1953125
  decide (9 * nom ≤ 10 * count * 10 ^ 9) && decide (10 * count * 10 ^ 9 ≤ 11 * nom)

/-- Entry to READY (R220, R223): results are stale until each interpolator has been exchanged, and the replica is invalid until two
records have come. -/
def State.tdcReady (s : State) : State :=
  let s1 := (s.set R.TDC.STAT.STATE 2).setClock 11 true
  let s2 := (List.range 32).foldl (fun st n => st.set (R.TDC.CH.STAT.STALE n) 1) s1
  let s3 := (s2.set R.TDC.STAT.CAL_COMPLETE 0).evt R.TDC.EVT.READY
  let s4 := if s.tdc.lossSince && s.tdc.readyOnce then s3.evt R.TDC.EVT.TBASE_RETURN else s3
  (s4.modTdc fun t => { t with lossSince := false, readyOnce := true, exchanged := [] }).setReplica 11 Replica.invalid

/-! ### Ties and stamps (R228 to R231) -/

/-- The ratio r in ticks per ps over the ties: the least-squares slope of tick number over stamp, 1/1600 with fewer than two
(R228). -/
def tieRatio (ties : List TdcTie) : Rat :=
  match ties with
  | [] => 1 / 1600
  | [_] => 1 / 1600
  | t0 :: _ =>
    -- tick differences from the newest tie, as numbers of ticks back
    let xs : List Rat := ties.map (fun t => (t.u - t0.u : Rat))
    let ys : List Rat := ties.map (fun t => (-(t0.rec_.tick - t.rec_.tick).toNat : Rat))
    let n : Rat := ties.length
    let sx := xs.sum
    let sy := ys.sum
    let sxy := (xs.zipWith (· * ·) ys).sum
    let sxx := (xs.map (fun x => x * x)).sum
    let d := n * sxx - sx * sx
    if d = 0 then 1 / 1600 else (n * sxy - sx * sy) / d

/-- r departs from 1/1600 by more than 200 ppm (R228). -/
def ratioBad (r : Rat) : Bool := decide (r * 1600 < 9998 / 10000) || decide (10002 / 10000 < r * 1600)

/-- The record of a tick: from the one that governs it, of those the replica and the tie hold (R57, R229, R230). -/
def State.tdcHearth (s : State) (tie : TdcTie) (k : BitVec 32) : HearthRecord :=
  match (s.replica 11).recordFor k with
  | some r => if (k - r.tick).toNat ≤ (k - tie.rec_.tick).toNat then r.at_ k else tie.rec_.at_ k
  | none => tie.rec_.at_ k

/-- The TIME96 stamp of an edge at `u`, in 2^-16 ns, from the latest tie at or before it, with the record of the tick it lands in;
none without a tie, or while the CK_TDC replica is invalid (R223, R229). -/
def State.tdcStamp (s : State) (u : Int) : Option (Int × HearthRecord) :=
  match s.tdc.ties.find? (fun t => decide (t.u ≤ u)) with
  | none => none
  | some tie =>
    if (s.replica 11).valid then
      let e : Rat := (u - tie.u : Rat) * tieRatio s.tdc.ties
      let k := e.floor
      let frac := e - k
      let r := s.tdcHearth tie (tie.rec_.tick + BitVec.ofNat 32 k.toNat)
      let adv : Rat := ((t96Lin r.lane.tick.time : Int) - (t96Lin r.lane.time : Int) : Int)
      some ((t96Lin r.lane.time : Int) + (frac * adv + 1 / 2).floor, r)
    else none

/-- The compensation of channels 0 to 23: 3.2 ns and the signed trim (R231). -/
def State.tdcCompensate (s : State) (n : Nat) (u : Int) : Int :=
  if n < 24 then u - 3200 + s.sget (R.TDC.CH.SKEW.PS n) else u

/-- The interpolator that serves a channel. -/
def State.tdcInterp (s : State) (n : Nat) : Nat := Map.getD s.tdc.interp n n

/-- The centre of a bin of an interpolator's table, ps (R224). -/
def State.tdcCentre (s : State) (i bin : Nat) : Rat :=
  match Map.get? s.tdc.tables i with
  | some t => t.getD bin 0
  | none => Config.firstCentre i bin

/-- The fine result of a capture: the mean of the four registers' table values, ps (R224). -/
def State.tdcFine (s : State) (n : Nat) (c : Capture) : Rat :=
  let i := s.tdcInterp n
  (s.tdcCentre i c.b0.toNat + s.tdcCentre i c.b1.toNat + s.tdcCentre i c.b2.toNat + s.tdcCentre i c.b3.toNat) / 4

/-- The stamp in TDC base, u = 4,000 ps × coarse − fine, resolved to 1 ps (R224); which way it is rounded no rule says. -/
def State.tdcRaw (s : State) (n : Nat) (c : Capture) : Int := s.roundFree (4000 * (c.coarse : Rat) - s.tdcFine n c)

/-- A divided edge on a channel at `raw` is stamped, or not (R222, R223, R231). -/
def State.tdcTake (n : Nat) (raw : Int) (s : State) : Option Stamp × State :=
  if !s.tdcOn n then (none, s)
  else
    let c := s.tdcCh n
    let tooSoon := match c.lastEdge with | some p => decide (raw - p < 8000) | none => false
    let u := s.tdcCompensate n raw
    let t := s.tdcStamp u
    if tooSoon || (s.hearth.running && t.isNone) then (none, s.inc (R.TDC.CH.DEAD_CNT.COUNT n))
    else
      let st : Stamp := match t with
        | some (x, r) => if s.hearth.running then ⟨u, some x, r.steps, r.stepSum⟩ else ⟨u, none, 0, 0⟩
        | none => ⟨u, none, 0, 0⟩
      (some st, (s.setTdcCh n { c with lastEdge := some raw }).inc (R.TDC.CH.EDGE_CNT.COUNT n))

/-- The divider of a channel (R97, R217, R231): that of REFn for REF's channels; HOST's own; no other owner divides. -/
def State.tdcDiv (s : State) (n : Nat) : Nat :=
  if s.tdcOwner n = 0 then s.get (R.TDC.CH.DIV.DIV n) else if s.tdcOwner n = 1 then s.get (R.REF.SLOT.DIV.DIV n) else 1

/-- Active edges of a channel that stamps go through its divider; is the last of them a divided edge? Those in the dead time are
counted, and not stamped (R231). DESIGN CHOICE: they pass the divider none the less (log entry 113). -/
def State.tdcDivide (n : Nat) (u : ActiveEdge) (s : State) : Bool × State :=
  if !s.tdcOn n then (false, s)
  else
    let k := ((s.tdcCh n).divided + u.edges) % max 1 (s.tdcDiv n)
    (k == 0, (s.setTdcCh n { s.tdcCh n with divided := k }).incBy (R.TDC.CH.DEAD_CNT.COUNT n) u.dead)

/-! ### Intervals and queues (R231 to R235) -/

/-- The timeout of a channel in ps (R233). -/
def State.tdcTimeout (s : State) (n : Nat) : Int := 4000 * (s.get (R.TDC.CH.TIMEOUT.T n) : Int)

/-- A stop stamp offered to the open interval of channel `n`: a valid stop is strictly later than the start and not beyond
the timeout, both by TDC base (R232 to R234). -/
def State.tdcStop (n : Nat) (st : Stamp) (s : State) : State :=
  match (s.tdcCh n).opened with
  | none => s
  | some o =>
    if o.u < st.u ∧ st.u ≤ o.u + s.tdcTimeout n then
      let base := s.flag (R.TDC.CH.CFG.BASE n)
      let stepped := base && decide (o.steps ≠ st.steps)
      let ps : Int := match base, o.t, st.t with
        | true, some a, some b => ((b - a - (st.stepSum - o.stepSum)) * 1000 * 2 + 65536) / (2 * 65536)
        | _, _, _ => st.u - o.u
      (s.setTdcCh n { s.tdcCh n with opened := none }).tdcQueue n
        { s.tdcRec n with interval := true, stepped := stepped, data := ps.toNat % 2 ^ 40 }
    else s

/-- A start stamp of channel `n` in INTERVAL mode (R232). -/
def State.tdcStart (n : Nat) (st : Stamp) (s : State) : State :=
  match (s.tdcCh n).opened with
  | some _ => s.inc (R.TDC.CH.DEAD_CNT.COUNT n)
  | none => s.setTdcCh n { s.tdcCh n with opened := some st }

/-- A stamp serves every interval that names its channel as stop (R232). -/
def State.tdcServeStops (n : Nat) (st : Stamp) (s : State) : State :=
  (List.range 32).foldl (fun acc m =>
    if acc.tdcMode m = 1 ∧ acc.tdcOn m ∧ acc.get (R.TDC.CH.CFG.STOP_CH m) = n then acc.tdcStop m st else acc) s

/-- The record of a timestamp: TIME96, or TDC base alone while the Hearth is held in reset (R230). -/
def State.tdcTimeRec (s : State) (n : Nat) (st : Stamp) : TdcRec :=
  match st.t with
  | some t => { s.tdcRec n with data := t.toNat }
  | none => { s.tdcRec n with noTime := true, data := st.u.toNat }

/-- What MODE does with a stamp (R231, R232). -/
def State.tdcUse (n : Nat) (st : Stamp) (s : State) : State :=
  let s1 := s.tdcServeStops n st
  match s1.tdcMode n with
  | 0 => s1.tdcQueue n (s1.tdcTimeRec n st)
  | 1 => s1.tdcStart n st
  | _ => s1

/-! ### Groups -/

/-- A channel is enabled: owned by another block, or by its own bit. -/
def State.tdcEnabled (s : State) (n : Nat) : Bool := s.tdcOwner n != 0 || s.flag (R.TDC.CH.CFG.EN n)

/-- A commit of group CHn is accepted (R217, R231 to R233): for an owned channel only SPY and SKEW may change. -/
def tdcChOk (n : Nat) (old new : State) : Bool :=
  let owned := old.tdcOwner n != 0
  let same (f : Field) : Bool := !old.differ new f
  if owned then
    same (R.TDC.CH.CFG.EN n) && same (R.TDC.CH.CFG.MODE n) && same (R.TDC.CH.CFG.POL n) && same (R.TDC.CH.CFG.STOP_CH n) &&
    same (R.TDC.CH.CFG.BASE n) && same (R.TDC.CH.DIV.DIV n) && same (R.TDC.CH.TIMEOUT.T n)
  else
    new.get (R.TDC.CH.CFG.MODE n) != 3 && new.get (R.TDC.CH.DIV.DIV n) != 0 && decide (250 ≤ new.get (R.TDC.CH.TIMEOUT.T n)) &&
    (new.get (R.TDC.CH.CFG.MODE n) != 1 || new.tdcEnabled (new.get (R.TDC.CH.CFG.STOP_CH n)))

/-- Group CHn at the second: an open interval aborts (R234). -/
def State.tdcChCommit (n : Nat) (s : State) : State :=
  s.takeGroup (.tdcCh n) (R.TDC.CH.CTL.COMMIT n) R.TDC.EVT.CFG_REJECTED (tdcChOk n) (fun _ new => new.tdcAbort n)

/-- A commit of group TB is accepted (R219). -/
def tdcTbOk (_old new : State) : Bool :=
  decide (10000000 ≤ new.get R.TDC.TBASE.NOM) && decide (new.get R.TDC.TBASE.NOM ≤ 100000000) &&
  decide (new.get R.TDC.TBASE_CFG.IO < 2)

/-- The seconds since calibration go on, saturating (R225). -/
def State.tdcAges (s : State) : State :=
  (List.range 32).foldl (fun st n => st.incSat (R.TDC.CH.CAL_AGE.SECS n) 1) s

/-- The owner of a channel 0 to 7 changes with its slot's enable (R218). -/
def State.tdcOwnerChange (n owner : Nat) (s : State) : State :=
  if s.tdcOwner n = owner then s
  else ((s.tdcAbort n).set (R.TDC.CH.STAT.OWNER n) owner).evt R.TDC.EVT.OWNER_CHANGE

/-! ### The commands of the chapter -/

/-- TB_COMMIT (R219, R237). -/
def execTbCommit (s : State) : Out := .next (s.commit .tdcTb R.TDC.CTL.TB_COMMIT)

/-- TDC_CH_COMMIT (R237). -/
def execTdcChCommit (n : Fin 32) (s : State) : Out := .next (s.commit (.tdcCh n) (R.TDC.CH.CTL.COMMIT n))

/-- TDC_FLUSH (R235): the queue is emptied at once. -/
def execTdcFlush (n : Fin 32) (s : State) : Out := .next (s.setTdcCh n { s.tdcCh n with queue := [] })

/-- The words of a record in RES0 to RES3 (R235). -/
def State.tdcShow (n : Nat) (r : TdcRec) (s : State) : State :=
  let flags := (((((((s.set (R.TDC.CH.RES0.VALID n) 1).setB (R.TDC.CH.RES0.KIND n) r.interval).setB
    (R.TDC.CH.RES0.TIMEOUT n) r.timeout).setB (R.TDC.CH.RES0.STALE n) r.stale).setB (R.TDC.CH.RES0.LOST n) r.lost).setB
    (R.TDC.CH.RES0.ABORT n) r.abort).setB (R.TDC.CH.RES0.STEPPED n) r.stepped).setB (R.TDC.CH.RES0.NOTIME n) r.noTime
  if r.interval then
    ((((flags.set (R.TDC.CH.RES0.FRAC n) 0).set (R.TDC.CH.RES1.DATA n) r.data).set (R.TDC.CH.RES2.DATA n)
      (r.data / 2 ^ 32)).set (R.TDC.CH.RES3.DATA n) 0)
  else if r.noTime then
    ((((flags.set (R.TDC.CH.RES0.FRAC n) 0).set (R.TDC.CH.RES1.DATA n) r.data).set (R.TDC.CH.RES2.DATA n)
      (r.data / 2 ^ 32)).set (R.TDC.CH.RES3.DATA n) (r.data / 2 ^ 64))
  else
    ((((flags.set (R.TDC.CH.RES0.FRAC n) (r.data % nsU)).set (R.TDC.CH.RES1.DATA n) (r.data % secU / nsU)).set
      (R.TDC.CH.RES2.DATA n) (r.data / secU)).set (R.TDC.CH.RES3.DATA n) (r.data / secU / 2 ^ 32))

/-- TDC_RES_POP (R235): a read of RES0 pops the head record; with the queue empty VALID reads 0 and RES1 to RES3 stay. -/
def execTdcResPop (n : Fin 32) (s : State) : Out :=
  let word (s : State) : Word := BitVec.ofNat 32 (s.rawWord (R.TDC.CH.RES0.VALID n).addr)
  match (s.tdcCh n).queue with
  | [] =>
    let s1 := s.set (R.TDC.CH.RES0.VALID n) 0
    .next (s1.emit (.hostData (word s1)))
  | r :: rest =>
    let s1 := (s.setTdcCh n { s.tdcCh n with queue := rest }).tdcShow n r
    .next (s1.emit (.hostData (word s1)))


/-- TDC_LOCK_TIMEOUT (R220): LOCKING falls back to NOTBASE with its fault. -/
def execTdcLockTimeout (s : State) : Out :=
  if s.get R.TDC.STAT.STATE = 1 then .next (s.tdcNoTbase.file F.tdcLockFail 0 0) else .next s

/-- The widths of the bins of a histogram of 2^`hits` hits, ps (R225). -/
def binWidths (hits : Nat) (hist : List Nat) : List Rat := hist.map (fun h => (4000 * h : Nat) / (2 ^ hits : Nat))

/-- The centres of bins of these widths, the first of which begins at `from_` (R225). -/
def binCentres (from_ : Rat) : List Rat → List Rat
  | [] => []
  | w :: ws => (from_ + w / 2) :: binCentres (from_ + w) ws

/-- The widths of the taps, of four bins each (R225). -/
def tapWidths : List Rat → List Rat
  | a :: b :: c :: d :: ws => (a + b + c + d) :: tapWidths ws
  | _ => []

/-- The calibration of the spare ends (R225 to R227): a tap outside 4 ps to 40 ps retires it; otherwise it takes its table and is
exchanged with the next channel. `diff`: the largest difference of the overlap in ps. DESIGN CHOICE: CAL_STAT saturates (log entry
113). -/
def State.spareCalDone (hist : List Nat) (diff : Nat) (s : State) : State :=
  if s.get R.TDC.STAT.STATE ≠ 2 ∨ !s.flag R.TDC.CAL.EN ∨ s.get R.TDC.STAT.RETIRED ≠ 0x3F then s
  else
    let spare := s.get R.TDC.STAT.SPARE
    let widths := binWidths s.tdc.hits hist
    let taps := tapWidths widths
    let lo := taps.foldl min 4000
    let hi := taps.foldl max 0
    let s1 := (((s.bump.set R.TDC.CAL_STAT.LAST spare).set R.TDC.CAL_STAT.WMIN (satN 8 (s.roundFree (4 * lo)).toNat)).set
      R.TDC.CAL_STAT.WMAX (satN 8 (s.roundFree (4 * hi)).toNat)).modTdc fun t => { t with hits := s.get R.TDC.CAL.HITS }
    if lo < 4 ∨ 40 < hi then
      ((s1.set R.TDC.STAT.RETIRED spare).evt R.TDC.EVT.CAL_BAD).file F.tdcCalBad spare 0
    else
      let n := s.tdc.nextCh
      let done := (n :: s.tdc.exchanged).eraseDups
      let turn := (spare :: s.tdc.rotated).eraseDups
      let s2 := (s1.set R.TDC.STAT.SPARE (s.tdcInterp n)).modTdc fun t =>
        { t with interp := Map.put t.interp n spare, tables := Map.put t.tables spare (binCentres 0 widths),
                 nextCh := (n + 1) % 32, exchanged := done, rotated := if turn.length = 33 then [] else turn }
      let s3 := ((s2.set (R.TDC.CH.STAT.STALE n) 0).set (R.TDC.CH.CAL_AGE.SECS n) 0).set R.TDC.SWAP_DIFF.PS diff
      let s4 := if done.length = 32 then s3.set R.TDC.STAT.CAL_COMPLETE 1 else s3
      let s5 := if turn.length = 33 then s4.inc R.TDC.CAL_ROT_CNT.COUNT else s4
      if 10 < diff then ((s5.evt R.TDC.EVT.CAL_MISMATCH).file F.tdcCalMismatch n 0) else s5

/-- INTERVAL_TIMEOUT (R233): the open interval ends with a TIMEOUT record and a result of zero. -/
def execIntervalTimeout (n : Fin 32) (s : State) : Out :=
  match (s.tdcCh n).opened with
  | none => .next s
  | some _ =>
    let s1 := (s.setTdcCh n { s.tdcCh n with opened := none }).tdcQueue n { s.tdcRec n with interval := true, timeout := true }
    .next ((s1.inc (R.TDC.CH.TIMEOUT_CNT.COUNT n)).evt R.TDC.EVT.TIMEOUT)

end Sys2Proof.Machine
end

