-- ==== Sys2Proof/Machine/Ref.lean ====
section
/-! DEFINITION. The source slots: presence, windows, time-of-day messages, the phase-jump detector, qualification
(chapter 03). Instants and D count 2^-16 ns; D̃ and Φ count 10^-15 of that. -/

namespace Sys2Proof.Machine

/-- A slot with nothing in it. -/
def RefSlot.empty : RefSlot :=
  { hist := [], pend := [], misses := 0, lastObs := 0, glitches := [], lastEdge := none, todGood := 0, todErr := 0, lastLabel := none,
    edgeWait := none, labelWait := none, labelBad := false, holdEnd := 0, qualStart := 0, outOfRate := 0, freqT0 := none, freqK := 0,
    accepted := [], sourceBad := false, lateChange := false, seen := false }

/-- Slot `n`. -/
def State.slot (s : State) (n : Nat) : RefSlot := Map.getD s.ref n RefSlot.empty

/-- Slot `n` changed. -/
def State.modSlot (n : Nat) (f : RefSlot → RefSlot) (s : State) : State := { s with ref := Map.put s.ref n (f (s.slot n)) }

/-- The state code of slot `n` (R117): 0 OFF, 1 WAIT, 2 QUALIFYING, 3 QUALIFIED, 4 HOLDOFF. -/
def State.slotState (s : State) (n : Nat) : Nat := s.get (R.REF.SLOT.STAT.STATE n)

/-- The slot takes part in qualification: QUALIFYING or QUALIFIED. -/
def State.slotActive (s : State) (n : Nat) : Bool := s.slotState n == 2 || s.slotState n == 3

/-- A slot's kind: 0 FREQ, 1 PHASE, 2 TIME (R94). -/
def State.slotKind (s : State) (n : Nat) : Nat := s.get (R.REF.SLOT.CFG.KIND n)

/-- One second in 2^-16 ns. -/
def secI : Int := secU

/-! ### Φ (R107) -/

/-- The phase that an applied rate gives the timescale while it moves by `d` (R20): S counts on CK_HRT, not on the timescale. -/
def steered (rate d : Int) : Int := rate * d * 10 ^ 15 / (10 ^ 15 + rate)

/-- Phase by the logged values: linear between two updates, by the applied S after the newest. -/
def phiLog (rate : Int) : List (Int × Int) → Int → Int
  | [], t => steered rate t
  | [(t0, p0)], t => if t0 ≤ t then p0 + steered rate (t - t0) else p0
  | (t1, p1) :: (t0, p0) :: rest, t =>
    if t1 ≤ t then p1 + steered rate (t - t1)
    else if t0 ≤ t then p0 + (p1 - p0) * (t - t0) / (t1 - t0)
    else phiLog rate ((t0, p0) :: rest) t

/-- Φ at instant `t`: the phase that applied S and the oscillator commands have moved the timescale (R107, R155). -/
def State.phiAt (s : State) (t : Int) : Int :=
  phiLog s.voted.s s.hearth.phi t + (s.hearth.phiOsc.map (fun (u, c) => if u < t then c * (t - u) else 0)).sum

/-! ### The fit (R107 to R109) -/

/-- Least squares of D̃ over a history: its value at `t0` and its slope in counts of 10^-15. -/
def lsqFit (h : List Obs) (t0 : Int) : Rat × Rat :=
  let n : Rat := h.length
  let xs : List Rat := h.map (fun o => (o.t - t0 : Int))
  let ys : List Rat := h.map (fun o => (o.dt : Int))
  let sx := xs.sum
  let sy := ys.sum
  let sxx := (xs.map (fun x => x * x)).sum
  let sxy := (xs.zipWith (· * ·) ys).sum
  let d := n * sxx - sx * sx
  let y := if d = 0 then 0 else (n * sxy - sx * sy) / d
  (if n = 0 then 0 else (sy - y * sx) / n, y)

/-- The fit of a history about its newest entry, and the mean square of its residuals. -/
def histFit (h : List Obs) : Int × Rat × Rat × Rat :=
  let t0 := match h with | o :: _ => o.t | [] => 0
  let (p, y) := lsqFit h t0
  let sq := (h.map (fun o => let e : Rat := o.dt - (p + y * (o.t - t0 : Int)); e * e)).sum
  (t0, p, y, if h.length = 0 then 0 else sq / (h.length : Rat))

/-- Units of D̃ in 2^-8 ns. -/
def dtUnit : Nat := 256 * 10 ^ 15

/-- |r| within `m` times the threshold max(J, K σ / 4), by squares (R107). -/
def withinThr (r : Rat) (m : Nat) (j k : Nat) (var : Rat) : Bool :=
  let lim : Rat := (m * j * dtUnit : Nat)
  decide (r * r ≤ lim * lim) || decide (r * r * 16 ≤ (m * m * k * k : Nat) * var)

/-- What the detector answers. -/
inductive Verdict where
  | accepted | held | jump
  deriving DecidableEq, Repr

/-- The detector of R107: the slot after the observation, the isolated outliers it discarded, its answer. -/
def RefSlot.observe (sl : RefSlot) (h k c j : Nat) (t d dt : Int) : RefSlot × Nat × Verdict :=
  let push (sl : RefSlot) : RefSlot := { sl with hist := ((⟨t, d, dt, 0⟩ : Obs) :: sl.hist).take h }
  if sl.hist.length < 4 then (push sl, 0, .accepted)
  else
    let (t0, p, y, var) := histFit sl.hist
    let r : Rat := dt - (p + y * (t - t0 : Int))
    if withinThr r 1 j k var then (push { sl with pend := [] }, sl.pend.length, .accepted)
    else
      let pend := (⟨t, d, dt, r⟩ : Obs) :: sl.pend
      if pend.length < c then ({ sl with pend := pend }, 0, .held)
      else
        let rs := pend.map Obs.r
        let hi := rs.foldl max r
        let lo := rs.foldl min r
        if withinThr (hi - lo) 2 j k var then ({ sl with pend := pend }, 0, .jump)
        else ({ sl with pend := pend.dropLast }, 1, .held)

/-! ### States (R117 to R121) -/

/-- A wait-to-restore timer is skipped: the Hearth is UNSET, or SEL is in FREERUN or BANKING with BANK_WTR = 0 (R128). -/
def State.wtrSkips (s : State) : Bool :=
  s.get R.TSC.STAT.STATE == 0 ||
    ((s.get R.SEL.STAT.STATE == 0 || s.get R.SEL.STAT.STATE == 5) && !s.flag R.SEL.CFG.BANK_WTR)

/-- WTR_RUN shows the running timers. -/
def State.showWtr (s : State) : State :=
  s.set R.SEL.WTR_RUN.RUNNING ((Map.keys s.sel.wtrEnd).foldl (fun v n => putBit v n true) 0)

/-- Slot `n`'s timer has run, or counts as having run (R128). -/
def State.wtrDone (n : Nat) (s : State) : State :=
  { s with sel := { s.sel with wtrEnd := Map.del s.sel.wtrEnd n, wtrRan := (n :: s.sel.wtrRan).eraseDups } }.showWtr

/-- Slot `n`'s timer starts (R128). -/
def State.wtrStart (n : Nat) (s : State) : State :=
  let wtr := s.get R.SEL.CFG.WTR
  if wtr = 0 ∨ s.wtrSkips = true then s.wtrDone n
  else { s with sel := { s.sel with wtrEnd := Map.put s.sel.wtrEnd n (s.now + wtr * secU),
                                    wtrRan := s.sel.wtrRan.filter (· != n) } }.showWtr

/-- Slot `n` leaves QUALIFIED: a running timer ends; one that has run counts until the slot is next QUALIFIED (R128). -/
def State.wtrStop (n : Nat) (s : State) : State :=
  { s with sel := { s.sel with wtrEnd := Map.del s.sel.wtrEnd n } }.showWtr

/-- A slot's state changed: STATE, CHG and STAT_Q, and its wait-to-restore timer. -/
def State.setSlotState (n st : Nat) (s : State) : State :=
  let old := s.slotState n
  if old = st then s
  else
    let s1 := ((s.set (R.REF.SLOT.STAT.STATE n) st).set R.REF.STAT_Q.QUALIFIED
      (putBit (s.get R.REF.STAT_Q.QUALIFIED) n (st == 3))).evtBit R.REF.CHG.CHANGED n
    if st = 3 then s1.wtrStart n else if old = 3 then s1.wtrStop n else s1

/-- Presence shown in both places (R99). -/
def State.setPresent (n : Nat) (b : Bool) (s : State) : State :=
  (s.setB (R.REF.SLOT.STAT.PRESENT n) b).set R.REF.STAT_Q.PRESENT (putBit (s.get R.REF.STAT_Q.PRESENT) n b)

/-- Entry to QUALIFYING, with empty history (R117). -/
def State.slotQualify (n : Nat) (s : State) : State :=
  (s.modSlot n fun sl => { sl with hist := [], pend := [], misses := 0, lastObs := s.now, glitches := [], qualStart := s.now,
                                   lastEdge := none, edgeWait := none, freqT0 := none, freqK := 0, accepted := [] }).setSlotState n 2

/-- Fewer than 128 ticks are left to the next loop update, or it is due: what comes now reaches SEL one update later (R24,
R118). -/
def State.lateForUpdate (s : State) : Bool := s.hearth.updateDue || decide (s.ticksToUpdate < 128)

/-- The event bit of a cause (R119). -/
def causeEvent (n cause : Nat) : Option Field :=
  match cause with
  | 2 => some (R.REF.SLOT.EVT.RATE n)
  | 3 => some (R.REF.SLOT.EVT.MISS n)
  | 4 => some (R.REF.SLOT.EVT.JUMP n)
  | 6 => some (R.REF.SLOT.EVT.TOD_ERR n)
  | 7 | 8 | 9 | 10 | 12 => some (R.REF.SLOT.EVT.FLAG n)
  | 14 => some (R.REF.SLOT.EVT.GLITCH n)
  | _ => none

/-- The event bits of every cause that arose (R119). -/
def State.causeEvents (n : Nat) (causes : List Nat) (s : State) : State :=
  causes.foldl (fun st c => match causeEvent n c with | some f => st.evt f | none => st) s

/-- Causes that arise together (R119): their events, and an active slot goes to HOLDOFF with the lowest code. -/
def State.slotCauses (n : Nat) (causes : List Nat) (s : State) : State :=
  match causes with
  | [] => s
  | c :: cs =>
    let s1 := s.causeEvents n causes
    if s.slotActive n then
      let s2 := (s1.set (R.REF.SLOT.STAT.CAUSE n) (cs.foldl min c)).evt (R.REF.SLOT.EVT.DISQUALIFIED n)
      (s2.modSlot n fun sl => { sl with holdEnd := s.now + s.get (R.REF.SLOT.QUAL.HOLDOFF n) * secI, lastEdge := none,
                                        edgeWait := none, labelWait := none, lateChange := s.lateForUpdate }).setSlotState n 4
    else s1

/-- QUALIFYING becomes QUALIFIED once everything R117 asks for holds. -/
def State.slotTryQualified (n : Nat) (s : State) : State :=
  let sl := s.slot n
  if s.slotState n = 2 ∧ s.get (R.REF.SLOT.JUMP.HIST n) ≤ sl.hist.length ∧
      sl.qualStart + s.get (R.REF.SLOT.QUAL.QUAL_TIME n) * secI ≤ s.now ∧ sl.sourceBad = false ∧
      (n < 8 ∧ s.slotKind n = 2 → s.flag (R.REF.SLOT.STAT.TOD_OK n) = true) then
    ((s.modSlot n fun x => { x with lateChange := s.lateForUpdate }).setSlotState n 3).evt (R.REF.SLOT.EVT.QUALIFIED n)
  else s

/-- A source check of R112 to R114 judged: the causes that now hold. -/
def State.slotSource (n : Nat) (causes : List Nat) (s : State) : State :=
  let bad := !causes.isEmpty
  let s1 := s.modSlot n fun sl => { sl with sourceBad := bad }
  if bad && !(s.slot n).sourceBad || (bad && s.slotActive n) then s1.slotCauses n causes else s1.slotTryQualified n

/-- A source check of an enabled slot; one that is off only keeps the answer. -/
def State.sourceCheck (n : Nat) (causes : List Nat) (s : State) : State :=
  if s.slotState n = 0 then s.modSlot n fun sl => { sl with sourceBad := !causes.isEmpty } else s.slotSource n causes

/-! ### Observations (R107 to R109, R115, R116) -/

/-- The latest accepted D in its registers. -/
def State.showD (n : Nat) (d : Int) (s : State) : State :=
  s.setSpan (R.REF.SLOT.D_FRAC.FRAC n) (R.REF.SLOT.D_NS.NS n) (R.REF.SLOT.D_SEC_LO.SEC n) (R.REF.SLOT.D_SEC_HI.SEC n) d

/-- FREQ and RESID after an accepted observation (R108, R109): σ rounded freely to 2^-8 ns. Answers the causes. -/
def State.showFit (n : Nat) (s : State) : State × List Nat :=
  let h := (s.slot n).hist
  if h.length < 4 then (s, [])
  else
    let (_, _, y, var) := histFit h
    let yi := s.roundFree y
    let s1 := s.bump.setI2 (R.REF.SLOT.FREQ0.Y n) (R.REF.SLOT.FREQ1.Y n) yi
    let sq := var / ((dtUnit : Nat) * (dtUnit : Nat) : Rat)
    let sg := if s1.fresh % 2 = 0 then isqrt sq.floor.toNat else isqrtUp sq.ceil.toNat
    let s2 := s1.bump.set (R.REF.SLOT.RESID.SIGMA n) sg
    let lim : Rat := (s.get (R.REF.SLOT.FREQ_LIM.LIM n) * 1000 : Nat)
    (s2, if y < -lim ∨ lim < y then [5] else [])

/-- REFB + MEASB too large, or REFB saturated (R116); FREQ slots of S13 to S15 carry no bounds. -/
def State.boundCauses (s : State) (n meas refb : Nat) : List Nat :=
  if 13 ≤ n then []
  else if s.get (R.REF.SLOT.BOUND_MAX.MAX n) < meas + refb ∨ 0xFFFFFFFF ≤ refb then [12] else []

/-- While SYN0 coasts, and until the slots have been restarted after it, every slot discards its observations (R188). -/
def State.slotsDiscard (s : State) : Bool := s.syn.coasting || s.syn.restartDue

/-- An observation of slot `n` at instant `t` (R107 to R109, R115, R116). It moves a waiting slot whose source is present
into QUALIFYING; OFF and HOLDOFF discard it, and a slot whose upstream fails its check is disqualified (R113, R114). -/
def State.slotObserve (n : Nat) (t d : Int) (meas refb : Nat) (s : State) : State :=
  if s.slotsDiscard then s else
  let s0 := if s.slotState n = 1 ∧ s.flag (R.REF.SLOT.STAT.PRESENT n) = true then s.slotQualify n else s
  if !s0.slotActive n then s0
  else if decide (9 ≤ n) && (s0.slot n).sourceBad then s0.slotCauses n [if n < 13 then 9 else 10]
  else
    let dt := d * 10 ^ 15 + s0.phiAt t
    let (sl, outliers, v) := (s0.slot n).observe (s0.get (R.REF.SLOT.JUMP.HIST n)) (s0.get (R.REF.SLOT.JUMP.K n))
      (s0.get (R.REF.SLOT.JUMP.CONFIRM n)) (s0.get (R.REF.SLOT.JUMP_MIN.J n)) t d dt
    let s1 := (((s0.modSlot n fun _ => { sl with misses := 0, lastObs := s.now }).incBy (R.REF.SLOT.OUTLIER_CNT.COUNT n) outliers).set
      (R.REF.SLOT.MEASB.BOUND n) (min 0xFFFFFFFF meas)).set (R.REF.SLOT.REFB_EFF.BOUND n) (min 0xFFFFFFFF refb)
    let s2 := if 0 < outliers then s1.evt (R.REF.SLOT.EVT.OUTLIER n) else s1
    let bound := s2.boundCauses n meas refb
    match v with
    | .accepted =>
      let s3 := ((s2.modSlot n fun sl => { sl with accepted := (⟨t, d, dt, 0⟩, meas, refb, s.lateForUpdate) :: sl.accepted }
        ).inc (R.REF.SLOT.OBS_CNT.COUNT n)).showD n d
      let (s4, freq) := s3.showFit n
      (s4.slotCauses n (freq ++ bound)).slotTryQualified n
    | .held => s2.slotCauses n bound
    | .jump =>
      if s2.slotState n = 3 then s2.slotCauses n (4 :: bound)
      else
        (((s2.evt (R.REF.SLOT.EVT.JUMP n)).modSlot n fun sl => { sl with hist := [], pend := [], qualStart := s.now }).slotCauses
          n bound)

/-! ### Misses, glitches, edges (R98, R101, R102) -/

/-- A miss counted (R101, R102): qualification starts anew, and MISS_N in succession disqualify. -/
def State.slotMiss (n : Nat) (s : State) : State :=
  if !s.slotActive n || s.slotsDiscard then s
  else
    let m := (s.slot n).misses + 1
    let s1 := ((s.modSlot n fun sl => { sl with misses := m, qualStart := s.now }).inc (R.REF.SLOT.MISS_CNT.COUNT n)).evt
      (R.REF.SLOT.EVT.MISS n)
    if s.get (R.REF.SLOT.TIMING.MISS_N n) ≤ m then s1.slotCauses n [3] else s1

/-- A discarded edge (R101): more than GLITCH_N within 16 observation intervals of 1 s disqualify. -/
def State.slotGlitch (n : Nat) (t : Int) (s : State) : State :=
  let g := t :: (s.slot n).glitches.filter (fun u => decide (t - 16 * secI < u))
  let s1 := ((s.modSlot n fun sl => { sl with glitches := g }).inc (R.REF.SLOT.GLITCH_CNT.COUNT n)).evt
    (R.REF.SLOT.EVT.GLITCH n)
  if s.get (R.REF.SLOT.TIMING.GLITCH_N n) < g.length then s1.slotCauses n [14] else s1

/-- The distance of `x` from the nearest multiple of one second. -/
def offSecond (x : Int) : Int := (x + secI / 2) % secI - secI / 2

/-- The cable delay δ, in 2^-16 ns. -/
def State.slotDelay (s : State) (n : Nat) : Int := s.sget (R.REF.SLOT.DELAY.DELAY n) * 256

/-- An edge at `t` falls into the acceptance window of a PHASE or TIME slot, as its first (R101). -/
def State.inWindow (s : State) (n : Nat) (t : Int) : Bool :=
  let sl := s.slot n
  let win : Int := s.get (R.REF.SLOT.TIMING.MISS_WIN n) * nsU
  match sl.lastEdge with
  | none => true
  | some e =>
    if t - e < secI / 2 then false
    else if 4 ≤ sl.hist.length then
      let (t0, p, y, _) := histFit sl.hist
      -- twice the difference of the edge's D̃ from the predicted one, wrapped to the nearest second
      let pred : Rat := p + y * (t - t0 : Int) - s.phiAt t
      let d : Rat := ((s.slotDelay n - t) * 10 ^ 15 : Int)
      let diff := (d - pred) / (10 ^ 15 : Nat)
      let w := diff - secI * ((diff / secI + 1 / 2).floor : Int)
      decide (-win ≤ w) && decide (w ≤ win)
    else
      let half := win + (s.get (R.REF.SLOT.FREQ_LIM.LIM n) * nsU / 1000 : Nat)
      decide ((offSecond (t - e)).natAbs ≤ half)

/-- REFB and MEASB of S0 to S7 (R115). -/
def State.refBounds (s : State) (n : Nat) : Nat × Nat :=
  (s.get (R.REF.SLOT.JITB.JITB n) + 32, s.get (R.REF.SLOT.REFB.REFB n))

/-- The observation of a marked edge: D = N + δ − T (R98). -/
def State.edgeObserve (n : Nat) (sec t : Int) (s : State) : State :=
  let (meas, refb) := s.refBounds n
  s.slotObserve n t (sec * secI + s.slotDelay n - t) meas refb

/-! ### Time-of-day messages (R103 to R106) -/

/-- A ToD error (R105, R106). -/
def State.todError (n : Nat) (s : State) : State :=
  let e := (s.slot n).todErr + 1
  let s1 := (((s.modSlot n fun sl => { sl with todErr := e, todGood := 0 }).set (R.REF.SLOT.STAT.TOD_OK n) 0).inc
    (R.REF.SLOT.TOD_ERR_CNT.COUNT n)).evt (R.REF.SLOT.EVT.TOD_ERR n)
  if s.get (R.REF.SLOT.TOD.ERR_N n) ≤ e then s1.slotCauses n [6] else s1

/-- An error-free message (R106). -/
def State.todGood (n : Nat) (s : State) : State :=
  let g := (s.slot n).todGood + 1
  let s1 := s.modSlot n fun sl => { sl with todGood := g, todErr := 0 }
  if s.get (R.REF.SLOT.TOD.CONFIRM n) ≤ g then s1.set (R.REF.SLOT.STAT.TOD_OK n) 1 else s1

/-- A ZDA sentence: its UTC seconds from 1970, and whether its seconds field is 60; none where it fails (R103, R105). -/
def zda? (m : List Byte) : Option (Nat × Bool) :=
  let body := (m.drop 1).takeWhile (fun b => b != 0x2A)
  let tail := (m.drop (body.length + 2)).take 2
  let sum := match tail with
    | [a, b] => match hexVal? a, hexVal? b with | some x, some y => some (x * 16 + y) | _, _ => none
    | _ => none
  match m.head?, sum, splitCommas body with
  | some 0x24, some x, tag :: time :: day :: month :: year :: _ =>
    if (xorAll body).toNat = x ∧ tag.drop (tag.length - 3) = ascii "ZDA" then
      match decimalVal? (time.take 2), decimalVal? ((time.drop 2).take 2), decimalVal? ((time.drop 4).take 2),
          decimalVal? day, decimalVal? month, decimalVal? year with
      | some h, some mi, some se, some d, some mo, some y =>
        if h < 24 ∧ mi < 60 ∧ se ≤ 60 ∧ 1 ≤ mo ∧ mo ≤ 12 ∧ 1 ≤ d ∧ d ≤ 31 ∧ 1970 ≤ y then
          some (daysOfDate y mo d * 86400 + h * 3600 + mi * 60 + se, se == 60)
        else none
      | _, _, _, _, _, _ => none
    else none
  | _, _, _ => none

/-- The TAI second of a Skelwell binary record; none where it fails (R103, R209). -/
def binaryRecord? (m : List Byte) : Option Nat :=
  if m.length = 32 ∧ be m 0 4 = 0xC33C0120 ∧ be m 30 2 = crc16 (slice m 2 28) then some (be m 4 6) else none

/-- The label of a message: none where it fails its check, or is a ZDA with seconds 60 while no leap is pending (R105). -/
def State.todLabel (s : State) (n : Nat) (m : List Byte) : Option Nat :=
  if s.get (R.REF.SLOT.TOD.FORMAT n) = 0 then
    match zda? m with
    | some (u, true) =>
      let _ := u
      if s.flag R.TSC.LEAP_NEXT.PENDING then some (s.leapAt - 1) else none
    | some (u, false) => some ((u : Int) + s.sget R.TSC.LEAP_CUR.OFFSET).toNat
    | none => none
  else binaryRecord? m

/-- `x` lies between 20 ms and 980 ms. -/
def todWindow (x : Int) : Bool := decide (20 * secI / 1000 ≤ x) && decide (x ≤ 980 * secI / 1000)

/-- A message that completes now, on a slot that takes messages (R103 to R106). -/
def State.todMessage (n : Nat) (m : List Byte) (s : State) : State :=
  let sl := s.slot n
  match s.todLabel n m with
  | none => (s.modSlot n fun x => { x with labelWait := none, labelBad := true }).todError n
  | some lab =>
    let follows := match sl.lastLabel with | some l => lab == l + 1 | none => true
    let s1 := s.modSlot n fun x => { x with lastLabel := some lab }
    if s.flag (R.REF.SLOT.TOD.ALIGN n) then
      -- labels the pulse after it: judged with that pulse
      let early := match sl.lastEdge with | some e => todWindow (secI - (s.now - e) % secI) | none => true
      if !follows || !early then (s1.modSlot n fun x => { x with labelWait := none, labelBad := true }).todError n
      else (s1.modSlot n fun x => { x with labelWait := some (lab, s.now), labelBad := false }).todGood n |>.slotTryQualified n
    else
      match sl.edgeWait with
      | some e =>
        -- one that fails leaves the pulse to a message that may yet come inside its window
        if follows && todWindow (s.now - e) then
          (((s1.modSlot n fun x => { x with edgeWait := none }).todGood n).edgeObserve n lab e).slotTryQualified n
        else (s1.modSlot n fun x => { x with labelBad := true }).todError n
      | none =>
        -- the pulse it labels is missing: no error inside its window, and it is discarded
        let inside := match sl.lastEdge with | some e => todWindow ((s.now - e) % secI) | none => true
        if inside && follows then s1 else s1.todError n

/-! ### Edges -/

/-- A stamped divided edge of REFn at instant `t` of the timescale (R98, R101, R104). A present slot in WAIT begins to qualify
with it (R117). -/
def State.refEdge (n : Nat) (t : Int) (s : State) : State :=
  let st := s.slotState n
  if (st ≠ 1 ∧ st ≠ 2 ∧ st ≠ 3) ∨ s.slotsDiscard = true then s
  else
  let s0 := if st = 1 ∧ s.flag (R.REF.SLOT.STAT.PRESENT n) = true then s.slotQualify n else s
  if s.slotKind n = 0 then
    let sl := s0.slot n
    let t0 := sl.freqT0.getD t
    let tau : Rat := (sl.freqK * s.get (R.REF.SLOT.DIV.DIV n) * secU : Nat) / (s.get (R.REF.SLOT.NOM.NOM n) : Rat)
    let s1 := s0.modSlot n fun x => { x with freqT0 := some t0, freqK := sl.freqK + 1 }
    let (meas, refb) := s.refBounds n
    s1.bump.slotObserve n t (s1.roundFree tau - (t - t0) + s.slotDelay n) meas refb
  else if !s0.inWindow n t then s0.slotGlitch n t
  else
    let s1 := s0.modSlot n fun x => { x with lastEdge := some t, misses := 0 }
    if s.slotKind n = 1 then
      s1.edgeObserve n ((t - s.slotDelay n + secI / 2) / secI) t
    else if s.flag (R.REF.SLOT.TOD.ALIGN n) then
      match (s0.slot n).labelWait with
      | some (lab, tm) =>
        let s2 := s1.modSlot n fun x => { x with labelWait := none }
        if todWindow (t - tm) then s2.edgeObserve n lab t else s2.todError n
      | none =>
        if (s0.slot n).labelBad then s1.modSlot n fun x => { x with labelBad := false }
        else if (s0.slot n).lastLabel.isSome then s1.todError n else s1
    else
      let s2 := if (s0.slot n).edgeWait.isSome && !(s0.slot n).labelBad then s1.todError n else s1
      s2.modSlot n fun x => { x with edgeWait := some t, labelBad := false }

/-! ### Steps, absence of TBASE, reports -/

/-- A slot follows a step by `d` (R110): D and D̃ lose it, and every instant it holds moves with the timescale. The D of a
PHASE slot stays within half a second (R94), so its whole seconds go too. -/
def RefSlot.stepped (phase : Bool) (d : Int) (sl : RefSlot) : RefSlot :=
  let whole : Int := match phase, sl.hist with | true, o :: _ => (o.d - d + secI / 2) / secI * secI | _, _ => 0
  let mv (o : Obs) : Obs := { o with t := o.t + d, d := o.d - d - whole, dt := o.dt - (d + whole) * 10 ^ 15 }
  { sl with hist := sl.hist.map mv, pend := sl.pend.map mv, glitches := sl.glitches.map (· + d), lastObs := sl.lastObs + d,
            lastEdge := sl.lastEdge.map (· + d), edgeWait := sl.edgeWait.map (· + d),
            labelWait := sl.labelWait.map (fun (l, t) => (l, t + d)), holdEnd := sl.holdEnd + d,
            qualStart := sl.qualStart + d, accepted := sl.accepted.map (fun (o, r) => (mv o, r)) }

/-- Every slot follows the step. -/
def State.refStep (d : Int) (s : State) : State :=
  { s with ref := s.ref.map (fun (n, sl) => (n, sl.stepped (s.slotKind n == 1) d)) }

/-- TBASE absent: S0 to S7 are disqualified (R100). -/
def State.refNoTdc (s : State) : State := (List.range 8).foldl (fun st n => st.slotCauses n [11]) s

/-- What a slot reports to SEL at a loop update: the mean of what it accepted in time for it since the last (R24, R116, R118). -/
def RefSlot.report (n : Nat) (sl : RefSlot) : Option Report :=
  match sl.accepted.filter (fun (_, _, _, late) => !late) with
  | [] => none
  | as =>
    let k : Rat := as.length
    some { slot := n, d := (as.map (fun (o, _, _) => (o.d : Rat))).sum / k / (nsU : Rat),
           tm := (as.map (fun (o, _, _) => (o.t : Rat))).sum / k / (secU : Rat),
           meas := (as.map (fun (_, m, _) => m)).foldl max 0, refb := (as.map (fun (_, _, r, _) => r)).foldl max 0 }

/-- The reports of the slots, and QUALIFIED as SEL sees it from this update on (R118); what came late waits for the next. -/
def State.slotReports (s : State) : List Report × State :=
  let reps := (List.range 16).filterMap (fun n => (s.slot n).report n)
  let upd (st : State) (n : Nat) : State :=
    st.modSlot n fun sl =>
      let rest := sl.accepted.filter (fun (_, _, _, late) => late)
      { sl with accepted := rest.map (fun (o, m, r, _) => (o, m, r, false)),
                seen := if sl.lateChange then sl.seen else s.slotState n == 3, lateChange := false }
  (reps, (Map.keys s.ref).foldl upd s)

/-- Slot `n` counts as QUALIFIED for SEL. -/
def State.slotSeen (s : State) (n : Nat) : Bool := (s.slot n).seen

/-! ### Group SLOTn -/

/-- The fields whose change starts the slot anew (R120). -/
def restartFields (n : Nat) : List Field :=
  [R.REF.SLOT.CFG.EN n, R.REF.SLOT.CFG.KIND n, R.REF.SLOT.DIV.DIV n, R.REF.SLOT.NOM.NOM n, R.REF.SLOT.CFG.IO n,
   R.REF.SLOT.TOD.FORMAT n, R.REF.SLOT.TOD.BAUD n, R.REF.SLOT.TOD.ALIGN n]

/-- A commit of group SLOTn is accepted (R93, R95, R97, R103, R122). -/
def slotOk (n : Nat) (_old new : State) : Bool :=
  let kind := new.get (R.REF.SLOT.CFG.KIND n)
  let div := new.get (R.REF.SLOT.DIV.DIV n)
  let nom := new.get (R.REF.SLOT.NOM.NOM n)
  let hist := new.get (R.REF.SLOT.JUMP.HIST n)
  let conf := new.get (R.REF.SLOT.JUMP.CONFIRM n)
  let permitted := if n < 8 then decide (kind < 3) else if n < 13 then kind == 2 else kind == 0
  let rates := if n < 8 then decide (nom ≤ 1000 * div) && decide (div ≤ nom) && (kind == 0 || (nom == 1 && div == 1))
    else true
  let tod := !(decide (n < 8) && kind == 2) || new.flag (R.REF.SLOT.TOD.EN n)
  permitted && rates && tod && div != 0 && decide (new.get (R.REF.SLOT.CFG.IO n) < 2) && decide (8 ≤ hist) &&
  decide (hist ≤ 64) && decide (2 ≤ conf) && decide (new.get (R.REF.SLOT.TOD.FORMAT n) < 2) &&
  decide (new.get (R.REF.SLOT.TOD.BAUD n) < 8)

/-- The owner of TDC channel n follows the slot's enable (R95, R216, R218). -/
def State.slotOwner (n : Nat) (s : State) : State :=
  if n < 8 then s.tdcOwnerChange n (if s.flag (R.REF.SLOT.CFG.EN n) then 1 else 0) else s

/-- A change of δ moves every D and D̃ of the slot (R111). -/
def State.slotRebase (n : Nat) (delta : Int) (s : State) : State :=
  if delta = 0 then s
  else
    let mv (o : Obs) : Obs := { o with d := o.d + delta, dt := o.dt + delta * 10 ^ 15 }
    (s.modSlot n fun sl => { sl with hist := sl.hist.map mv, pend := sl.pend.map mv,
                                     accepted := sl.accepted.map (fun (o, r) => (mv o, r)) }).evt
      (R.REF.SLOT.EVT.REBASE n)

/-- What an accepted commit of group SLOTn brings (R111, R120). -/
def slotAfter (n : Nat) (old new : State) : State :=
  if (restartFields n).any (fun f => old.differ new f) then
    let s1 := (new.modSlot n fun sl => { RefSlot.empty with sourceBad := sl.sourceBad, lateChange := new.lateForUpdate,
                                                            seen := sl.seen })
    let s2 := (s1.set (R.REF.SLOT.STAT.TOD_OK n) 0).set (R.REF.SLOT.STAT.CAUSE n) 13
    (s2.setSlotState n (if new.flag (R.REF.SLOT.CFG.EN n) then 1 else 0)).slotOwner n
  else new.slotRebase n (new.slotDelay n - old.slotDelay n)

/-- A raised flag of R112 that acts on S8: 7 SPOOF, 8 JAM. -/
def State.grefCauses (s : State) (spoof jam : Bool) : List Nat :=
  let m := s.get (R.REF.SLOT.SRCQ.FLAG_MASK 8)
  (if spoof && bitOf m 0 then [7] else []) ++ (if jam && bitOf m 1 then [8] else [])

/-- RESTART at the second (R121). A flag of R112 still raised keeps S8 in HOLDOFF, and S0 to S7 are disqualified while TBASE is
absent (R100). -/
def State.slotRestart (n : Nat) (s : State) : State :=
  if s.flag (R.REF.SLOT.CTL.RESTART n) then
    let s1 := s.set (R.REF.SLOT.CTL.RESTART n) 0
    if s.slotState n = 0 ∨ (n = 8 ∧ s.slotState n = 4 ∧ (s.slot n).sourceBad = true) then s1
    else
      let s2 := ((s1.modSlot n fun sl =>
        { sl with todGood := 0, todErr := 0, edgeWait := none, labelWait := none, labelBad := false,
                  lateChange := s.lateForUpdate }).set (R.REF.SLOT.STAT.TOD_OK n) 0).slotQualify n
      if n < 8 ∧ s.flag R.TDC.STAT.TBASE_PRESENT = false then s2.slotCauses n [11] else s2
  else s

/-- The slots at a second boundary: the commit of R122, RESTART, and QUALIFYING slots whose time has passed. -/
def State.refSecond (s : State) : State :=
  (List.range 16).foldl (fun st n =>
    ((st.takeGroup (.refSlot n) (R.REF.SLOT.CTL.COMMIT n) (R.REF.SLOT.EVT.CFG_REJECTED n) (slotOk n) (slotAfter n)
      ).slotRestart n).slotTryQualified n) s

/-- The end of HOLDOFF (R117): once its time has passed and no cause of R112 persists. -/
def State.holdoffEnd (n : Nat) (s : State) : State :=
  if s.slotState n = 4 ∧ (s.hearth.running = true → (s.slot n).holdEnd ≤ s.now) ∧
      ¬(n = 8 ∧ (s.slot n).sourceBad = true) then
    s.setSlotState n 1
  else s

/-- The flags of GNS act on S8 at a loop update (R112); a flag that falls lets a spent holdoff end. -/
def State.grefFlags (spoof jam : Bool) (s : State) : State :=
  let s1 := s.slotSource 8 (s.grefCauses spoof jam)
  if s.slotState 8 = 4 ∧ (s.slot 8).sourceBad = true then s1.holdoffEnd 8 else s1

/-! ### The commands of the chapter -/

/-- REF_GATE (R99): a 1 ms gate of REFn ends with `count` active edges. -/
def execRefGate (n : Fin 8) (count : BitVec 32) (s : State) : Out :=
  let nom := s.get (R.REF.SLOT.NOM.NOM n)
  let c := count.toNat
  if nom < 1000 then .next (if 0 < c then s.setPresent n true else s)
  else
    let s1 := s.setPresent n (decide (0 < c))
    let off : Int := (c * 10 ^ 6 : Nat) - (nom * 1000 : Nat)
    let out := decide (nom + 2 * 10 ^ 6 < off.natAbs)
    let k := if out then (s.slot n).outOfRate + 1 else 0
    let s2 := s1.modSlot n fun sl => { sl with outOfRate := k }
    let s3 := if out then s2.evt (R.REF.SLOT.EVT.RATE n) else s2
    .next (s3.slotCauses n ((if c = 0 then [1] else []) ++ (if 2 ≤ k then [2] else [])))

/-- SLOW_ABSENT (R99): with NOM below 1 kHz, 2 s have passed without an edge. -/
def execSlowAbsent (n : Fin 8) (s : State) : Out :=
  if s.get (R.REF.SLOT.NOM.NOM n) < 1000 then .next ((s.setPresent n false).slotCauses n [1]) else .next s

/-- MISS_WINDOW_CLOSE (R101): the window of a PHASE or TIME slot closes with no edge. An unpaired label goes with it
(R105). -/
def execMissWindowClose (n : Fin 8) (s : State) : Out :=
  let recent := match (s.slot n).lastEdge with | some e => decide (s.now - e < secI / 2) | none => true
  if s.ticking && s.slotActive n && s.slotKind n != 0 && !recent then
    .next ((s.modSlot n fun sl => { sl with labelWait := none, edgeWait := none }).slotMiss n)
  else .next s

/-- TOD_MESSAGE (R103 to R106): the characters of a message that completes now on TODINn, or none where the message of a
pulse stays out. -/
def execTodMessage (n : Fin 8) (msg : Option (List Byte)) (s : State) : Out :=
  if !s.ticking || s.slotState n == 0 || s.slotKind n != 2 || !s.flag (R.REF.SLOT.TOD.EN n) then .next s
  else match msg with
    | some m => .next (s.todMessage n m)
    | none =>
      .next ((s.modSlot n fun sl => { sl with edgeWait := none, labelBad := s.flag (R.REF.SLOT.TOD.ALIGN n) }).todError n)

/-- HOLDOFF_EXPIRE (R117). -/
def execHoldoffExpire (n : Fin 16) (s : State) : Out := .next (s.holdoffEnd n)

/-- SLOT_COMMIT (R122). -/
def execSlotCommit (n : Fin 16) (s : State) : Out := .next (s.commit (.refSlot n) (R.REF.SLOT.CTL.COMMIT n))

/-- SLOT_RESTART (R121). -/
def execSlotRestart (n : Fin 16) (s : State) : Out := .next (s.set (R.REF.SLOT.CTL.RESTART n) 1)

end Sys2Proof.Machine
end

