-- ==== Sys2Proof/Machine/Sel.lean ====
section
/-! DEFINITION. Selection, switching, banking, the loop filter and the drift model (chapter 04). Offsets in ns and instants
in s are exact rationals; F, INTEG and P count 10^-15. -/

namespace Sys2Proof.Machine

/-- SEL's own state changed. -/
def State.modSel (f : Sel → Sel) (s : State) : State := { s with sel := f s.sel }

/-- SEL.STAT.STATE (R123): 0 FREERUN, 1 LOCKED, 2 FREEZE, 3 MEASURE, 4 BUILD-OUT, 5 BANKING. -/
def State.selState (s : State) : Nat := s.get R.SEL.STAT.STATE

/-- The loop belongs to software: the damper is open (R27). -/
def State.damperOpen (s : State) : Bool := s.flag R.TSC.LOOP.OWNER

/-- G × C in counts (chapter 04). -/
def State.gc (s : State) : Int := s.sget R.OSC.GAIN.G * s.sget R.OSC.CMD_NOW.C

/-- F = INTEG + G × C. -/
def State.fTotal (s : State) : Int := s.voted.i + s.gc

/-- An instant in seconds. -/
def secR (t : Int) : Rat := (t : Rat) / (secU : Nat)

/-! ### Eligibility (R125, R126, R128) -/

/-- Slot `n` is eligible through entry `k` of the priority table (R126). -/
def State.entryEligible (s : State) (k : Nat) : Bool :=
  let n := s.get (R.SEL.PRIO.SLOT k)
  s.flag (R.SEL.PRIO.EN k) && !s.flag (R.SEL.PRIO.LOCKOUT k) && s.slotSeen n && s.sel.wtrRan.contains n &&
    (!s.flag R.SEL.CFG.FORCE_EN || n == s.get R.SEL.CFG.FORCE_SLOT)

/-- Slot `n` is eligible. -/
def State.eligible (s : State) (n : Nat) : Bool :=
  (List.range 16).any (fun k => s.entryEligible k && s.get (R.SEL.PRIO.SLOT k) == n)

/-- The best eligible slot among those that `p` admits: least PRIO, then least entry index (R126). -/
def State.bestSlot (p : Nat → Bool) (s : State) : Option Nat :=
  let ks := (List.range 16).filter (fun k => s.entryEligible k && p (s.get (R.SEL.PRIO.SLOT k)))
  let best := ks.foldl (fun (acc : Option Nat) k =>
    match acc with
    | none => some k
    | some j => if s.get (R.SEL.PRIO.PRIO k) < s.get (R.SEL.PRIO.PRIO j) then some k else some j) none
  best.map (fun k => s.get (R.SEL.PRIO.SLOT k))

/-- Timers that are skipped now count as run (R128). -/
def State.wtrSkip (s : State) : State :=
  if s.wtrSkips then (Map.keys s.sel.wtrEnd).foldl (fun st n => st.wtrDone n) s else s

/-- Timers whose time has passed (R128); none is judged while a switch runs (R130). -/
def State.wtrExpire (s : State) : State :=
  (s.sel.wtrEnd.filter (fun (_, t) => decide (t ≤ s.now))).foldl (fun st (n, _) => st.wtrDone n) s

/-! ### The drift model (R142 to R145) -/

/-- α in force, in 10^-21 per second (R133, R148). -/
def State.alphaNow (s : State) : Int :=
  if s.sel.zeroLaw then 0 else if s.flag R.SEL.STAT.MODEL_LEARNED then s.sel.alphaFit else s.oscClass.alpha

/-- k in force, in counts per K. -/
def State.kNow (s : State) : Int :=
  if s.sel.zeroLaw then 0 else if s.flag R.SEL.STAT.TEMP_LEARNED then s.sel.kFit else s.oscClass.k.getD 0

/-- α and k in force shown in ALPHA and KTEMP. -/
def State.showLaw (s : State) : State := (s.setI R.SEL.ALPHA.ALPHA s.alphaNow).setI R.SEL.KTEMP.K s.kNow

/-- The model emptied (R145). -/
def State.modelReset (s : State) : State :=
  let coasting := s.selState == 2 || s.selState == 3 || s.selState == 5
  ((((s.modSel fun m => { m with model := [], acc64 := [], accBad := true, zeroLaw := m.zeroLaw || coasting }).set
    R.SEL.STAT.MODEL_LEARNED 0).set R.SEL.STAT.TEMP_LEARNED 0).set R.SEL.MODEL_HOURS.HOURS 0).evt
      R.SEL.EVT.MODEL_RESET |>.showLaw

/-- Least squares of F = f_0 − α t 10^-6 − k θ over the samples (R143): α and k, or where `temp` is false α alone, with k as the
class record has it; none where the samples determine none. -/
def modelFit (ms : List ModelSample) (temp : Bool) (kClass : Int) : Option (Rat × Rat) :=
  let n : Rat := ms.length
  let mean (f : ModelSample → Rat) : Rat := if n = 0 then 0 else (ms.map f).sum / n
  let tm := mean ModelSample.t
  let fm := mean ModelSample.f
  let hm := mean ModelSample.th
  let sum (f g : ModelSample → Rat) : Rat := (ms.map (fun m => f m * g m)).sum
  let dt (m : ModelSample) : Rat := m.t - tm
  let df (m : ModelSample) : Rat := m.f - fm
  let dh (m : ModelSample) : Rat := (m.th - hm) / 16
  let stt := sum dt dt
  let stf := sum dt df
  if temp then
    let shh := sum dh dh
    let sth := sum dt dh
    let shf := sum dh df
    let det := stt * shh - sth * sth
    if det = 0 then none
    else some (-(stf * shh - shf * sth) / det * 10 ^ 6, -(shf * stt - stf * sth) / det)
  else if stt = 0 then none else some (-((stf + kClass * sum dt dh) / stt) * 10 ^ 6, kClass)

/-- The conditions of R142 and R188 that hold now. -/
def State.modelConditions (s : State) : Bool :=
  s.selState == 1 && s.get R.TSC.STAT.STATE != 0 && !s.damperOpen && s.flag R.OSC.STAT.MOD_LOCK && !s.syn.coasting

/-- The span of the temperatures of the samples held is at least TSPAN_MIN (R143). -/
def State.modelSpans (s : State) : Bool :=
  let ths := s.sel.model.map ModelSample.th
  let span := match ths with | [] => 0 | h :: r => r.foldl max h - r.foldl min h
  decide (((s.get R.SEL.MODEL_CFG.TSPAN_MIN : Nat) : Rat) ≤ span)

/-- The fit, the learned bits, and b, c and q, whose standard errors, for which no estimator is stated, are free above the
class floors (R143, R144), over samples that come from `hours` hours. Samples that determine no line leave α and k free, for R143
is silent there (log entry 117). -/
def State.modelFitHours (hours : Nat) (s : State) : State :=
  let ms := s.sel.model
  let learned := decide (s.get R.SEL.MODEL_CFG.LEARN_MIN ≤ hours)
  let temp := learned && s.modelSpans
  let c := s.oscClass
  let (a, k) := (modelFit ms temp (c.k.getD 0)).getD ((s.fresh : Nat), (s.bump.fresh : Nat))
  let ai := s.roundFree a
  let s0 := s.bump
  let ki := s0.roundFree k
  let s1 := s0.bump
  let b := min (2 ^ 24 - 1) (c.bFloor + s1.fresh)
  let cc := min (2 ^ 24 - 1) (c.cFloor + s1.bump.fresh)
  let q := if temp then min (2 ^ 16 - 1) (c.qFloor + s1.bump.bump.fresh) else c.set.q
  let s2 := s1.bump.bump.bump.modSel fun m =>
    { m with alphaFit := ai, kFit := ki, modelSet := { m.modelSet with b := b, c := cc, q := q } }
  let was := s.flag R.SEL.STAT.MODEL_LEARNED
  let s3 := ((s2.set R.SEL.MODEL_HOURS.HOURS hours).setB R.SEL.STAT.MODEL_LEARNED learned).setB
    R.SEL.STAT.TEMP_LEARNED temp
  (if learned && !was then s3.evt R.SEL.EVT.MODEL_LEARNED else s3).showLaw

/-- The hours of samples held (R142). -/
def State.modelHours (s : State) : Nat := s.sel.model.length * 64 / 3600

/-- After each new sample (R143). -/
def State.modelRefit (s : State) : State := s.modelFitHours s.modelHours

/-- Samples older than WIN hours are discarded (R142); what the model is learned by follows, and the fit waits for the next sample. -/
def State.modelAge (s : State) : State :=
  let old := secR s.now - (s.get R.SEL.MODEL_CFG.WIN * 3600 : Nat)
  let ms := s.sel.model.filter (fun y => decide (old ≤ y.t))
  if ms.length = s.sel.model.length then s
  else
    let s1 := s.modSel fun m => { m with model := ms }
    let learned := s.flag R.SEL.STAT.MODEL_LEARNED && decide (s.get R.SEL.MODEL_CFG.LEARN_MIN ≤ s1.modelHours)
    (((s1.set R.SEL.MODEL_HOURS.HOURS s1.modelHours).setB R.SEL.STAT.MODEL_LEARNED learned).setB R.SEL.STAT.TEMP_LEARNED
      (learned && s.flag R.SEL.STAT.TEMP_LEARNED && s1.modelSpans)).showLaw

/-- While learned, the model's set at a second boundary, with its largest |D| (R144). -/
def State.modelSecond (s : State) : State :=
  if s.flag R.SEL.STAT.MODEL_LEARNED then
    let win := (if s.selState = 1 then s.now else s.sel.lockedUntil) - s.get R.SEL.BANK.AVG_WIN * secI
    let big := ((s.sel.absD.filter (fun (t, _) => decide (win ≤ t))).map Prod.snd).foldl max 0
    let a := min 0xFFFFFFFF ((big * 256).ceil.toNat + s.get R.EBD.LOOP_MARGIN.VALUE)
    let s1 := s.modSel fun m => { m with modelSet := { m.modelSet with a := a } }
    let b := s1.sel.modelSet
    (((s1.set R.SEL.MODEL_A.A b.a).set R.SEL.MODEL_B.B b.b).set R.SEL.MODEL_C.C b.c).set R.SEL.MODEL_Q.Q b.q
  else s

/-! ### Entries to the states (R127, R129, R132, R134 to R136) -/

/-- The build-out offset, held and shown (R127, R134). -/
def State.setBo (bo : Rat) (s : State) : State :=
  (s.bump.modSel fun m => { m with bo := bo }).setI R.SEL.BO.BO (s.roundFree (bo * 256))

/-- LOCKED entered on slot `n` with error `e` at `tm`, and build-out offset `bo` (R135). -/
def State.selLocked (n : Nat) (e tm bo : Rat) (s : State) : State :=
  let gap := if s.selState = 1 then 0 else s.now - s.sel.lockedUntil
  ((((s.modSel fun m =>
    { m with q := 0, e := e, clamped := false, tObs := tm, qHist := [(s.now, 0)], lockedSince := s.now, accSince := s.now,
             acc64 := [], accBad := false, zeroLaw := false, absD := m.absD.map (fun (t, x) => (t + gap, x)),
             lockedUntil := s.now }).set R.SEL.STAT.STATE 1).set R.SEL.STAT.SLOT n).setBo bo).showLaw

/-- A direct selection (R127): E from the slot's latest report; a FREQ slot's D becomes BO. -/
def State.selDirect (n : Nat) (s : State) : State :=
  let (d, tm) := match Map.get? s.sel.lastRep n with | some r => (r.d, r.tm) | none => (0, secR s.now)
  let bo := if s.slotKind n = 0 then d else 0
  let s1 := (s.selLocked n (d - bo) tm bo).evt R.SEL.EVT.SELECT
  if s.selState = 5 then s1.evt R.SEL.EVT.BANK_EXIT else s1

/-- The frozen value, its mean instant and temperature (R132); the last sample is never taken. -/
def State.freezeValue (s : State) : State :=
  let hi := s.now - s.get R.SEL.BANK.GUARD * secI
  let lo := hi - s.get R.SEL.BANK.AVG_WIN * secI
  let win := (s.sel.fHist.drop 1).filter (fun x => decide (lo ≤ x.t) && decide (x.t ≤ hi))
  let n : Rat := win.length
  let (f, tc, th, short) :=
    if win.isEmpty then ((s.fTotal : Rat), secR s.now, (s.sel.thLast : Rat), true)
    else ((win.map (fun x => (x.f : Rat))).sum / n, (win.map (fun x => secR x.t)).sum / n,
          (win.map (fun x => (x.th : Rat))).sum / n, false)
  let fi := s.roundFree f
  let ti := s.bump.roundFree th
  let s1 := ((s.bump.bump.modSel fun m => { m with fFrz := f, tc := tc, thc := th }).setI2 R.SEL.FROZEN0.F_FRZ
    R.SEL.FROZEN1.F_FRZ fi).setI R.SEL.THETA_C.THETA ti
  if short then s1.evt R.SEL.EVT.SHORT_AVG else s1

/-- A switch to slot `n` begins in FREEZE (R129, R130, R132). -/
def State.selFreeze (n : Nat) (s : State) : State :=
  let bank := s.selState == 5
  let s1 := if bank then s else s.freezeValue
  ((s1.modSel fun m => { m with freezeN := 0, measN := 0, fromBank := bank, heldFreeze := s.get R.SEL.SW.FREEZE_UPD,
                                heldMeasN := s.get R.SEL.SW.MEAS_N, heldTimeout := s.get R.SEL.SW.TIMEOUT }).set
    R.SEL.STAT.STATE 2).set R.SEL.STAT.TARGET n |>.evt R.SEL.EVT.SWITCH_START

/-- BANKING entered, with the frozen value computed where it is not a switch abandoned (R136); timers that are skipped in BANKING end
at once (R128). -/
def State.selBank (compute : Bool) (s : State) : State :=
  let s1 := if compute then s.freezeValue else s
  (((s1.set R.SEL.STAT.STATE 5).inc R.SEL.BANK_CNT.COUNT).evt R.SEL.EVT.BANK_ENTER).wtrSkip

/-- A switch abandoned (R130). -/
def State.selAbort (s : State) : State := (s.selBank false).evt R.SEL.EVT.SW_ABORT

/-- MEASURE has lasted too long (R130). -/
def State.selTimeout (s : State) : State :=
  (s.selAbort.file F.selSwAbort (s.get R.SEL.STAT.TARGET) 0).wtrStart (s.get R.SEL.STAT.TARGET)

/-- BUILD-OUT begins (R134): the seed and BO; the notional INTEG of an open damper starts from what this update applies (R138). -/
def State.selBuildOut (s : State) : State :=
  let n := s.get R.SEL.STAT.TARGET
  let y := s.sget2 (R.REF.SLOT.FREQ0.Y n) (R.REF.SLOT.FREQ1.Y n)
  let bo : Rat := if s.slotKind n = 0 then s.sel.lastMeas else 0
  ((s.modSel fun m => { m with seed := y - s.gc, notional := none }).setBo bo).set R.SEL.STAT.STATE 4

/-- LOCKED reached by the switch (R135). -/
def State.selSwitchDone (s : State) : State :=
  let n := s.get R.SEL.STAT.TARGET
  let from_ := s.sel.fromBank
  let s1 := ((s.selLocked n (s.sel.lastMeas - s.sel.bo) s.sel.lastMeasTm s.sel.bo).inc R.SEL.SW_CNT.COUNT).evt R.SEL.EVT.SWITCH_DONE
  if from_ then s1.evt R.SEL.EVT.BANK_EXIT else s1

/-- The limit of R31 on one movement of INTEG, in counts. -/
def State.integStep (s : State) : Int := (s.get R.TSC.SLEW.INTEG_STEP : Int) * ppt

/-- `x` moved towards `goal` by at most the limit of R31. -/
def State.towards (s : State) (x goal : Int) : Int :=
  if s.get R.TSC.STAT.STATE = 0 then satS goal else x + max (-s.integStep) (min s.integStep (satS goal - x))

/-! ### Selection at a loop update (R127 to R131) -/

/-- The choice with no switch running (R127). DESIGN CHOICE: while the Hearth is UNSET and SEL is LOCKED on the best slot already, no
direct selection is made again, though the table's rows do not leave that case out (log entry 117). -/
def State.selChoose (s : State) : State :=
  let st := s.selState
  let slot := s.get R.SEL.STAT.SLOT
  if s.get R.TSC.STAT.STATE = 0 then
    let best := match s.bestSlot (fun n => s.slotKind n == 2) with
      | some n => some n
      | none => s.bestSlot (fun _ => true)
    match best with
    | some n => if st = 1 ∧ slot = n then s else s.selDirect n
    | none => if st = 1 then s.selBank true else s
  else if st = 1 then
    match s.bestSlot (fun _ => true) with
    | some n =>
      if s.eligible slot then (if s.flag R.SEL.CFG.REVERT ∧ n ≠ slot then s.selFreeze n else s) else s.selFreeze n
    | none => s.selBank true
  else if st = 5 then
    match s.bestSlot (fun _ => true) with
    | some n => s.selFreeze n
    | none => s
  else s

/-- SEL's state machine at a loop update, with the reports delivered at it (R127 to R131, R134, R135). -/
def State.selUpdate (reps : List Report) (s : State) : State :=
  let s0 := s.modSel fun m => { m with lastRep := reps.foldl (fun l r => Map.put l r.slot r) m.lastRep,
                                       thLast := (s.theta?).getD m.thLast }
  let st := s0.selState
  let target := s0.get R.SEL.STAT.TARGET
  if st = 2 ∨ st = 3 ∨ st = 4 then
    if !s0.slotSeen target then s0.selAbort
    else
      let rep := reps.find? (fun r => r.slot == target)
      let measure (s : State) : State :=
        let s1 : State := match rep with
          | some r => s.modSel fun m => { m with measN := m.measN + 1, lastMeas := r.d, lastMeasTm := r.tm }
          | none => s
        if s1.sel.heldMeasN ≤ s1.sel.measN then s1.selBuildOut
        else if s1.sel.measStart + s1.sel.heldTimeout * secI ≤ s1.now then s1.selTimeout
        else s1
      if st = 2 then
        let s1 := s0.modSel fun m => { m with freezeN := m.freezeN + 1 }
        if s1.sel.heldFreeze ≤ s1.sel.freezeN then
          measure ((s1.modSel fun m => { m with measStart := s.now, measN := 0 }).set R.SEL.STAT.STATE 3)
        else s1
      else if st = 3 then measure s0
      else
        let reached := if s0.damperOpen then s0.sel.notional == some (satS s0.sel.seed) else s0.voted.i == satS s0.sel.seed
        if reached then s0.selSwitchDone else s0
  else (s0.wtrSkip.wtrExpire).selChoose

/-! ### The loop's request (R133, R134, R139) -/

/-- The coast law of R133, rounded to the nearest count. -/
def State.coastInteg (s : State) : Int :=
  let t := secR s.now
  let dth : Rat := ((s.sel.thLast : Rat) - s.sel.thc) / 16
  let x : Rat := s.sel.fFrz - (s.alphaNow : Rat) * (t - s.sel.tc) / 10 ^ 6 - (s.kNow : Rat) * dth - s.gc
  (x + 1 / 2).floor

/-- Q at an instant, from the last 16 updates, newest first (R139). -/
def qAt : List (Int × Rat) → Rat → Rat
  | [], _ => 0
  | [(_, _)], _ => 0
  | (t1, q1) :: (t0, q0) :: rest, t =>
    if secR t1 ≤ t then q1
    else if secR t0 ≤ t then
      if t1 = t0 then q0 else q0 + (q1 - q0) * (t - secR t0) / (secR t1 - secR t0)
    else qAt ((t0, q0) :: rest) t

/-- What the loop asks of the Hearth at an update. -/
structure LoopRequest where
  integ : Int
  /-- The movement that compensates a transfer, before the loop's own (R156). -/
  comp : Int
  prop : Int
  deriving DecidableEq, Repr

/-- A report precedes the oldest of the last 16 updates, this one included (R139). -/
def State.staleReport (s : State) (r : Report) : Bool :=
  match s.hearth.phi[14]? with
  | some (t, _) => decide (r.tm < secR t)
  | none => false

/-- The report of the slot in LOCKED that reached SEL at this update, with D less BO for a FREQ slot (R139). -/
def State.lockedReport (s : State) (reps : List Report) : Option Report :=
  let slot := s.get R.SEL.STAT.SLOT
  if s.selState ≠ 1 ∨ s.syn.coasting = true then none
  else (reps.find? (fun r => r.slot == slot)).map
    fun r => { r with d := if s.slotKind slot = 0 then r.d - s.sel.bo else r.d }

/-- |D| of an accepted report is kept for AVG_WIN seconds of LOCKED, whoever owns the loop (R144). -/
def State.keepAbsD (reps : List Report) (s : State) : State :=
  match s.lockedReport reps with
  | some r =>
    if s.staleReport r then s
    else
      let keep := s.now - (s.get R.SEL.BANK.AVG_WIN) * secI
      s.modSel fun m =>
        { m with absD := (s.now, if r.d < 0 then -r.d else r.d) :: m.absD.filter (fun (t, _) => decide (keep ≤ t)) }
  | none => s

/-- The filter of R139 in LOCKED. `entered`: LOCKED began at this update. -/
def State.loopFilter (reps : List Report) (entered : Bool) (s : State) : LoopRequest × State :=
  let tp : Rat := s.get R.SEL.LOOP.TP
  let ti : Rat := s.get R.SEL.LOOP.TI
  let dt := secR (s.now - s.hearth.lastUpdate)
  let q := if entered then s.sel.q else s.sel.q + (s.voted.p : Rat) / 10 ^ 6 * dt
  let hist := if entered then s.sel.qHist else ((s.now, q) :: s.sel.qHist).take 16
  let s1 := s.modSel fun m => { m with q := q, qHist := hist }
  let cur := s.voted.i
  let (e, integ, s2) :=
    match s.lockedReport reps with
    | none => (s1.sel.e, cur, s1)
    | some r =>
      if s.staleReport r then (s1.sel.e, cur, s1.evt R.SEL.EVT.STALE)
      else
        let e := r.d + qAt hist r.tm
        let di : Rat := if s.sel.clamped ∨ ti = 0 then 0 else r.d * (r.tm - s.sel.tObs) / (ti * ti) * 10 ^ 6
        (e, cur + s1.roundFree di, s1.bump.modSel fun m => { m with e := e, tObs := r.tm, clamped := false })
  let p := if tp = 0 then 0 else s2.roundFree ((e - q) / tp * 10 ^ 6)
  let s3 := if (s.slewLimit : Int) < p ∨ p < -(s.slewLimit : Int) then
      s2.bump.modSel fun m => { m with clamped := true } else s2.bump
  ({ integ := integ, comp := 0, prop := p }, s3)

/-- What the hardware loop asks at this update, by SEL's state after its choice (R123). `before` is the state before it. -/
def State.loopRequest (reps : List Report) (before : Nat) (s : State) : LoopRequest × State :=
  let hold : LoopRequest := { integ := s.voted.i, comp := 0, prop := 0 }
  match s.selState with
  | 1 => s.loopFilter reps (before != 1 || s.sel.lockedSince == s.now)
  | 4 => ({ hold with integ := s.towards s.voted.i s.sel.seed }, s)
  | 0 => (hold, s)
  | _ => ({ hold with integ := s.coastInteg }, s)

/-- With the damper open, BUILD-OUT moves a notional INTEG, which starts from the INTEG applied at the update that ended MEASURE
(R138). -/
def State.selNotional (s : State) : State :=
  if s.selState = 4 then s.modSel fun m => { m with notional := some (s.towards (m.notional.getD s.voted.i) m.seed) } else s

/-- After the update: F in FTOTAL and, in LOCKED, in the record of R132; the model's running 64 s (R142). -/
def State.selRecord (s : State) : State :=
  let f := s.fTotal
  let s1 := s.setI2 R.SEL.FTOTAL0.F R.SEL.FTOTAL1.F f
  let keep := s.now - ((s.get R.SEL.BANK.GUARD : Int) + s.get R.SEL.BANK.AVG_WIN + 1) * secI
  let x : FSample := ⟨s.now, f, s.sel.thLast⟩
  if s.selState = 1 then
    s1.modSel fun m => { m with fHist := x :: m.fHist.filter (fun y => decide (keep ≤ y.t)), acc64 := x :: m.acc64, lockedUntil := s.now,
                                accBad := m.accBad || !s.modelConditions }
  else s1.modSel fun m => { m with accBad := true, fHist := m.fHist.filter (fun y => decide (keep ≤ y.t)) }

/-- At a step on a report of instant `tm` s: E := Q and t_obs is that of the report (R139, R140); every instant and report
moves with the timescale. Before the first step the samples held are those of an ember, whose instants are TAI already (R146). -/
def State.selStepped (d : Int) (tm : Rat) (first : Bool) (s : State) : State :=
  let ds : Rat := secR d
  let dn : Rat := (d : Rat) / (nsU : Nat)
  s.modSel fun m =>
    { m with e := m.q, clamped := false, tObs := tm + ds, qHist := m.qHist.map (fun (t, q) => (t + d, q)), tc := m.tc + ds,
             fHist := m.fHist.map (fun x => { x with t := x.t + d }), measStart := m.measStart + d,
             wtrEnd := m.wtrEnd.map (fun (n, t) => (n, t + d)), absD := m.absD.map (fun (t, x) => (t + d, x)),
             lockedSince := m.lockedSince + d, lockedUntil := m.lockedUntil + d, accSince := m.accSince + d, acc64 :=
                 m.acc64.map (fun x => { x with t := x.t + d }),
             model := if first then m.model else m.model.map (fun x => { x with t := x.t + ds }),
             lastRep := m.lastRep.map (fun (n, r) => (n, { r with d := r.d - dn, tm := r.tm + ds })) }

/-! ### Groups -/

/-- A switch runs: FREEZE, MEASURE or BUILD-OUT (R129). -/
def State.switching (s : State) : Bool := s.selState == 2 || s.selState == 3 || s.selState == 4

/-- A commit of group PRIO is accepted (R125). -/
def selPrioOk (_old new : State) : Bool :=
  (List.range 16).all (fun k =>
    !new.flag (R.SEL.PRIO.EN k) || (new.get (R.SEL.PRIO.PRIO k) != 0 &&
      (List.range 16).all (fun j => j == k || !new.flag (R.SEL.PRIO.EN j) ||
        new.get (R.SEL.PRIO.SLOT j) != new.get (R.SEL.PRIO.SLOT k))))

/-- A commit of group LOOP is accepted (R141, R159). -/
def selLoopOk (_old new : State) : Bool :=
  new.get R.SEL.SW.FREEZE_UPD != 0 && decide (2 ≤ new.get R.SEL.SW.MEAS_N) && new.get R.SEL.SW.TIMEOUT != 0 &&
  new.get R.SEL.LOOP.TP != 0 && new.get R.SEL.LOOP.TI != 0 &&
  decide (new.get R.SEL.LOOP.TP ≤ new.get R.SEL.LOOP.TI) && new.get R.SEL.BANK.AVG_WIN != 0 &&
  new.get R.SEL.MODEL_CFG.LEARN_MIN != 0 &&
  decide (new.get R.SEL.MODEL_CFG.LEARN_MIN ≤ new.get R.SEL.MODEL_CFG.WIN)

/-- SEL at a second boundary: its groups, held while a switch runs (R130), CLEAR_WTR, MODEL_RESET, the model's set. -/
def State.selSecond (s : State) : State :=
  let s1 := if s.switching then s else
    ((s.takeGroup .selPrio R.SEL.CTL.PRIO_COMMIT R.SEL.EVT.CFG_REJECTED selPrioOk (fun _ n => n)).takeGroup .selLoop
      R.SEL.CTL.LOOP_COMMIT R.SEL.EVT.CFG_REJECTED selLoopOk (fun _ n => n))
  let s2 := if s1.flag R.SEL.CTL.CLEAR_WTR then
      (Map.keys s1.sel.wtrEnd).foldl (fun st n => st.wtrDone n) (s1.set R.SEL.CTL.CLEAR_WTR 0) else s1
  let s3 := if s2.flag R.SEL.CTL.MODEL_RESET then (s2.set R.SEL.CTL.MODEL_RESET 0).modelReset else s2
  s3.modelAge.modelSecond

/-! ### The commands of the chapter -/

/-- SW_TIMEOUT (R130). -/
def execSwTimeout (s : State) : Out :=
  if s.selState = 3 ∧ s.sel.measN < s.sel.heldMeasN ∧ s.sel.measStart + s.sel.heldTimeout * secI ≤ s.now then
    .next s.selTimeout
  else .next s

/-- WTR_EXPIRE (R128): a slot's timer has run out. -/
def execWtrExpire (n : Fin 16) (s : State) : Out :=
  match Map.get? s.sel.wtrEnd n.val with
  | some t => if t ≤ s.now then .next (s.wtrDone n) else .next s
  | none => .next s

/-- PRIO_COMMIT (R125). -/
def execPrioCommit (s : State) : Out := .next (s.commit .selPrio R.SEL.CTL.PRIO_COMMIT)

/-- LOOP_COMMIT (R159). -/
def execLoopCommit (s : State) : Out := .next (s.commit .selLoop R.SEL.CTL.LOOP_COMMIT)

/-- CLEAR_WTR (R128): taken at the next second. -/
def execClearWtr (s : State) : Out := .next (s.set R.SEL.CTL.CLEAR_WTR 1)

/-- MODEL_RESET (R145): taken at the next second. -/
def execModelReset (s : State) : Out := .next (s.set R.SEL.CTL.MODEL_RESET 1)

/-- MODEL_SAMPLE (R142, R143): the end of 64 s in LOCKED, once they have passed; the next 64 s begin. -/
def execModelSample (s : State) : Out :=
  let fin := s.sel.accSince + 64 * secI
  if s.selState ≠ 1 ∨ s.now < fin then .next s
  else
    let a := s.sel.acc64.filter (fun y => decide (y.t ≤ fin))
    let s0 := s.modSel fun m => { m with acc64 := m.acc64.filter (fun y => decide (fin < y.t)), accSince := fin, accBad := false }
    if a.isEmpty ∨ s.sel.accBad = true ∨ s.modelConditions = false ∨ s.sel.accSince < s.sel.lockedSince + 640 * secI then .next s0
    else
      let n : Rat := a.length
      let x : ModelSample :=
        ⟨secR fin, (a.map (fun y => (y.f : Rat))).sum / n, (a.map (fun y => (y.th : Rat))).sum / n⟩
      .next (s0.modSel fun m => { m with model := x :: m.model }).modelAge.modelRefit

end Sys2Proof.Machine
end

