-- ==== Sys2Proof/Machine/Spi.lean ====
section
/-! DEFINITION. The SPI controller that the oscillator DAC and the front ends share (R243 to R245). -/

namespace Sys2Proof.Machine

/-- A front end with nothing in it. -/
def GnaFe.empty : GnaFe :=
  { goodGates := 0, badGates := 0, lost := false, samples := 0, script := none, delaying := false, ran := false, jamUp := 0,
    jamDown := 0, learn := none, ties := [], accepted := 0, discarded := 0 }

/-- Front end `n`. -/
def State.gnaFe (s : State) (n : Nat) : GnaFe := Map.getD s.gna.fes n GnaFe.empty

/-- GNA's own state changed. -/
def State.modGna (f : Gna → Gna) (s : State) : State := { s with gna := f s.gna }

/-- Front end `n` changed. -/
def State.modFe (n : Nat) (f : GnaFe → GnaFe) (s : State) : State :=
  s.modGna fun g => { g with fes := Map.put g.fes n (f (s.gnaFe n)) }

/-- The SPI entry that heads the script of front end `n`, if one is pending. -/
def State.scriptHead (s : State) (n : Nat) : Option ScriptEntry :=
  match (s.gnaFe n).script with
  | some (.write c l d :: _) => some (.write c l d)
  | some (.read c l e m :: _) => some (.read c l e m)
  | _ => none

/-- The next transfer begins (R243, R245), a DAC frame in mode 0, any other in the mode and with the divider of SPI_CFG: a DAC
frame, then script entries of front ends 0 to 3, then a host transfer. -/
def State.spiNext (s : State) : State :=
  let put (c : Option SpiTransfer) (s : State) : State := { s with spi := { s.spi with current := c } }
  let out (cs len : Nat) (read : Bool) (data : Nat) (s : State) : State :=
    s.emit (.spi cs len read data (s.get R.GNA.SPI_CFG.MODE) (s.get R.GNA.SPI_CFG.DIV))
  match s.spi.dac with
  | some (cs, bs) => ({ s with spi := { s.spi with current := some .dac, dac := none } }).emit (.dacFrame cs bs)
  | none =>
    match [0, 1, 2, 3].find? (fun n => (s.scriptHead n).isSome) with
    | some n =>
      match s.scriptHead n with
      | some (.write cs len data) => (put (some (.script n)) s) |> out cs len false data
      | some (.read cs len _ _) => (put (some (.script n)) s) |> out cs len true 0
      | _ => put none s
    | none =>
      match s.spi.host with
      | some (cs, len, read, data) =>
        ({ s with spi := { s.spi with current := some (.host read), host := none } }) |> out cs len read data
      | none => put none s

/-- The controller is asked: an idle one begins the next transfer. -/
def State.spiKick (s : State) : State := if s.spi.current.isNone then s.spiNext else s

/-- A DAC frame handed to the controller (R153, R245). -/
def State.spiDac (cs : Nat) (bs : List Byte) (s : State) : State :=
  ({ s with spi := { s.spi with dac := some (cs, bs) } }).spiKick

end Sys2Proof.Machine
end

