-- ==== Sys2Proof/Machine/Osc.lean ====
section
/-! DEFINITION. The hearth oscillator: identity, life, steering commands (chapter 04). -/

namespace Sys2Proof.Machine

/-- The block's own state changed. -/
def State.modOsc (f : Osc → Osc) (s : State) : State := { s with osc := f s.osc }

/-- OSC.CFG.MODE in force (R153): 0 NONE, 1 UART, 2 DAC. -/
def State.oscMode (s : State) : Nat := s.get R.OSC.CFG.MODE

/-- CK_HRT's second of 2^-16 ns units in `ms` milliseconds. -/
def msI (ms : Nat) : Int := (ms * (secU / 1000) : Nat)

/-! ### Identity (R149, R150) -/

/-- The identity becomes `id`. One that differs from the previous, or any from or to unknown, is an identity change (R150);
without a previous one it is a change only if it is unknown (R529). Host values are released with the model (R74, R76). -/
def State.judgeIdentity (prev : Option Nat) (id : Nat) (s : State) : State :=
  let s0 := (s.modOsc fun o => { o with prevId := none, idRead := true }).set R.OSC.ID.ID id
  if id ≠ 0 ∧ prev.getD id = id then s0
  else
    let s1 := ((((s0.set R.OSC.ID_PREV.ID (prev.getD 0)).inc R.OSC.ID_CHG_CNT.COUNT).evt R.OSC.EVT.ID_CHANGE).file
      F.oscIdChange 0 0).modelReset
    (((s1.set R.OSC.RUN_HOURS.HOURS 0).modOsc fun o => { o with hourAt := s.mark }).modEbd fun e =>
      { e with identPending := true, identLate := s.hearth.running && s.lateForUpdate, hostSet := none }).showBank

/-- An identity read, or set to unknown. Before the ember scan of start-up it waits for the judgement made there. -/
def State.oscIdentity (id : Nat) (s : State) : State :=
  if s.nvc.stage < 5 then (s.modOsc fun o => { o with idRead := true }).set R.OSC.ID.ID id
  else s.judgeIdentity (if s.osc.idRead then some (s.get R.OSC.ID.ID) else s.osc.prevId) id

/-- A read of the identity EEPROM starts (R149). -/
def State.oscIdStart (s : State) : State :=
  (s.modOsc fun o => { o with idReading := true }).emit
    (.i2cRead (s.get R.OSC.I2C.ADDR) (s.get R.OSC.I2C.ID_OFF) (s.get R.OSC.I2C.ID_LEN))

/-! ### Commands (R153 to R158) -/

/-- The bytes of a DAC frame (R153): right-aligned, most significant first. -/
def State.dacBytes (s : State) (c : Int) : List Byte :=
  let w := s.get R.OSC.DAC.WIDTH
  let code := if s.flag R.OSC.DAC.FORMAT then ofSigned w c else ofSigned w (c + (2 ^ (w - 1) : Nat))
  beBytes (ceilDiv w 8) code

/-- A command for C = `c` is sent (R153, R156): counted, and pending until it completes. -/
def State.oscSend (c : Int) (transfer : Bool) (s : State) : State :=
  let s1 := (s.modOsc fun o => { o with flight := o.flight ++ [⟨c, transfer, s.oscMode == 1, s.mark⟩] }).set R.OSC.STAT.CMD_PEND 1
  let s2 := s1.inc R.OSC.CMD_CNT.COUNT
  if s.oscMode = 1 then s2.emit (.oscCommand (s.get R.OSC.UART.BAUD) s.oscClass.cmdTpl c)
  else s2.spiDac (s.get R.OSC.DAC.CS) (s.dacBytes c)

/-- The rails after C has changed (R157). -/
def State.oscRails (s : State) : State :=
  let c := s.sget R.OSC.CMD_NOW.C
  let hi := decide (s.sget R.OSC.CMD_MAX.MAX ≤ c)
  let lo := decide (c ≤ s.sget R.OSC.CMD_MIN.MIN)
  let new := (hi && !s.flag R.OSC.STAT.RAIL_HI) || (lo && !s.flag R.OSC.STAT.RAIL_LO)
  let s1 := (s.setB R.OSC.STAT.RAIL_HI hi).setB R.OSC.STAT.RAIL_LO lo
  if new then (s1.evt R.OSC.EVT.RAIL).file F.oscRail 0 0 else s1

/-- The oldest command in flight by a path, and the state without it. -/
def State.takeFlight (uart : Bool) (s : State) : Option (OscCommand × State) :=
  match s.osc.flight.find? (fun f => f.uart == uart) with
  | none => none
  | some f =>
    let rest := s.osc.flight.eraseP (fun f => f.uart == uart)
    some (f, (s.modOsc fun o => { o with flight := rest }).setB R.OSC.STAT.CMD_PEND (!rest.isEmpty))

/-- The oldest command in flight by a path completes (R154 to R157): C, its count in Φ, the compensation of a transfer. While SEL
coasts C counts in the coast law and in the seed that follows, so a transfer that completes then has none (R133, R134). -/
def State.oscComplete (uart : Bool) (s : State) : State :=
  match s.takeFlight uart with
  | none => s
  | some (f, s0) =>
    let at_ := s.now + msI (s.get R.OSC.LATENCY.MS)
    let dc := f.c - s.sget R.OSC.CMD_NOW.C
    let df := s.sget R.OSC.GAIN.G * dc
    let waits := f.transfer && (s.selState == 1 || s.selState == 4)
    let s1 := (s0.setI R.OSC.CMD_NOW.C f.c).modOsc fun o =>
      { o with ackFails := 0, comp := if waits then o.comp ++ [(at_, df)] else o.comp }
    (s1.modHearth fun h => { h with phiOsc := if dc = 0 then h.phiOsc else (at_, df) :: h.phiOsc }).oscRails

/-- The oldest UART command in flight has no valid acknowledgement (R154). -/
def State.oscFail (s : State) : State :=
  match s.takeFlight true with
  | none => s
  | some (_, s0) =>
    let n := s.osc.ackFails + 1
    let s1 := ((s0.modOsc fun o => { o with ackFails := n }).inc R.OSC.CMD_FAIL_CNT.COUNT).evt R.OSC.EVT.CMD_FAIL
    if 2 ≤ n ∧ s.flag R.OSC.STAT.STEER_DIS = false then (s1.set R.OSC.STAT.STEER_DIS 1).file F.oscCmdFail 0 0 else s1

/-- ΔC of the transfer that R156 would issue. -/
def State.transferStep (s : State) : Int :=
  let g := s.sget R.OSC.GAIN.G
  if g = 0 then 0
  else
    let d0 := Int.tdiv s.voted.i g
    let d1 := clampAbs (s.get R.OSC.XFER.STEP_MAX) d0
    let lim := (s.get R.TSC.SLEW.INTEG_STEP * 1000) / g.natAbs
    let d2 := clampAbs lim d1
    let c := s.sget R.OSC.CMD_NOW.C
    max (s.sget R.OSC.CMD_MIN.MIN - c) (min (s.sget R.OSC.CMD_MAX.MAX - c) d2)

/-- OSC considers a transfer at a second boundary (R137, R152, R154, R156, R157, R158, R188). DESIGN CHOICE: none is sent where ΔC
comes out as 0, nor while a command is in flight, for C is then open (log entry 118). -/
def State.oscTransfer (s : State) : State :=
  let i := s.voted.i
  let dc := s.transferStep
  let railed := (s.flag R.OSC.STAT.RAIL_HI && decide (0 < dc)) || (s.flag R.OSC.STAT.RAIL_LO && decide (dc < 0))
  if s.selState == 1 && !s.damperOpen && (s.oscMode == 1 || s.oscMode == 2) && s.flag R.OSC.STAT.MOD_LOCK &&
      !s.flag R.OSC.STAT.STEER_DIS && !s.syn.coasting && s.osc.flight.isEmpty &&
      decide (s.get R.OSC.XFER.THR * 1000 ≤ i.natAbs) && dc != 0 && !railed then
    s.oscSend (s.sget R.OSC.CMD_NOW.C + dc) true
  else s

/-- The compensation due at a loop update, in counts: INTEG loses G × ΔC, with the hardware owning the loop, in LOCKED and in
BUILD-OUT, whose seed then moves with it; a coast law that begins has C in it already, and software compensates for itself (R133,
R134, R156, R158). -/
def State.takeComp (s : State) : Int × State :=
  let owned := (s.selState == 1 || s.selState == 4) && !s.damperOpen
  if !owned then (0, s.modOsc fun o => { o with comp := [] })
  else
    let df := ((s.osc.comp.filter (fun x => decide (x.1 ≤ s.now))).map Prod.snd).sum
    let s1 := s.modOsc fun o => { o with comp := o.comp.filter (fun x => decide (s.now < x.1)) }
    (df, if s.selState = 4 then s1.modSel fun m => { m with seed := m.seed - df } else s1)

/-! ### Group OSC -/

/-- A commit of group OSC is accepted (R149, R153, R160). -/
def oscOk (_old new : State) : Bool :=
  new.get R.OSC.CFG.MODE != 3 && decide (16 ≤ new.get R.OSC.I2C.ID_LEN) && decide (new.get R.OSC.I2C.ID_LEN ≤ 128) &&
  decide (12 ≤ new.get R.OSC.DAC.WIDTH) && decide (new.get R.OSC.DAC.WIDTH ≤ 24) && decide (new.get R.OSC.UART.BAUD < 8)

/-- The record of the class in force loaded into its fields (R147). -/
def State.oscLoadClass (s : State) : State :=
  let c := s.oscClass
  (((((s.set R.OSC.STAT.KIND c.kind).setI R.OSC.GAIN.G c.gain).set R.OSC.LATENCY.MS c.latency).setI
    R.OSC.CMD_MIN.MIN c.cmdMin).setI R.OSC.CMD_MAX.MAX c.cmdMax) |>.set R.OSC.DAC.WIDTH (bitsOf c.dac 0 5)
    |>.set R.OSC.DAC.FORMAT (bitsOf c.dac 8 1) |>.set R.OSC.DAC.CS (bitsOf c.dac 12 3)

/-- What an accepted commit brings (R145, R147, R153, R154, R157). -/
def oscAfter (old new : State) : State :=
  let s1 := if old.differ new R.OSC.CFG.CLASS then new.oscLoadClass.modelReset else new
  let s2 := s1.set R.OSC.STAT.STEER_DIS 0
  let entered := old.differ new R.OSC.CFG.MODE && (new.oscMode == 1 || new.oscMode == 2)
  ((s2.modOsc fun o => { o with modePend := o.modePend || entered }).oscRails).showLaw

/-- What OSC sends at a second boundary: the command of a mode entry, a software command, a transfer (R153, R156, R158). Without a
steering path nothing goes out, and a software command that waited is refused. -/
def State.oscDrive (s : State) : State :=
  if s.oscMode = 0 then
    let s1 := s.modOsc fun o => { o with modePend := false }
    if s.flag R.OSC.CTL.SWCMD_SEND then (s1.set R.OSC.CTL.SWCMD_SEND 0).evt R.OSC.EVT.CFG_REJECTED else s1
  else if s.osc.modePend then
    (s.modOsc fun o => { o with modePend := false }).oscSend (s.sget R.OSC.CMD_NOW.C) false
  else if s.flag R.OSC.CTL.SWCMD_SEND ∧ s.osc.flight.isEmpty = true then
    let c := max (s.sget R.OSC.CMD_MIN.MIN) (min (s.sget R.OSC.CMD_MAX.MAX) (s.sget R.OSC.SWCMD.C))
    (s.set R.OSC.CTL.SWCMD_SEND 0).oscSend c false
  else s.oscTransfer

/-- OSC at a second boundary: its group, and, in the chip that holds the hat, its commands (R504). -/
def State.oscSecond (s : State) : State :=
  let s1 := s.takeGroup .osc R.OSC.CTL.COMMIT R.OSC.EVT.CFG_REJECTED oscOk oscAfter
  if s1.flag R.RED.STAT.HOLDING then s1.oscDrive else s1

/-! ### The commands of the chapter -/

/-- ID_POLL (R149): POLL seconds after the last. -/
def execIdPoll (s : State) : Out :=
  if s.passed s.osc.idPollAt (s.get R.OSC.I2C.POLL * secU) then .next (s.modOsc fun o => { o with idPollAt := s.mark }).oscIdStart
  else .next s

/-- ID_READ (R149). -/
def execIdRead (s : State) : Out := .next s.oscIdStart

/-- ID_READ_DONE (R149, R150): the bytes read, or none where the read failed. -/
def execIdReadDone (bytes : Option (List Byte)) (s : State) : Out :=
  let s0 := s.modOsc fun o => { o with idReading := false }
  match bytes with
  | some bs => .next (((s0.modOsc fun o => { o with idFails := 0 }).set R.OSC.STAT.ID_OK 1).oscIdentity (crc32c bs))
  | none =>
    let n := s.osc.idFails + 1
    let s1 := ((s0.modOsc fun o => { o with idFails := n }).set R.OSC.STAT.ID_OK 0).evt R.OSC.EVT.ID_FAIL
    if n = 3 then
      let s2 := if s.get R.OSC.ID.ID = 0 ∧ s.osc.idRead = true then s1 else s1.oscIdentity 0
      .next ((s2.set R.OSC.ID.ID 0).file F.oscIdFail 0 0)
    else .next s1

/-- STATUS_POLL (R151): a class that exposes current or temperature is asked, STAT_POLL seconds after the last poll, by the chip whose
transmit ball is driven (R504). -/
def execStatusPoll (s : State) : Out :=
  if s.flag R.RED.STAT.HOLDING = true ∧ (s.oscClass.hasCurrent = true ∨ s.oscClass.hasTemp = true) ∧
      s.passed s.osc.statPollAt (s.get R.OSC.UART.STAT_POLL * secU) = true then
    .next ((s.modOsc fun o => { o with statPollAt := s.mark }).emit (.oscStatus (s.get R.OSC.UART.BAUD) s.oscClass.statTpl))
  else .next s

/-- STATUS_REPLY (R151): what the class exposes is loaded, and the current is judged. -/
def execStatusReply (cur temp : BitVec 16) (s : State) : Out :=
  let c := s.oscClass
  let s1 := if c.hasTemp then { s.set R.OSC.TEMP.TEMP temp.toNat with pmc := { s.pmc with oscAge := some 0 } } else s
  if c.hasCurrent then
    let s2 := s1.set R.OSC.CURRENT.CUR cur.toNat
    let bad := decide (cur.toNat < s.get R.OSC.LIFE.CUR_MIN) || decide (s.get R.OSC.LIFE.CUR_MAX < cur.toNat)
    let n := if bad then s.osc.wearPolls + 1 else 0
    let s3 := s2.modOsc fun o => { o with wearPolls := n }
    if n = 2 then .next ((s3.evt R.OSC.EVT.WEAR).file F.oscWear 0 0) else .next s3
  else .next s1

/-- RUN_HOUR (R151): a whole hour in which CK_HRT ran with the same identity. -/
def execRunHour (s : State) : Out :=
  if s.hrtRuns && s.passed s.osc.hourAt (3600 * secU) then
    let s1 := (s.modOsc fun o => { o with hourAt := s.mark }).inc R.OSC.RUN_HOURS.HOURS
    if s.get R.OSC.RUN_HOURS.HOURS ≤ s.get R.OSC.LIFE_HOURS.HOURS ∧
        s.get R.OSC.LIFE_HOURS.HOURS < s1.get R.OSC.RUN_HOURS.HOURS then
      .next ((s1.evt R.OSC.EVT.LIFE).file F.oscLife 0 0)
    else .next s1
  else .next s

/-- OSC_LOCK_CHANGE (R142, R152): the level of ball OSC_LOCK. -/
def execOscLockChange (locked : Bool) (s : State) : Out :=
  let s1 := s.setB R.OSC.STAT.MOD_LOCK locked
  if s.flag R.OSC.STAT.MOD_LOCK && !locked then
    .next (((s1.modSel fun m => { m with accBad := true }).evt R.OSC.EVT.UNLOCK).file F.oscUnlock 0 0)
  else .next s1

/-- ACK_TO in 2^-16 ns (R154). -/
def State.ackTo (s : State) : Nat := s.get R.OSC.UART.ACK_TO * 10 * msU

/-- When the oldest UART command in flight was sent. -/
def State.ackSince (s : State) : Option Int := (s.osc.flight.find? (fun f => f.uart == true)).bind OscCommand.sentAt

/-- COMMAND_ACK (R154): a valid acknowledgement of the oldest UART command in flight, within ACK_TO. -/
def execCommandAck (s : State) : Out :=
  if s.within s.ackSince s.ackTo then .next (s.oscComplete true) else .next s

/-- ACK_TIMEOUT (R154): ACK_TO has passed without one. -/
def execAckTimeout (s : State) : Out :=
  if s.passed s.ackSince s.ackTo then .next s.oscFail else .next s

/-- DAC_FRAME_DONE (R154, R245): the frame the controller sends has ended. -/
def execDacFrameDone (s : State) : Out :=
  if s.spi.current = some .dac then .next (s.oscComplete false).spiNext else .next s

/-- SWCMD_SEND (R158): ignored while the hardware owns the loop, and without a steering path. -/
def execSwcmdSend (s : State) : Out :=
  if s.damperOpen = false ∨ s.oscMode = 0 then .next (s.evt R.OSC.EVT.CFG_REJECTED)
  else .next (s.set R.OSC.CTL.SWCMD_SEND 1)

/-- OSC_COMMIT (R160). -/
def execOscCommit (s : State) : Out := .next (s.commit .osc R.OSC.CTL.COMMIT)

end Sys2Proof.Machine
end

