-- ==== Sys2Proof/Machine/Syn.lean ====
section
/-! DEFINITION. The synthesizers: limits, search, lock, coast, tracking (chapter 05), and what the outputs see of them
(R181, R182, R193, R197, R199). -/

namespace Sys2Proof.Machine

/-- The block's own state changed. -/
def State.modSyn (f : Syn → Syn) (s : State) : State := { s with syn := f s.syn }

/-- A synthesizer with nothing in it. -/
def SynCh.empty : SynCh :=
  { copy := [], band := 0, trials := 0, windows := 0, passes := 0, fines := [], frozen := false, locked := false,
    fineSeen := false, fromCoast := false, final := false, ratio := 0, residue := 0, added := 0, justCoast := false }

/-- Synthesizer `n`. -/
def State.synCh (s : State) (n : Nat) : SynCh := Map.getD s.syn.chans n SynCh.empty

/-- Synthesizer `n` changed. -/
def State.modSynCh (n : Nat) (f : SynCh → SynCh) (s : State) : State :=
  s.modSyn fun y => { y with chans := Map.put y.chans n (f (s.synCh n)) }

/-- State code of synthesizer `n` (R172): 0 OFF, 1 SEARCH, 2 ACQUIRE, 3 LOCKED, 4 COAST, 5 FAILED. -/
def State.synState (s : State) (n : Nat) : Nat := s.get (R.SYN.CH.STAT.STATE n)

/-! ### Frequencies (R161, R163, R185) -/

/-- The nominal reference frequency, Hz (R163). -/
def State.synRef (s : State) (n : Nat) : Nat :=
  match s.get (R.SYN.CH.CFG.SRC n) with
  | 0 => s.get R.SYN.HOSC.NOM
  | 1 => 625000000
  | _ => s.get (R.REF.SLOT.NOM.NOM (s.get (R.SYN.CH.CFG.REFSEL n)))

/-- f_PFD, Hz (R161). -/
def State.synPfd (s : State) (n : Nat) : Rat := (s.synRef n : Rat) / (s.get (R.SYN.CH.CFG.PDIV n) : Nat)

/-- DEN, whose encoding 0 means 2^48 (R162). -/
def State.synDen (s : State) (n : Nat) : Nat :=
  let d := s.get2 (R.SYN.CH.DEN_LO.DEN n) (R.SYN.CH.DEN_HI.DEN n)
  if d = 0 then 2 ^ 48 else d

/-- N = NINT + NUM / DEN (R161). -/
def State.synN (s : State) (n : Nat) : Rat :=
  (s.get (R.SYN.CH.NINT.NINT n) : Rat) + (s.get2 (R.SYN.CH.NUM_LO.NUM n) (R.SYN.CH.NUM_HI.NUM n) : Rat) / (s.synDen n : Nat)

/-- f_VCO, Hz. -/
def State.synVco (s : State) (n : Nat) : Rat := s.synPfd n * s.synN n

/-- f_SYN, Hz. -/
def State.synOut (s : State) (n : Nat) : Rat := s.synVco n / (s.get (R.SYN.CH.ODIV.ODIV n) : Nat)

/-- Loop bandwidths by code, Hz. -/
def synBandwidth (code : Nat) : Nat := ([10, 20, 50, 100, 200, 500, 1000].getD code 0) * 1000

/-! ### What the outputs see -/

/-- An output with nothing in it. -/
def OutCh.empty : OutCh := { alignAt := none, origin := 0, trim := 0, since := false, sinceLost := false, auto := false }

/-- Output `n`. -/
def State.outCh (s : State) (n : Nat) : OutCh := Map.getD s.out.chans n OutCh.empty

/-- Output `n` changed. -/
def State.modOutCh (n : Nat) (f : OutCh → OutCh) (s : State) : State :=
  { s with out := { s.out with chans := Map.put s.out.chans n (f (s.outCh n)) } }

/-- NEED_ALIGN of an output, in both its places (R197). -/
def State.outNeed (n : Nat) (b : Bool) (s : State) : State :=
  let s1 := (s.setB (R.OUT.STAT.NEED_ALIGN n) b).set R.OUT.SUM.NEED_ALIGN (putBit (s.get R.OUT.SUM.NEED_ALIGN) n b)
  if b then s1.evt R.OUT.EVT.NEED_ALIGN else s1

/-- One mute cause set or cleared. -/
def State.setMute (n bit : Nat) (b : Bool) (s : State) : State :=
  s.set (R.OUT.STAT.MUTE n) (putBit (s.get (R.OUT.STAT.MUTE n)) bit b)

/-- A realign that has taken effect waits for its source to be LOCKED (R196); old edges go on. -/
def State.alignWait (n : Nat) (s : State) : State :=
  ((s.modOutCh n fun c => { c with alignAt := none }).set (R.OUT.STAT.ALIGN_WAIT n) 1).setMute n 4 false

/-- Cause SYN of R193. -/
def State.muteSyn (s : State) (n : Nat) : Bool :=
  let y := s.get (R.OUT.CFG.SRC n)
  let st := s.synState y
  st == 0 || st == 5 || (st == 4 && s.flag (R.SYN.CH.CFG.COAST_MUTE y))

/-- The chip drives its nets: it holds the hat and has released its balls (R193, R504). -/
def State.driven (s : State) : Bool := s.out.drive && s.flag R.RED.STAT.HOLDING

/-- Causes SYN, HAT and WAIT of an output brought up to date; SOFT and GAP are set by their own events (R193). -/
def State.outMutes (n : Nat) (s : State) : State :=
  let m := s.get (R.OUT.STAT.MUTE n)
  let wait := s.flag (R.OUT.CFG.REQ_ALIGN n) && !(s.outCh n).since
  s.set (R.OUT.STAT.MUTE n) (putBit (putBit (putBit m 1 (s.muteSyn n)) 2 (!s.driven)) 3 wait)

/-- The causes of every output. -/
def State.outMutesAll (s : State) : State := (List.range 16).foldl (fun st n => st.outMutes n) s

/-- Output `n` is enabled and takes synthesizer `y`. -/
def State.fedBy (s : State) (y n : Nat) : Bool := s.flag (R.OUT.CFG.EN n) && s.get (R.OUT.CFG.SRC n) == y

/-- PHASE_LOST set (R181): every enabled output the synthesizer feeds needs alignment (R197), and none of its outputs has
been aligned since (R199). -/
def State.synPhaseLost (y : Nat) (s : State) : State :=
  (List.range 16).foldl (fun st n =>
    if st.get (R.OUT.CFG.SRC n) = y then
      let s1 := st.modOutCh n fun c => { c with sinceLost := false }
      if st.fedBy y n then s1.outNeed n true else s1
    else st)
    (s.set (R.SYN.CH.STAT.PHASE_LOST y) 1)

/-- Alignments in progress on a synthesizer that is not LOCKED wait (R196). -/
def State.outSrcLost (y : Nat) (s : State) : State :=
  (List.range 16).foldl (fun st n =>
    if st.fedBy y n ∧ st.get (R.OUT.STAT.ALIGN_STATE n) = 1 then st.alignWait n else st) s

/-! ### Tracking (R167, R169) -/

/-- N_eff: N, scaled by the S tracked while TRACK = 1 (R167). -/
def State.synNeff (s : State) (n : Nat) : Rat :=
  if s.flag (R.SYN.CH.CFG.TRACK n) ∧ (s.synCh n).ratio ≠ 0 then ((s.synCh n).ratio : Rat) / (2 ^ 48 : Nat) else s.synN n

/-- The part of a PFD period that lies between the present tick and the first PFD edge at or after it, which depends on the phase
of the reference: a free value (R167). -/
def State.pfdWait (s : State) (n : Nat) : Rat := ((Config.pfdPhase n s.now % 2 ^ 48 : Nat) : Rat) / (2 ^ 48 : Nat)

/-- A tracking synthesizer takes the S in force: the ratio rounded to 2^-48, the residue carried. It applies at the first PFD edge,
and the phase lost up to it is added once to the fraction accumulator (R167); between the tick and that edge nothing sees the
ratio. -/
def State.synRatio (n : Nat) (residue : Rat) (s : State) : State :=
  if s.flag (R.SYN.CH.CFG.TRACK n) then
    let x : Rat := s.synN n * (1 + (s.voted.s : Rat) / (10 ^ 15 : Nat)) * (2 ^ 48 : Nat) + residue
    let r := (x + 1 / 2).floor
    let lost := ((r : Rat) / (2 ^ 48 : Nat) - s.synNeff n) * s.pfdWait n
    s.modSynCh n fun c => { c with ratio := r, residue := x - r, added := c.added + lost }
  else s

/-- A change of S reaches the tracking synthesizers. Tracking stops in COAST (R180). -/
def State.synTrack (s : State) : State :=
  [1, 2, 3].foldl (fun st n => if st.synState n = 4 then st else st.synRatio n (st.synCh n).residue) s

/-! ### States -/

/-- CK_HRT and the SerDes reference gated or released (R186, R187). -/
def State.hrtGate (run : Bool) (s : State) : State :=
  s.setClock 1 run

/-- A state change: STATE, SUM, CHG, and what it means to the outputs it feeds (R193, R196). One that leaves COAST tracks
again (R180). -/
def State.setSynState (n st : Nat) (s : State) : State :=
  if s.synState n = st then s
  else
    let s1 := ((s.set (R.SYN.CH.STAT.STATE n) st).set R.SYN.SUM.LOCKED (putBit (s.get R.SYN.SUM.LOCKED) n (st == 3))).set
      R.SYN.SUM.COAST (putBit (s.get R.SYN.SUM.COAST) n (st == 4))
    let s2 := if st = 3 then s1 else s1.set (R.SYN.CH.STAT.FINE_EDGE n) 0
    let s3 := if s.synState n = 4 then s2.synRatio n (s.synCh n).residue else s2
    let s4 := if s.synState n = 3 then s3.outSrcLost n else s3
    (s4.evtBit R.SYN.CHG.CHANGED n).outMutesAll

/-- The table's entries by band. -/
def State.bandTable (s : State) : List (Nat × Nat) :=
  (List.range 64).map (fun b => (s.get (R.SYN.BAND.LO b), s.get (R.SYN.BAND.HI b)))

/-- An entry with LO = HI = 0 is not enabled (R174). -/
def bandOn (e : Nat × Nat) : Bool := !(e.1 == 0 && e.2 == 0)

/-- 250 kHz units. -/
def quarterMHz : Nat := 250000

/-- The first band of a search: the one that holds f_VCO with the largest margin (R176). DESIGN CHOICE: of two with the same
margin the one of lower number (log entry 119). -/
def firstBand (table : List (Nat × Nat)) (f : Rat) : Option Nat :=
  let margin (e : Nat × Nat) : Rat := min (f - (e.1 * quarterMHz : Nat)) ((e.2 * quarterMHz : Nat) - f)
  let held := (List.range 64).filter (fun b => let e := table.getD b (0, 0); bandOn e && decide (0 ≤ margin e))
  held.foldl (fun (acc : Option Nat) b =>
    match acc with
    | none => some b
    | some a => if margin (table.getD a (0, 0)) < margin (table.getD b (0, 0)) then some b else some a) none

/-- The class of SYN0's and the others' search and lock failures, and what they bring: FAILED (R173, R182, R186). -/
def State.synFail (n : Nat) (band : Bool) (s : State) : State :=
  let first := n == 0 && !(s.synCh 0).locked
  let s1 := s.setSynState n 5
  let s2 := s1.set (R.SYN.CH.FINE.FINE n)
    (if (s.synCh n).frozen then s.get (R.SYN.CH.FINE_FRZ.FINE n) else 0x80000)
  let s3 := if first then s2.modSyn fun y => { y with firstFailed := true } else s2
  if band then (s3.evt (R.SYN.CH.EVT.BAND_FAIL n)).file (F.synBandFail first) n 0
  else (s3.evt (R.SYN.CH.EVT.LOCK_FAIL n)).file (F.synLockFail first) n 0

/-- The search begins, or its stage begins anew, with FINE at its minimum; without a reference it is suspended until that is present
(R173, R174, R176). -/
def State.synBeginSearch (n : Nat) (s : State) : State :=
  if s.flag (R.SYN.CH.STAT.REF_PRESENT n) = false then s else
  let table := s.bandTable
  let forced := s.flag (R.SYN.CH.BAND_CFG.FORCE_EN n)
  let first := if forced then some (s.get (R.SYN.CH.BAND_CFG.FORCE_BAND n)) else firstBand table (s.synVco n)
  match first with
  | some b =>
    (s.modSynCh n fun c => { c with copy := table, band := b, trials := if forced then 1 else 5 }).set
      (R.SYN.CH.STAT.BAND n) b |>.set (R.SYN.CH.FINE.FINE n) 0
  | none => s.synFail n true

/-- SEARCH entered (R172, R187): after SYN0's first lock CK_HRT and the SerDes reference are gated, and outside UNSET
SYN0_RELOCK is filed and EB saturates. -/
def State.synSearch (n : Nat) (final : Bool) (s : State) : State :=
  let s0 := (s.modSynCh n fun c => { c with final := final, fromCoast := false }).setSynState n 1
  let s1 := if n = 0 ∧ (s.synCh 0).locked = true then
      let g := s0.hrtGate false
      if s.get R.TSC.STAT.STATE = 0 then g
      else ((g.file F.syn0Relock 0 0).modEbd fun e => { e with saturating := true }).ebUnknown
    else s0
  s1.synBeginSearch n

/-- ACQUIRE entered, or begun anew (R172, R173). -/
def State.synAcquire (n : Nat) (fromCoast : Bool) (s : State) : State :=
  (s.modSynCh n fun c => { c with windows := 0, passes := 0, fines := [], fromCoast := fromCoast }).setSynState n 2

/-- SYN0 has locked anew: TXPH is measured on every port that is ON (R342). -/
def State.txphAll (s : State) : State :=
  (List.range 4).foldl (fun st p =>
    if st.get (R.ETH.STAT.PWR_STATE p) = 2 then
      let f := Map.getD st.lts.ports p LtsPort.empty
      { st with lts := { st.lts with ports := Map.put st.lts.ports p { f with txphRun := true } } }
    else st) s

/-- LOCKED declared (R178, R186, R188, R199, R342). -/
def State.synLocked (n : Nat) (s : State) : State :=
  let s1 := (((s.setSynState n 3).inc (R.SYN.CH.ACQ_CNT.COUNT n)).evt (R.SYN.CH.EVT.LOCK n)).modSynCh n
    fun c => { c with locked := true, fineSeen := false, fromCoast := false, final := false }
  let fed := (List.range 16).any (fun k => s.fedBy n k)
  let s2 := if fed then s1.synPhaseLost n else s1.set (R.SYN.CH.STAT.PHASE_LOST n) 0
  if n = 0 then
    ((if (s.synCh 0).locked then s2.txphAll else s2).hrtGate true).modSyn fun y =>
      { y with coasting := false, coastDue := false, restartDue := y.restartDue || y.coasting }
  else s2

/-- The frozen fine word (R180): the mean over the eight windows before the last, rounded freely. -/
def State.fineFreeze (s : State) (n : Nat) : Nat :=
  match ((s.synCh n).fines.drop 1).take 8 with
  | [] => s.get (R.SYN.CH.FINE.FINE n)
  | w => (s.roundFree ((w.sum : Rat) / (w.length : Nat))).toNat

/-- COAST entered with a cause, 1 REF_LOSS or 2 FREQ (R180, R182, R188). -/
def State.synCoast (n cause : Nat) (s : State) : State :=
  let f := s.fineFreeze n
  let s1 := ((((s.bump.set (R.SYN.CH.FINE.FINE n) f).set (R.SYN.CH.FINE_FRZ.FINE n) f).set (R.SYN.CH.STAT.CAUSE n)
    cause).inc (R.SYN.CH.COAST_CNT.COUNT n)).evt (R.SYN.CH.EVT.COAST n)
  let s2 := ((s1.modSynCh n fun c => { c with frozen := true }).setSynState n 4).synPhaseLost n
  if n = 0 then s2.modSyn fun y => { y with coastDue := true } else s2.file F.synCoast n cause

/-- An ACQUIRE that ends without lock (R178, R183): from COAST, SYN1 to SYN3 search once more and SYN0 fails; with CK_HRT
running on (R187). -/
def State.synAcquireFail (n : Nat) (s : State) : State :=
  let c := s.synCh n
  if c.fromCoast ∧ n ≠ 0 then
    ((s.evt (R.SYN.CH.EVT.LOCK_FAIL n)).file (F.synLockFail false) n 0).synSearch n true
  else s.synFail n false

/-! ### Groups -/

/-- The fields whose change starts a search (R172). -/
def searchFields (n : Nat) : List Field :=
  [R.SYN.CH.CFG.SRC n, R.SYN.CH.CFG.REFSEL n, R.SYN.CH.CFG.PDIV n, R.SYN.CH.NINT.NINT n, R.SYN.CH.NUM_LO.NUM n,
   R.SYN.CH.NUM_HI.NUM n, R.SYN.CH.DEN_LO.DEN n, R.SYN.CH.DEN_HI.DEN n]

/-- The fields of group SYN0 other than LOCKDET and BAND_CFG (R187). -/
def syn0Guarded : List Field :=
  searchFields 0 ++ [R.SYN.CH.CFG.EN 0, R.SYN.CH.CFG.TRACK 0, R.SYN.CH.CFG.BW 0, R.SYN.CH.CFG.COAST_MUTE 0,
    R.SYN.CH.CFG.AUTO_RELOCK 0, R.SYN.CH.ODIV.ODIV 0, R.SYN.HOSC.NOM, R.SYN.HOSC_CFG.IO, R.SYN.HOSC_CFG.TERM]

/-- A commit of group SYNn is accepted (R162, R164, R168, R178, R185, R187). -/
def synOk (n : Nat) (old new : State) : Bool :=
  let g (f : Nat → Field) : Nat := new.get (f n)
  let pfd := new.synPfd n
  let vco := new.synVco n
  let win := g R.SYN.CH.LOCKDET.WIN
  let tol := g R.SYN.CH.LOCKDET.LOCK_TOL
  let src := g R.SYN.CH.CFG.SRC
  let odiv := g R.SYN.CH.ODIV.ODIV
  let num := new.get2 (R.SYN.CH.NUM_LO.NUM n) (R.SYN.CH.NUM_HI.NUM n)
  g R.SYN.CH.CFG.PDIV != 0 && decide ((5000000 : Rat) ≤ pfd) && decide (pfd ≤ 250000000) &&
  decide (32 ≤ g R.SYN.CH.NINT.NINT) && decide (num < new.synDen n) && decide (new.synDen n ≤ 2 ^ 48) &&
  decide ((10000000000 : Rat) ≤ vco) && decide (vco ≤ 13000000000) &&
  (n == 0 || (decide (4 ≤ odiv) && decide (odiv ≤ 1024))) &&
  g R.SYN.CH.CFG.BW != 7 && decide ((synBandwidth (g R.SYN.CH.CFG.BW) * 20 : Nat) ≤ pfd) &&
  tol != 0 && g R.SYN.CH.LOCKDET.LOCK_CNT != 0 && decide (win ≤ 10) &&
  decide ((4000000000 : Rat) ≤ new.synN n * (2 ^ (10 + win) : Nat) * (tol : Nat)) &&
  decide (tol < g R.SYN.CH.LOCKDET.UNLOCK_TOL * 10) && src != 3 &&
  (!new.flag (R.SYN.CH.CFG.TRACK n) || (n != 0 && decide (src < 2))) &&
  (n != 0 || (decide (vco = 12500000000) && new.flag (R.SYN.CH.CFG.EN 0) && src == 0 &&
    decide (new.get R.SYN.HOSC_CFG.IO < 2) &&
    (!(old.synCh 0).locked || old.get R.TSC.STAT.STATE == 0 || syn0Guarded.all (fun f => !old.differ new f))))

/-- What an accepted commit of group SYNn brings (R172, R173, R183, R184): where it starts a search, that is the one a RELOCK at the
same boundary asks for. Tracking starts from the S in force (R184). -/
def synAfter (n : Nat) (old new : State) : State :=
  let st := old.synState n
  let s0 := if (R.SYN.CH.CFG.TRACK n :: searchFields n).any (fun f => old.differ new f) then new.synRatio n 0 else new
  let s1 := if old.differ new (R.SYN.CH.ODIV.ODIV n) ∧ n ≠ 0 then s0.synPhaseLost n else s0
  if new.flag (R.SYN.CH.CFG.EN n) = false then s1.setSynState n 0
  else if st = 0 ∨ st = 1 ∨ st = 2 ∨ st = 5 ∨ (searchFields n).any (fun f => old.differ new f) = true then
    (s1.set (R.SYN.CH.CTL.RELOCK n) 0).synSearch n false
  else if st = 4 ∧ s1.flag (R.SYN.CH.STAT.REF_PRESENT n) = true then s1.synAcquire n true
  else s1

/-- A commit of group BAND is accepted (R174). -/
def synBandOk (_old new : State) : Bool :=
  let es := (new.bandTable).filter bandOn
  es.all (fun e => decide (e.1 < e.2)) && decide (es.Pairwise (fun a b => a.1 < b.1 ∧ a.2 < b.2))

/-- RELOCK at the second boundary (R173, R184, R187). -/
def State.synRelock (n : Nat) (s : State) : State :=
  if s.flag (R.SYN.CH.CTL.RELOCK n) then
    let s1 := s.set (R.SYN.CH.CTL.RELOCK n) 0
    if s.synState n = 0 then s1.evt (R.SYN.CH.EVT.CFG_REJECTED n)
    else s1.synSearch n false
  else s

/-- The synthesizers at a second boundary. -/
def State.synSecond (s : State) : State :=
  let s0 := s.takeGroup .synBand R.SYN.CTL_G.BAND_COMMIT (R.SYN.CH.EVT.CFG_REJECTED 0) synBandOk (fun _ n => n)
  let s1 := [0, 1, 2, 3].foldl (fun st n =>
    (st.takeGroup (.syn n) (R.SYN.CH.CTL.COMMIT n) (R.SYN.CH.EVT.CFG_REJECTED n) (synOk n) (synAfter n)).synRelock n) s0
  -- R188: after SYN0 has locked again, every enabled slot restarts
  if s1.syn.restartDue then
    (List.range 16).foldl (fun st n =>
      if st.slotState n = 0 then st else (st.set (R.REF.SLOT.CTL.RESTART n) 1).slotRestart n)
      (s1.modSyn fun y => { y with restartDue := false })
  else s1

/-! ### The commands of the chapter -/

/-- SYN_COMMIT (R162, R189). -/
def execSynCommit (n : Fin 4) (s : State) : Out := .next (s.commit (.syn n) (R.SYN.CH.CTL.COMMIT n))

/-- SYN_RELOCK (R184, R187): taken at the next second. -/
def execSynRelock (n : Fin 4) (s : State) : Out := .next (s.set (R.SYN.CH.CTL.RELOCK n) 1)

/-- BAND_COMMIT (R174). -/
def execBandCommit (s : State) : Out := .next (s.commit .synBand R.SYN.CTL_G.BAND_COMMIT)

/-- NVC.STAT.WAIT_HOSC from stage 3 of start-up to its end: HOSC is absent (R514). -/
def State.showWait (n : Fin 4) (s : State) : State :=
  if n = 0 ∧ 3 ≤ s.nvc.stage ∧ s.nvc.stage < 7 then s.setB R.NVC.STAT.WAIT_HOSC !s.flag (R.SYN.CH.STAT.REF_PRESENT 0) else s

/-- SYN0_FIRST_SEARCH (R186, R514): HOSC is present, and the profile has been applied. -/
def execSyn0FirstSearch (s : State) : Out :=
  if s.synState 0 = 0 ∧ 3 ≤ s.nvc.stage then .next (((s.set (R.SYN.CH.STAT.REF_PRESENT 0) 1).showWait 0).synSearch 0 false) else .next s

/-- BAND_TRIAL_DONE (R176): the VCO counts over 2^12 PFD cycles with FINE at its minimum and its maximum, where it stands at the
trial's end; the next trial sets it to its minimum. -/
def execBandTrialDone (n : Fin 4) (lo hi : BitVec 32) (s : State) : Out :=
  if s.synState n ≠ 1 ∨ s.flag (R.SYN.CH.STAT.REF_PRESENT n) = false then .next s
  else
    let c := s.synCh n
    let hz (k : BitVec 32) : Rat := (k.toNat : Rat) * s.synPfd n / 4096
    let f := s.synVco n
    let guard_ : Rat := (s.get (R.SYN.CH.BAND_CFG.GUARD n) * quarterMHz : Nat)
    let e0 := s.roundFree (hz lo / (quarterMHz : Nat))
    let e1 := s.bump.roundFree (hz hi / (quarterMHz : Nat))
    let s1 := ((s.bump.bump.set (R.SYN.CH.VCO_EDGE.LO n) (min 0xFFFF e0.toNat)).set (R.SYN.CH.VCO_EDGE.HI n)
      (min 0xFFFF e1.toNat)).set (R.SYN.CH.FINE.FINE n) 0xFFFFF
    if hz lo + guard_ ≤ f ∧ f ≤ hz hi - guard_ then .next (s1.synAcquire n false)
    else
      let down := decide (f < hz lo + guard_)
      let nextBand : Option Nat := if down then (if c.band = 0 then none else some (c.band - 1))
        else if c.band = 63 then none else some (c.band + 1)
      match nextBand with
      | none => .next (s1.synFail n true)
      | some b =>
        if c.trials ≤ 1 ∨ bandOn (c.copy.getD b (0, 0)) = false then .next (s1.synFail n true)
        else .next ((s1.modSynCh n fun x => { x with band := b, trials := x.trials - 1 }).set (R.SYN.CH.STAT.BAND n) b
          |>.set (R.SYN.CH.FINE.FINE n) 0)

/-- The fine word of a window. -/
def State.synFine (n fine : Nat) (s : State) : State :=
  (s.set (R.SYN.CH.FINE.FINE n) fine).modSynCh n fun c => { c with fines := (fine :: c.fines).take 9 }

/-- In LOCKED the fine word is judged against the ends of its range; the first rise of FINE_EDGE is filed (R177). -/
def State.synEdge (n fine : Nat) (s : State) : State :=
  let edge := decide (fine < 2 ^ 16) || decide (2 ^ 20 - 2 ^ 16 ≤ fine)
  let s1 := s.setB (R.SYN.CH.STAT.FINE_EDGE n) edge
  if edge && !(s.synCh n).fineSeen then
    ((s1.modSynCh n fun c => { c with fineSeen := true }).evt (R.SYN.CH.EVT.FINE_EDGE n)).file F.synFineEdge n 0
  else s1

/-- COAST for a frequency error, with the reference present: ACQUIRE follows where AUTO_RELOCK asks for it (R178, R183). -/
def State.synFreqCoast (n : Nat) (s : State) : State :=
  let s1 := (s.synCoast n 2).modSynCh n fun c => { c with justCoast := true }
  if s.flag (R.SYN.CH.CFG.AUTO_RELOCK n) then s1.synAcquire n true else s1

/-- LOCK_WINDOW (R178): the VCO count of a window and its fine word. -/
def execLockWindow (n : Fin 4) (count : BitVec 64) (fine : BitVec 20) (s0 : State) : Out :=
  let s := if (s0.synCh n).justCoast then s0.modSynCh n fun c => { c with justCoast := false } else s0
  let st := s.synState n
  if (st ≠ 2 ∧ st ≠ 3) ∨ s.flag (R.SYN.CH.STAT.REF_PRESENT n) = false then .next s
  else
    let w : Rat := (2 ^ (10 + s.get (R.SYN.CH.LOCKDET.WIN n)) : Nat)
    let want := s.synNeff n * w
    let e : Rat := if want = 0 then 0 else ((count.toNat : Rat) - want) / want * (10 ^ 9 : Nat)
    let ei := clampAbs (2 ^ 31 - 1) (s.roundFree e)
    let s1 := (s.bump.setI (R.SYN.CH.FREQ_ERR.E n) ei).synFine n fine.toNat
    let tol : Rat := (s.get (R.SYN.CH.LOCKDET.LOCK_TOL n) : Nat)
    let untol : Rat := (s.get (R.SYN.CH.LOCKDET.UNLOCK_TOL n) * 10 : Nat)
    if st = 2 then
      let c := s1.synCh n
      let pass := decide (-tol ≤ e) && decide (e ≤ tol)
      let passes := if pass then c.passes + 1 else 0
      let s2 := s1.modSynCh n fun x => { x with windows := c.windows + 1, passes := passes }
      if s.get (R.SYN.CH.LOCKDET.LOCK_CNT n) ≤ passes then .next ((s2.synLocked n).synEdge n fine.toNat)
      else if 64 ≤ c.windows + 1 then .next (s2.synAcquireFail n)
      else .next s2
    else if e < -untol ∨ untol < e then .next ((s1.synEdge n fine.toNat).synFreqCoast n)
    else .next (s1.synEdge n fine.toNat)

/-- SYN_REF_LOSS (R173, R179): eight reference edges in succession are absent. In the window that has entered COAST for its frequency
the loss is the cause (R184). -/
def execSynRefLoss (n : Fin 4) (s : State) : Out :=
  if s.flag (R.SYN.CH.STAT.REF_PRESENT n) then
    let s1 := ((s.set (R.SYN.CH.STAT.REF_PRESENT n) 0).evt (R.SYN.CH.EVT.REF_LOSS n)).showWait n
    if s.synState n = 3 then .next (s1.synCoast n 1)
    else if (s.synCh n).justCoast then
      .next (((s1.modSynCh n fun c => { c with justCoast := false }).set (R.SYN.CH.STAT.CAUSE n) 1).setSynState n 4)
    else .next s1
  else .next s

/-- SYN_REF_RETURN (R173, R179, R183): 1,024 good edges. A suspended stage begins anew, and COAST may reacquire. -/
def execSynRefReturn (n : Fin 4) (s : State) : Out :=
  if s.flag (R.SYN.CH.STAT.REF_PRESENT n) then .next s
  else
    let s1 := ((s.set (R.SYN.CH.STAT.REF_PRESENT n) 1).evt (R.SYN.CH.EVT.REF_RETURN n)).showWait n
    match s.synState n with
    | 1 => .next (s1.synBeginSearch n)
    | 2 => .next (s1.synAcquire n (s.synCh n).fromCoast)
    | 4 => if s.flag (R.SYN.CH.CFG.AUTO_RELOCK n) then .next (s1.synAcquire n true) else .next s1
    | _ => .next s1

end Sys2Proof.Machine
end

