-- ==== Sys2Proof/Machine/Out.lean ====
section
/-! DEFINITION. Outputs, IRIG-B, time-of-day messages, event lines (chapter 06). -/

namespace Sys2Proof.Machine

/-- The block's own state changed. -/
def State.modOut (f : OutSt → OutSt) (s : State) : State := { s with out := f s.out }

/-- Alignment state of an output: 0 UNALIGNED, 1 ALIGNING, 2 ALIGNED (R194). -/
def State.alignState (s : State) (n : Nat) : Nat := s.get (R.OUT.STAT.ALIGN_STATE n)

/-- Picoseconds in 2^-16 ns, rounded to the nearest. -/
def psU (ps : Int) : Int := roundDiv (ps * 65536) 1000

/-- The period T in seconds (R190). -/
def State.outPeriod (s : State) (n : Nat) : Rat :=
  (s.get (R.OUT.DIV.VALUE n) : Rat) / s.synOut (s.get (R.OUT.CFG.SRC n))

/-- DRIVING in both its places. -/
def State.setDriving (n : Nat) (b : Bool) (s : State) : State :=
  (s.setB (R.OUT.STAT.DRIVING n) b).set R.OUT.SUM.DRIVING (putBit (s.get R.OUT.SUM.DRIVING) n b)

/-- The driver is active when the output is enabled and no cause is present (R193). -/
def State.outActive (s : State) (n : Nat) : Bool := s.flag (R.OUT.CFG.EN n) && s.get (R.OUT.STAT.MUTE n) == 0

/-! ### Group OUTn -/

/-- A commit of group OUTn is accepted (R190). -/
def outOk (n : Nat) (_old new : State) : Bool :=
  let src := new.get (R.OUT.CFG.SRC n)
  let div := new.get (R.OUT.DIV.VALUE n)
  let io := new.get (R.OUT.CFG.IO n)
  let f := new.synOut src / (div : Nat)
  let width := new.get (R.OUT.WIDTH.CYCLES n)
  let m := new.get (R.OUT.ALIGN.MOD n)
  let trim := new.sget (R.OUT.TRIM.PS n)
  src != 0 && div != 0 && decide (f ≤ (if io < 2 then 1000000000 else 250000000 : Nat)) &&
  (!new.flag (R.OUT.CFG.MODE n) || (width != 0 && decide (width < div))) && m != 0 &&
  ((m : Nat) * f : Rat).den == 1 && decide (trim.natAbs ≤ 500000) && decide (new.get (R.OUT.CAL.AVG n) ≤ 10)

/-- The fields whose change leaves an output UNALIGNED (R194). DEDUCED: a commit with EN = 1 or EN = 0 is one that changes EN, since
any other commit of the group would name EN too (log entry 114). -/
def unalignFields (n : Nat) : List Field :=
  [R.OUT.CFG.EN n, R.OUT.CFG.SRC n, R.OUT.DIV.VALUE n, R.OUT.CFG.MODE n, R.OUT.ALIGN.MOD n]

/-- CAL_HOLD: calibration suspended while TBASE is absent (R202, R222). -/
def State.calHold (n : Nat) (s : State) : State := s.setB (R.OUT.STAT.CAL_HOLD n) (s.get R.TDC.STAT.STATE != 2)

/-- CAL_HOLD of every output. -/
def State.calHoldAll (s : State) : State := (List.range 16).foldl (fun st n => st.calHold n) s

/-- PHASE_LOST clears once every enabled output of the synthesizer has completed an alignment since it was set (R199); one
that feeds none waits for its next lock. -/
def State.synPhaseFound (y : Nat) (s : State) : State :=
  let fed := (List.range 16).filter (fun n => s.fedBy y n)
  if !fed.isEmpty && fed.all (fun n => (s.outCh n).sinceLost) then s.set (R.SYN.CH.STAT.PHASE_LOST y) 0 else s

/-- What an accepted commit of group OUTn brings (R192 to R194, R199); one of a profile switch needs alignment (R197). -/
def outAfter (n : Nat) (old new : State) : State :=
  let s1 := if (unalignFields n).any (fun f => old.differ new f) then
      let t := ((new.modOutCh n fun c => { c with alignAt := none, trim := new.sget (R.OUT.TRIM.PS n) }).set
        (R.OUT.STAT.ALIGN_STATE n) 0).set (R.OUT.STAT.ALIGN_WAIT n) 0
      t.setMute n 4 false
    else new
  let s2 := if old.differ new (R.OUT.CFG.EN n) then
      let t := s1.modOutCh n fun c => { c with since := false, auto := false }
      if new.flag (R.OUT.CFG.EN n) then t else t.setDriving n false
    else s1
  let s3 := if old.differ new (R.OUT.CFG.SRC n) then s2.modOutCh n fun c => { c with sinceLost := false } else s2
  let s4 := s3.setB (R.OUT.STAT.TRIM_SLEWING n) (s3.flag (R.OUT.CFG.EN n) && s3.get (R.OUT.TRIM.SLEW n) != 0 &&
    (s3.outCh n).trim != s3.sget (R.OUT.TRIM.PS n))
  let y := old.get (R.OUT.CFG.SRC n)
  let s5 := if old.fedBy y n && !s4.fedBy y n then s4.synPhaseFound y else s4
  let s6 := if new.nvc.switching.contains (.out n) && decide (7 ≤ new.nvc.stage) && new.flag (R.OUT.CFG.EN n) then s5.outNeed n true
    else s5
  (s6.calHold n).outMutes n

/-! ### Alignment (R195 to R199) -/

/-- The first whole second at or after second `t` that is a multiple of MOD, as an instant. -/
def State.alignSecond (s : State) (n t : Nat) : Int :=
  let m := s.get (R.OUT.ALIGN.MOD n)
  (ceilDiv t m * m : Nat) * secI

/-- The source of an output is LOCKED. -/
def State.srcLocked (s : State) (n : Nat) : Bool := s.synState (s.get (R.OUT.CFG.SRC n)) == 3

/-- An alignment is fixed, at the first eligible second at least 1 s after the instant `b`, until when old edges go on, or waits for
its source (R195, R196). -/
def State.alignFix (n : Nat) (b : Int) (s : State) : State :=
  if s.srcLocked n then
    let first := ceilDiv (b.toNat + secU) secU
    ((s.modOutCh n fun c => { c with alignAt := some (s.alignSecond n first) }).set (R.OUT.STAT.ALIGN_WAIT n) 0).setMute n 4 false
  else s.alignWait n

/-- The present second boundary is that of a step's own tick (R37). -/
def State.atStep (s : State) : Bool := s.hearth.stepTick == some s.hearth.tick

/-- The instant B of the present second boundary: the whole second it reaches, or the stepped value (R37, R195). -/
def State.boundaryAt (s : State) : Int := if s.atStep then s.now else s.second * secI

/-- Output `n` waits for the boundary after this one: its realign was commanded in the tick of this step (R198). -/
def State.alignLater (s : State) (n : Nat) : Bool := s.atStep && (s.outCh n).auto && bitOf (s.get R.OUT.CTL.REALIGN) n

/-- REALIGN at a second boundary (R195), and alignments that waited for their source (R196). -/
def State.alignSecondAll (s : State) : State :=
  let bits := s.get R.OUT.CTL.REALIGN
  let b := s.boundaryAt
  let later := (List.range 16).filter (fun n => s.alignLater n)
  (List.range 16).foldl (fun st n =>
    if later.contains n then st
    else if bitOf bits n ∧ st.flag (R.OUT.CFG.EN n) = true then
      ((st.modOutCh n fun c => { c with auto := false }).set (R.OUT.STAT.ALIGN_STATE n) 1).alignFix n b
    else if st.alignState n = 1 ∧ st.flag (R.OUT.STAT.ALIGN_WAIT n) = true ∧ st.srcLocked n = true then st.alignFix n b
    else st) (s.set R.OUT.CTL.REALIGN (later.foldl (fun v n => putBit v n true) 0))

/-- The outputs follow a step by `d` (R196 to R198): their edges stay, so the grid's origin reads `d` later. -/
def State.outStep (d : Int) (first : Bool) (s : State) : State :=
  (List.range 16).foldl (fun st n =>
    if st.flag (R.OUT.CFG.EN n) = false then st
    else
      let periods := (d : Rat) / (secU : Nat) / st.outPeriod n
      let s0 := st.modOutCh n fun c => { c with origin := c.origin + d }
      let s1 := if st.alignState n = 2 ∧ periods.den ≠ 1 then s0.outNeed n true
        else if st.alignState n = 1 then s0.alignFix n st.now else s0
      if first && st.flag (R.OUT.CFG.AUTO_STEP n) && !st.flag (R.OUT.STAT.DRIVING n) && !bitOf (st.get R.OUT.CTL.REALIGN) n then
        (s1.modOutCh n fun c => { c with auto := true }).set R.OUT.CTL.REALIGN (putBit (s1.get R.OUT.CTL.REALIGN) n true)
      else s1) s

/-! ### UTC (R41, R46) -/

/-- UTC of a TAI second, shifted by half-hours: seconds from 1970, and whether it is 23:59:60, for which the seconds are
those of 23:59:59 (R46, R206). A second from a pending leap on has the next offset (R41, R208). -/
def State.utcOf (s : State) (t : Nat) (half : Int) : Nat × Bool :=
  let past := s.flag R.TSC.LEAP_NEXT.PENDING && decide (s.leapAt ≤ t)
  let cur := if past then s.sget R.TSC.LEAP_NEXT.OFFSET else s.sget R.TSC.LEAP_CUR.OFFSET
  let leap := s.flag R.TSC.LEAP_NEXT.PENDING && decide (s.sget R.TSC.LEAP_NEXT.OFFSET = cur + 1) &&
    decide (t + 1 = s.leapAt)
  let u : Int := (t : Int) - cur + half * 1800 - (if leap then 1 else 0)
  (u.toNat, leap)

/-! ### IRIG-B (R203 to R206) -/

/-- `n` elements of a value, least significant bit first. -/
def elems (n v : Nat) : List Nat := (List.range n).map (fun i => v / 2 ^ i % 2)

/-- A value placed at an element. -/
def placeAt (frame : List Nat) (i : Nat) (v : List Nat) : List Nat :=
  frame.take i ++ v ++ frame.drop (i + v.length)

/-- The extension's elements 60 to 78 but for its parity (R205). DESIGN CHOICE: element 61 stays 0 until element 60 is 1 (log entry
114). -/
def State.irigExt (s : State) (i t : Nat) : List (Nat × List Nat) :=
  let off := s.sget (R.OUT.IRIG.CFG.OFFSET i)
  let pend := s.flag R.TSC.LEAP_NEXT.PENDING
  let delta := s.sget R.TSC.LEAP_NEXT.OFFSET - s.sget R.TSC.LEAP_CUR.OFFSET
  let soon := pend && decide ((s.leapAt : Int) - 60 - delta ≤ t) && decide (t < s.leapAt)
  let eb := s.get R.EBD.EB_SEC.EB
  [(60, [ofBool soon]), (61, [ofBool (soon && decide (delta < 0))]), (64, [ofBool (decide (off < 0))]),
   (65, elems 4 (off.natAbs / 2)), (70, [off.natAbs % 2]),
   (71, elems 4 (irigQuality eb (s.flag R.EBD.CFG.IRIG_ZERO) (s.ebMode == 1))), (76, elems 3 (irigContinuous eb))]

/-- The hundred elements of the frame for the second that begins at TAI second `t`: 0, 1, or 2 for a marker (R203 to R206). DESIGN
CHOICE: straight binary seconds count the local day, as the BCD time does (log entry 114). -/
def State.irigFrame (s : State) (i t : Nat) : List Nat :=
  let (u, leap) := s.utcOf t (s.sget (R.OUT.IRIG.CFG.OFFSET i))
  let sod := u % 86400
  let day := u / 86400
  let sec := sod % 60 + ofBool leap
  let mi := sod / 60 % 60
  let h := sod / 3600
  let doy := yearDay day + 1
  let yy := yearOfDay day % 100
  let code := s.get (R.OUT.IRIG.CFG.CODE i)
  let base := placeAt (List.replicate 100 0) 0 [2]
  let marks := (List.range 10).foldl (fun f k => placeAt f (10 * k + 9) [2]) base
  let time := [(1, elems 4 (sec % 10)), (6, elems 3 (sec / 10)), (10, elems 4 (mi % 10)), (15, elems 3 (mi / 10)),
    (20, elems 4 (h % 10)), (25, elems 2 (h / 10)), (30, elems 4 (doy % 10)), (35, elems 4 (doy / 10 % 10)),
    (40, elems 2 (doy / 100))]
  let year := if 2 ≤ code then [(50, elems 4 (yy % 10)), (55, elems 4 (yy / 10))] else []
  let ext := if s.flag (R.OUT.IRIG.CFG.EXT i) then s.irigExt i t else []
  let sbs := if leap then 86400 else sod
  let sb := if code % 2 = 1 then [(80, elems 9 (sbs % 512)), (90, elems 8 (sbs / 512))] else []
  let f := (time ++ year ++ ext ++ sb).foldl (fun f (k, v) => placeAt f k v) marks
  if s.flag (R.OUT.IRIG.CFG.EXT i) then
    let ones := ((f.drop 1).take 74).filter (· == 1)
    placeAt f 75 [ones.length % 2]
  else f

/-- At an on-time instant: the frame that ran is complete, and the next begins (R203, R206, R214). -/
def State.irigSecond (s : State) : State :=
  [0, 1].foldl (fun st i =>
    let s1 := if st.out.irigBusy.contains i then st.inc (R.OUT.IRIG.FRAMES.COUNT i) else st
    let s2 := s1.modOut fun o => { o with irigBusy := o.irigBusy.filter (· != i) }
    if s2.flag (R.OUT.IRIG.CFG.EN i) ∧ (s2.get R.TSC.STAT.STATE ≠ 0 ∨ s2.flag (R.OUT.IRIG.CFG.UNSET_EN i) = true) ∧
        s2.driven = true then
      (s2.modOut fun o => { o with irigBusy := i :: o.irigBusy }).emit (.irig i (s2.irigFrame i s2.second))
    else s2) s

/-- A step cuts the frames in progress (R206). -/
def State.irigStep (s : State) : State :=
  [0, 1].foldl (fun st i =>
    if st.out.irigBusy.contains i then
      (((st.modOut fun o => { o with irigBusy := o.irigBusy.filter (· != i) }).inc (R.OUT.IRIG.CUT_CNT.COUNT i)).evt
        R.OUT.EVT.TIMECODE_CUT).emit (.irigCut i)
    else st) s

/-! ### Time-of-day messages (R207 to R210) -/

/-- Baud rates by code. -/
def bauds : List Nat := [9600, 19200, 38400, 57600, 115200, 230400, 460800, 921600]

/-- The settings of a time-of-day line are accepted (R207). -/
def State.todOutOk (s : State) (j : Nat) : Bool :=
  let f := s.get (R.OUT.TOD.CFG.FORMAT j)
  let st := s.get (R.OUT.TOD.CFG.START_MS j)
  let b := s.get (R.OUT.TOD.CFG.BAUD j)
  let chars := if f = 0 then 38 else if f = 1 then 84 else 32
  f != 3 && decide (b < 8) && decide (20 ≤ st) && decide (st ≤ 900) &&
  decide (chars * 10 * 1000 ≤ (980 - st) * bauds.getD b 0)

/-- Written settings of a time-of-day line at the second (R207): put into force whole, or rejected. -/
def State.todTake (j : Nat) (s : State) : State :=
  let mine (w : Waiting) : Bool := w.field.addr == (R.OUT.TOD.CFG.EN j).addr
  let ws := (Map.vals s.shadow).filter mine
  if ws.isEmpty then s
  else
    let cleared := { s with shadow := s.shadow.filter (fun e => !mine e.2) }
    let new := cleared.load ws
    if new.todOutOk j then new else cleared.evt R.OUT.EVT.CFG_REJECTED

/-- Two decimal digits. -/
def two (v : Nat) : List Byte := digits 2 v

/-- The ZDA sentence of a second (R208). -/
def State.zdaOf (s : State) (t : Nat) : List Byte :=
  let (u, leap) := s.utcOf t 0
  let sod := u % 86400
  let d := u / 86400
  nmea (ascii "GNZDA," ++ two (sod / 3600) ++ two (sod / 60 % 60) ++ two (sod % 60 + ofBool leap) ++ ascii ".00," ++
    two (dayOfMonth d) ++ ascii "," ++ two (monthOfDay d) ++ ascii "," ++ digits 4 (yearOfDay d) ++ ascii ",00,00")

/-- EB at the on-time instant of a labelled second (R91): that of the present second was taken at its boundary. -/
def State.ebOnTime (s : State) (t : Nat) : Nat :=
  if t ≤ s.second then s.get R.EBD.EB_SEC.EB else s.ebAt ((t * secU : Nat) : Int)

/-- The proprietary sentence (R208). -/
def State.pskweOf (s : State) (t : Nat) : List Byte :=
  let eb := s.ebOnTime t
  let m := ceilDiv (eb * 1000) 256
  let ebText := if eb = 0xFFFFFFFF then [] else decimal (m / 1000) ++ ascii "." ++ digits 3 m
  nmea (ascii "PSKWE," ++ decimal t ++ ascii "," ++ ebText ++ ascii "," ++ decimal s.ebMode ++ ascii "," ++
    decimal s.classEntry.1)

/-- The slot that steers the loop, 0xFF if none (R87, R209). -/
def State.sourceSlot (s : State) : Nat := if s.selState = 1 then s.get R.SEL.STAT.SLOT else 0xFF

/-- The binary record (R209). -/
def State.binaryOf (s : State) (j t : Nat) : List Byte :=
  let cur := s.sget R.TSC.LEAP_CUR.OFFSET
  let pend := s.flag R.TSC.LEAP_NEXT.PENDING
  let next := if pend then s.sget R.TSC.LEAP_NEXT.OFFSET else cur
  let body := beBytes 2 0x0120 ++ beBytes 6 t ++ beBytes 2 (ofSigned 16 cur) ++ beBytes 2 (ofSigned 16 next) ++
    beBytes 6 (if pend then s.leapAt else 0) ++ beBytes 4 (s.ebOnTime t) ++
    beBytes 1 (s.ebMode + 4 * ofBool (s.get R.TSC.STAT.STATE != 0) + 8 * ofBool pend) ++ beBytes 1 s.classEntry.1 ++
    beBytes 1 s.sourceSlot ++ beBytes 1 (Map.getD s.out.todSeq j 0) ++ beBytes 2 0
  beBytes 2 0xC33C ++ body ++ beBytes 2 (crc16 body)

/-- A step at the instant `t`, as it read before, stops the messages in progress, and messages follow the stepped timescale
(R210). -/
def State.todStep (t : Int) (s : State) : State :=
  (Map.keys s.out.todBusy).foldl (fun st j =>
    match Map.get? st.out.todBusy j with
    | some (b, len) =>
      let s1 := st.modOut fun o => { o with todBusy := Map.del o.todBusy j }
      if t < b + len then s1.emit (.todCut j) else s1
    | none => st) (s.modOut fun o => { o with todLast := [] })

/-! ### Event lines (R211 to R214) -/

/-- t_k of a line (R211). -/
def TevLine.at_ (l : TevLine) (k : Nat) : Int := l.start + k * l.period

/-- The first index whose instant is at or after `t`. -/
def TevLine.indexFrom (l : TevLine) (t : Int) : Nat :=
  if t ≤ l.start then 0 else if l.period = 0 then 1 else ceilDiv (t - l.start).toNat l.period

/-- A line disarms. -/
def State.tevOff (m : Nat) (s : State) : State :=
  (s.modOut fun o => { o with tev := Map.del o.tev m }).set R.OUT.TEV_STAT.ARMED
    (putBit (s.get R.OUT.TEV_STAT.ARMED) m false)

/-- The event lines at a step from `before` to the present value (R213). -/
def State.tevStep (before : Int) (s : State) : State :=
  (Map.keys s.out.tev).foldl (fun st m =>
    match Map.get? st.out.tev m with
    | none => st
    | some l =>
      let cap (k : Nat) : Nat := if l.count = 0 then k else min k l.count
      let from_ := cap (max l.next (l.indexFrom (before + 1)))
      let to_ := cap (max l.next (l.indexFrom st.now))
      let missed := to_ - from_
      let s1 := if 0 < missed then (st.incBy R.OUT.TEV_MISS_CNT.COUNT missed).evt R.OUT.EVT.TEV_MISSED else st
      if l.count ≠ 0 ∧ l.count ≤ to_ then s1.tevOff m
      else s1.modOut fun o => { o with tev := Map.put o.tev m { l with next := to_ } }) s

/-! ### The outputs at a second boundary -/

/-- Groups, alignments, mutes (R190 to R196). -/
def State.outSecond (s : State) : State :=
  let s1 := (List.range 16).foldl (fun st n =>
    st.takeGroup (.out n) (R.OUT.CH_CTL.COMMIT n) R.OUT.EVT.CFG_REJECTED (outOk n) (outAfter n)) s
  (s1.alignSecondAll).outMutesAll

/-! ### The commands of the chapter -/

/-- OUT_COMMIT (R190, R215). -/
def execOutCommit (n : Fin 16) (s : State) : Out := .next (s.commit (.out n) (R.OUT.CH_CTL.COMMIT n))

/-- OUT_MUTE (R193). -/
def execOutMute (n : Fin 16) (s : State) : Out := .next (s.setMute n 0 true)

/-- OUT_UNMUTE (R193). -/
def execOutUnmute (n : Fin 16) (s : State) : Out := .next (s.setMute n 0 false)

/-- REALIGN (R195): each bit waits for the next second. -/
def execRealign (bits : BitVec 16) (s : State) : Out :=
  .next (s.set R.OUT.CTL.REALIGN (s.get R.OUT.CTL.REALIGN ||| bits.toNat))

/-- ALIGN_COMPLETE (R195, R199): the first new edge, at A + TRIM. -/
def execAlignComplete (n : Fin 16) (s : State) : Out :=
  match (s.outCh n).alignAt with
  | none => .next s
  | some a =>
    let trim := s.sget (R.OUT.TRIM.PS n)
    if s.alignState n ≠ 1 ∨ s.now < a + psU trim then .next s
    else if s.srcLocked n = false then .next (s.alignWait n)
    else
      let s1 := (s.modOutCh n fun c => { c with alignAt := none, origin := a, trim := trim, since := true, sinceLost := true
        }).set (R.OUT.STAT.ALIGN_STATE n) 2
      let s2 := ((((s1.set (R.OUT.STAT.TRIM_SLEWING n) 0).inc (R.OUT.ALIGN_CNT.COUNT n)).evt R.OUT.EVT.ALIGNED).outNeed n
        false).setMute n 4 false
      let s3 := (s2.outMutes n).synPhaseFound (s.get (R.OUT.CFG.SRC n))
      let s4 := s3.setDriving n (s3.outActive n)
      .next (if s4.outActive n then s4.emit (.outEdge n (a + psU trim) (s4.flag (R.OUT.CFG.POL n))) else s4)

/-- The active edge of an output that is nearest to the present instant: on its grid once it has been aligned, else wherever its
divider has it, which is when its period ends (R191, R194). -/
def State.edgeNear (s : State) (n : Nat) : Int :=
  let c := s.outCh n
  let t : Rat := s.outPeriod n * (secU : Nat)
  if c.since = false ∨ t = 0 then s.now
  else
    let first : Rat := (c.origin : Rat) + (c.trim : Rat) * 65536 / 1000
    s.roundFree (first + t * ((((s.now : Rat) - first) / t + 1 / 2).floor : Int))

/-- OUTPUT_PERIOD_END (R190 to R193, R195): mute changes and trim slew take effect, edges too near a new one are suppressed, and an
active driver drives the active edge of the period that begins. -/
def execOutputPeriodEnd (n : Fin 16) (s : State) : Out :=
  let c := s.outCh n
  let high : Rat := if s.flag (R.OUT.CFG.MODE n) then (s.get (R.OUT.WIDTH.CYCLES n) : Nat)
    else (ceilDiv (s.get (R.OUT.DIV.VALUE n)) 2 : Nat)
  let cycle : Rat := (secU : Nat) / s.synOut (s.get (R.OUT.CFG.SRC n))
  let s1 := match c.alignAt with
    | some a =>
      if s.alignState n = 1 ∧ (a + psU (s.sget (R.OUT.TRIM.PS n)) : Int) < (s.now : Rat) + high * cycle + cycle then
        s.setMute n 4 true else s
    | none => s
  let goal := s.sget (R.OUT.TRIM.PS n)
  let s2 := if s1.flag (R.OUT.STAT.TRIM_SLEWING n) then
      let t := c.trim + clampAbs (s.get (R.OUT.TRIM.SLEW n)) (goal - c.trim)
      (s1.modOutCh n fun x => { x with trim := t }).setB (R.OUT.STAT.TRIM_SLEWING n) (t != goal)
    else s1
  let s3 := s2.bump.setDriving n (s2.outActive n)
  .next (if s2.outActive n then s3.emit (.outEdge n (s2.edgeNear n) (s2.flag (R.OUT.CFG.POL n))) else s3)

/-! ### Closed-loop calibration (R200 to R202) -/

/-- The output that the calibration loop serves: the next in turn that is ALIGNED and driving with its calibration enabled (R200);
none while calibration is suspended (R202). -/
def State.calServed (s : State) : Option Nat :=
  if s.get R.TDC.STAT.STATE ≠ 2 then none
  else ((List.range 16).map (fun k => (s.out.calTurn + k) % 16)).find? (fun n =>
    s.flag (R.OUT.CFG.EN n) && s.flag (R.OUT.CAL.EN n) && s.alignState n == 2 && s.flag (R.OUT.STAT.DRIVING n))

/-- The error of an edge at the ball: the edge less the nearest grid instant with the trim in force, ps (R200). -/
def State.edgeError (s : State) (n : Nat) (t : Int) : Rat :=
  let c := s.outCh n
  let p : Rat := s.outPeriod n * (secU : Nat)
  let x : Rat := (t - c.origin : Int) - (c.trim : Rat) * 65536 / 1000
  (x - p * ((x / p + 1 / 2).floor : Int)) * 1000 / 65536

/-- A stamp of the loopback channel: an edge of the output that is measured, one of 2^AVG (R200, R216). -/
def State.calStamp (t : Int) (s : State) : State :=
  match s.calServed with
  | none => s
  | some n =>
    let held := if s.out.calOut = some n then s.out.calErrs else []
    s.modOut fun o =>
      { o with calOut := some n, calErrs := if held.length < 2 ^ s.get (R.OUT.CAL.AVG n) then held ++ [s.edgeError n t] else held }

/-- The measurement of output `n` is over, and the turn passes on. -/
def State.calOver (n : Nat) (s : State) : State :=
  s.modOut fun o => { o with calTurn := (n + 1) % 16, calOut := none, calErrs := [] }

/-- CAL_UPDATE (R200): once 2^AVG edges at the ball have been measured, their mean error corrects CALADJ. -/
def execCalUpdate (n : Fin 16) (s : State) : Out :=
  let es := s.out.calErrs
  if s.calServed = some n.val ∧ s.out.calOut = some n.val ∧ es.length = 2 ^ s.get (R.OUT.CAL.AVG n) then
    let err := s.roundFree (es.sum / (es.length : Nat))
    let s1 := (s.bump.calOver n).setI (R.OUT.OFFSET.PS n) (max (-(2 ^ 31)) (min (2 ^ 31 - 1) err))
    if s.get (R.OUT.CAL.LIMIT n) < err.natAbs then .next ((s1.evt R.OUT.EVT.CAL_LIMIT).outNeed n true)
    else
      let adj := s.sget (R.OUT.CALADJ.PS n) - clampAbs (s.get (R.OUT.CAL.STEP_MAX n)) err
      .next (s1.setI (R.OUT.CALADJ.PS n) (max (-(2 ^ 19)) (min (2 ^ 19 - 1) adj)))
  else .next s

/-- CAL_LOOPBACK_TIMEOUT (R202): CALADJ stays. -/
def execCalLoopbackTimeout (n : Fin 16) (s : State) : Out :=
  if s.calServed = some n.val then .next ((s.calOver n).file F.outCalFail n 0) else .next s

/-- The instant at which a line's message of the present second starts has come: START_MS after the on-time instant, within 100 ns,
and none has been started for it (R207). -/
def State.todDue (s : State) (j : Nat) : Bool :=
  let off := (inSecond s.now : Int) - (s.get (R.OUT.TOD.CFG.START_MS j) * (secU / 1000) : Nat)
  decide (-(100 * (nsU : Int)) ≤ off) && decide (off ≤ 100 * (nsU : Int)) && Map.get? s.out.todLast j != some s.second

/-- TOD_OUT_START (R207 to R210): a message starts. -/
def execTodOutStart (j : Fin 2) (s : State) : Out :=
  if s.ticking && s.flag (R.OUT.TOD.CFG.EN j) && s.driven && s.todDue j &&
      (s.get R.TSC.STAT.STATE != 0 || s.flag (R.OUT.TOD.CFG.UNSET_EN j)) then
    let t := s.second + s.get (R.OUT.TOD.CFG.ALIGN j)
    let f := s.get (R.OUT.TOD.CFG.FORMAT j)
    let bytes := if f = 2 then s.binaryOf j t else if f = 1 then s.zdaOf t ++ s.pskweOf t else s.zdaOf t
    let len := bytes.length * 10 * secU / max 1 (bauds.getD (s.get (R.OUT.TOD.CFG.BAUD j)) 0)
    let seq := Map.getD s.out.todSeq j 0
    let s1 := s.modOut fun o => { o with todBusy := Map.put o.todBusy j (s.now, len), todLast := Map.put o.todLast j s.second,
                                         todSeq := if f = 2 then Map.put o.todSeq j ((seq + 1) % 256) else o.todSeq }
    .next ((s1.inc (R.OUT.TOD.MSG_CNT.COUNT j)).emit (.todMessage j bytes))
  else .next s

/-- TEV_ARM (R212): a line armed from its registers, or the arm rejected. -/
def execTevArm (m : Fin 16) (s : State) : Out :=
  let ns := s.get (R.OUT.TEV.START_NS.NS m)
  let count := s.get (R.OUT.TEV.CFG.COUNT m)
  let period := s.get (R.OUT.TEV.PERIOD_NS.NS m) * nsU + s.get (R.OUT.TEV.PERIOD_FRAC.FRAC m)
  let width := s.get (R.OUT.TEV.CFG.WIDTH m)
  if !s.hearth.running || (Map.get? s.out.tev m.val).isSome then .next (s.evt R.OUT.EVT.CFG_REJECTED)
  else if 1000000000 ≤ ns then .next ((s.evt R.OUT.EVT.CFG_REJECTED).file F.outBadTime m 0)
  else
    let start : Int := (s.getTime (R.OUT.TEV.START_FRAC.FRAC m) (R.OUT.TEV.START_NS.NS m) (R.OUT.TEV.START_SEC_LO.SEC m)
      (R.OUT.TEV.START_SEC_HI.SEC m) : Nat)
    if start < s.now + 1200 * nsU ∨ (count ≠ 1 ∧ (period < 1000 * nsU ∨ period ≤ width * 8 * nsU)) then
      .next (s.evt R.OUT.EVT.TEV_LATE)
    else
      let l : TevLine := ⟨start, period, count, s.flag (R.OUT.TEV.CFG.POL m), width, 0⟩
      .next ((s.modOut fun o => { o with tev := Map.put o.tev m l }).set R.OUT.TEV_STAT.ARMED
        (putBit (s.get R.OUT.TEV_STAT.ARMED) m true))

/-- TEV_DISARM (R212). -/
def execTevDisarm (m : Fin 16) (s : State) : Out := .next (s.tevOff m)

/-- TEV_EDGE (R211, R214): the timescale has reached t_k. -/
def execTevEdge (m : Fin 16) (s : State) : Out :=
  match Map.get? s.out.tev m.val with
  | none => .next s
  | some l =>
    if s.now < l.at_ l.next then .next s
    else
      let s1 := if s.driven then
          (s.inc (R.OUT.TEV.FIRED.COUNT m)).emit (.tevEdge m (l.at_ l.next) (l.width * 8) l.falling)
        else s
      if l.count ≠ 0 ∧ l.count ≤ l.next + 1 then .next (s1.tevOff m)
      else .next (s1.modOut fun o => { o with tev := Map.put o.tev m { l with next := l.next + 1 } })

end Sys2Proof.Machine
end

