-- ==== Sys2Proof/Machine/Ring.lean ====
section
/-! DEFINITION. Byte rings in DRAM with a hardware write offset and a software read offset (R270, R288). -/

namespace Sys2Proof.Machine

/-- The registers of a ring. -/
structure RingRegs where
  baseLo : Field
  baseHi : Field
  size : Field
  wr : Field
  rd : Field

/-- Bytes stored from an offset of a ring of `size` bytes at `base`, wrapping (R288). -/
def State.ringStore (base size : Nat) : Nat → List Byte → State → State
  | _, [], s => s
  | off, bs, s =>
    let room := size - off
    let s1 := s.dramWrite (base + off) (bs.take room)
    if bs.length ≤ room then s1 else s1.dramWrite base (bs.drop room)

/-- A record put into a ring: `none` where the ring is full, unchanged where it is disabled (R270). -/
def State.ringPut (r : RingRegs) (bs : List Byte) (s : State) : Option State :=
  let size := s.get r.size * 4096
  if size = 0 then some s
  else
    let base := s.get r.baseLo * 4096 + s.get r.baseHi * 2 ^ 32
    let wr := s.get r.wr
    let rd := s.get r.rd
    let used := (wr + size - rd) % size
    if size ≤ used + bs.length then none
    else some ((s.ringStore base size wr bs).set r.wr ((wr + bs.length) % size))

end Sys2Proof.Machine
end

