-- ==== Sys2Proof/Machine/Flt.lean ====
section
/-! DEFINITION. Fault collection: the log, the ring, the clears, the loop deadline (chapter 20). -/

namespace Sys2Proof.Machine

/-- Fault collection's own state changed. -/
def State.modFlt (f : Flt → Flt) (s : State) : State := { s with flt := f s.flt }

/-- FLT's ring (R595). -/
def fltRing : RingRegs :=
  ⟨R.FLT.RING_BASE_LO.ADDR, R.FLT.RING_BASE_HI.ADDR, R.FLT.RING_SIZE.SIZE, R.FLT.RING_WR.PTR, R.FLT.RING_RD.PTR⟩

/-- A record into the log's next entry; the oldest is overwritten in a full log, and where the ring had not received it the
ring's next record says LOST (R593, R595). -/
def State.logRecord (r : FaultRec) (s : State) : State :=
  let k := (s.get R.FLT.LOG_HEAD.INDEX + 1) % 64
  let bs := r.bytes s.flt.seq false
  let full := decide (64 ≤ s.flt.logged)
  let gone := full && s.flt.ringDue.any (fun e => e.1 + 64 == s.flt.seq)
  let due := s.flt.ringDue.filter (fun e => e.1 + 64 != s.flt.seq)
  let s1 := (s.setWords (R.FLT.LOG.RECORD k) 0 bs).modFlt fun f =>
    { f with seq := f.seq + 1, logged := min 64 (f.logged + 1), ringDue := due ++ [(f.seq, bs)], ringLost := f.ringLost || gone }
  let s2 := (s1.set R.FLT.LOG_HEAD.INDEX k).set R.FLT.LOG_HEAD.EMPTY 0
  let s3 := if r.kind.cls == .note then s2.evt R.FLT.EVT.NOTE else s2
  if full then (s3.inc R.FLT.OVERWRITE_CNT.COUNT).evt R.FLT.EVT.OVERWRITE else s3

/-- FLT_DROP is filed once the queue has room after discards, with their number (R592). -/
def State.fileDrop (s : State) : State :=
  if s.flt.discarded = 0 ∨ 16 ≤ s.flt.queue.length then s
  else
    let r := s.faultRec F.fltDrop 0 0 (min 0xFFFF s.flt.discarded)
    let s1 := ((s.modFlt fun f => { f with discarded := 0 }).classAction r).bump
    if bitOf (s.get R.FLT.NOTE_MASK.MASK) 25 then s1 else s1.enqueue r

/-! ### The commands of the chapter -/

/-- FLT_LOG_WRITE (R592, R593): the head of the queue goes to the log. -/
def execFltLogWrite (s : State) : Out :=
  match s.flt.queue with
  | [] => .next s
  | r :: rest =>
    let s1 := (s.modFlt fun f => { f with queue := rest }).set R.FLT.STAT.QUEUE rest.length
    .next (s1.logRecord r).fileDrop

/-- FLT_RING_WRITE (R595): the oldest entry that the ring has not received goes to it; a full ring discards it. -/
def execFltRingWrite (s : State) : Out :=
  match s.flt.ringDue with
  | [] => .next s
  | (_, bs) :: rest =>
    if s.get R.FLT.RING_SIZE.SIZE = 0 ∨ s.flag R.MEM.STAT.READY = false then .next s
    else
      let rec_ := if s.flt.ringLost then splice bs 2 [BitVec.ofNat 8 (putBit (le bs 2 1) 3 true)] else bs
      let s1 := s.modFlt fun f => { f with ringDue := rest }
      match s1.ringPut fltRing rec_ with
      | some s2 => .next (s2.modFlt fun f => { f with ringLost := false })
      | none => .next (((s1.modFlt fun f => { f with ringLost := true }).inc R.FLT.RING_LOST_CNT.COUNT).evt R.FLT.EVT.RING_LOST)

/-- CLEAR_DEG (R589, R590). -/
def execClearDeg (s : State) : Out := .next (s.set R.FLT.STAT.DEGRADED 0).showAlarm

/-- CLEAR_SURR (R589, R590): the renounce latch stays. -/
def execClearSurr (s : State) : Out := .next (s.set R.FLT.STAT.SURRENDERED 0).showAlarm

/-- LOG_CLEAR (R601): the log is emptied, its words with it; the sequence continues. -/
def execLogClear (s : State) : Out :=
  let blank := (List.range 64).foldl (fun st k => st.setWords (R.FLT.LOG.RECORD k) 0 (List.replicate 32 0)) s
  .next (((blank.modFlt fun f => { f with logged := 0, ringDue := [] }).set R.FLT.LOG_HEAD.INDEX 0x3F).set
    R.FLT.LOG_HEAD.EMPTY 1)

/-- LOOP_DEADLINE (R24, R598): with the damper closed, the values for the coming update are discarded and S stays for one more
interval. -/
def execLoopDeadline (s : State) : Out :=
  if s.hearth.running ∧ s.damperOpen = false then
    .next (((s.modHearth fun h => { h with loopLate := true }).evt R.TSC.EVT.LATE_COMMIT).fileFirst F.selLoopLate s.sourceSlot 0)
  else .next s

end Sys2Proof.Machine
end

