-- ==== Sys2Proof/Machine/Ecc.lean ====
section
/-! DEFINITION. Errors of DRAM's 64-bit words (R578, R579): which words hold an uncorrectable one, and what a read of them counts.
What each requester does with poisoned data stands with the requester. -/

namespace Sys2Proof.Machine

/-- Corrected error in DRAM: counted, and the first in each second filed. -/
def State.dramCe (s : State) : State :=
  (((s.inc R.MEM.CE_CNT.COUNT).count 0x405 1).evt R.MEM.EVT.CE).fileFirst F.memDramCe 0 0

/-- Uncorrectable error in DRAM at an address. -/
def State.dramUe (a : Nat) (s : State) : State :=
  ((((s.inc R.MEM.UE_CNT.COUNT).count 0x406 1).set2 R.MEM.UE_ADDR_LO.ADDR R.MEM.UE_ADDR_HI.ADDR a).evt R.MEM.EVT.UE).file
    F.memDramUe 0 0

/-- The word at an address holds an uncorrectable error from now on, until it is written whole (log entry 128). -/
def State.upset (a : Nat) (s : State) : State :=
  { s with dramBad := s.dramBad.filter (fun w => decide (w < a / 8)) ++ a / 8 :: s.dramBad.filter (fun w => decide (a / 8 < w)) }

/-- The words that hold one among the `n` bytes from `a`, rising. -/
def State.badWords (s : State) (a n : Nat) : List Nat :=
  s.dramBad.filter (fun w => decide (0 < n) && decide (a < 8 * w + 8) && decide (8 * w < a + n))

/-- Words met by a read: every error is counted, located and filed (R578). -/
def State.countBad (ws : List Nat) (s : State) : State := ws.foldl (fun st w => st.dramUe (8 * w)) s

/-- A read of the `n` bytes from `a` meets what errors they hold. -/
def State.readBad (a n : Nat) (s : State) : State := s.countBad (s.badWords a n)

end Sys2Proof.Machine
end

