-- ==== Sys2Proof/Machine/Frame.lean ====
section
/-! DEFINITION. Ethernet frames, IP packets and UDP datagrams taken apart and put together (R315, R372, R406, R407, R411). -/

namespace Sys2Proof.Machine

/-! ### Check sums -/

/-- One bit of the Ethernet CRC-32, reflected. -/
def crc32Bit (c : Nat) : Nat := if c % 2 = 1 then (c / 2) ^^^ 0xEDB88320 else c / 2

/-- The Ethernet frame check sequence of the bytes before it. -/
def crc32 (bs : List Byte) : Nat :=
  (bs.foldl (fun c b => (List.range 8).foldl (fun c _ => crc32Bit c) (c ^^^ b.toNat)) 0xFFFFFFFF) ^^^ 0xFFFFFFFF

/-- A frame with its check sequence appended, padded to 60 bytes before it. -/
def withFcs (f : List Byte) : List Byte :=
  let p := f ++ List.replicate (60 - f.length) 0
  p ++ leBytes 4 (crc32 p)

/-- The frame's last four bytes are its check sequence. -/
def fcsGood (f : List Byte) : Bool :=
  let n := f.length - 4
  decide (4 ≤ f.length) && ofLe (f.drop n) == crc32 (f.take n)

/-- The one's complement sum of 16-bit words. -/
def sum16 : List Byte → Nat
  | [] => 0
  | [a] => a.toNat * 256
  | a :: b :: rest => a.toNat * 256 + b.toNat + sum16 rest

/-- Carries folded into 16 bits. -/
def fold16 (n : Nat) : Nat :=
  let f (x : Nat) : Nat := x % 65536 + x / 65536
  f (f (f n))

/-- The Internet checksum. -/
def inetSum (bs : List Byte) : Nat := 0xFFFF - fold16 (sum16 bs)

/-! ### Frames taken apart -/

/-- A frame taken apart: addresses, the bytes of up to two tags, EtherType, what follows up to the check sequence, and
whether a third tag follows. -/
structure EthView where
  dst : List Byte
  src : List Byte
  tags : List Byte
  etype : Nat
  body : List Byte
  moreTags : Bool
  deriving DecidableEq, Repr

/-- An EtherType of a VLAN tag, 802.1Q or 802.1ad. -/
def isTag (e : Nat) : Bool := e == 0x8100 || e == 0x88A8

/-- A frame taken apart; its last four bytes are dropped. -/
def ethView (frame : List Byte) : EthView :=
  let f := frame.take (frame.length - 4)
  let n := if isTag (be f 12 2) then (if isTag (be f 16 2) then 2 else 1) else 0
  let e := be f (12 + 4 * n) 2
  { dst := slice f 0 6, src := slice f 6 6, tags := slice f 12 (4 * n), etype := e, body := f.drop (14 + 4 * n),
    moreTags := isTag e }

/-- An IP packet taken apart: the upper protocol, addresses, payload. -/
structure IpView where
  v6 : Bool
  src : List Byte
  dst : List Byte
  proto : Nat
  hop : Nat
  payload : List Byte
  badSum : Bool
  /-- An IPv4 fragment, or an IPv6 packet with an extension header. -/
  odd : Bool
  deriving DecidableEq, Repr

/-- The next-header values that name an IPv6 extension header. PRESUMED: the IANA list. -/
def ipv6Extensions : List Nat := [0, 43, 44, 50, 51, 60, 135, 139, 140, 253, 254]

/-- The packet in a frame; none where the frame carries none that is well formed. -/
def ipView (e : EthView) : Option IpView :=
  let b := e.body
  if e.etype = 0x0800 then
    let ihl := be b 0 1 % 16 * 4
    let len := be b 2 2
    if be b 0 1 / 16 = 4 ∧ 20 ≤ ihl ∧ ihl ≤ len ∧ len ≤ b.length then
      some { v6 := false, src := slice b 12 4, dst := slice b 16 4, proto := be b 9 1, hop := be b 8 1,
             payload := (b.take len).drop ihl, badSum := inetSum (b.take ihl) != 0,
             odd := be b 6 2 % 0x4000 != 0 }
    else none
  else if e.etype = 0x86DD then
    let len := be b 4 2
    if be b 0 1 / 16 = 6 ∧ 40 + len ≤ b.length then
      some { v6 := true, src := slice b 8 16, dst := slice b 24 16, proto := be b 6 1, hop := be b 7 1,
             payload := (b.take (40 + len)).drop 40, badSum := false, odd := ipv6Extensions.contains (be b 6 1) }
    else none
  else none

/-- The pseudo-header of an upper-layer checksum. -/
def pseudo (src dst : List Byte) (proto len : Nat) : List Byte :=
  if src.length = 4 then src ++ dst ++ beBytes 2 proto ++ beBytes 2 len
  else src ++ dst ++ beBytes 4 len ++ beBytes 4 proto

/-- A UDP datagram: ports and payload, and whether its checksum fails (a zero checksum passes on IPv4 only). -/
structure UdpView where
  sport : Nat
  dport : Nat
  payload : List Byte
  badSum : Bool
  deriving DecidableEq, Repr

/-- The UDP datagram of a packet. -/
def udpView (p : IpView) : UdpView :=
  let u := p.payload
  let len := be u 4 2
  let bad := len < 8 || u.length < len ||
    (if be u 6 2 = 0 then p.v6 else inetSum (pseudo p.src p.dst 17 len ++ u.take len) != 0)
  { sport := be u 0 2, dport := be u 2 2, payload := (u.take len).drop 8, badSum := bad }

/-! ### Addresses -/

/-- IPv4 224.0.1.129 and 224.0.0.107. -/
def ptpGroups4 : List (List Byte) := [[224, 0, 1, 129], [224, 0, 0, 107]]

/-- FF0X::181 for any scope X, or FF02::6B. -/
def isPtpGroup6 (a : List Byte) : Bool :=
  let tail := slice a 2 14
  be a 0 1 == 0xFF && ((be a 1 1 < 16 && ofBe tail == 0x181) || (be a 1 1 == 2 && ofBe tail == 0x6B))

/-- The solicited-node multicast address of an IPv6 address: FF02::1:FF with its last 24 bits. -/
def solicitedNode (a : List Byte) : List Byte :=
  [0xFF, 0x02, 0, 0, 0, 0, 0, 0, 0, 0, 0, 0x01, 0xFF] ++ slice a 13 3

/-- The Ethernet address of an IP multicast group. -/
def groupMac (a : List Byte) : List Byte :=
  if a.length = 4 then [0x01, 0x00, 0x5E, BitVec.ofNat 8 (be a 1 1 % 128)] ++ slice a 2 2
  else [0x33, 0x33] ++ slice a 12 4

/-- A group address: the least significant bit of its first byte. -/
def isGroupMac (a : List Byte) : Bool := be a 0 1 % 2 == 1

/-- The broadcast address. -/
def broadcastMac : List Byte := List.replicate 6 0xFF

/-! ### Frames put together -/

/-- The header bytes that no rule of the manual gives: type of service, identification and flags, hop limit, flow label. -/
structure IpFree where
  tos : Nat
  ident : Nat
  ttl : Nat
  flow : Nat
  deriving DecidableEq, Repr

/-- An IP packet. -/
def ipPacket (fr : IpFree) (src dst : List Byte) (proto : Nat) (payload : List Byte) : List Byte :=
  if src.length = 4 then
    let h0 := [0x45] ++ beBytes 1 fr.tos ++ beBytes 2 (20 + payload.length) ++ beBytes 2 fr.ident ++ beBytes 2 0 ++
      beBytes 1 fr.ttl ++ beBytes 1 proto
    let sum := inetSum (h0 ++ [0, 0] ++ src ++ dst)
    h0 ++ beBytes 2 sum ++ src ++ dst ++ payload
  else
    beBytes 4 (6 * 2 ^ 28 + fr.tos % 256 * 2 ^ 20 + fr.flow % 2 ^ 20) ++ beBytes 2 payload.length ++ beBytes 1 proto ++
      beBytes 1 fr.ttl ++ src ++ dst ++ payload

/-- A UDP datagram; a sum of zero is sent as 0xFFFF. -/
def udpDatagram (src dst : List Byte) (sport dport : Nat) (payload : List Byte) : List Byte :=
  let len := 8 + payload.length
  let h := beBytes 2 sport ++ beBytes 2 dport ++ beBytes 2 len
  let s := inetSum (pseudo src dst 17 len ++ h ++ [0, 0] ++ payload)
  h ++ beBytes 2 (if s = 0 then 0xFFFF else s) ++ payload

/-- A frame up to its check sequence, and with it. -/
def ethFrame (dst src tags : List Byte) (etype : Nat) (body : List Byte) : List Byte :=
  withFcs (dst ++ src ++ tags ++ beBytes 2 etype ++ body)

/-- The EtherType of an IP address. -/
def ipType (a : List Byte) : Nat := if a.length = 4 then 0x0800 else 0x86DD

end Sys2Proof.Machine
end

