-- ==== Sys2Proof/Machine/Client.lean ====
section
/-! DEFINITION. The client table, its cache and the edit mailbox (R389 to R404). The table's bytes are held in DRAM as the
cache controller shows them to every reader; the cache is the list of the entries it holds, with their dirty marks. -/

namespace Sys2Proof.Machine

/-- The response engine's own state changed. -/
def State.modRse (f : Rse → Rse) (s : State) : State := { s with rse := f s.rse }

/-! ### Entries in DRAM and in the cache (R389, R397) -/

/-- Address of the client table. -/
def State.ctBase (s : State) : Nat := s.get R.RSE.CT_BASE_LO.ADDR * 4096 + s.get R.RSE.CT_BASE_HI.ADDR * 2 ^ 32

/-- Entries of the table. -/
def State.ctCount (s : State) : Nat := 2 ^ s.get R.RSE.CT_CFG.LOG

/-- The entry that holds a DRAM address, if the address lies in the table. -/
def State.ctIndex (s : State) (a : Nat) : Option Nat :=
  if s.ctBase ≤ a ∧ a < s.ctBase + s.ctCount * 128 then some ((a - s.ctBase) / 128) else none

/-- The 128 bytes of entry `n`. -/
def State.entry (s : State) (n : Nat) : List Byte := s.dramRead (s.ctBase + 128 * n) 128

/-- The entry is in the cache. -/
def State.cached (s : State) (n : Nat) : Bool := (Map.getD s.rse.cache (n % 4096) []).any (fun l => l.1 == n)

/-- The line of entry `n` comes from DRAM with an uncorrectable error: it is not cached (R579). -/
def State.lineBad (s : State) (n : Nat) : Bool := !s.cached n && !(s.badWords (s.ctBase + 128 * n) 128).isEmpty

/-- A read of entry `n` that meets such a line: its errors are counted. -/
def State.lineError (n : Nat) (s : State) : State := if s.lineBad n then s.readBad (s.ctBase + 128 * n) 128 else s

/-- An access to entry `n`: it becomes the most recently used of its set, which holds eight; the least recently used one
gives way and is written back. -/
def State.touch (n : Nat) (dirty : Bool) (s : State) : State :=
  let set := Map.getD s.rse.cache (n % 4096) []
  let was := (set.find? (fun l => l.1 == n)).any (fun l => l.2)
  let set' := ((n, dirty || was) :: set.filter (fun l => l.1 != n)).take 8
  s.modRse fun r => { r with cache := Map.put r.cache (n % 4096) set' }

/-- The bytes of entry `n` replaced. -/
def State.putEntry (n : Nat) (bs : List Byte) (s : State) : State :=
  (s.dramWrite (s.ctBase + 128 * n) bs).touch n true

/-! ### Fields of an entry (R391, R392) -/

/-- VERSION. -/
def eVersion (e : List Byte) : Nat := le e 0 1
/-- STATE: 0 FREE, 1 LIVE, 2 PINNED, 3 DENY. -/
def eState (e : List Byte) : Nat := le e 1 1
/-- AF: 0 IPv4, 1 IPv6, 2 MAC. -/
def eAf (e : List Byte) : Nat := bitsOf (le e 2 1) 1 2
/-- ANY_PORT. -/
def eAnyPort (e : List Byte) : Bool := bitOf (le e 2 1) 0
/-- AUTH_REQ; a format 0x01 entry has none. -/
def eAuthReq (e : List Byte) : Bool := eVersion e == 2 && bitOf (le e 2 1) 3
/-- RATE_EN. -/
def eRateEn (e : List Byte) : Bool := bitOf (le e 2 1) 4
/-- The port of the key. -/
def ePort (e : List Byte) : Nat := le e 3 1 % 4
/-- The server address index. -/
def eAddr (e : List Byte) : Nat := bitsOf (le e 3 1) 4 3
/-- GEN. -/
def eGen (e : List Byte) : Nat := le e 46 2
/-- The offset of a 32-bit counter by format: REQ_CNT at 48 and LIMIT_CNT at 52, or at 72 and 76 of format 0x01. -/
def eReqAt (e : List Byte) : Nat := if eVersion e = 1 then 72 else 48
/-- The entry holds something that neither matches nor is FREE (R391). -/
def eUnknown (e : List Byte) : Bool :=
  eState e != 0 && (decide (3 < eState e) || (eVersion e != 1 && eVersion e != 2))

/-- A format 0x01 entry converted to format 0x02 (R393), with GEN 0: the write that brings the conversion makes it 1. -/
def eConvert (e : List Byte) : List Byte :=
  [2] ++ slice e 1 1 ++ leBytes 1 (putBit (le e 2 1) 3 false) ++ slice e 3 42 ++ [0] ++ leBytes 2 0 ++ slice e 72 8 ++
    slice e 48 24 ++ [0x0F] ++ leBytes 11 0 ++ leBytes 36 0

/-- An engine write: format 0x01 converts first; GEN counts the change (R392, R393). -/
def eWrite (f : List Byte → List Byte) (e : List Byte) : List Byte :=
  let c := if eVersion e = 1 then eConvert e else e
  splice (f c) 46 (leBytes 2 (eGen c + 1))

/-- A 32-bit counter of an entry advanced. -/
def eInc (at_ : Nat) (e : List Byte) : List Byte := splice e at_ (leBytes 4 (le e at_ 4 + 1))

/-! ### Keys and lookups (R390, R395) -/

/-- The bucket of a key. -/
def State.bucketOf (s : State) (k : ClientKey) : Nat :=
  crc32c (leBytes 1 k.af ++ slice k.address 0 16) % (s.ctCount / 8)

/-- The entry matches the key (R390). -/
def eMatches (k : ClientKey) (e : List Byte) : Bool :=
  (eVersion e == 1 || eVersion e == 2) && decide (1 ≤ eState e) && decide (eState e ≤ 3) && eAf e == k.af &&
  slice e 4 16 == slice k.address 0 16 && (eAnyPort e || ePort e == k.port) &&
  (slice e 20 10 == List.replicate 10 0 || slice e 20 10 == slice k.portId 0 10)

/-- The entries of a key's bucket, in slot order. -/
def State.bucketSlots (s : State) (k : ClientKey) : List Nat := (List.range 8).map (fun i => s.bucketOf k * 8 + i)

/-- Where the search for a key ends: at the first entry that matches, or at a line before it that cannot be read (R579). -/
def State.findLine (k : ClientKey) (s : State) : Option Nat :=
  (s.bucketSlots k).find? (fun n => s.lineBad n || eMatches k (s.entry n))

/-- The first matching entry. -/
def State.findEntry (k : ClientKey) (s : State) : Option Nat := (s.findLine k).filter (fun n => !s.lineBad n)

/-- The poisoned line that ends the search for a key. -/
def State.poisonedFor (k : ClientKey) (s : State) : Option Nat := (s.findLine k).filter (fun n => s.lineBad n)

/-- A lookup (R390): the entry, with the entries it tested touched, but for a poisoned line, whose errors are counted (R579), and
the hit or miss counted. -/
def State.lookupEntry (k : ClientKey) (s : State) : Option Nat × State :=
  let r := s.findLine k
  let tested := match r with | some n => (s.bucketSlots k).filter (fun m => decide (m ≤ n)) | none => s.bucketSlots k
  let hit := tested.all (fun n => s.cached n)
  let s1 := tested.foldl (fun st n => if s.lineBad n then st.lineError n else st.touch n false) s
  (s.findEntry k, if hit then (s1.inc R.RSE.CT_HIT.COUNT).count 0x301 1 else (s1.inc R.RSE.CT_MISS.COUNT).count 0x302 1)

/-- Server address fields of the registers: 16 bytes, and whether IPv6. -/
def State.ifAddr (s : State) (p k : Nat) : List Byte :=
  let a := beBytes 4 (s.get (R.RSE.IFADDR.ADDR0.ADDR p k))
  if s.flag (R.RSE.IFADDR.CFG.V6 p k) then
    a ++ beBytes 4 (s.get (R.RSE.IFADDR.ADDR1.ADDR p k)) ++ beBytes 4 (s.get (R.RSE.IFADDR.ADDR2.ADDR p k)) ++
      beBytes 4 (s.get (R.RSE.IFADDR.ADDR3.ADDR p k))
  else a

/-- The index of the enabled server address of port `p` that equals `a`. -/
def State.localAddr (s : State) (p : Nat) (a : List Byte) : Option Nat :=
  (List.range 8).find? (fun k => s.flag (R.RSE.IFADDR.CFG.EN p k) && s.ifAddr p k == a)

/-- The entry that an allocation writes (R395). -/
def State.newEntry (s : State) (k : ClientKey) (addr : Nat) : List Byte :=
  let burst := s.get R.RSE.CT_DEF.BURST
  [2, 1] ++ leBytes 1 (k.af * 2 + s.get R.RSE.CT_DEF.RATE_EN * 16) ++ leBytes 1 (k.port + addr * 16) ++
    slice k.address 0 16 ++ slice k.portId 0 10 ++ leBytes 2 0 ++ leBytes 8 0 ++ leBytes 2 (burst * 256) ++
    leBytes 2 (s.get R.RSE.CT_DEF.RATE) ++ leBytes 1 burst ++ [0] ++ leBytes 2 1 ++ leBytes 80 0

/-- An allocation for a key (R395): the entry, or none where allocation is off or the bucket is full. -/
def State.allocEntry (k : ClientKey) (addr : Nat) (s : State) : Option Nat × State :=
  if !s.flag R.RSE.CT_CFG.ALLOC_EN then (none, s)
  else
    match (s.bucketSlots k).find? (fun n => eState (s.entry n) == 0) with
    | some n => (some n, ((s.putEntry n (s.newEntry k addr)).inc R.RSE.CT_ALLOC.COUNT).count 0x303 1)
    | none => (none, (s.inc R.RSE.CT_FULL.COUNT).evt R.RSE.EVT.CT_FULL)

/-- AUTH_FAIL_CNT or DROP_CNT advanced, unless the entry has become FREE, its key has changed (R400) or its line is poisoned
(R579). -/
def State.entryCount (k : ClientKey) (n at_ : Nat) (s : State) : State :=
  let e := s.entry n
  if s.lineBad n then s.lineError n
  else if eState e ≠ 0 ∧ eMatches k e = true then s.putEntry n (eWrite (eInc at_) e)
  else s

/-! ### The rate bucket (R394) -/

/-- How long ago LAST lies at an instant, in 2^-16 ns (R392, R394): LAST_SEC holds the low 32 bits of its seconds. -/
def eSince (now : Int) (e : List Byte) : Int :=
  toSigned 32 ((now / (secU : Int)).toNat % 2 ^ 32 + 2 ^ 32 - le e 32 4) * (secU : Int) + now % (secU : Int) - (le e 36 4 * nsU : Nat)

/-- The bucket judged at an instant: within rate, and the entry as the request leaves it. LAST keeps the nanoseconds. -/
def eBucket (now : Int) (e : List Byte) : Bool × List Byte :=
  let ns := (now / (nsU : Int)).toNat
  let sec := ns / 1000000000 % 2 ^ 32
  let elapsed := (max 0 (min (eSince now e) (65535 * (secU : Int)))).toNat
  let t := min (le e 40 2 + le e 42 2 * elapsed / secU) (le e 44 1 * 256)
  let within := !eRateEn e || decide (256 ≤ t)
  let t' := if eRateEn e then (if 256 ≤ t then t - 256 else t) else le e 40 2
  let e1 := splice e 32 (leBytes 4 sec ++ leBytes 4 (ns % 1000000000) ++ leBytes 2 t')
  let e2 := eInc 48 e1
  (within, if within then e2 else eInc 52 e2)

/-- Time as the response engine reads it: from the CK_CORE replica (R394). -/
def State.coreTime (s : State) : Option Int := s.replicaTime 0

/-- The instant that an entry bears. -/
def eLast (e : List Byte) : Int := (le e 32 4 * secU + le e 36 4 * nsU : Nat)

/-- DECIDE's bucket on entry `n` (R394); a format 0x01 entry is converted by the write. DESIGN CHOICE: while the CK_CORE replica is
invalid, time is unavailable (R59) and the request is taken to come at LAST: it refills nothing (log entry 115). -/
def State.takeToken (n : Nat) (s : State) : Bool × State :=
  let e := s.entry n
  let c := if eVersion e = 1 then eConvert e else e
  let (ok, e') := eBucket (s.coreTime.getD (eLast c)) c
  (ok, s.putEntry n (splice e' 46 (leBytes 2 (eGen c + 1))))

/-! ### Grants in an entry (R392, R396, R402, R424) -/

/-- Byte offset of GRANT[i]. -/
def grantAt (i : Nat) : Nat := 56 + 12 * i

/-- GRANT[i] of a format 0x02 entry holds messageType `m` and expires after second `now`. -/
def eGrantLive (e : List Byte) (now i : Nat) : Bool :=
  le e (grantAt i) 1 != 0xF && le e (grantAt i + 4) 4 != 0 && decide (now < le e (grantAt i + 8) 4)

/-- No grant. -/
def noGrant : List Byte := [0x0F] ++ leBytes 11 0

/-- The grant records of an entry by index, in its own format: format 0x01 has two, at 48. -/
def eGrants (e : List Byte) : List (List Byte) :=
  if eVersion e = 1 then [slice e 48 12, slice e 60 12] else [slice e 56 12, slice e 68 12, slice e 80 12]

/-- A grant record is in force at a second: it names a message and its expiry lies ahead. -/
def grantLive (now : Nat) (g : List Byte) : Bool :=
  le g 0 1 != 0xF && le g 4 4 != 0 && decide (now < le g 8 4)

/-- AGING_VISIT's work on entry `n` (R391, R396, R424): an idle LIVE entry without a live grant is freed, expired grants are
cleared and counted to the port, and an unrecognised entry is counted. -/
def State.ageEntry (n : Nat) (s : State) : State :=
  let e := s.entry n
  if eState e = 0 then s
  else if eUnknown e then s.inc R.RSE.CT_BAD.COUNT
  else
    let now := s.second % 2 ^ 32
    let expired := (List.range 3).filter (fun i =>
      let g := slice e (grantAt i) 12
      eVersion e == 2 && le g 0 1 != 0xF && le g 4 4 != 0 && !grantLive now g)
    let cleared := expired.foldl (fun x i => splice x (grantAt i) noGrant) e
    let idle := s.coreTime.any (fun t => decide (s.get R.RSE.CT_AGE.IDLE_S * (secU : Int) < eSince t e))
    let free := eState e == 1 && idle && !((eGrants e).any (grantLive now))
    let s1 := if expired = [] then s
      else (s.putEntry n (eWrite (fun _ => cleared) e)).incBy (R.PRO.PORT.EXPIRED.COUNT (ePort e)) expired.length
    if free then (s1.putEntry n (eWrite (fun x => splice x 1 [0]) (s1.entry n))).inc R.RSE.CT_AGED.COUNT else s1

/-- The grants being served from an entry end (R402). -/
def State.dropGrants (n : Nat) (s : State) : State :=
  { s with pro := { s.pro with grants := s.pro.grants.filter (fun g => g.entry != n) } }

/-- Synchronous messages granted on a port, shown (R423). -/
def State.showSyncGranted (s : State) : State :=
  (List.range 4).foldl (fun st p =>
    let rate : Rat := ((st.pro.grants.filter (fun g => g.port == p && g.msg == 0)).map
      (fun g => if g.log ≤ 0 then ((2 ^ (-g.log).toNat : Nat) : Rat) else 1 / ((2 ^ g.log.toNat : Nat) : Rat))).sum
    st.set (R.PRO.PORT.STAT.SYNC_GRANTED p) rate.floor.toNat) s

/-! ### The mailbox (R399 to R402) -/

/-- The 128 bytes of MBX_DATA. -/
def State.mbxData (s : State) : List Byte := (List.range 32).flatMap (fun i => leBytes 4 (s.get (R.RSE.MBX_DATA.DATA i)))

/-- MBX_DATA loaded. -/
def State.setMbxData (bs : List Byte) (s : State) : State :=
  (List.range 32).foldl (fun st i => st.set (R.RSE.MBX_DATA.DATA i) (le bs (4 * i) 4)) s

/-- The result codes of MBX_STAT. -/
def mbxDone : Nat := 1
/-- NOT_FOUND. -/
def mbxNotFound : Nat := 2
/-- EXISTS. -/
def mbxExists : Nat := 3
/-- FULL. -/
def mbxFull : Nat := 4
/-- STALE. -/
def mbxStale : Nat := 5
/-- BAD_STATE. -/
def mbxBadState : Nat := 6
/-- BAD_KEY. -/
def mbxBadKey : Nat := 7
/-- BAD_FORMAT. -/
def mbxBadFormat : Nat := 8

/-- The end of a mailbox command: its result and index, and the event (R401). -/
def State.mbxEnd (result index : Nat) (s : State) : State :=
  ((((s.set R.RSE.MBX_STAT.RESULT result).set R.RSE.MBX_STAT.INDEX index).set R.RSE.STAT.MBX_BUSY 0).evt R.RSE.EVT.MBX_DONE).count 0x304 1

/-- The end of a command that leaves the entry in MBX_DATA. -/
def State.mbxShow (result n : Nat) (s : State) : State := (s.setMbxData (s.entry n)).mbxEnd result n

/-- The key that MBX_DATA spells. -/
def mbxKey (d : List Byte) : ClientKey := ⟨eAf d, slice d 4 16, ePort d, slice d 20 10⟩

/-- A mailbox key matches an entry (R390): ANY_PORT of the entry, or its port. -/
def State.mbxFind (s : State) (d : List Byte) : Option Nat := s.findEntry (mbxKey d)

/-- A mailbox command on a poisoned line ends BAD_FORMAT (R579). -/
def State.mbxPoisoned (n : Nat) (s : State) : State :=
  (s.lineError n).mbxEnd mbxBadFormat (s.get R.RSE.MBX_CMD.INDEX)

/-- MBX_READ (R399). -/
def execMbxRead (s : State) : Out :=
  let n := s.get R.RSE.MBX_CMD.INDEX
  if s.ctCount ≤ n then .next (s.mbxEnd mbxBadFormat n)
  else if s.lineBad n then .next (s.mbxPoisoned n)
  else .next ((s.touch n false).mbxShow mbxDone n)

/-- MBX_WRITE's checks in R399's order: FREE, STALE, key, state; none lets the copy go on. -/
def State.mbxWriteCheck (s : State) (d e : List Byte) : Option Nat :=
  let mask := s.get R.RSE.MBX_CMD.MASK
  let keys (x : List Byte) : Nat × Nat × List Byte := (le x 2 1 % 8, le x 3 1 % 4, slice x 4 26)
  if eState e = 0 then some mbxBadState
  else if s.flag R.RSE.MBX_CMD.CMP ∧ eGen e ≠ eGen d then some mbxStale
  else if keys d ≠ keys e then some mbxBadKey
  else if bitOf mask 3 ∧ ¬(1 ≤ eState d ∧ eState d ≤ 3) then some mbxBadState
  else none

/-- The HOST fields that a mask selects, copied (R399). -/
def mbxCopy (mask : Nat) (d e : List Byte) : List Byte :=
  let f := if bitOf mask 0 then splice e 2 (leBytes 1 (putBits (le e 2 1) 3 2 (bitsOf (le d 2 1) 3 2))) else e
  let r := if bitOf mask 1 then splice f 42 (slice d 42 3) else f
  let t := if bitOf mask 2 then splice r 96 (slice d 96 16) else r
  if bitOf mask 3 then splice t 1 (slice d 1 1) else t

/-- MBX_WRITE (R399). A change of RATE or BURST leaves the bucket's level, which R394 bounds at the next request. -/
def execMbxWrite (s : State) : Out :=
  let n := s.get R.RSE.MBX_CMD.INDEX
  if s.ctCount ≤ n then .next (s.mbxEnd mbxBadFormat n)
  else if s.lineBad n then .next (s.mbxPoisoned n)
  else
    let d := s.mbxData
    let e := s.entry n
    match s.mbxWriteCheck d e with
    | some r => .next ((s.touch n false).mbxShow r n)
    | none => .next ((s.putEntry n (eWrite (mbxCopy (s.get R.RSE.MBX_CMD.MASK) d) e)).mbxShow mbxDone n)

/-- The entry that INSERT writes: ENGINE fields zero, a full bucket, GEN 1; format 0x01 converted (R393, R399). -/
def mbxInsertEntry (d : List Byte) : List Byte :=
  let c := if eVersion d = 1 then eConvert d else d
  let host := slice c 0 32 ++ leBytes 8 0 ++ leBytes 2 (le c 44 1 * 256) ++ slice c 42 3 ++ [0] ++ leBytes 2 1 ++
    leBytes 8 0 ++ leBytes 36 0 ++ leBytes 4 0 ++ slice c 96 16 ++ leBytes 16 0
  host

/-- MBX_INSERT (R399): by key, whatever INDEX holds. -/
def execMbxInsert (s : State) : Out :=
  let n0 := s.get R.RSE.MBX_CMD.INDEX
  let d := s.mbxData
  if eVersion d ≠ 1 ∧ eVersion d ≠ 2 then .next (s.mbxEnd mbxBadFormat n0)
  else if ¬(1 ≤ eState d ∧ eState d ≤ 3) then .next (s.mbxEnd mbxBadState n0)
  else
    match s.poisonedFor (mbxKey d), s.mbxFind d with
    | some n, _ => .next (s.mbxPoisoned n)
    | none, some n => .next ((s.touch n false).mbxShow mbxExists n)
    | none, none =>
      match (s.bucketSlots (mbxKey d)).find? (fun n => eState (s.entry n) == 0) with
      | none => .next (s.mbxEnd mbxFull n0)
      | some n => .next ((s.putEntry n (mbxInsertEntry d)).mbxShow mbxDone n)

/-- MBX_DELETE (R399, R402). -/
def execMbxDelete (s : State) : Out :=
  let n := s.get R.RSE.MBX_CMD.INDEX
  if s.ctCount ≤ n then .next (s.mbxEnd mbxBadFormat n)
  else if s.lineBad n then .next (s.mbxPoisoned n)
  else
    let e := s.entry n
    if eState e = 0 then .next ((s.touch n false).mbxShow mbxBadState n)
    else if s.flag R.RSE.MBX_CMD.CMP ∧ eGen e ≠ eGen s.mbxData then .next ((s.touch n false).mbxShow mbxStale n)
    else
      .next (((s.putEntry n (eWrite (fun x => splice x 1 [0]) e)).dropGrants n).showSyncGranted.mbxShow mbxDone n)

/-- MBX_LOOKUP (R399): by key, whatever INDEX holds. -/
def execMbxLookup (s : State) : Out :=
  match s.poisonedFor (mbxKey s.mbxData), s.mbxFind s.mbxData with
  | some n, _ => .next (s.mbxPoisoned n)
  | none, some n => .next ((s.touch n false).mbxShow mbxDone n)
  | none, none => .next (s.mbxEnd mbxNotFound (s.get R.RSE.MBX_CMD.INDEX))

/-- MBX_BAD_OP (R399). -/
def execMbxBadOp (s : State) : Out := .next (s.mbxEnd mbxBadFormat (s.get R.RSE.MBX_CMD.INDEX))

/-- AGING_VISIT (R396): without a running timescale no visit can judge an age; of a poisoned line it reads nothing (R579). -/
def execAgingVisit (entry : BitVec 20) (s : State) : Out :=
  if s.ticking && decide (entry.toNat < s.ctCount) then
    if s.lineBad entry.toNat then .next (s.lineError entry.toNat) else .next ((s.touch entry.toNat false).ageEntry entry.toNat)
  else .next s

/-- CT_FLUSH (R403): every line dirty now is written back; lines dirtied afterwards stay dirty. -/
def execCtFlush (s : State) : Out :=
  .next ((s.modRse fun r => { r with cache := r.cache.map (fun (k, set) => (k, set.map (fun l => (l.1, false)))) }).set
    R.RSE.STAT.FLUSH_BUSY 1)

/-- FLUSH_DONE (R403): the write-back completes. -/
def execFlushDone (s : State) : Out :=
  if s.flag R.RSE.STAT.FLUSH_BUSY then
    .next ((s.set R.RSE.STAT.FLUSH_BUSY 0).evt R.RSE.EVT.FLUSH_DONE)
  else .next s

/-- A write of bytes that lie in one table entry (R398): applied only to a FREE entry. DESIGN CHOICE: an entry whose line is
poisoned is not known to be FREE, and the write is discarded (log entry 128). -/
def State.tableWrite (a : Nat) (bs : List Byte) (s : State) : State :=
  (s.ctIndex a).elim s fun n =>
    if eState (s.entry n) = 0 ∧ s.lineBad n = false then (s.dramWrite a bs).touch n true
    else (((s.lineError n).inc R.RSE.CT_DIRECT_REJ.COUNT).set R.RSE.CT_REJ_IDX.INDEX n).evt R.RSE.EVT.DIRECT_REJECT

end Sys2Proof.Machine
end

