-- ==== Sys2Proof/Machine/Crypto.lean ====
section
/-! DEFINITION. The algorithms of the glovebox (R436, R440): AES (FIPS 197), AES-CMAC (RFC 4493), AES-SIV-CMAC-256 (RFC 5297),
SHA-256 (FIPS 180-4) and HMAC-SHA-256 (RFC 2104). -/

namespace Sys2Proof.Machine

/-! ### AES -/

/-- Multiplication by x in GF(2^8) modulo x^8 + x^4 + x^3 + x + 1. -/
def xtime (a : Nat) : Nat := if 128 ≤ a then (a * 2 % 256) ^^^ 0x1B else a * 2

/-- Multiplication in that field. -/
def gfMul (a b : Nat) : Nat :=
  ((List.range 8).foldl (fun (acc : Nat × Nat) i => (if bitOf b i then acc.1 ^^^ acc.2 else acc.1, xtime acc.2)) (0, a)).1

/-- The inverse: the 254th power. -/
def gfInv (a : Nat) : Nat :=
  ((List.range 7).foldl (fun (acc : Nat × Nat) _ => let sq := gfMul acc.2 acc.2; (gfMul acc.1 sq, sq)) (1, a)).1

/-- Rotation of a byte to the left. -/
def rotl8 (a n : Nat) : Nat := (a * 2 ^ n % 256) ^^^ (a / 2 ^ (8 - n))

/-- The substitution of a byte. -/
def sBox (a : Nat) : Nat :=
  let b := gfInv a
  b ^^^ rotl8 b 1 ^^^ rotl8 b 2 ^^^ rotl8 b 3 ^^^ rotl8 b 4 ^^^ 0x63

/-- Two byte strings combined by exclusive or, to the length of the shorter. -/
def xorBytes (a b : List Nat) : List Nat := List.zipWith (· ^^^ ·) a b

/-- One word of the key schedule: the i-th, from the earlier ones, newest first, for a key of `nk` words. -/
def keyWord (nk i rcon : Nat) (prev : List (List Nat)) : List Nat :=
  let t := prev.headD [0, 0, 0, 0]
  let back := prev.getD (nk - 1) [0, 0, 0, 0]
  let t' :=
    if i % nk = 0 then
      match t with
      | [a, b, c, d] => [sBox b ^^^ rcon, sBox c, sBox d, sBox a]
      | _ => t
    else if 6 < nk ∧ i % nk = 4 then t.map sBox
    else t
  xorBytes back t'

/-- Words of four bytes of a key. -/
def chunks4 : Nat → List Nat → List (List Nat)
  | 0, _ => []
  | n + 1, l => l.take 4 :: chunks4 n (l.drop 4)

/-- The expanded key, oldest word first, of a key of 16 or 32 bytes. -/
def expandKey (key : List Nat) : List (List Nat) :=
  let nk := key.length / 4
  let total := 4 * (nk + 7)
  let r := (List.range (total - nk)).foldl
    (fun (acc : List (List Nat) × Nat) j =>
      let i := nk + j
      (keyWord nk i acc.2 acc.1 :: acc.1, if i % nk = 0 then xtime acc.2 else acc.2))
    ((chunks4 nk key).reverse, 1)
  r.1.reverse

/-- The rows of the state shifted; bytes lie column by column. -/
def shiftRows (s : List Nat) : List Nat := (List.range 16).map (fun i => s.getD ((i + 4 * (i % 4)) % 16) 0)

/-- One column mixed. -/
def mixColumn : List Nat → List Nat
  | [a, b, c, d] =>
    [xtime a ^^^ xtime b ^^^ b ^^^ c ^^^ d, a ^^^ xtime b ^^^ xtime c ^^^ c ^^^ d,
     a ^^^ b ^^^ xtime c ^^^ xtime d ^^^ d, xtime a ^^^ a ^^^ b ^^^ c ^^^ xtime d]
  | x => x

/-- The round keys as blocks of 16 bytes. -/
def roundKeys : List (List Nat) → List (List Nat)
  | a :: b :: c :: d :: rest => (a ++ b ++ c ++ d) :: roundKeys rest
  | _ => []

/-- One block enciphered. -/
def aesBlock (ks : List (List Nat)) (block : List Nat) : List Nat :=
  match roundKeys ks with
  | [] => block
  | k0 :: rest =>
    let n := rest.length
    (rest.foldl (fun (acc : List Nat × Nat) k =>
        let sb := shiftRows (acc.1.map sBox)
        let mx := if acc.2 + 1 = n then sb else (chunks4 4 sb).flatMap mixColumn
        (xorBytes mx k, acc.2 + 1)) (xorBytes block k0, 0)).1

/-! ### CMAC and SIV -/

/-- Doubling in GF(2^128). -/
def dbl (b : List Nat) : List Nat :=
  let v := b.foldl (fun acc x => acc * 256 + x) 0
  let w := v * 2 % 2 ^ 128 ^^^ (if bitOf v 127 then 0x87 else 0)
  (List.range 16).map (fun i => w / 256 ^ (15 - i) % 256)

/-- The full blocks of 16 bytes, and the rest, of a message of at most `16 n` bytes and more. -/
def blocks16 : Nat → List Nat → List (List Nat)
  | 0, _ => []
  | n + 1, l => if l.length ≤ 16 then [l] else l.take 16 :: blocks16 n (l.drop 16)

/-- AES-CMAC under an expanded key. -/
def cmac (ks : List (List Nat)) (msg : List Nat) : List Nat :=
  let zero := List.replicate 16 0
  let k1 := dbl (aesBlock ks zero)
  let k2 := dbl k1
  let bs := blocks16 (msg.length / 16 + 1) msg
  let last := bs.getLastD []
  let fin := if last.length = 16 then xorBytes last k1
    else xorBytes (last ++ [0x80] ++ List.replicate (15 - last.length) 0) k2
  let x := bs.dropLast.foldl (fun acc b => aesBlock ks (xorBytes acc b)) zero
  aesBlock ks (xorBytes x fin)

/-- S2V of RFC 5297 over associated data and the plaintext. -/
def s2v (ks : List (List Nat)) (ads : List (List Nat)) (plain : List Nat) : List Nat :=
  let d := ads.foldl (fun acc a => xorBytes (dbl acc) (cmac ks a)) (cmac ks (List.replicate 16 0))
  if 16 ≤ plain.length then
    let n := plain.length - 16
    cmac ks (plain.take n ++ xorBytes (plain.drop n) d)
  else cmac ks (xorBytes (dbl d) (plain ++ [0x80] ++ List.replicate (15 - plain.length) 0))

/-- The counter stream of SIV: bits 31 and 63 of the tag cleared, then a 128-bit count. -/
def sivStream (ks : List (List Nat)) (tag : List Nat) (n : Nat) : List Nat :=
  let q := (tag.set 8 (tag.getD 8 0 % 128)).set 12 (tag.getD 12 0 % 128)
  let v := q.foldl (fun acc x => acc * 256 + x) 0
  ((List.range ((n + 15) / 16)).flatMap (fun j =>
    let w := (v + j) % 2 ^ 128
    aesBlock ks ((List.range 16).map (fun i => w / 256 ^ (15 - i) % 256)))).take n

/-- AES-SIV-CMAC-256 sealing: the tag and then the ciphertext. -/
def sivSeal (key : List Nat) (ads : List (List Nat)) (plain : List Nat) : List Nat :=
  let tag := s2v (expandKey (key.take 16)) ads plain
  tag ++ xorBytes plain (sivStream (expandKey (key.drop 16)) tag plain.length)

/-- AES-SIV-CMAC-256 opening: the plaintext, or none at a mismatch. -/
def sivOpen (key : List Nat) (ads : List (List Nat)) (sealed : List Nat) : Option (List Nat) :=
  let tag := sealed.take 16
  let c := sealed.drop 16
  let plain := xorBytes c (sivStream (expandKey (key.drop 16)) tag c.length)
  if s2v (expandKey (key.take 16)) ads plain = tag ∧ tag.length = 16 then some plain else none

/-! ### SHA-256 and HMAC -/

/-- The round constants. -/
def shaK : List Nat :=
  [0x428a2f98, 0x71374491, 0xb5c0fbcf, 0xe9b5dba5, 0x3956c25b, 0x59f111f1, 0x923f82a4, 0xab1c5ed5] ++
  [0xd807aa98, 0x12835b01, 0x243185be, 0x550c7dc3, 0x72be5d74, 0x80deb1fe, 0x9bdc06a7, 0xc19bf174] ++
  [0xe49b69c1, 0xefbe4786, 0x0fc19dc6, 0x240ca1cc, 0x2de92c6f, 0x4a7484aa, 0x5cb0a9dc, 0x76f988da] ++
  [0x983e5152, 0xa831c66d, 0xb00327c8, 0xbf597fc7, 0xc6e00bf3, 0xd5a79147, 0x06ca6351, 0x14292967] ++
  [0x27b70a85, 0x2e1b2138, 0x4d2c6dfc, 0x53380d13, 0x650a7354, 0x766a0abb, 0x81c2c92e, 0x92722c85] ++
  [0xa2bfe8a1, 0xa81a664b, 0xc24b8b70, 0xc76c51a3, 0xd192e819, 0xd6990624, 0xf40e3585, 0x106aa070] ++
  [0x19a4c116, 0x1e376c08, 0x2748774c, 0x34b0bcb5, 0x391c0cb3, 0x4ed8aa4a, 0x5b9cca4f, 0x682e6ff3] ++
  [0x748f82ee, 0x78a5636f, 0x84c87814, 0x8cc70208, 0x90befffa, 0xa4506ceb, 0xbef9a3f7, 0xc67178f2]

/-- The initial hash value. -/
def shaInit : List Nat :=
  [0x6a09e667, 0xbb67ae85, 0x3c6ef372, 0xa54ff53a, 0x510e527f, 0x9b05688c, 0x1f83d9ab, 0x5be0cd19]

/-- Rotation of a word to the right. -/
def rotr (x n : Nat) : Nat := x / 2 ^ n ^^^ (x * 2 ^ (32 - n) % 2 ^ 32)

/-- The message schedule, newest first. -/
def shaSchedule (block : List Nat) : List Nat :=
  let w0 := ((chunks4 16 block).map (fun c => c.foldl (fun a x => a * 256 + x) 0)).reverse
  (List.range 48).foldl (fun ws _ =>
    let w15 := ws.getD 14 0
    let w2 := ws.getD 1 0
    let s0 := rotr w15 7 ^^^ rotr w15 18 ^^^ (w15 / 8)
    let s1 := rotr w2 17 ^^^ rotr w2 19 ^^^ (w2 / 1024)
    ((ws.getD 15 0 + s0 + ws.getD 6 0 + s1) % 2 ^ 32) :: ws) w0

/-- One compression. -/
def shaCompress (h : List Nat) (block : List Nat) : List Nat :=
  let r := ((shaSchedule block).reverse.zip shaK).foldl (fun (v : List Nat) (wk : Nat × Nat) =>
    match v with
    | [a, b, c, d, e, f, g, hh] =>
      let s1 := rotr e 6 ^^^ rotr e 11 ^^^ rotr e 25
      let ch := (e &&& f) ^^^ ((2 ^ 32 - 1 - e) &&& g)
      let t1 := (hh + s1 + ch + wk.1 + wk.2) % 2 ^ 32
      let s0 := rotr a 2 ^^^ rotr a 13 ^^^ rotr a 22
      let mj := (a &&& b) ^^^ (a &&& c) ^^^ (b &&& c)
      [(t1 + s0 + mj) % 2 ^ 32, a, b, c, (d + t1) % 2 ^ 32, e, f, g]
    | _ => v) h
  List.zipWith (fun x y => (x + y) % 2 ^ 32) h r

/-- Blocks of 64 bytes. -/
def blocks64 : Nat → List Nat → List (List Nat)
  | 0, _ => []
  | n + 1, l => l.take 64 :: blocks64 n (l.drop 64)

/-- SHA-256. -/
def sha256 (msg : List Nat) : List Nat :=
  let n := msg.length
  let pad := msg ++ [0x80] ++ List.replicate ((119 - n % 64) % 64) 0 ++
    (List.range 8).map (fun i => n * 8 / 256 ^ (7 - i) % 256)
  ((blocks64 (pad.length / 64) pad).foldl shaCompress shaInit).flatMap
    (fun w => (List.range 4).map (fun i => w / 256 ^ (3 - i) % 256))

/-- HMAC-SHA-256 with a key of at most 64 bytes. -/
def hmac (key msg : List Nat) : List Nat :=
  let k := key ++ List.replicate (64 - key.length) 0
  sha256 (k.map (· ^^^ 0x5C) ++ sha256 (k.map (· ^^^ 0x36) ++ msg))

/-- Bytes as numbers, and back. -/
def toNats (bs : List Byte) : List Nat := bs.map BitVec.toNat
/-- Numbers as bytes. -/
def ofNats (ns : List Nat) : List Byte := ns.map (BitVec.ofNat 8)

end Sys2Proof.Machine
end

