-- ==== Sys2Proof/Machine/Glv.lean ====
section
/-! DEFINITION. The glovebox: gloves, key commands, cookies, the NTS authenticator and the PTP AUTHENTICATION TLV
(chapter 14). -/

namespace Sys2Proof.Machine

/-- The glovebox's own state changed. -/
def State.modGlv (f : Glv → Glv) (s : State) : State := { s with glv := f s.glv }

/-! ### Gloves (R439 to R447) -/

/-- STATE of glove `g`: 0 EMPTY, 1 LOADED, 2 SPENT. -/
def State.gloveState (s : State) (g : Nat) : Nat := s.get (R.GLV.GLOVE.ATTR.STATE g)

/-- Glove `g` is LOADED with a class. -/
def State.gloveServes (s : State) (g cls : Nat) : Bool :=
  s.gloveState g == 1 && s.get (R.GLV.GLOVE.ATTR.CLASS g) == cls

/-- The LOADED glove of a class with a KEY_ID; KEY_IDs are unique among them (R439). -/
def State.findGlove (cls id : Nat) (s : State) : Option Nat :=
  (List.range 64).find? (fun g => s.gloveServes g cls && s.get (R.GLV.GLOVE.KEY_ID.ID g) == id)

/-- The 32 key bytes of glove `g`: key bits [7:0] first. -/
def State.gloveKey (s : State) (g : Nat) : List Nat := toNats (leBytes 32 (Map.getD s.glv.keys g 0))

/-- MINT_OK follows the glove named by MINT_GLOVE (R458). -/
def State.showMint (s : State) : State :=
  let ok := s.gloveServes (s.get R.GLV.NTS_CFG.MINT_GLOVE) 1
  if s.flag R.GLV.STAT.MINT_OK && !ok then (s.set R.GLV.STAT.MINT_OK 0).evt R.GLV.EVT.NO_MINT else s.setB R.GLV.STAT.MINT_OK ok

/-- The use counter of glove `g` set. -/
def State.setUses (g n : Nat) (s : State) : State := s.set2 (R.GLV.GLOVE.COUNT_LO.COUNT g) (R.GLV.GLOVE.COUNT_HI.COUNT g) n

/-- One use of glove `g` (R444): the use that brings a counter to zero makes it SPENT. -/
def State.useGlove (g : Nat) (s : State) : State :=
  if s.flag (R.GLV.GLOVE.ATTR.LIFE g) then s
  else
    let n := s.get2 (R.GLV.GLOVE.COUNT_LO.COUNT g) (R.GLV.GLOVE.COUNT_HI.COUNT g)
    let s1 := s.setUses g (n - 1)
    if n ≤ 1 then
      ((((s1.set (R.GLV.GLOVE.ATTR.STATE g) 2).modGlv fun x => { x with keys := Map.del x.keys g }).evt
        R.GLV.EVT.SPENT).file F.glvKeySpent g 0).showMint
    else s1

/-- KEY_DATA and WORDS return to zero (R442). -/
def State.clearKeyData (s : State) : State :=
  ((List.range 8).foldl (fun st i => st.set (R.GLV.KEY_DATA.KEY i) 0) s).set R.GLV.KEY_STAT.WORDS 0

/-- Glove `g` emptied: key, attributes and counter are zero. -/
def State.emptyGlove (g : Nat) (s : State) : State :=
  ((((((s.set (R.GLV.GLOVE.ATTR.CLASS g) 0).set (R.GLV.GLOVE.ATTR.LIFE g) 0).set (R.GLV.GLOVE.ATTR.STATE g) 0).set
    (R.GLV.GLOVE.ATTR.SRC g) 0).set (R.GLV.GLOVE.KEY_ID.ID g) 0).setUses g 0).modGlv fun x => { x with keys := Map.del x.keys g }

/-- Glove `g` destroyed and counted, unless it is EMPTY (R447). -/
def State.destroyGlove (g : Nat) (s : State) : State :=
  if s.gloveState g = 0 then s else (s.emptyGlove g).inc R.GLV.KEY_DESTROYED.COUNT

/-- Every glove destroyed. -/
def State.destroyAll (s : State) : State := (List.range 64).foldl (fun st g => st.destroyGlove g) s

/-- A glove written (R442, R446). -/
def State.loadGlove (g cls life id count key src : Nat) (s : State) : State :=
  ((((((s.set (R.GLV.GLOVE.ATTR.CLASS g) cls).set (R.GLV.GLOVE.ATTR.LIFE g) life).set (R.GLV.GLOVE.ATTR.STATE g) 1).set
    (R.GLV.GLOVE.ATTR.SRC g) src).set (R.GLV.GLOVE.KEY_ID.ID g) id).setUses g (if life = 0 then count else 0)).modGlv
      fun x => { x with keys := Map.put x.keys g key }

/-- Why a LOAD of glove `g` is refused, in R442's order: 4 INCOMPLETE, 5 BAD_ATTR, 2 NOT_EMPTY, 3 DUP_ID; 1 DONE. -/
def State.loadResult (g cls life id count : Nat) (complete : Bool) (s : State) : Nat :=
  if !complete then 4
  else if ¬(1 ≤ cls ∧ cls ≤ 3) ∨ (life = 0 ∧ count = 0) then 5
  else if s.gloveState g = 1 then 2
  else if (s.findGlove cls id).isSome then 3
  else 1

/-- A key command completes (R442). -/
def State.keyDone (result : Nat) (s : State) : State :=
  ((s.set R.GLV.KEY_STAT.RESULT result).showMint).evt R.GLV.EVT.KEY_DONE

/-- KEY_LOAD (R442). -/
def execKeyLoad (index : Fin 64) (s : State) : Out :=
  let g := index.val
  let s0 := s.set R.GLV.KEY_CMD.INDEX g
  let cls := s.get R.GLV.KEY_ATTR.CLASS
  let life := s.get R.GLV.KEY_ATTR.LIFE
  let id := s.get R.GLV.KEY_ID.ID
  let count := s.get2 R.GLV.KEY_COUNT_LO.COUNT R.GLV.KEY_COUNT_HI.COUNT
  let key := ((List.range 8).map (fun i => s.get (R.GLV.KEY_DATA.KEY i) * 2 ^ (32 * i))).sum
  let r := s0.loadResult g cls life id count (s.get R.GLV.KEY_STAT.WORDS == 0xFF)
  let s1 := if r = 1 then s0.loadGlove g cls life id count key 0 else s0
  .next (s1.clearKeyData.keyDone r)

/-- KEY_DESTROY (R447). -/
def execKeyDestroy (index : Fin 64) (s : State) : Out :=
  let g := index.val
  let s0 := (s.set R.GLV.KEY_CMD.INDEX g).clearKeyData
  if s.gloveState g = 0 then .next (s0.keyDone 6) else .next ((s0.destroyGlove g).keyDone 1)

/-- KEY_DESTROY_ALL (R447). -/
def execKeyDestroyAll (s : State) : Out := .next (s.clearKeyData.destroyAll.keyDone 1)

/-- RNG_HEALTH_FAIL (R438). -/
def execRngHealthFail (s : State) : Out :=
  .next (((s.set R.GLV.STAT.RNG_OK 0).evt R.GLV.EVT.RNG_FAIL).file F.glvRngFail 0 0)

/-- The generator seeded anew; its tests pass (R438). -/
def State.reseed (s : State) : State := (s.modGlv fun g => { g with calls := 0 }).set R.GLV.STAT.RNG_OK 1

/-- A nonce of 16 bytes (R438), a free value; after 2^20 calls the generator is seeded anew. -/
def State.nonce (s : State) : List Byte × State :=
  let n := leBytes 16 s.fresh
  let s1 := s.bump.modGlv fun g => { g with calls := g.calls + 1 }
  (n, if 2 ^ 20 ≤ s1.glv.calls then s1.modGlv fun g => { g with calls := 0 } else s1)

/-! ### Commits (R458, R464) -/

/-- A commit of group SEC is accepted (R464): no reserved code, and no instance that signs names a disabled SA. -/
def secOk (_old new : State) : Bool :=
  let auth (mode sa : Nat) : Bool := mode == 0 || (decide (mode ≤ 2) && new.flag (R.GLV.SA.W0.EN sa))
  (List.range 4).all (fun p => auth (new.get (R.GLV.PTP_AUTH.MODE p)) (new.get (R.GLV.PTP_AUTH.SA p)) &&
    auth (new.get (R.GLV.PREF_AUTH.MODE p)) (new.get (R.GLV.PREF_AUTH.SA p))) &&
  (List.range 16).all (fun j => let a := new.get (R.GLV.SA.W0.ALG j)
    (a == 1 || a == 2) && !(a == 2 && new.flag (R.GLV.SA.W0.ICV_LEN j)))

/-- Group SEC at the second. -/
def State.glvSecond (s : State) : State :=
  s.takeGroup .glvSec R.GLV.CTL.SEC_COMMIT R.GLV.EVT.CFG_REJECTED secOk (fun _ new => new)

/-- SEC_COMMIT (R464). -/
def execSecCommit (s : State) : Out := .next (s.commit .glvSec R.GLV.CTL.SEC_COMMIT)

/-! ### PTP authentication (R459 to R461) -/

/-- The ICV of a message under SA `j` with glove `g`: over the bytes given, correctionField taken as zero with ZERO_CF. -/
def State.icv (s : State) (j g : Nat) (msg : List Byte) : List Byte :=
  let m := toNats (if s.flag (R.GLV.SA.W0.ZERO_CF j) then splice msg 8 (List.replicate 8 0) else msg)
  if s.get (R.GLV.SA.W0.ALG j) = 1 then
    ofNats ((hmac (s.gloveKey g) m).take (if s.flag (R.GLV.SA.W0.ICV_LEN j) then 32 else 16))
  else ofNats (cmac (expandKey (s.gloveKey g)) m)

/-- Bytes of the ICV of SA `j`. -/
def State.icvLen (s : State) (j : Nat) : Nat :=
  if s.get (R.GLV.SA.W0.ALG j) = 1 ∧ s.flag (R.GLV.SA.W0.ICV_LEN j) = true then 32 else 16

/-- The class of glove that an SA's ALG takes (R440). -/
def State.saClass (s : State) (j : Nat) : Nat := if s.get (R.GLV.SA.W0.ALG j) = 1 then 2 else 3

/-- The glove that signs under SA `j` (R460). -/
def State.signGlove (s : State) (j : Nat) : Option Nat := s.findGlove (s.saClass j) (s.get (R.GLV.SA.W1.TX_KEY_ID j))

/-- The mode and SA of an instance on port `p`: the serving one, or the PREF client. -/
def State.authOf (s : State) (p : Nat) (client : Bool) : Nat × Nat :=
  if client then (s.get (R.GLV.PREF_AUTH.MODE p), s.get (R.GLV.PREF_AUTH.SA p))
  else (s.get (R.GLV.PTP_AUTH.MODE p), s.get (R.GLV.PTP_AUTH.SA p))

/-- Bytes that the AUTHENTICATION TLV of an instance adds to a message. -/
def State.authLen (s : State) (p : Nat) (client : Bool) : Nat :=
  let (mode, j) := s.authOf p client
  if mode = 0 then 0 else 10 + s.icvLen j

/-- A message with its AUTHENTICATION TLV, messageLength included (R459); none where no glove signs. -/
def State.signMessage (p : Nat) (client : Bool) (msg : List Byte) (s : State) : Option (List Byte × State) :=
  let (_, j) := s.authOf p client
  match s.signGlove j with
  | none => none
  | some g =>
    let n := s.icvLen j
    let m := splice msg 2 (beBytes 2 (msg.length + 10 + n)) ++ beBytes 2 0x8009 ++ beBytes 2 (6 + n) ++
      beBytes 1 (s.get (R.GLV.SA.W0.SPP j)) ++ [0] ++ beBytes 4 (s.get (R.GLV.SA.W1.TX_KEY_ID j))
    some (m ++ s.icv j g m, (s.useGlove g).inc R.GLV.PTP_SIGNED.COUNT)

/-- The TLVs of a PTP message from an offset: type, offset of its value, length of its value. -/
def tlvsFrom : Nat → List Byte → Nat → List (Nat × Nat × Nat)
  | 0, _, _ => []
  | n + 1, m, i =>
    if i + 4 ≤ m.length then (be m i 2, i + 4, be m (i + 2) 2) :: tlvsFrom n m (i + 4 + be m (i + 2) 2) else []

/-- The fixed length of a PTP message by messageType: what stands before its TLVs. -/
def ptpFixed (msgType : Nat) : Nat :=
  match msgType with
  | 0 | 1 | 8 | 0xC => 44
  | 0xB => 64
  | 0xD => 48
  | _ => 54

/-- How a received message's TLV fares (R461): none carried, verified, or failed; a verification uses the glove. -/
inductive AuthResult where
  | absent | good | bad
  deriving DecidableEq, Repr

/-- A result as a transaction holds it. -/
def AuthResult.code : AuthResult → Nat
  | .absent => 0
  | .good => 1
  | .bad => 2

/-- Verification of a received message (R461). -/
def State.verifyMessage (msg : List Byte) (s : State) : AuthResult × State :=
  let tlvs := tlvsFrom msg.length msg (ptpFixed (be msg 0 1 % 16))
  let auths := tlvs.filter (fun t => t.1 == 0x8009)
  let bad := (AuthResult.bad, s.inc R.GLV.PTP_FAIL.COUNT)
  match auths with
  | [] => (.absent, s)
  | [(_, at_, len)] =>
    let spp := be msg at_ 1
    let id := be msg (at_ + 2) 4
    match (List.range 16).find? (fun j => s.flag (R.GLV.SA.W0.EN j) && s.get (R.GLV.SA.W0.SPP j) == spp &&
        (s.findGlove (s.saClass j) id).isSome) with
    | none => bad
    | some j =>
      match s.findGlove (s.saClass j) id with
      | none => bad
      | some g =>
        if be msg (at_ + 1) 1 ≠ 0 ∨ at_ + len ≠ msg.length ∨ len ≠ 6 + s.icvLen j then bad
        else
          let want := s.icv j g (msg.take (at_ + 6))
          let s1 := s.useGlove g
          if msg.drop (at_ + 6) = want then (.good, s1.inc R.GLV.PTP_VERIFIED.COUNT)
          else (.bad, s1.inc R.GLV.PTP_FAIL.COUNT)
  | _ => bad

/-! ### NTS (R451 to R457) -/

/-- An extension field: its type, its whole bytes, and where it begins. -/
structure ExtField where
  typ : Nat
  at_ : Nat
  bytes : List Byte
  deriving DecidableEq, Repr

/-- How the bytes after an NTP header read (R428): the extension fields, a legacy MAC, or malformed. -/
inductive ExtParse where
  | fields (l : List ExtField)
  | mac
  | malformed
  deriving DecidableEq, Repr

/-- The extension fields of an NTP packet from offset `i` (R428). -/
def extFields : Nat → List Byte → Nat → List ExtField → ExtParse
  | 0, _, _, _ => .malformed
  | n + 1, m, i, acc =>
    let rest := m.length - i
    if rest = 0 then .fields acc.reverse
    else if rest = 20 ∨ rest = 24 then .mac
    else if rest < 16 then .malformed
    else
      let len := be m (i + 2) 2
      if len % 4 ≠ 0 ∨ len < 16 ∨ rest < len then .malformed
      else extFields n m (i + len) (⟨be m i 2, i, slice m i len⟩ :: acc)

/-- What a well-formed NTS request holds (R453): Unique Identifier and cookie fields, placeholders, the authenticator's
offset, nonce and ciphertext. -/
structure NtsRequest where
  uid : List Byte
  cookie : List Byte
  placeholders : Nat
  authAt : Nat
  nonce : List Byte
  cipher : List Byte
  deriving DecidableEq, Repr

/-- The body of an extension field. -/
def extBody (f : ExtField) : List Byte := f.bytes.drop 4

/-- The rest of R453, on a packet that meets R428. -/
def ntsRequest (fs : List ExtField) : Option NtsRequest :=
  let uids := fs.filter (fun f => f.typ == 0x0104)
  let cookies := fs.filter (fun f => f.typ == 0x0204)
  let auths := fs.filter (fun f => f.typ == 0x0404)
  match uids, cookies, auths, fs.getLast? with
  | [u], [c], [a], some l =>
    let b := extBody a
    let nl := be b 0 2
    let cl := be b 2 2
    if l = a ∧ 36 ≤ u.bytes.length ∧ c.bytes.length = 108 ∧ 16 ≤ nl ∧ nl ≤ 32 ∧ 16 ≤ cl ∧
        4 + ceilDiv nl 4 * 4 + cl ≤ b.length then
      some { uid := u.bytes, cookie := extBody c, placeholders := (fs.filter (fun f => f.typ == 0x0304)).length,
             authAt := a.at_, nonce := slice b 4 nl, cipher := slice b (4 + ceilDiv nl 4 * 4) cl }
    else none
  | _, _, _, _ => none

/-- A cookie opened (R451, R454): C2S and S2C. -/
def State.openCookie (cookie : List Byte) (s : State) : Option (List Byte × List Byte) × State :=
  match s.findGlove 1 (be cookie 0 4) with
  | none => (none, s)
  | some g =>
    let plain := sivOpen (s.gloveKey g) [toNats (slice cookie 0 4), toNats (slice cookie 4 16)] (toNats (cookie.drop 20))
    let s1 := s.useGlove g
    match plain with
    | some p => if p.take 2 = [0, 15] then (some (ofNats ((p.drop 4).take 32), ofNats ((p.drop 36).take 32)), s1) else (none, s1)
    | none => (none, s1)

/-- The authenticator of a request verifies under C2S (R454). -/
def ntsVerify (packet : List Byte) (r : NtsRequest) (c2s : List Byte) : Bool :=
  (sivOpen (toNats c2s) [toNats (packet.take r.authAt), toNats r.nonce] (toNats r.cipher)).isSome

/-- One cookie minted by glove `g` (R451). -/
def State.mintCookie (g : Nat) (c2s s2c : List Byte) (s : State) : List Byte × State :=
  let (n, s1) := s.nonce
  let id := beBytes 4 (s.get (R.GLV.GLOVE.KEY_ID.ID g))
  let plain := [0, 15, 0, 0] ++ toNats c2s ++ toNats s2c
  (id ++ n ++ ofNats (sivSeal (s.gloveKey g) [toNats id, toNats n] plain), s1.useGlove g)

/-- Up to `n` cookies minted (R454, R458): fewer where the glove is spent on the way. -/
def State.mintCookies (c2s s2c : List Byte) : Nat → State → List (List Byte) × State
  | 0, s => ([], s)
  | n + 1, s =>
    let g := s.get R.GLV.NTS_CFG.MINT_GLOVE
    if s.gloveServes g 1 then
      let (c, s1) := s.mintCookie g c2s s2c
      let (cs, s2) := s1.mintCookies c2s s2c n
      (c :: cs, s2)
    else ([], s)

/-- Bytes of an NTS reply's NTP payload with `n` cookies: header, Unique Identifier, authenticator (R456). -/
def ntsReplyLen (uid n : Nat) : Nat := 48 + uid + (4 + 4 + 16 + 16 + 108 * n)

/-- The most cookies, at most `n`, that keep a reply no longer than its request (R456). -/
def cookiesFit (uid request : Nat) : Nat → Nat
  | 0 => 0
  | n + 1 => if ntsReplyLen uid (n + 1) ≤ request then n + 1 else cookiesFit uid request n

/-- A reply sealed with S2C (R454): associated data are header and Unique Identifier field; a fresh nonce. -/
def State.ntsSeal (header uid : List Byte) (cookies : List (List Byte)) (s2c : List Byte) (s : State) : List Byte × State :=
  let (n, s1) := s.nonce
  let plain := cookies.flatMap (fun c => beBytes 2 0x0204 ++ beBytes 2 108 ++ c)
  let cipher := ofNats (sivSeal (toNats s2c) [toNats (header ++ uid), toNats n] (toNats plain))
  let body := beBytes 2 16 ++ beBytes 2 cipher.length ++ n ++ cipher
  (header ++ uid ++ beBytes 2 0x0404 ++ beBytes 2 (4 + body.length) ++ body, s1)

end Sys2Proof.Machine
end

