-- ==== Sys2Proof/Machine/Gsig.lean ====
section
/-! DEFINITION. GNSS signals, their codes, the samples of the front ends and the correlators (R238, R239, R246, R248, R250, R258). -/

namespace Sys2Proof.Machine

/-! ### Signals (R246, R247, R250) -/

/-- One row of R246: band (0 L1, 1 L5), chips per second, primary code in chips and in ms, BOC(1,1), a pilot, data symbol in ms,
secondary code chips on data and on pilot (0 none), PRN range. -/
structure Signal where
  band : Nat
  chipRate : Nat
  chips : Nat
  period : Nat
  boc : Bool
  pilot : Bool
  symbol : Nat
  secData : Nat
  secPilot : Nat
  prnLo : Nat
  prnHi : Nat
  deriving DecidableEq, Repr

/-- The signals by SIG. -/
def signals : List Signal :=
  [⟨0, 1023000, 1023, 1, false, false, 20, 0, 0, 1, 32⟩, ⟨0, 1023000, 10230, 10, true, true, 10, 0, 1800, 1, 32⟩,
   ⟨1, 10230000, 10230, 1, false, true, 10, 10, 20, 1, 32⟩, ⟨0, 1023000, 4092, 4, true, true, 4, 0, 25, 1, 36⟩,
   ⟨1, 10230000, 10230, 1, false, true, 20, 20, 100, 1, 36⟩, ⟨0, 1023000, 10230, 10, true, true, 10, 0, 1800, 1, 63⟩,
   ⟨1, 10230000, 10230, 1, false, true, 5, 5, 100, 1, 63⟩, ⟨0, 1023000, 1023, 1, false, false, 20, 0, 0, 193, 202⟩,
   ⟨0, 1023000, 10230, 10, true, true, 10, 0, 1800, 193, 202⟩, ⟨1, 10230000, 10230, 1, false, true, 10, 10, 20, 193, 202⟩,
   ⟨0, 1023000, 1023, 1, false, false, 2, 0, 0, 120, 158⟩]

/-- The signal of a SIG code; a code that names none has an empty row. -/
def signalOf (sig : Nat) : Signal := signals.getD sig ⟨0, 1, 1, 1, false, false, 1, 0, 0, 1, 0⟩

/-- The carrier of a band in Hz (R246). -/
def carrierHz (band : Nat) : Nat := if band = 0 then 1575420000 else 1176450000

/-- Hypotheses per chip: two for BPSK, four for BOC(1,1) (R250). -/
def Signal.perChip (g : Signal) : Nat := if g.boc then 4 else 2

/-- The hypotheses of a signal (R250). -/
def Signal.hypotheses (g : Signal) : Nat := g.chips * g.perChip

/-- Its blocks of 4,096 (R250). -/
def Signal.blocks (g : Signal) : Nat := ceilDiv g.hypotheses 4096

/-- The hypotheses of a block, those that do not exist left out (R250, R252). -/
def Signal.blockHyps (g : Signal) (b : Nat) : List Nat :=
  (List.range 4096).filterMap (fun i => if b * 4096 + i < g.hypotheses then some (b * 4096 + i) else none)

/-- The code phase of hypothesis `h`, h × spacing, in 2^-48 chip (R250). -/
def Signal.hypPhase (g : Signal) (h : Nat) : Nat := h * (2 ^ 48 / g.perChip)

/-- The system of a signal: 0 GPS, 1 Galileo, 2 BeiDou, 3 QZSS, 4 SBAS. -/
def systemOf (sig : Nat) : Nat := [0, 0, 0, 1, 1, 2, 2, 3, 3, 3, 4].getD sig 5

/-! ### Codes (R248) -/

/-- The chips of a memory code of the image. -/
def memoryChips (codes : List MemoryCode) (prn : Nat) (pilot : Bool) : Option (List Bool) :=
  (codes.find? (fun m => m.prn == prn && m.pilot == pilot)).map MemoryCode.chips

/-- Chip `i` of a primary code: of the image for Galileo E1, else generated on chip (R248). -/
def State.primaryChip (s : State) (sig prn : Nat) (pilot : Bool) (i : Nat) : Bool :=
  if sig = 3 then ((memoryChips s.gna.e1Codes prn pilot).getD []).getD i false else Config.primaryCode sig prn pilot i

/-- Chip `i` of a secondary code: of the image where it holds one for E5a, else generated on chip (R248). -/
def State.secondaryChip (s : State) (sig prn : Nat) (pilot : Bool) (i : Nat) : Bool :=
  match (if sig = 4 then memoryChips s.gna.e5aCodes prn pilot else none) with
  | some c => c.getD i false
  | none => Config.secondaryCode sig prn pilot i

/-- The replica's level at a code phase in 2^-48 chip (R246, R258): primary code, BOC(1,1)'s half chips, and, once it is resolved, the
secondary code. -/
def State.codeReplica (s : State) (sig prn : Nat) (pilot resolved : Bool) (phase : Int) : Int :=
  let g := signalOf sig
  let chip : Int := phase / 2 ^ 48
  let n := if pilot then g.secPilot else g.secData
  let a := s.primaryChip sig prn pilot (chip % g.chips).toNat
  let b := g.boc && decide (2 ^ 47 ≤ phase % 2 ^ 48)
  let c := resolved && n != 0 && s.secondaryChip sig prn pilot (chip / g.chips % n).toNat
  if (a != b) != c then -1 else 1

/-! ### Samples (R238, R239) -/

/-- The value of a `b`-bit sample word (R239). -/
def sampleValue (format b w : Nat) : Int :=
  let w := w % 2 ^ b
  if format = 0 then
    let v : Int := (2 * (w % 2 ^ (b - 1)) + 1 : Nat)
    if bitOf w (b - 1) then -v else v
  else if format = 1 then toSigned b w * 2 + 1
  else ((w : Int) - (2 ^ (b - 1) : Nat)) * 2 + 1

/-- A sample of front end `n` decoded (R238, R239): EDGE picks the edge of I, BITS the lanes, FORMAT the values; SWAP_IQ exchanges the
two, INVERT conjugates. -/
def State.sampleOf (s : State) (n : Nat) (x : LaneSample) : Cx :=
  let value := sampleValue (s.get (R.GNA.FE.CFG.FORMAT n)) (s.get (R.GNA.FE.CFG.BITS n))
  let edges := if s.flag (R.GNA.FE.CFG.EDGE n) then (x.fall, x.rise) else (x.rise, x.fall)
  let z : Cx := ⟨value edges.1.toNat, value edges.2.toNat⟩
  let z := if s.flag (R.GNA.FE.CFG.SWAP_IQ n) then ⟨z.im, z.re⟩ else z
  if s.flag (R.GNA.FE.CFG.INVERT n) then ⟨z.re, -z.im⟩ else z

/-! ### Complex sums -/

/-- A complex sum. -/
def Cx.add (a b : Cx) : Cx := ⟨a.re + b.re, a.im + b.im⟩

/-- The square of a magnitude. -/
def Cx.power (a : Cx) : Nat := (a.re * a.re + a.im * a.im).toNat

/-- A list cut into `k` parts of one length, the last with what is left; each with the place where it begins. -/
def partsOf {α : Type} (k : Nat) (xs : List α) : List (Nat × List α) :=
  let q := xs.length / k
  (List.range k).map fun j => (j * q, (xs.drop (j * q)).take (if j + 1 = k then xs.length else q))

/-! ### Correlators (R252, R258) -/

/-- One correlator: the samples turned back by the carrier NCO and weighted with the replica, both phases advancing with each. -/
def correlate (chip : Int → Int) (w rho : Int) : List Cx → Int → Int → Cx → Cx
  | [], _, _, acc => acc
  | x :: xs, theta, phase, acc =>
    let c := Config.carrierWave (BitVec.ofInt 48 theta)
    let k := chip phase
    correlate chip w rho xs (theta + w) (phase + rho)
      ⟨acc.re + k * (x.re * c.1 + x.im * c.2), acc.im + k * (x.im * c.1 - x.re * c.2)⟩

/-- Steps per sample of the carrier and the code NCO at a frequency and a chip rate in Hz, in 2^-48, rounded down. -/
def ncoStep (hz : Rat) (sr : Nat) : Int := (hz * 2 ^ 48 / (sr : Rat)).floor

/-- The five correlators of one component (R258). -/
structure Taps where
  ve : Cx
  e : Cx
  p : Cx
  l : Cx
  vl : Cx
  deriving DecidableEq, Repr

end Sys2Proof.Machine
end

