-- ==== Sys2Proof/Machine/Gna.lean ====
section
/-! DEFINITION. GNSS front ends, acquisition (chapter 08), and the sample-time mapping (R276 to R278). -/

namespace Sys2Proof.Machine

/-! ### Channels -/

/-- State code of a front end (R242): 0 OFF, 1 WAIT, 2 RUN, 3 FAULT. -/
def State.feState (s : State) (n : Nat) : Nat := s.get (R.GNA.FE.STAT.STATE n)

/-- State code of a channel (R260): 0 IDLE, 1 PULLIN, 2 SYNC, 3 LOCKED, 4 LOSS. -/
def State.chState (s : State) (c : Nat) : Nat := s.get (R.GNT.CH.STAT.STATE c)

/-- A channel with nothing in it. -/
def GntCh.empty : GntCh :=
  { phi := 0, code := 0, period := 1, w := 0, rho := 0, sample := 0, start := 0, sr := 1, ifHz := 0, freq := 0, rate := 0,
    prompt := none, age := 0, cos := [], lockRun := 0, veRun := 0, vlRun := 0, edges := [], syncDumps := 0, lastNeg := false,
    signs := [], negRun := 0, polarity := none, narrow := ⟨0, 0⟩, wide := 0, narrowN := 0, nbSum := 0, wbSum := 0,
    cnPrompts := 0, lowRun := 0, lockedAt := none, slipSince := false }

/-- Channel `c`. -/
def State.gnt (s : State) (c : Nat) : GntCh := Map.getD s.gna.chans c GntCh.empty

/-- Channel `c` changed. -/
def State.modGnt (c : Nat) (f : GntCh → GntCh) (s : State) : State :=
  s.modGna fun g => { g with chans := Map.put g.chans c (f (s.gnt c)) }

/-- A channel's state and its bit of ACTIVE. -/
def State.setChState (c st : Nat) (s : State) : State :=
  (s.set (R.GNT.CH.STAT.STATE c) st).set (R.GNA.ACTIVE.CH (c / 32))
    (putBit (s.get (R.GNA.ACTIVE.CH (c / 32))) (c % 32) (st != 0))

/-- The channel returns to IDLE (R260, R266). -/
def State.chIdle (c : Nat) (s : State) : State :=
  ({ s with gna := { s.gna with chans := Map.del s.gna.chans c } }.setChState c 0).set (R.GNT.CH.TC.MS c) 0

/-- The queue's length shown. -/
def State.setJobs (js : List GnaJob) (s : State) : State :=
  (s.modGna fun g => { g with jobs := js }).set R.GNA.STAT.JOBS js.length

/-- The blocks a job searches: first and count (R250). -/
def jobBlocks (r : JobRequest) : Nat × Nat := if r.blockN = 0 then (0, (signalOf r.sig).blocks) else (r.blockFirst, r.blockN)

/-- R247, R248, R250 and R251 admit a job, but for the front end's state. -/
def State.jobAdmits (s : State) (r : JobRequest) : Bool :=
  match signals[r.sig]? with
  | none => false
  | some g =>
    decide (g.prnLo ≤ r.prn) && decide (r.prn ≤ g.prnHi) && s.get (R.GNA.FE.CFG.BAND r.fe) == g.band &&
    (r.sig != 3 || s.flag R.GNA.STAT.E1_CODES) && decide (1 ≤ r.tc) && decide (r.tc ≤ 20) &&
    r.tc % g.period == 0 && decide (1 ≤ r.m) && decide (r.m ≤ 255) && decide (1 ≤ r.mv) && decide (r.dopRange ≤ 20000) &&
    decide ((jobBlocks r).1 + (jobBlocks r).2 ≤ g.blocks)

/-- R247, R248, R250 and R251 admit a job. -/
def State.jobValid (s : State) (r : JobRequest) : Bool := s.jobAdmits r && s.feState r.fe == 2

/-- The job that a loss queues (R264). Coherent time, sums and threshold are those that JOB_W2 has at reset. -/
def State.reacqJob (s : State) (c : Nat) : GnaJob :=
  let sig := s.get (R.GNT.CH.STAT.SIG c)
  { req := { sig := sig, fe := s.get (R.GNT.CH.STAT.FE c), prn := s.get (R.GNT.CH.STAT.PRN c), aided := false,
             chAuto := false, ch := c, dopCtr := s.sget (R.GNT.CH.DOPPLER.MHZ c) / 1000, dopRange := 500,
             tc := (signalOf sig).period, m := 4, mv := 8, thr := 0x60, aidCh := 0, blockFirst := 0, blockN := 0, tag := 0 },
    host := false, reacq := true }

/-- LOSS entered (R260, R264): from LOCKED with REACQ a job is queued, or rejected where the queue is full or R247 does not
admit it. -/
def State.chLoss (c : Nat) (s : State) : State :=
  let st := s.chState c
  if st = 0 ∨ st = 4 then s
  else
    let s1 := (s.setChState c 4).evt (R.GNT.CH.EVT.LOSS c)
    if st = 3 ∧ s.flag (R.GNT.CH.CFG.REACQ c) = true then
      if s.gna.jobs.length < 64 ∧ s.jobAdmits (s.reacqJob c).req = true then s1.setJobs (s.gna.jobs ++ [s.reacqJob c])
      else s1.inc R.GNA.JOB_REJ_CNT.COUNT
    else s1

/-- Tc in LOCKED (R260). -/
def State.lockedTc (s : State) (c : Nat) : Nat :=
  let g := signalOf (s.get (R.GNT.CH.STAT.SIG c))
  let lim := min (min (s.get (R.GNT.CH.LOOP.TC_MAX c)) 20) (if g.pilot then 20 else g.symbol)
  max g.period (lim / g.period * g.period)

/-! ### Results (R257) -/

/-- A host job's result, into the 16-entry queue (R257). -/
def State.jobResult (r : JobResult) (s : State) : State :=
  if s.gna.results.length < 16 then
    (s.modGna fun g => { g with results := g.results ++ [r] }).evt R.GNA.EVT.JOB_DONE
  else s.evt R.GNA.EVT.RES_LOST

/-- The end of a job with an outcome (R257): a host job's result is queued, a firmware job's goes to the solution core. -/
def State.jobEnd (j : GnaJob) (outcome ch hyp stat : Nat) (doppler : Int) (vfail : Nat) (s : State) : State :=
  if j.host then s.jobResult ⟨outcome, j.req.prn, ch, j.req.tag, hyp, min 255 stat, doppler, min 255 vfail⟩
  else s.emit (.coreResult outcome j.req.prn ch j.req.tag hyp (min 255 stat) doppler (min 255 vfail))

/-- A free engine. -/
def GnaEng.free : GnaEng := ⟨none, 0, 0, false, 0, 0, none⟩

/-- Engine `e`. -/
def State.engine (s : State) (e : Nat) : GnaEng := Map.getD s.gna.engines e GnaEng.free

/-- Engine `e` changed; BUSY, BIN, BLOCK and HOST follow. -/
def State.setEngine (e : Nat) (g : GnaEng) (s : State) : State :=
  let s1 := s.modGna fun a => { a with engines := Map.put a.engines e g }
  let busy := g.job.isSome
  ((((s1.setB (R.GNA.ENG.STAT.BUSY e) busy).set (R.GNA.ENG.STAT.BIN e) g.bin).set (R.GNA.ENG.STAT.BLOCK e) g.block).setB
    (R.GNA.ENG.STAT.HOST e) (match g.job with | some j => j.host | none => false)).set R.GNA.STAT.ENG_BUSY
      (putBit (s1.get R.GNA.STAT.ENG_BUSY) e busy)

/-- An engine's job is complete. -/
def State.engineDone (e : Nat) (s : State) : State :=
  (s.setEngine e GnaEng.free).inc (R.GNA.ENG.JOB_CNT.COUNT e)

/-! ### Front ends (R240 to R244) -/

/-- The front end's channels enter LOSS and its running jobs end ABORT (R240). -/
def State.feCut (n : Nat) (s : State) : State :=
  let s1 := (List.range 256).foldl (fun st c => if st.get (R.GNT.CH.STAT.FE c) = n then st.chLoss c else st) s
  (List.range 8).foldl (fun st e =>
    match (st.engine e).job with
    | some j => if j.req.fe = n then ((st.jobEnd j 5 0 0 0 0 (st.engine e).vfail).engineDone e) else st
    | none => st) s1

/-- Leaving RUN: channels to LOSS, every job ends ABORT, the mapping is invalid (R242, R277); its ties stay to tell whether a step
fell within a message unit that is cut (R269). A queued job that a loss placed waits for RUN (R264). -/
def State.feLeave (n : Nat) (s : State) : State :=
  let s1 := s.feCut n
  let here (j : GnaJob) : Bool := j.req.fe == n && !j.reacq
  let s2 := ((s1.gna.jobs.filter here).foldl (fun st j => st.jobEnd j 5 0 0 0 0 0) s1).setJobs
    (s1.gna.jobs.filter fun j => !here j)
  s2.set (R.GNS.FE_TIE.RMS.MAP_VALID n) 0

/-- A front end's state changed. -/
def State.setFeState (n st : Nat) (s : State) : State :=
  let old := s.feState n
  let s1 := s.set (R.GNA.FE.STAT.STATE n) st
  let s2 := if old = 2 ∧ st ≠ 2 then s1.feLeave n else s1
  if st = 2 ∧ old ≠ 2 then s2.modFe n fun f => { f with ties := [], accepted := 0, discarded := 0, samples := 0 }
  else if st = 1 ∧ old ≠ 1 then s2.modFe n fun f => { f with goodGates := 0, badGates := 0, lost := f.lost && old != 0 } else s2

/-- FAULT entered (R242). -/
def State.feFault (n : Nat) (s : State) : State :=
  if s.feState n = 3 then s
  else ((s.setFeState n 3).evt (R.GNA.FE.EVT.FAULT n)).file F.gnaFeFault n 0

/-- WAIT becomes RUN after two in-rate gates and the script (R242). -/
def State.feTryRun (n : Nat) (s : State) : State :=
  if s.feState n = 1 ∧ 2 ≤ (s.gnaFe n).goodGates ∧ s.flag (R.GNA.FE.STAT.INIT_DONE n) = true ∧
      s.flag (R.GNA.FE.STAT.INIT_FAIL n) = false then s.setFeState n 2 else s

/-- The script of a front end goes on (R244): an empty rest completes it; a delay waits for its own row. -/
def State.scriptGo (n : Nat) (s : State) : State :=
  match (s.gnaFe n).script with
  | some [] => (((s.modFe n fun f => { f with script := none }).set (R.GNA.FE.STAT.INIT_DONE n) 1)).feTryRun n
  | some (.delay _ :: _) => s.modFe n fun f => { f with delaying := true }
  | _ => s.spiKick

/-- The script begins (R244): of the kindling image. A transfer of the run before goes on and counts for nothing. -/
def State.scriptStart (n : Nat) (s : State) : State :=
  let s1 := if s.spi.current = some (.script n) then { s with spi := { s.spi with current := some .old } } else s
  (((s1.modFe n fun f => { f with script := some (Map.getD s.gna.scripts n []), delaying := false,
                                    ran := f.ran || decide (4 ≤ s.nvc.stage) }).set
    (R.GNA.FE.STAT.INIT_DONE n) 0).set (R.GNA.FE.STAT.INIT_FAIL n) 0).scriptGo n

/-- The head entry of a script is done. -/
def State.scriptStep (n : Nat) (s : State) : State :=
  (s.modFe n fun f => { f with script := f.script.map List.tail, delaying := false }).scriptGo n

/-- A script stops at a mismatch (R244). -/
def State.scriptFail (n : Nat) (s : State) : State :=
  ((s.modFe n fun f => { f with script := none, delaying := false }).set (R.GNA.FE.STAT.INIT_FAIL n) 1).feFault n

/-- A commit of group FEn is accepted (R239, R240, R272). -/
def feOk (n : Nat) (_old new : State) : Bool :=
  let sr := new.get (R.GNA.FE.SR.HZ n)
  let l5 := new.flag (R.GNA.FE.CFG.BAND n)
  let w := if l5 then 20460000 else 4092000
  let bits := new.get (R.GNA.FE.CFG.BITS n)
  decide (10000000 ≤ sr) && decide (sr ≤ 100000000) && decide (1 ≤ bits) && decide (bits ≤ 4) &&
  decide ((new.sget (R.GNA.FE.IF.HZ n)).natAbs * 2 + w ≤ sr) && (!l5 || decide (20460000 ≤ sr)) &&
  new.get (R.GNA.FE.CFG.TOL n) != 0 && new.get (R.GNA.FE.CFG.FORMAT n) != 3 && new.get (R.GNA.FE.JAM.JAM_N n) != 0

/-- What an accepted commit of group FEn brings (R240, R242, R244): an enabled front end in RUN stays there. The script's run of
reset begins with the first such commit; before start-up has read the image it waits, and after it only INIT runs it again. -/
def feAfter (n : Nat) (_old new : State) : State :=
  let s1 := new.feCut n
  if new.flag (R.GNA.FE.CFG.EN n) then
    let s2 := if new.feState n = 2 then s1 else s1.setFeState n 1
    if (s2.gnaFe n).ran = true ∨ s2.nvc.stage < 4 then s2 else s2.scriptStart n
  else s1.setFeState n 0

/-! ### Sample ties (R276 to R278) -/

/-- Least squares of ties: t_0 (of the newest tie), T_s in 2^-16 ns, and the mean square of the residuals. -/
def tieFit (ties : List (Int × Int)) : Rat × Rat × Rat :=
  match ties with
  | [] => (0, 0, 0)
  | (k0, t0) :: _ =>
    let n : Rat := ties.length
    let xs : List Rat := ties.map (fun (k, _) => (k - k0 : Int))
    let ys : List Rat := ties.map (fun (_, t) => (t - t0 : Int))
    let sx := xs.sum
    let sy := ys.sum
    let sxx := (xs.map (fun x => x * x)).sum
    let sxy := (xs.zipWith (· * ·) ys).sum
    let d := n * sxx - sx * sx
    let b := if d = 0 then 0 else (n * sxy - sx * sy) / d
    let a := (sy - b * sx) / n
    let sq := ((xs.zip ys).map (fun (x, y) => (y - a - b * x) * (y - a - b * x))).sum / n
    (a + (t0 : Rat), b, sq)

/-- The mapping is valid: 16 ties accepted since RUN, and not three discarded in succession (R277). -/
def State.mapValid (s : State) (n : Nat) : Bool := s.flag (R.GNS.FE_TIE.RMS.MAP_VALID n)

/-- The time of sample `k` at the balls of front end `n`, in 2^-16 ns (R277). -/
def State.sampleTime (s : State) (n : Nat) (k : Int) : Rat :=
  let ties := (s.gnaFe n).ties
  let (t0, ts, _) := tieFit ties
  match ties with
  | [] => 0
  | (k0, _) :: _ => t0 + (k - k0 : Int) * ts

/-- The fit shown in FE_TIE (R277): rate against nominal in ppt, residual in ps, rounded freely. -/
def State.showTie (n : Nat) (s : State) : State :=
  let (_, ts, sq) := tieFit (s.gnaFe n).ties
  let nom : Rat := (secU : Nat) / (s.get (R.GNA.FE.SR.HZ n) : Rat)
  let rate := if ts = 0 then 0 else (nom / ts - 1) * 10 ^ 12
  let r := clampAbs (2 ^ 31 - 1) (s.roundFree rate)
  let psSq := sq * (1000 * 1000) / (65536 * 65536)
  let p := if s.bump.fresh % 2 = 0 then isqrt psSq.floor.toNat else isqrtUp psSq.ceil.toNat
  (s.bump.bump.setI (R.GNS.FE_TIE.RATE.PPT n) r).set (R.GNS.FE_TIE.RMS.PS n) (min 0xFFFF p)

/-- A tie (R276, R277) of the sample that EDGE's edge took last, the count being that since RUN was entered: kept, or discarded
where its residual exceeds 2 ns. -/
def State.takeTie (n : Nat) (tie : SampleTie) (s : State) : State :=
  let fe := s.gnaFe n
  let interval := if s.flag (R.GNA.FE.CFG.EDGE n) then tie.fall else tie.rise
  let t := s.now - (interval * nsU / 100 : Nat) - Config.captureLatency
  let k : Int := fe.samples
  let res := (t : Rat) - s.sampleTime n k
  let lim : Rat := (2 * nsU : Nat)
  if 16 ≤ fe.ties.length ∧ (res < -lim ∨ lim < res) then
    let d := fe.discarded + 1
    let s1 := s.modFe n fun f => { f with discarded := d }
    if d = 3 then
      ((s1.modFe n fun f => { f with ties := [], accepted := 0, discarded := 0 }).set (R.GNS.FE_TIE.RMS.MAP_VALID n)
        0).file F.gnsMapBad n 0
    else s1
  else
    let a := fe.accepted + 1
    let s1 := s.modFe n fun f => { f with ties := ((k, t) :: f.ties).take 16, accepted := a, discarded := 0 }
    (s1.showTie n).setB (R.GNS.FE_TIE.RMS.MAP_VALID n) (decide (16 ≤ a))

/-- The ties of every front end follow a step (R278). -/
def State.tieStep (d : Int) (s : State) : State :=
  s.modGna fun g => { g with fes := g.fes.map (fun (n, f) => (n, { f with ties := f.ties.map (fun (k, t) => (k, t + d)) })),
                             chans := g.chans.map (fun (c, x) => (c, { x with lockedAt := x.lockedAt.map (· + d) })) }

/-! ### Jobs (R247 to R251) -/

/-- The bins of a job: 2 ceil(DOP_RANGE / bin width) + 1, the bin width being 500 / Tc Hz (R251). -/
def jobBins (r : JobRequest) : Nat := 2 * ceilDiv (r.dopRange * r.tc) 500 + 1

/-- The offset of bin `i` in bins: 0, +1, −1, +2, −2, … (R252). -/
def binOffset (i : Nat) : Int := if i % 2 = 0 then -(i / 2 : Nat) else ((i + 1) / 2 : Nat)

/-- The bin width in Hz (R251). -/
def binWidth (r : JobRequest) : Rat := 500 / (r.tc : Rat)

/-- The frequency of bin `i` in Hz: the bins are centred on DOP_CTR (R251, R252). -/
def binFreq (r : JobRequest) (i : Nat) : Rat := r.dopCtr + binOffset i * binWidth r

/-- Host jobs queued or running. -/
def State.hostJobs (s : State) : Nat :=
  (s.gna.jobs.filter GnaJob.host).length +
    ((List.range 8).filter (fun e => match (s.engine e).job with | some j => j.host | none => false)).length

/-- AUTO_ACQ is in force: the firmware owns the channels below FW_CH (R291). -/
def State.fwOwns (s : State) (c : Nat) : Bool := s.flag R.GNS.CFG.AUTO_ACQ && decide (c < s.get R.GNS.MASK.FW_CH)

/-- A job placed, or rejected (R249, R291). -/
def State.placeJob (r : JobRequest) (host : Bool) (s : State) : State :=
  let ok := s.jobValid r && decide (s.gna.jobs.length < 64) && (!host || decide (s.hostJobs < 16)) &&
    !(host && !r.chAuto && s.fwOwns r.ch)
  let j : GnaJob := ⟨r, host, false⟩
  if ok then s.setJobs (s.gna.jobs ++ [j])
  else
    let s1 := s.inc R.GNA.JOB_REJ_CNT.COUNT
    if host then (s1.evt R.GNA.EVT.CFG_REJECTED).jobEnd j 2 0 0 0 0 0 else s1

/-- A queued job can start: one that a loss placed waits for its channel and front end (R264). -/
def State.jobReady (s : State) (j : GnaJob) : Bool :=
  !j.reacq || (s.chState j.req.ch == 0 && s.feState j.req.fe == 2)

/-- The channel a detection hands off to (R254): DUP, NO_CHANNEL, or the channel. -/
def State.handoffTo (s : State) (j : GnaJob) : Nat ⊕ Nat :=
  let r := j.req
  let dup := (List.range 256).any (fun c => s.chState c != 0 && s.get (R.GNT.CH.STAT.FE c) == r.fe &&
    s.get (R.GNT.CH.STAT.SIG c) == r.sig && s.get (R.GNT.CH.STAT.PRN c) == r.prn)
  if dup then .inl 3
  else if r.chAuto then
    let auto := s.flag R.GNS.CFG.AUTO_ACQ
    let range := (List.range 256).filter (fun c => !auto || (if j.host then !s.fwOwns c else s.fwOwns c))
    match range.find? (fun c => s.chState c == 0) with
    | some c => .inr c
    | none => .inl 4
  else if s.chState r.ch = 0 then .inr r.ch else .inl 4

/-- A channel takes a handoff (R254): PULLIN with cleared counts; `code` is the code phase in 2^-48 chip at sample `first`,
projected to sample `at_` at the Doppler found, in mHz, and the carrier's count begins there. -/
def State.chHandoff (c : Nat) (r : JobRequest) (doppler : Int) (code first at_ : Nat) (s : State) : State :=
  let g := signalOf r.sig
  let s1 := ((((s.set (R.GNT.CH.STAT.SIG c) r.sig).set (R.GNT.CH.STAT.FE c) r.fe).set (R.GNT.CH.STAT.PRN c) r.prn).setB
    (R.GNT.CH.STAT.HALF_CYC c) (!g.pilot)).set (R.GNT.CH.STAT.BITSYNC c) 0
  let s2 := ((((s1.set (R.GNT.CH.SLIP_CNT.COUNT c) 0).set (R.GNT.CH.DUMP_CNT.COUNT c) 0).set (R.GNT.CH.BJ_CNT.COUNT c)
    0).setI (R.GNT.CH.DOPPLER.MHZ c) doppler).set (R.GNT.CH.TC.MS c) g.period
  let sr := s.get (R.GNA.FE.SR.HZ r.fe)
  let ifHz := s.sget (R.GNA.FE.IF.HZ r.fe)
  let hz : Rat := (doppler : Rat) / 1000
  let rho := ncoStep (g.chipRate * (1 + hz / carrierHz g.band)) sr
  (s2.modGnt c fun _ =>
    { GntCh.empty with
      code := ((code + (at_ - first : Int) * rho) % (g.chips * 2 ^ 48 : Nat)).toNat, period := g.chips, w := ncoStep (ifHz + hz) sr,
      rho := rho, sample := at_, start := at_, sr := sr, ifHz := ifHz, freq := (hz * 2 ^ 24).floor }).setChState c 1

/-- The engine's next cell after one that did not detect (R252): the next block, the next bin, or NOT_FOUND. -/
def State.engineNext (e : Nat) (g : GnaEng) (j : GnaJob) (s : State) : State :=
  if j.req.aided then (s.jobEnd j 1 0 0 0 0 g.vfail).engineDone e
  else
    let (_, n) := jobBlocks j.req
    if g.block + 1 < n then s.setEngine e { g with block := g.block + 1, verify := false }
    else if g.bin + 1 < jobBins j.req then s.setEngine e { g with block := 0, bin := g.bin + 1, verify := false }
    else (s.jobEnd j 1 0 0 0 0 g.vfail).engineDone e

/-- Firmware jobs not yet started are withdrawn (R290). -/
def State.withdrawFw (s : State) : State := s.setJobs (s.gna.jobs.filter (fun j => j.host || j.reacq))

/-! ### The commands: front ends -/

/-- FE_COMMIT (R240). -/
def execFeCommit (n : Fin 4) (s : State) : Out := .next (s.commit (.gnaFe n) (R.GNA.FE.CTL.COMMIT n))

/-- FE_INIT (R242, R244): the script runs, and WAIT is entered but from OFF, which only a commit leaves. -/
def execFeInit (n : Fin 4) (s : State) : Out :=
  .next ((if s.feState n = 0 then s else s.setFeState n 1).scriptStart n)

/-- JAM_LEARN (R272). -/
def execJamLearn (n : Fin 4) (s : State) : Out :=
  .next (s.modFe n fun f => { f with learn := some (0, 0) })

/-- A gate with no edge (R241, R242): a clock loss, declared once until an edge comes again; FAULT stays. -/
def State.feClockLoss (n : Nat) (s : State) : State :=
  let was := (s.gnaFe n).lost
  let s1 := s.modFe n fun f => { f with goodGates := 0, badGates := 0, lost := true }
  let s2 := if s.feState n = 3 then s1 else s1.setFeState n 1
  if was then s2 else ((s2.evt (R.GNA.FE.EVT.CLK_LOSS n)).inc (R.GNA.FE.LOSS_CNT.COUNT n)).file F.gnaFeClk n 0

/-- FE_GATE (R241, R242, R276): a 1 ms gate of the sample clock, with the tie latched at its tick. -/
def execFeGate (n : Fin 4) (count : BitVec 32) (tie : Option SampleTie) (s : State) : Out :=
  let c := count.toNat
  let s1 := (s.setB (R.GNA.FE.STAT.CLK_PRESENT n) (c != 0)).set (R.GNA.FE.SR_MEAS.HZ n) (c * 1000)
  let st := s.feState n
  if st = 0 then .next s1
  else if c = 0 then .next (s1.feClockLoss n)
  else if st = 3 then .next (s1.modFe n fun f => { f with lost := false })
  else
    let sr := s.get (R.GNA.FE.SR.HZ n)
    -- times 10^9: |count − SR/1000| against SR/1000 × TOL × 10^-6 + 2
    let off := ((c * 10 ^ 9 : Nat) - (sr * 10 ^ 6 : Nat) : Int).natAbs
    let out := decide (sr * s.get (R.GNA.FE.CFG.TOL n) + 2 * 10 ^ 9 < off)
    let f := s.gnaFe n
    let s2 := s1.modFe n fun f => { f with goodGates := if out then 0 else f.goodGates + 1, lost := false,
                                           badGates := if out then f.badGates + 1 else 0, samples := f.samples + c }
    if out && decide (1 ≤ f.badGates) then .next (s2.feFault n)
    else
      let s3 := s2.feTryRun n
      match tie with
      | some t => if st = 2 ∧ s3.feState n = 2 ∧ s.ticking = true then .next (s3.takeTie n t) else .next s3
      | none => .next s3

/-- SPI_TRANSFER_DONE (R244, R245): the transfer in progress ends with the bytes received, and the next is chosen. -/
def execSpiTransferDone (rx : Word) (s : State) : Out :=
  match s.spi.current with
  | some (.script n) =>
    let idle := { s with spi := { s.spi with current := none } }
    match s.scriptHead n with
    | some (.read _ _ expect mask) =>
      if rx.toNat &&& mask = expect &&& mask then .next ((idle.scriptStep n).spiKick) else .next ((idle.scriptFail n).spiKick)
    | _ => .next ((idle.scriptStep n).spiKick)
  | some (.host read) =>
    let s1 := if read then s.set R.GNA.SPI_RX.DATA rx.toNat else s
    .next (((s1.set R.GNA.STAT.SPI_BUSY 0).evt R.GNA.EVT.SPI_DONE).spiNext)
  | some .old => .next s.spiNext
  | some .dac => .next s
  | none => .next s

/-- SCRIPT_DELAY_DONE (R244). -/
def execScriptDelayDone (n : Fin 4) (s : State) : Out :=
  if (s.gnaFe n).delaying then .next (s.scriptStep n) else .next s

/-- SPI_GO (R245): the transfer is of SPI_CMD and SPI_TX as they stand; ignored while a host transfer is in progress, or with a
length that is not 1 to 4. -/
def execSpiGo (s : State) : Out :=
  let len := s.get R.GNA.SPI_CMD.LEN
  if s.flag R.GNA.STAT.SPI_BUSY ∨ len = 0 ∨ 4 < len then .next (s.evt R.GNA.EVT.CFG_REJECTED)
  else
    let frame := (s.get R.GNA.SPI_CMD.CS, len, s.flag R.GNA.SPI_CMD.READ, s.get R.GNA.SPI_TX.DATA)
    .next ({ s with spi := { s.spi with host := some frame } }.set R.GNA.STAT.SPI_BUSY 1).spiKick

/-! ### The commands: acquisition -/

/-- The job that JOB_W0 to JOB_W3 spell. -/
def State.jobWords (s : State) : JobRequest :=
  { sig := s.get R.GNA.JOB_W0.SIG, fe := s.get R.GNA.JOB_W0.FE, prn := s.get R.GNA.JOB_W0.PRN,
    aided := s.flag R.GNA.JOB_W0.AIDED, chAuto := s.flag R.GNA.JOB_W0.CH_AUTO, ch := s.get R.GNA.JOB_W0.CH,
    dopCtr := s.sget R.GNA.JOB_W1.DOP_CTR, dopRange := s.get R.GNA.JOB_W1.DOP_RANGE, tc := s.get R.GNA.JOB_W2.TC,
    m := s.get R.GNA.JOB_W2.M, mv := s.get R.GNA.JOB_W2.MV, thr := s.get R.GNA.JOB_W2.THR, aidCh := s.get R.GNA.JOB_W3.AID_CH,
    blockFirst := s.get R.GNA.JOB_W3.BLOCK_FIRST, blockN := s.get R.GNA.JOB_W3.BLOCK_N, tag := s.get R.GNA.JOB_W3.TAG }

/-- SUBMIT (R249). -/
def execSubmit (s : State) : Out := .next (s.placeJob s.jobWords true)

/-- JOB_FLUSH (R249): host jobs not yet started are removed. -/
def execJobFlush (s : State) : Out := .next (s.setJobs (s.gna.jobs.filter (fun j => !j.host)))

/-- What an aided job takes of AID_CH (R255). -/
def State.aidFix (s : State) (a : Nat) : AidFix :=
  let x := s.gnt a
  ⟨s.get (R.GNT.CH.STAT.SIG a), x.code, x.rho, x.sample, s.sget (R.GNT.CH.DOPPLER.MHZ a)⟩

/-- JOB_START (R247, R249, R255): free engine `e` takes the next queued job that can start, or the job ends REJECTED: its band
or front end has changed since it was queued, or AID_CH is not LOCKED on its satellite. -/
def execJobStart (e : Fin 8) (s : State) : Out :=
  if (s.engine e).job.isSome then .next s
  else
    match s.gna.jobs.findIdx? (fun j => s.jobReady j) with
    | none => .next s
    | some i =>
      match s.gna.jobs[i]? with
      | none => .next s
      | some j =>
        let s1 := s.setJobs (s.gna.jobs.eraseIdx i)
        let a := j.req.aidCh
        let aidOk := s.chState a == 3 && s.get (R.GNT.CH.STAT.PRN a) == j.req.prn &&
          systemOf (s.get (R.GNT.CH.STAT.SIG a)) == systemOf j.req.sig
        if !s.jobValid j.req || (j.req.aided && !aidOk) then .next ((s1.inc R.GNA.JOB_REJ_CNT.COUNT).jobEnd j 2 0 0 0 0 0)
        else .next (s1.setEngine e ⟨some j, 0, 0, j.req.aided, 0, 0, if j.req.aided then some (s.aidFix a) else none⟩)

/-! ### Dwells (R252, R255) -/

/-- What a dwell or a verify comes to: a hypothesis, its statistic in 1/16, and for a verify the Doppler in mHz. -/
structure DwellResult where
  hyp : Nat
  stat : Nat
  doppler : Int
  deriving DecidableEq, Repr

/-- Power of hypothesis `h` at frequency `f` Hz, summed over `m` coherent parts of the samples (R252). The search runs on the
pilot where there is one (R250). -/
def State.cellPower (s : State) (r : JobRequest) (run : DwellRun) (f : Rat) (m h : Nat) : Nat :=
  let g := signalOf r.sig
  let sr := s.get (R.GNA.FE.SR.HZ r.fe)
  let w := ncoStep (s.sget (R.GNA.FE.IF.HZ r.fe) + f) sr
  let rho := ncoStep (g.chipRate * (1 + f / carrierHz g.band)) sr
  ((partsOf m (run.samples.map (s.sampleOf r.fe))).map fun (k, xs) =>
    (correlate (s.codeReplica r.sig r.prn g.pilot false) w rho xs (k * w) (g.hypPhase h + k * rho) ⟨0, 0⟩).power).sum

/-- The cell of largest power, the first of equals, among cells and their powers (R252). -/
def peakCell (cells : List (Nat × Nat)) : Nat × Nat := cells.foldl (fun best c =>
    if best.2 < c.2 then c else best) (cells.headD (0, 0))

/-- The mean power of the cells that lie more than two from `p` (R252). -/
def noisePower (cells : List (Nat × Nat)) (p : Nat) : Rat :=
  let rest := cells.filter (fun c => decide (c.1 + 2 < p ∨ p + 2 < c.1))
  ((rest.map Prod.snd).sum : Nat) / (rest.length : Rat)

/-- S in 1/16, cut to whole units; with no noise it is a free value. -/
def State.cellStat (s : State) (power : Nat) (noise : Rat) : Nat := if noise = 0 then s.fresh else (16 * power / noise).floor.toNat

/-- A search dwell over the cells of a block (R252). -/
def State.searchDwell (s : State) (cells : List (Nat × Nat)) : DwellResult :=
  let p := peakCell cells
  ⟨p.1, s.cellStat p.2 (noisePower cells p.1), 0⟩

/-- The vertex of the parabola through three powers at -1, 0 and 1 bins; where they have no maximum it is a free value. -/
def State.vertex (s : State) (a b c : Nat) : Rat :=
  if (a : Int) + c < 2 * b then ((a : Int) - c : Int) / (2 * ((a : Int) + c - 2 * b) : Int) else (s.fresh : Nat)

/-- A verify (R252, R255): over the wanted cells of three bins about `f`, each of a whole block's cells; the largest S' and the
parabolic fit at its cell. -/
def State.verifyDwell (s : State) (want : Nat → Bool) (f width : Rat) (bins : List (List (Nat × Nat))) : DwellResult :=
  let best (cells : List (Nat × Nat)) : Nat × Nat :=
    let p := peakCell (cells.filter (fun c => want c.1))
    (p.1, s.cellStat p.2 (noisePower cells p.1))
  let p := peakCell (bins.map best)
  let at_ (i : Nat) : Nat := (((bins.getD i []).find? (fun c => c.1 == p.1)).map Prod.snd).getD 0
  ⟨p.1, p.2, s.bump.roundFree (1000 * (f + width * s.vertex (at_ 0) (at_ 1) (at_ 2)))⟩

/-- The hypothesis and the Doppler in Hz that an aid gives (R255): the code epochs of a satellite's signals are simultaneous, and its
Doppler goes with the carrier. -/
def aidedCell (r : JobRequest) (run : DwellRun) (a : AidFix) : Nat × Rat :=
  let g := signalOf r.sig
  let ga := signalOf a.sig
  let chips : Rat := ((a.code + (run.aidFirst - a.sample : Int) * a.rho : Int) : Rat) / 2 ^ 48 * g.chipRate / ga.chipRate
  (((chips * g.perChip + 1 / 2).floor % g.hypotheses).toNat, (a.doppler : Rat) / 1000 * carrierHz g.band / carrierHz ga.band)

/-- What the dwell of an engine comes to (R252, R255). -/
def State.dwellResult (s : State) (g : GnaEng) (r : JobRequest) (run : DwellRun) : DwellResult :=
  let sig := signalOf r.sig
  let width := binWidth r
  let cells (f : Rat) (m : Nat) (hs : List Nat) : List (Nat × Nat) := hs.map (fun h => (h, s.cellPower r run f m h))
  let near (p n : Nat) (h : Nat) : Bool :=
    let d := (h + sig.hypotheses - p) % sig.hypotheses
    decide (d ≤ n ∨ sig.hypotheses ≤ d + n)
  let verify (p n : Nat) (f : Rat) : DwellResult :=
    s.verifyDwell (near p n) f width ([f - width, f, f + width].map fun x =>
      cells x r.mv (sig.blockHyps (p / 4096) ++ ((List.range (2 * n + 1)).map (fun i =>
          (p + sig.hypotheses + i - n) % sig.hypotheses)).filter
        (fun h => h / 4096 != p / 4096)))
  match g.aid with
  | some a => verify (aidedCell r run a).1 8 (aidedCell r run a).2
  | none =>
    let f := binFreq r g.bin
    if g.verify then verify g.peak 2 f else s.searchDwell (cells f r.m (sig.blockHyps ((jobBlocks r).1 + g.block)))

/-- DWELL_DONE (R252, R254, R255): a dwell or a verify of engine `e` ends with the samples it took. -/
def execDwellDone (e : Fin 8) (run : DwellRun) (s : State) : Out :=
  let g := s.engine e
  match g.job with
  | none => .next s
  | some j =>
    let res := s.dwellResult g j.req run
    let s1 := (((s.bump).bump.inc (R.GNA.ENG.DWELL_CNT.COUNT e)).count 0x501 1)
    let hit := decide (j.req.thr ≤ res.stat)
    if !g.verify then
      if hit then .next (s1.setEngine e { g with verify := true, peak := res.hyp }) else .next (s1.engineNext e g j)
    else if !hit then .next (s1.engineNext e { g with vfail := g.vfail + 1 } j)
    else
      match s.handoffTo j with
      | .inl outcome => .next ((s1.jobEnd j outcome 0 res.hyp res.stat res.doppler g.vfail).engineDone e)
      | .inr c =>
        let s2 := s1.chHandoff c j.req res.doppler ((signalOf j.req.sig).hypPhase res.hyp) run.first run.handoff
        .next ((s2.jobEnd j 0 c res.hyp res.stat res.doppler g.vfail).engineDone e)

/-- JOB_RESULT_POP (R257): a read of JOB_RES0 pops the head result. -/
def execJobResultPop (s : State) : Out :=
  let send (s : State) : State := s.emit (.hostData (BitVec.ofNat 32 (s.rawWord R.GNA.JOB_RES0.VALID.addr)))
  match s.gna.results with
  | [] => .next (send (s.set R.GNA.JOB_RES0.VALID 0))
  | r :: rest =>
    let s1 := (((((s.modGna fun g => { g with results := rest }).set R.GNA.JOB_RES0.VALID 1).set R.GNA.JOB_RES0.OUTCOME
      r.outcome).set R.GNA.JOB_RES0.PRN r.prn).set R.GNA.JOB_RES0.CH r.ch).set R.GNA.JOB_RES0.TAG r.tag
    let s2 := (((s1.set R.GNA.JOB_RES1.HYP r.hyp).set R.GNA.JOB_RES1.S r.stat).setI R.GNA.JOB_RES2.DOPPLER r.doppler).set
      R.GNA.JOB_RES3.VFAIL r.vfail
    .next (send s2)

end Sys2Proof.Machine
end

