-- ==== Sys2Proof/Machine/Gnt.lean ====
section
/-! DEFINITION. Tracking channels, navigation records and the jamming monitors (R258 to R272). -/

namespace Sys2Proof.Machine

/-! ### Functions of real numbers -/

/-- Terms of Euler's series of the arctangent in 2^-64: `ratio` is y²/(x² + y²). -/
def atanTerms (ratio : Nat) : Nat → Nat → Nat → Nat → Nat
  | 0, _, _, acc => acc
  | n + 1, k, term, acc => atanTerms ratio n (k + 1) (term * (2 * k + 2) * ratio / ((2 * k + 3) * 2 ^ 64)) (acc + term)

/-- The arctangent of y / x in cycles, for 0 ≤ y ≤ x and x above 0. -/
def atanOctant (y x : Nat) : Rat :=
  let d := x * x + y * y
  (atanTerms (y * y * 2 ^ 64 / d) 64 0 (x * y * 2 ^ 64 / d) 0 : Nat) / (2 ^ 64 : Rat) * 1000000000000000 / 6283185307179586

/-- The angle of a complex number in cycles, from -1/2 to 1/2 (R259). -/
def Cx.angle (z : Cx) : Rat :=
  let x := z.re.natAbs
  let y := z.im.natAbs
  let a := if y ≤ x then atanOctant y x else 1 / 4 - atanOctant x y
  let b := if z.re < 0 then 1 / 2 - a else a
  if z.im < 0 then -b else b

/-- The bits of the largest k below 2^15 with 10^k ≤ x^1000, from bit `n` down. -/
def logBits (x : Rat) : Nat → Int → Int
  | 0, k => k
  | n + 1, k => logBits x n (if (10 : Rat) ^ (k + 2 ^ n) ≤ x ^ 1000 then k + 2 ^ n else k)

/-- 1000 log10 x rounded down, for x above 0: hundredths of a decibel (R263, R271). -/
def centiBel (x : Rat) : Int := logBits x 16 (-(2 ^ 15))

/-- Hundredths of a decibel, rounded freely. -/
def State.decibels (s : State) (x : Rat) : Int := centiBel x + (s.fresh % 2 : Nat)

/-! ### The correlators and loops of a channel (R258 to R263) -/

/-- The sums of a dump: both components' correlators, and the prompts of each primary period of the component that the loops
follow. -/
structure DumpSums where
  data : Taps
  pilot : Taps
  parts : List Cx
  deriving DecidableEq, Repr

/-- The loops follow the pilot where there is one. -/
def DumpSums.main (d : DumpSums) (g : Signal) : Taps := if g.pilot then d.pilot else d.data

/-- The correlators of a channel over the samples of a dump (R258): early and late lie EL apart, very early and very late VEVL,
in 1/64 chip; after BITSYNC the replica carries the secondary code. -/
def State.dumpSums (s : State) (c : Nat) (samples : List LaneSample) : DumpSums :=
  let sig := s.get (R.GNT.CH.STAT.SIG c)
  let prn := s.get (R.GNT.CH.STAT.PRN c)
  let g := signalOf sig
  let x := s.gnt c
  let zs := samples.map (s.sampleOf (s.get (R.GNT.CH.STAT.FE c)))
  let resolved := s.flag (R.GNT.CH.STAT.BITSYNC c)
  let one (pilot : Bool) (offset : Int) : Cx :=
    correlate (s.codeReplica sig prn pilot resolved) x.w x.rho zs x.phi (x.code + offset) ⟨0, 0⟩
  let el : Int := s.get (R.GNT.CH.CORR.EL c) * 2 ^ 41
  let vv : Int := s.get (R.GNT.CH.CORR.VEVL c) * 2 ^ 41
  let five (pilot : Bool) : Taps := ⟨one pilot vv, one pilot el, one pilot 0, one pilot (-el), one pilot (-vv)⟩
  let k := max 1 (s.get (R.GNT.CH.TC.MS c) / g.period)
  { data := five false, pilot := if g.pilot then five true else ⟨⟨0, 0⟩, ⟨0, 0⟩, ⟨0, 0⟩, ⟨0, 0⟩, ⟨0, 0⟩⟩,
    parts := (partsOf k zs).map fun (i, xs) =>
      correlate (s.codeReplica sig prn g.pilot resolved) x.w x.rho xs (x.phi + i * x.w) (x.code + i * x.rho) ⟨0, 0⟩ }

/-- cos 2φ of a prompt in 1/32,768 (R263): (I² − Q²) / (I² + Q²). -/
def State.cosTwice (s : State) (p : Cx) : Int :=
  if p.power = 0 then (s.fresh : Nat) else s.bump.roundFree ((p.re * p.re - p.im * p.im : Int) * 32768 / (p.power : Rat))

/-- The PLL's discriminator in cycles (R259): the four-quadrant arctangent of a pilot's prompt, the Costas arctangent of data. -/
def State.phaseError (s : State) (g : Signal) (p : Cx) : Rat :=
  if p.power = 0 then (s.fresh : Nat) else if !g.pilot && decide (p.re < 0) then Cx.angle ⟨-p.re, -p.im⟩ else p.angle

/-- The FLL's discriminator in Hz (R259): the cross-product of successive prompts over the product of their magnitudes, by 2π Tc. -/
def State.freqError (s : State) (a b : Cx) (tc : Rat) : Rat :=
  if a.power = 0 ∨ b.power = 0 then (s.fresh : Nat)
  else (a.re * b.im - a.im * b.re : Int) / (isqrt (a.power * b.power) : Rat) * 1000000000000000 / 6283185307179586 / tc

/-- The DLL's discriminator in chips (R259): half the normalised early-minus-late power. -/
def State.codeError (s : State) (e l : Cx) : Rat :=
  if e.power + l.power = 0 then (s.fresh : Nat) else ((e.power : Int) - l.power : Int) / (2 * (e.power + l.power) : Nat)

/-- The loops of a channel after a dump (R259): carrier frequency and its rate in 2^-24 Hz and 2^-24 Hz/s, the NCO's Doppler in
Hz, and the code rate less nominal in chips/s. The FLL runs in PULLIN; the PLL once it has settled. -/
structure LoopStep where
  freq : Int
  rate : Int
  doppler : Rat
  codeRate : Rat
  deriving DecidableEq, Repr

/-- One pass of the loops: third-order PLL, second-order FLL, first-order carrier-aided DLL (R259). -/
def State.loopStep (s : State) (c : Nat) (d : DumpSums) : LoopStep :=
  let g := signalOf (s.get (R.GNT.CH.STAT.SIG c))
  let x := s.gnt c
  let t := d.main g
  let tc : Rat := (s.get (R.GNT.CH.TC.MS c) : Rat) / 1000
  let pull := s.chState c == 1
  let wp : Rat := (s.get (R.GNT.CH.LOOP.PLL_BW c) : Rat) * 10000 / 7845
  let wf : Rat := (s.get (R.GNT.CH.LOOP.FLL_BW c) : Rat) * 100 / 53
  let phase : Rat := if !pull || decide (Config.fllSettle ≤ x.age) then s.phaseError g t.p else 0
  let freq : Rat := match x.prompt with
    | some a => if pull then s.bump.freqError a t.p tc else 0
    | none => 0
  let rate : Rat := (x.rate : Rat) + 2 ^ 24 * tc * (wp * wp * wp * phase + wf * wf * freq)
  let vel : Rat := (x.freq : Rat) + tc * (rate + 2 ^ 24 * (11 / 10 * wp * wp * phase + 1414 / 1000 * wf * freq))
  let doppler : Rat := vel / 2 ^ 24 + 24 / 10 * wp * phase
  { freq := s.roundFree vel, rate := s.bump.roundFree rate, doppler := doppler,
    codeRate := g.chipRate * doppler / carrierHz g.band +
      4 * ((s.get (R.GNT.CH.LOOP.DLL_BW c) : Rat) / 20) * s.bump.bump.codeError t.e t.l }

/-- Both NCOs after `n` samples (R258), and the steps that the loops give them. -/
def GntCh.advance (x : GntCh) (g : Signal) (l : LoopStep) (n : Nat) : GntCh :=
  { x with phi := x.phi + n * x.w, code := ((x.code + n * x.rho : Int) % (x.period * 2 ^ 48 : Nat)).toNat, sample := x.sample + n,
           freq := l.freq, rate := l.rate, w := ncoStep (x.ifHz + l.doppler) x.sr, rho := ncoStep (g.chipRate + l.codeRate) x.sr }

/-! ### C/N0 (R263, R264) -/

/-- The length of a narrowband sum in ms: 20 on a pilot, the data symbol otherwise. -/
def Signal.narrowMs (g : Signal) : Nat := if g.pilot then 20 else g.symbol

/-- One prompt of a primary period in the powers of the running second. -/
def GntCh.cnPrompt (m : Nat) (x : GntCh) (z : Cx) : GntCh :=
  let sum := x.narrow.add z
  let wide := x.wide + z.power
  let y := { x with cnPrompts := x.cnPrompts + 1 }
  if x.narrowN + 1 < m then { y with narrow := sum, wide := wide, narrowN := x.narrowN + 1 }
  else { y with narrow := ⟨0, 0⟩, wide := 0, narrowN := 0, nbSum := x.nbSum + sum.power, wbSum := x.wbSum + wide }

/-- C/N0 in 0.01 dB-Hz from the ratio of narrowband to wideband power (R263); outside the ratio's range it is a free value. -/
def State.cn0Of (s : State) (g : Signal) (nb wb : Nat) : Nat :=
  let m := g.narrowMs / g.period
  if wb < nb ∧ nb < m * wb then
    (s.decibels (((nb : Rat) - wb) / (m * wb - nb) * 1000 / g.period)).toNat % 2 ^ 16
  else s.fresh % 2 ^ 16

/-- The dump's prompts enter the estimate, which CN0 shows after each second (R263); seconds below CN0_LOSS are counted (R264). -/
def State.cn0Dump (c : Nat) (parts : List Cx) (s : State) : State :=
  let g := signalOf (s.get (R.GNT.CH.STAT.SIG c))
  let x := parts.foldl (GntCh.cnPrompt (g.narrowMs / g.period)) (s.gnt c)
  if x.cnPrompts * g.period < 1000 then s.modGnt c fun _ => x
  else
    let v := s.cn0Of g x.nbSum x.wbSum
    let low := decide (v < s.get (R.GNT.CH.THR.CN0_LOSS c) * 10)
    (s.bump.modGnt c fun _ => { x with nbSum := 0, wbSum := 0, cnPrompts := 0, lowRun := if low then x.lowRun + 1 else 0 }).set
      (R.GNT.CH.CN0.DBHZ c) v

/-! ### Synchronisation (R261) -/

/-- Sync of a data-only signal (R261): one of its candidate edges holds enough sign changes, three times any other. -/
def edgeSync (edges : List Nat) (least : Nat) : Bool :=
  let best := edges.foldl max 0
  decide (least ≤ best) && (edges.filter (fun x => decide (best < 3 * x))).length == 1

/-- One dump's sign counted (R261): candidates are the milliseconds of a symbol, counted over up to 100 bits. -/
def GntCh.countSign (x : GntCh) (symbol : Nat) (neg : Bool) : GntCh :=
  let n := x.syncDumps
  let e0 := if n % (100 * symbol) = 0 then List.replicate symbol 0 else x.edges
  let e1 := if 0 < n ∧ neg ≠ x.lastNeg then e0.set (n % symbol) (e0.getD (n % symbol) 0 + 1) else e0
  { x with edges := e1, syncDumps := n + 1, lastNeg := neg }

/-- The first alignment at which two successive periods of a secondary code stand in a pilot's signs (R261), oldest first: the
place in the code of the first of them. -/
def pilotAlign (code signs : List Bool) : Option Nat :=
  if code.length = 0 ∨ signs.length < 2 * code.length then none
  else (List.range code.length).find? fun a => let r := code.drop a ++ code.take a; r ++ r == signs

/-- A pilot's secondary code. -/
def State.pilotCode (s : State) (c : Nat) : List Bool :=
  let sig := s.get (R.GNT.CH.STAT.SIG c)
  (List.range (signalOf sig).secPilot).map (s.secondaryChip sig (s.get (R.GNT.CH.STAT.PRN c)) true)

/-- The place of the next primary period in the resolved code period, and that period in primary periods, once sync is found (R261,
R287): a pilot's alignment, the edge that holds most sign changes of data only. -/
def State.syncPlace (s : State) (c : Nat) : Option (Nat × Nat) :=
  let sig := s.get (R.GNT.CH.STAT.SIG c)
  let g := signalOf sig
  let x := s.gnt c
  if g.pilot then (pilotAlign (s.pilotCode c) x.signs.reverse).map (fun a => (a, g.secPilot))
  else if edgeSync x.edges (if sig = 10 then 60 else 12) then
    let n := g.symbol / g.period
    some ((x.syncDumps + n - x.edges.findIdx (· == x.edges.foldl max 0)) % n, n)
  else none

/-! ### The commands: tracking -/

/-- CH_RELEASE (R266, R291): the host may not release a channel of the firmware. -/
def execChRelease (c : BitVec 8) (s : State) : Out :=
  if s.fwOwns c.toNat then .next ((s.inc R.GNA.JOB_REJ_CNT.COUNT).evt R.GNA.EVT.CFG_REJECTED)
  else .next (s.chIdle c.toNat)

/-- CH_COMMIT (R275). -/
def execChCommit (c : BitVec 8) (s : State) : Out := .next (s.commit (.gntCh c.toNat) (R.GNT.CH.CTL.COMMIT c.toNat))

/-- A commit of group CHc is accepted (R258, R260). -/
def gntOk (c : Nat) (_old new : State) : Bool :=
  let el := new.get (R.GNT.CH.CORR.EL c)
  let vv := new.get (R.GNT.CH.CORR.VEVL c)
  let pll := new.get (R.GNT.CH.LOOP.PLL_BW c)
  let fll := new.get (R.GNT.CH.LOOP.FLL_BW c)
  decide (4 ≤ el) && decide (el ≤ 64) && decide (el < vv) && decide (vv ≤ 128) && decide (1 ≤ pll) && decide (pll ≤ 50) &&
  decide (1 ≤ fll) && decide (fll ≤ 50)

/-- What an accepted commit of group CHc brings: in LOCKED, Tc follows TC_MAX (R260). -/
def gntAfter (c : Nat) (_old new : State) : State :=
  if new.chState c = 3 then new.set (R.GNT.CH.TC.MS c) (new.lockedTc c) else new

/-- A slip counted (R263). -/
def State.chSlip (c : Nat) (s : State) : State :=
  ((s.modGnt c fun x => { x with slipSince := true }).inc (R.GNT.CH.SLIP_CNT.COUNT c)).evt (R.GNT.CH.EVT.SLIP c)

/-- Sync found (R260, R261): LOCKED, and the code phase counts within the resolved period. A code phase in the later half of the
primary period still belongs to the period before `place`. -/
def State.chSync (c : Nat) (place : Nat × Nat) (s : State) : State :=
  let g := signalOf (s.get (R.GNT.CH.STAT.SIG c))
  let whole := g.chips * 2 ^ 48
  let s1 := s.modGnt c fun x =>
    let k := if 2 * (x.code % whole) < whole then place.1 else place.1 + place.2 - 1
    { x with lockedAt := some s.now, period := place.2 * g.chips, signs := [], negRun := 0,
             code := (k * whole + x.code % whole) % (place.2 * whole) }
  ((s1.set (R.GNT.CH.STAT.BITSYNC c) 1).set (R.GNT.CH.TC.MS c) (s1.lockedTc c)).setChState c 3 |>.evt (R.GNT.CH.EVT.LOCK c)

/-- A dump of `n` samples whose correlators hold `d` (R259 to R263): the loops run, PLI, C/N0, slips and bump jumps follow, and the
state moves on. -/
def State.takeDump (c : Nat) (d : DumpSums) (n : Nat) (s : State) : State :=
  let st := s.chState c
  let g := signalOf (s.get (R.GNT.CH.STAT.SIG c))
  let t := d.main g
  let x := s.gnt c
  let l := s.loopStep c d
  let s := { s with freeCtr := s.freeCtr + 4 }
  let cos := (s.cosTwice t.p :: x.cos).take 20
  let s := s.bump.bump
  let pli := s.roundFree ((cos.sum : Rat) / (cos.length : Nat))
  let lockLvl : Int := (s.get (R.GNT.CH.THR.PLI_LOCK c) * 128 : Nat)
  let was := s.sget (R.GNT.CH.PLI.PLI c)
  let ve := if t.p.power < t.ve.power then x.veRun + 1 else 0
  let vl := if t.p.power < t.vl.power then x.vlRun + 1 else 0
  let bjN := s.get (R.GNT.CH.CORR.BJ_N c)
  let jump := g.boc && (decide (bjN ≤ ve ∧ 0 < ve) || decide (bjN ≤ vl ∧ 0 < vl))
  let neg := decide (t.p.re < 0)
  let negRun := if st = 3 ∧ g.pilot = true then (if neg then x.negRun + d.parts.length else 0) else 0
  let inverted := st == 3 && g.pilot && decide (g.secPilot ≤ negRun)
  let half : Int := if bjN ≤ ve ∧ 0 < ve then 2 ^ 47 else -(2 ^ 47)
  let run := if lockLvl ≤ pli then x.lockRun + 1 else 0
  let s1 := s.bump.modGnt c fun x =>
    let y := x.advance g l n
    { y with code := if jump then (((y.code : Int) + half) % (y.period * 2 ^ 48 : Nat)).toNat else y.code,
             cos := cos, lockRun := run, veRun := if jump then 0 else ve, vlRun := if jump then 0 else vl, prompt := some t.p,
             age := y.age + 1, negRun := if inverted then 0 else negRun }
  let s2 := ((((s1.setI (R.GNT.CH.PLI.PLI c) pli).setI (R.GNT.CH.DOPPLER.MHZ c) (s1.roundFree (1000 * l.doppler))).setI
    (R.GNT.CH.CODE_DOP.MHZ c) (s1.bump.roundFree (1000 * l.codeRate))).inc (R.GNT.CH.DUMP_CNT.COUNT c)).bump.bump
  let s3 := s2.cn0Dump c d.parts
  let s4 := if jump then (s3.inc (R.GNT.CH.BJ_CNT.COUNT c)).evt (R.GNT.CH.EVT.BUMP_JUMP c) else s3
  let slip := jump || (st == 3 && decide (2 * pli < lockLvl) && decide (lockLvl ≤ 2 * was)) || inverted
  let s5 := if slip then s4.chSlip c else s4
  if st = 1 then
    if 50 ≤ run then (s5.modGnt c fun x => { x with syncDumps := 0, edges := [], signs := [] }).setChState c 2 else s5
  else if st = 2 then
    let s6 := s5.modGnt c fun x =>
      if g.pilot then { x with signs := (neg :: x.signs).take (2 * g.secPilot) } else x.countSign g.symbol neg
    match s6.syncPlace c with
    | some p => s6.chSync c p
    | none => s6
  else s5

/-- INTEGRATION_DUMP (R258 to R263): the correlators of a tracking channel over its samples, and its loops. -/
def execIntegrationDump (ch : BitVec 8) (samples : List LaneSample) (s : State) : Out :=
  let c := ch.toNat
  let st := s.chState c
  if st ≠ 1 ∧ st ≠ 2 ∧ st ≠ 3 then .next s else .next (s.takeDump c (s.dumpSums c samples) samples.length)

/-- PULLIN_TIMEOUT (R260). -/
def execPullinTimeout (c : BitVec 8) (s : State) : Out := if s.chState c.toNat = 1 then .next (s.chLoss c.toNat) else .next s

/-- SYNC_TIMEOUT (R260). -/
def execSyncTimeout (c : BitVec 8) (s : State) : Out := if s.chState c.toNat = 2 then .next (s.chLoss c.toNat) else .next s

/-- CN0_LOSS (R264): from LOCKED, once C/N0 has been below CN0_LOSS for LOSS_T seconds. -/
def execCn0Loss (c : BitVec 8) (s : State) : Out :=
  if s.chState c.toNat = 3 ∧ max 1 (s.get (R.GNT.CH.THR.LOSS_T c.toNat)) ≤ (s.gnt c.toNat).lowRun then .next (s.chLoss c.toNat)
  else .next s

/-! ### Message units (R267) -/

/-- The kinds of unit that a signal carries (R267). -/
def navKinds (sig : Nat) : List Nat :=
  [[1], [3, 4, 5], [2], [6], [7], [8, 9, 10], [11], [1], [3, 4, 5], [2], [12]].getD sig [0]

/-- The kind of a unit (R267). -/
def navKind (sig : Nat) (u : NavUnit) : Nat := (navKinds sig).getD (u.part.val % (navKinds sig).length) 0

/-- The bits of a kind after decoding (R267). -/
def kindBits (kind : Nat) : Nat := [0, 300, 300, 9, 600, 274, 240, 244, 14, 600, 264, 288, 250].getD kind 0

/-- One bit of CRC-24Q, polynomial 0x864CFB. -/
def crc24Bit (c : Nat) (b : Bool) : Nat :=
  let d := c * 2 % 2 ^ 24
  if bitOf c 23 != b then d ^^^ 0x864CFB else d

/-- CRC-24Q of bits that end with their own 24 check bits: 0 where they agree. -/
def crc24Good (bits : List Bool) : Bool := bits.foldl crc24Bit 0 == 0

/-- The data bits of an LNAV word that each of its parity bits sums, numbered from 1, with the bit of the word before: 0 for
D29, 1 for D30. -/
def lnavRows : List (Nat × List Nat) :=
  [(0, [1, 2, 3, 5, 6, 10, 11, 12, 13, 14, 17, 18, 20, 23]), (1, [2, 3, 4, 6, 7, 11, 12, 13, 14, 15, 18, 19, 21, 24]),
   (0, [1, 3, 4, 5, 7, 8, 12, 13, 14, 15, 16, 19, 20, 22]), (1, [2, 4, 5, 6, 8, 9, 13, 14, 15, 16, 17, 20, 21, 23]),
   (1, [1, 3, 5, 6, 7, 9, 10, 14, 15, 16, 17, 18, 21, 22, 24]), (0, [3, 5, 6, 8, 9, 10, 11, 13, 15, 19, 22, 23, 24])]

/-- The parity of an LNAV word of 30 bits holds, after the last two bits of the word before. -/
def lnavWord (d29 d30 : Bool) (w : List Bool) : Bool :=
  let d (i : Nat) : Bool := (w.getD (i - 1) false) != d30
  (List.range 6).all fun k =>
    let row := lnavRows.getD k (0, [])
    row.2.foldl (fun p i => p != d i) (if row.1 = 0 then d29 else d30) == w.getD (24 + k) false

/-- The words of an LNAV subframe whose parity fails: bit k for word k + 1 (R268). The word before the first ends with two zeros. -/
def lnavMask (bits : List Bool) : Nat :=
  (List.range 10).foldl (fun m k =>
    let last (i : Nat) : Bool := if k = 0 then false else bits.getD (30 * k - i) false
    if lnavWord (last 2) (last 1) ((bits.drop (30 * k)).take 30) then m else putBit m k true) 0

/-- The check of a unit's bits (R267): parity, the BCH or LDPC decoder's codeword, CRC-24Q over the bits that it covers. -/
def navCheck (kind : Nat) (u : NavUnit) (bits : List Bool) : Bool :=
  if kind = 1 then lnavMask bits == 0
  else if kind = 3 ∨ kind = 8 then u.codeword
  else if kind = 6 then crc24Good (bits.take 114 ++ (bits.drop 120).take 106)
  else if kind = 7 then crc24Good (bits.take 238)
  else if kind = 2 ∨ kind = 12 then crc24Good bits
  else u.codeword && crc24Good bits

/-- Bits packed into bytes, the first in bit 7, the rest of `n` bytes zero (R268). -/
def packBits (bits : List Bool) (n : Nat) : List Byte :=
  (List.range n).map fun i => BitVec.ofNat 8 ((List.range 8).foldl (fun v j => 2 * v + ofBool (bits.getD (8 * i + j) false)) 0)

/-! ### Navigation records (R267 to R270) -/

/-- The host navigation ring. -/
def navRing : RingRegs := ⟨R.GNA.NAV_BASE_LO.ADDR, R.GNA.NAV_BASE_HI.ADDR, R.GNA.NAV_SIZE.SIZE, R.GNA.NAV_WR.PTR, R.GNA.NAV_RD.PTR⟩

/-- A TIME96 in the order fraction, nanoseconds, seconds, little-endian: 2, 4 and 6 bytes (R268, R286). -/
def timeBytes (t : Nat) : List Byte := leBytes 2 (t % nsU) ++ leBytes 4 (t % secU / nsU) ++ leBytes 6 (t / secU)

/-- A step of the Hearth fell between two samples of front end `n` (R269): the last step's instant lies after the first sample and not
after the last, both in the stepped timescale. Where no tie was taken since RUN it is a free value. -/
def State.steppedBetween (s : State) (n first last : Nat) : Bool :=
  match s.hearth.stepAt with
  | none => false
  | some x =>
    if (s.gnaFe n).ties.isEmpty then s.bump.fresh % 2 == 1
    else decide (s.sampleTime n first < x) && decide ((x : Rat) ≤ s.sampleTime n last)

/-- The bits of a unit that are reported: at most those of its kind, and a unit short of them is cut (R267, R269). -/
def navBits (kind : Nat) (u : NavUnit) : List Bool := u.bits.take (kindBits kind)

/-- The unit is cut (R269). -/
def navCut (kind : Nat) (u : NavUnit) : Bool := u.cut || decide (u.bits.length < kindBits kind)

/-- The unit passes its check and is whole (R267, R269). -/
def navGood (kind : Nat) (u : NavUnit) : Bool := !navCut kind u && navCheck kind u (navBits kind u)

/-- The 128 bytes of a navigation record (R268, R269); without a mapping its time is a free value. -/
def State.navRecord (s : State) (c : Nat) (u : NavUnit) (lost : Bool) : List Byte :=
  let fe := s.get (R.GNT.CH.STAT.FE c)
  let kind := navKind (s.get (R.GNT.CH.STAT.SIG c)) u
  let bits := navBits kind u
  let t := if s.mapValid fe then (s.roundFree (s.sampleTime fe u.firstSample)).toNat else s.fresh
  let status := ofBool (navGood kind u) + 2 * ofBool u.polInverted + 4 * ofBool (s.steppedBetween fe u.firstSample u.lastSample) +
    8 * ofBool (navCut kind u) + 16 * ofBool (kind != 1 && u.corrected != 0) + 32 * ofBool lost + 64 * s.get (R.GNA.FE.CFG.ANT fe)
  let detail := if kind = 1 then lnavMask bits else min 0xFFFFFFFF u.corrected
  [1] ++ leBytes 1 (s.get (R.GNT.CH.STAT.SIG c)) ++ leBytes 1 (s.get (R.GNT.CH.STAT.PRN c)) ++ leBytes 1 c ++
  leBytes 1 kind ++ leBytes 1 status ++ leBytes 2 bits.length ++ timeBytes t ++ leBytes 4 detail ++
  leBytes 2 (s.get (R.GNT.CH.CN0.DBHZ c)) ++ leBytes 6 0 ++ packBits bits 96

/-- NAV_RECORD (R263, R267 to R270): a message unit of a channel in LOCKED, or the part of one that left it, is reported, to the
solution core and into the ring; a good one of a data-only signal resolves its polarity, and one found inverted after that is a
slip. -/
def execNavRecord (ch : BitVec 8) (u : NavUnit) (s : State) : Out :=
  let c := ch.toNat
  let st := s.chState c
  if s.flag (R.GNT.CH.CFG.NAV_EN c) = false ∨ (st ≠ 3 ∧ (u.cut = false ∨ st = 1 ∨ st = 2)) then .next s
  else
    let kind := navKind (s.get (R.GNT.CH.STAT.SIG c)) u
    let ok := navGood kind u
    let s1 := if ok then ((s.inc (R.GNT.CH.NAV_OK_CNT.COUNT c)).set (R.GNT.CH.STAT.HALF_CYC c) 0).modGnt c fun x =>
        { x with polarity := some u.polInverted }
      else s.inc (R.GNT.CH.NAV_FAIL_CNT.COUNT c)
    let turned := ok && st == 3 && (s.gnt c).polarity == some (!u.polInverted)
    let s2 := ((if turned then s1.chSlip c else s1).evt (R.GNT.CH.EVT.NAV c)).count 0x502 1
    let rec_ := s2.navRecord c u s.gna.navLostNext
    let s3 := (s2.bump.bump).emit (.coreRecord rec_)
    match s3.ringPut navRing rec_ with
    | some s4 =>
      if s.get R.GNA.NAV_SIZE.SIZE = 0 then .next s4 else .next (s4.modGna fun g => { g with navLostNext := false })
    | none =>
      .next (((s3.modGna fun g => { g with navLostNext := true }).inc R.GNA.NAV_LOST_CNT.COUNT).evt R.GNA.EVT.NAV_LOST)

/-! ### Jamming (R271, R272) -/

/-- The jam flag: the JAM bits of the enabled front ends named in JAM_FE (R300). -/
def State.jamFlag (s : State) : State :=
  let on := (List.range 4).any (fun n => bitOf (s.get R.GNS.FLAGS.JAM_FE) n && s.flag (R.GNA.FE.CFG.EN n) &&
    s.flag (R.GNA.FE.STAT.JAM n))
  let was := s.flag R.GNS.STAT.JAM
  let s1 := s.setB R.GNS.STAT.JAM on
  if on && !was then s1.evt R.GNS.EVT.JAM else s1

/-- The largest magnitude of a decoded component with `b` bits (R239). -/
def fullScale (b : Nat) : Nat := 2 ^ b - 1

/-- POWER of a window (R271): the mean sample power in 0.01 dB relative to that of a sample with both components at full scale; of no
samples it is a free value. -/
def State.windowPower (s : State) (b : Nat) (zs : List Cx) : Int :=
  let sum := (zs.map Cx.power).sum
  if sum = 0 then (s.fresh : Nat)
  else s.decibels ((sum : Rat) / (zs.length * (2 * fullScale b * fullScale b) : Nat))

/-- SAT of a window (R271): the fraction of samples with a component at the largest magnitude, in 1/65,536, at most 0xFFFF. -/
def State.windowSat (s : State) (b : Nat) (zs : List Cx) : Nat :=
  let k := (zs.filter (fun z => z.re.natAbs == fullScale b || z.im.natAbs == fullScale b)).length
  min 0xFFFF (s.roundFree ((k * 65536 : Nat) / (zs.length : Rat))).toNat

/-- JAM_WINDOW (R271, R272, R300): POWER, SAT and NOISE of a 100 ms window. -/
def execJamWindow (n : Fin 4) (samples : List LaneSample) (noise : BitVec 16) (s : State) : Out :=
  if s.feState n ≠ 2 then .next s
  else
    let bits := s.get (R.GNA.FE.CFG.BITS n)
    let zs := samples.map (s.sampleOf n)
    let two := decide (2 ≤ bits)
    let power := s.windowPower bits zs
    let s := s.bump
    let sat := if two then s.windowSat bits zs else 0
    let s1 := ((s.bump.setI (R.GNA.FE.POWER.DB n) power).set (R.GNA.FE.SAT.FRAC n) sat).set (R.GNA.FE.NOISE.DB n) noise.toNat
    let loud := decide (s.get (R.GNA.FE.JAM.JAM_DB n) * 10 < noise.toInt - s.sget (R.GNA.FE.BASE.DB n)) ||
      (two && decide (s.get (R.GNA.FE.JAM.SAT_MAX n) < sat))
    let f := s.gnaFe n
    let up := if loud then f.jamUp + 1 else 0
    let down := if loud then 0 else f.jamDown + 1
    let s2 := s1.modFe n fun f => { f with jamUp := up, jamDown := down }
    let jn := s.get (R.GNA.FE.JAM.JAM_N n)
    let was := s.flag (R.GNA.FE.STAT.JAM n)
    let s3 := if jn ≤ up && !was then
        ((s2.set (R.GNA.FE.STAT.JAM n) 1).inc (R.GNA.FE.JAM_CNT.COUNT n)).evt (R.GNA.FE.EVT.JAM n)
      else if jn ≤ down && was then s2.set (R.GNA.FE.STAT.JAM n) 0 else s2
    let s3 := s3.jamFlag
    match f.learn with
    | none => .next s3
    | some (k, sum) =>
      let k' := k + 1
      let sum' := sum + noise.toInt
      if 600 ≤ k' then
        .next ((s3.bump.modFe n fun f => { f with learn := none }).setI (R.GNA.FE.BASE.DB n)
          (s3.roundFree ((sum' : Rat) / 600)))
      else .next (s3.modFe n fun f => { f with learn := some (k', sum') })

end Sys2Proof.Machine
end

