-- ==== Sys2Proof/Machine/Sol.lean ====
section
/-! DEFINITION. From the measurements of an epoch to position and time: pseudoranges, the least squares, T-RAIM, the survey's
mean and the two-antenna check (R292 to R299). -/

namespace Sys2Proof.Machine

/-! ### Vectors and linear equations -/

/-- A vector of three. -/
abbrev Vec3 := Rat × Rat × Rat

/-- Whole coordinates as a vector. -/
def vecOf (p : Int × Int × Int) : Vec3 := (p.1, p.2.1, p.2.2)

/-- The magnitude of a number. -/
def ratAbs (x : Rat) : Rat := if x < 0 then -x else x

/-- The scalar product. -/
def dot3 (a b : Vec3) : Rat := a.1 * b.1 + a.2.1 * b.2.1 + a.2.2 * b.2.2

/-- The scalar product of two rows. -/
def rowDot (a b : List Rat) : Rat := (a.zipWith (· * ·) b).sum

/-- A square root to 2^-32, of a number below 2^192. -/
def ratSqrt (x : Rat) : Rat := (isqrt (x * 2 ^ 64).floor.toNat : Rat) / 2 ^ 32

/-- Column `k` of augmented equations cleared but for row `k`, which is divided by its pivot. -/
def clearColumn (m : List (List Rat)) (k : Nat) : Option (List (List Rat)) :=
  let row := m.getD k []
  let p := row.getD k 0
  if p = 0 then none
  else
    let r := row.map (· / p)
    some (m.mapIdx fun i x => if i = k then r else x.zipWith (fun a b => a - x.getD k 0 * b) r)

/-- The inverse of a matrix of `n` rows, where there is one: for the positive matrices of least squares. -/
def invertMatrix (n : Nat) (m : List (List Rat)) : Option (List (List Rat)) :=
  let wide := m.mapIdx fun i row => row ++ (List.range n).map (fun j => if i = j then 1 else 0)
  (((List.range n).foldlM clearColumn wide)).map (fun r => r.map (List.drop n))

/-- Σ w h hᵀ over rows h. -/
def normalMatrix (n : Nat) (rows : List (Rat × List Rat)) : List (List Rat) :=
  (List.range n).map fun i => (List.range n).map fun j => (rows.map (fun r => r.1 * r.2.getD i 0 * r.2.getD j 0)).sum

/-! ### Constants -/

/-- Nanoseconds that light takes for `mm` millimetres. -/
def lightNs (mm : Nat) : Rat := (mm * 1000000 : Nat) / 299792458

/-- 2^-16 ns that light takes for a millimetre. -/
def lightU : Rat := 65536 * 1000000 / 299792458

/-- γ1 = f1² / (f1² − f5²), where f1 : f5 is 154 : 115 (R293). -/
def gamma1 : Rat := 23716 / 10491

/-- Start of a system's week 0 in TAI seconds since 1970: GPS and QZSS, Galileo, BeiDou. -/
def weekZero (sys : Nat) : Nat := if sys = 1 then 935280019 else if sys = 2 then 1136073633 else 315964819

/-- Weeks by which a system's count lies behind that of GPS. -/
def weekLag (sys : Nat) : Nat := if sys = 1 then 1024 else if sys = 2 then 1356 else 0

/-- The smallest week at or after `base` whose low `bits` bits are `week` (R292). -/
def resolveWeek (base bits week : Nat) : Nat := base + (week % 2 ^ bits + 2 ^ bits - base % 2 ^ bits) % 2 ^ bits

/-- The sine of whole degrees by its series. -/
def sinDeg (d : Nat) : Rat :=
  let x : Rat := (d : Rat) * 3141592653589793 / 180000000000000000
  ((List.range 12).foldl (fun (acc : Rat × Rat) k =>
    (acc.1 + acc.2, -acc.2 * x * x / ((2 * k + 2) * (2 * k + 3) : Nat))) ((0 : Rat), x)).1

/-! ### Pseudoranges (R292, R293) -/

/-- One band that a solution used (R301): its front end, and 0 alone, 1 as L1 and 2 as L5 of the combination. -/
structure BandUse where
  fe : Nat
  role : Nat
  deriving DecidableEq, Repr

/-- A satellite's measurement: its system; the D that it alone would give, in 2^-16 ns; the direction to it, ECEF and unit length; its
weight; its bands; the ionosphere model's delay if it is single-frequency, in 2^-16 ns. -/
structure SatMeas where
  sys : Nat
  y : Rat
  dir : Vec3
  weight : Rat
  bands : List BandUse
  iono : Option Nat
  deriving DecidableEq, Repr

/-- The position in force, ECEF in mm (R295): POS in HOLD, the firmware's own otherwise. -/
def State.solveAt (s : State) (m : NavModel) : Vec3 :=
  if s.get R.GNS.STAT.MODE = 1 then
    (10 * s.sget R.GNS.POS_X.CM, 10 * s.sget R.GNS.POS_Y.CM, 10 * s.sget R.GNS.POS_Z.CM)
  else vecOf m.near

/-- Range in mm and direction of a satellite. -/
def lineOfSight (at_ : Vec3) (x : SatModel) : Rat × Vec3 :=
  let p := vecOf x.pos
  let d : Vec3 := (p.1 - at_.1, p.2.1 - at_.2.1, p.2.2 - at_.2.2)
  let r := ratSqrt (dot3 d d)
  (r, (d.1 / r, d.2.1 / r, d.2.2 / r))

/-- The entry that a channel left in the record. -/
def entryOf (es : List EpochEntry) (c : Nat) : Option EpochEntry := es.find? (fun e => e.ch == c)

/-- A channel's measurement may be used (R292, R297): LOCKED, HALF_CYC 0, no slip, a mapping, C/N0 at the mask, on the main
antenna, of the satellite. -/
def State.entryUsable (s : State) (x : SatModel) (e : EpochEntry) : Bool :=
  e.state == 3 && !e.half && !e.slip && !e.noMap && !e.ant && decide (s.get R.GNS.MASK.CN0_MIN * 100 ≤ e.cn0) &&
  e.prn == x.prn && systemOf e.sig == x.sys.val

/-- The transmit time of a channel in TAI (R292), in 2^-16 ns: the week, the time of week at the start of the resolved code
period, the code phase. -/
def State.transmitTime (s : State) (x : SatModel) (week : Nat) (g : SigModel) (e : EpochEntry) : Rat :=
  let w := resolveWeek (s.get R.GNS.WEEK_BASE.WEEK - weekLag x.sys) x.weekBits week
  ((weekZero x.sys + w * 604800) * secU + g.tow : Nat) + (e.chi : Rat) / 2 ^ 32 * secU / (signalOf e.sig).chipRate

/-- The pseudorange as an interval of 2^-16 ns (R292): reception at the antenna, t_e − DLY, less the transmit time, with the
satellite's clock, relativistic, group-delay and inter-signal corrections. -/
def State.pseudorange (s : State) (te : Nat) (x : SatModel) (week : Nat) (g : SigModel) (e : EpochEntry) : Rat :=
  ((te : Int) - s.sget (R.GNS.DLY.DLY e.fe) * 256 : Int) - s.transmitTime x week g e + x.clock + g.delay

/-- The offset of a system from TSYS in use with ISB_MODE = 0, in 2^-8 ns (R294). -/
def State.systemOffset (s : State) (m : NavModel) (sys : Nat) : Option Int :=
  if sys = s.get R.GNS.CFG.TSYS then some 0 else (m.offsets[sys]?).join

/-- The measurement of a satellite (R292, R293): dual-frequency where its L1 and L5 entries serve, else single with IONO_SF. The
path is range, Sagnac correction and troposphere. -/
def State.satMeas (s : State) (m : NavModel) (es : List EpochEntry) (x : SatModel) : Option SatMeas :=
  let usable := x.sigs.filterMap fun g =>
    match entryOf es g.ch.toNat with
    | some e => if s.entryUsable x e then some (g, e) else none
    | none => none
  let at_ := s.solveAt m
  let (range, dir) := lineOfSight at_ x
  let sagnac : Rat := (x.pos.1 * at_.2.1 - x.pos.2.1 * at_.1) * 72921151467 / (10 ^ 15 * 299792458000)
  let path : Rat := (range + sagnac) * lightU + x.tropo
  let isb := s.flag R.GNS.CFG.ISB_MODE
  match x.week, (if isb then some 0 else s.systemOffset m x.sys) with
  | some week, some off =>
    let p (q : SigModel × EpochEntry) : Rat := s.pseudorange m.te x week q.1 q.2
    let base : Rat := path - off * 256 + (match m.utc with | some u => (u.offset : Rat) | none => 0)
    let w : Rat := 1 / ((max 1 x.sigma * max 1 x.sigma : Nat) : Rat)
    let sees := x.healthy && x.ephemeris && !(x.sbasBad && s.flag R.GNS.CFG.SBAS_HEALTH) &&
      bitOf (s.get R.GNS.CFG.SYS_EN) x.sys && decide (sinDeg (s.get R.GNS.MASK.ELEV_MASK) ≤ dot3 dir (vecOf m.up) / 2 ^ 30)
    if !sees then none
    else
      match usable.find? (fun q => (signalOf q.2.sig).band == 0), usable.find? (fun q => (signalOf q.2.sig).band == 1) with
      | some a, some b =>
        some ⟨x.sys, base - (gamma1 * p a - (gamma1 - 1) * p b), dir, w, [⟨a.2.fe, 1⟩, ⟨b.2.fe, 2⟩], none⟩
      | some q, none | none, some q =>
        if s.flag R.GNS.CFG.IONO_SF then some ⟨x.sys, base + q.1.iono - p q, dir, w, [⟨q.2.fe, 0⟩], some q.1.iono⟩ else none
      | none, none => none
  | _, _ => none

/-! ### Least squares and T-RAIM (R294, R295, R297) -/

/-- The systems that add an unknown: with ISB_MODE = 1 every system used but TSYS (R294). -/
def State.extraSystems (s : State) (ms : List SatMeas) : List Nat :=
  if s.flag R.GNS.CFG.ISB_MODE then
    (List.range 4).filter (fun k => k != s.get R.GNS.CFG.TSYS && ms.any (fun x => x.sys == k))
  else []

/-- The row of a measurement: the clock, the extra systems, and position in mm where it is solved for. -/
def State.measRow (s : State) (extra : List Nat) (x : SatMeas) : List Rat :=
  1 :: extra.map (fun k => if x.sys = k then 1 else 0) ++
    (if s.get R.GNS.STAT.MODE = 1 then [] else [x.dir.1 * lightU, x.dir.2.1 * lightU, x.dir.2.2 * lightU])

/-- A least-squares solution: the unknowns, the residuals, the cofactor matrices with and without weights, and the weighted
square sum of the residuals over the redundancy. -/
structure Fit where
  x : List Rat
  res : List Rat
  cov : List (List Rat)
  dop : List (List Rat)
  factor : Rat
  deriving DecidableEq, Repr

/-- The unknowns, U of R297. -/
def State.unknowns (s : State) (extra : List Nat) : Nat := 1 + extra.length + (if s.get R.GNS.STAT.MODE = 1 then 0 else 3)

/-- The weighted least-squares solve (R297); none where the satellites' geometry leaves it without a solution. -/
def State.fit (s : State) (extra : List Nat) (ms : List SatMeas) : Option Fit :=
  let n := s.unknowns extra
  let rows := ms.map fun x => (x.weight, s.measRow extra x)
  match invertMatrix n (normalMatrix n rows), invertMatrix n (normalMatrix n (rows.map (fun r => (1, r.2)))) with
  | some cov, some dop =>
    let rhs := (List.range n).map fun i => ((ms.zip rows).map (fun (x, r) => r.1 * r.2.getD i 0 * x.y)).sum
    let x := cov.map (fun row => rowDot row rhs)
    let res := (ms.zip rows).map fun (q, r) => q.y - rowDot r.2 x
    let sq := ((ms.zip res).map (fun (q, r) => q.weight * r * r)).sum
    some ⟨x, res, cov, dop, if ms.length ≤ n then 0 else sq / ((ms.length - n : Nat) : Rat)⟩
  | _, _ => none

/-- The largest magnitude among residuals and its place. -/
def worstResidual (res : List Rat) : Nat × Rat :=
  (res.zipIdx).foldl (fun b (r, i) => if b.2 < ratAbs r then (i, ratAbs r) else b) (0, 0)

/-- How T-RAIM ended (R297). -/
inductive Raim where
  | accept | nosat | inconsistent
  deriving DecidableEq, Repr

/-- T-RAIM (R297), `left` exclusions still allowed: the satellites used, how many were excluded, the answer, the fit. -/
def State.raimLoop (s : State) (extra : List Nat) : Nat → Nat → List SatMeas → List SatMeas × Nat × Raim × Option Fit
  | left, excl, ms =>
    if ms.length < s.unknowns extra + s.get R.GNS.TRAIM.MIN_RED then (ms, excl, .nosat, none)
    else
      match s.fit extra ms with
      | none => (ms, excl, .nosat, none)
      | some f =>
        let w := worstResidual f.res
        if w.2 ≤ (s.get R.GNS.TRAIM.THR * nsU : Nat) / 10 then (ms, excl, .accept, some f)
        else
          match left with
          | 0 => (ms, excl, .inconsistent, some f)
          | k + 1 => s.raimLoop extra k (excl + 1) (ms.eraseIdx w.1)

/-! ### The two-antenna check (R299) -/

/-- A pair of the check: its band, Δφ and b·u/λ in cycles, the sine of the elevation. -/
structure AntPair where
  band : Nat
  dphi : Rat
  geom : Rat
  height : Rat
  deriving DecidableEq, Repr

/-- The pairs (R299): one signal of one satellite on both antennas, both LOCKED, HALF_CYC 0, no slip. -/
def State.antPairs (s : State) (m : NavModel) (es : List EpochEntry) : List AntPair :=
  let ok (e : EpochEntry) : Bool := e.state == 3 && !e.half && !e.slip && !e.noMap
  let base : Vec3 := (s.sget R.GNS.BASE_E.MM, s.sget R.GNS.BASE_N.MM, s.sget R.GNS.BASE_U.MM)
  (es.filter (fun a => ok a && !a.ant)).flatMap fun a =>
    (es.filter (fun b => ok b && b.ant && b.sig == a.sig && b.prn == a.prn)).filterMap fun b =>
      (m.sats.find? (fun x => x.prn == a.prn && x.sys.val == systemOf a.sig)).map fun x =>
        let dir := (lineOfSight (s.solveAt m) x).2
        let local_ : Vec3 := (dot3 dir (vecOf m.east) / 2 ^ 30, dot3 dir (vecOf m.north) / 2 ^ 30, dot3 dir (vecOf m.up) / 2 ^ 30)
        let band := (signalOf a.sig).band
        ⟨band, ((a.phi - b.phi : Int) : Rat) / 2 ^ 32, dot3 base local_ * carrierHz band / 299792458000, local_.2.2⟩

/-- The distance of a number from the nearest whole one, and the number less that one. -/
def offWhole (x : Rat) : Rat := x - ((x + 1 / 2).floor : Int)

/-- Informative pairs and those of them that fail (R299), each pair against the highest of its band. -/
def State.antCount (s : State) (m : NavModel) (es : List EpochEntry) : Nat × Nat :=
  let ps := s.antPairs m es
  let tol : Rat := (s.get R.GNS.FLAGS.TOL : Rat) / 256
  let judged := ps.filterMap fun p =>
    match ps.filter (fun q => q.band == p.band) with
    | [] => none
    | q :: qs =>
      let j := qs.foldl (fun b x => if b.height < x.height then x else b) q
      let g := p.geom - j.geom
      if 2 * tol ≤ ratAbs (offWhole g) then some (decide (tol < ratAbs (offWhole (p.dphi - j.dphi - g)))) else none
  (judged.length, (judged.filter id).length)

/-! ### The solution -/

/-- A solution (R292 to R301): its epoch and D in 2^-16 ns, T-RAIM's answer, satellites used and excluded, TDOP in 0.01, σ_clk
(scaled) and the largest single-frequency model delay in 2^-16 ns, 3σ of position in mm, the bands, whether another system is
used, decoded UTC and week, leap values, inter-system offsets in 2^-8 ns, the two-antenna check's informative and failing pairs,
and the survey with this position in it. -/
structure Solution where
  te : Nat
  d : Int
  raim : Raim
  used : Nat
  excl : Nat
  tdop : Nat
  sigma : Nat
  iono : Option Nat
  pos3s : Nat
  bands : List BandUse
  otherSystem : Bool
  utcOk : Bool
  weekOk : Bool
  leapCur : Int
  leapNext : Int
  leapAt : Nat
  isb : List Int
  check : Option (Nat × Nat)
  survey : Survey
  deriving DecidableEq, Repr

/-- A survey's mean position in cm and its 3σ in mm (R296). -/
def Survey.mean (v : Survey) : Int × Int × Int :=
  if v.count = 0 then (0, 0, 0)
  else (roundDiv v.sumX (10 * v.count), roundDiv v.sumY (10 * v.count), roundDiv v.sumZ (10 * v.count))

/-- 3σ of a survey's mean in mm; without a position it is unbounded. -/
def Survey.unc (v : Survey) : Nat := if v.count = 0 then 0xFFFFFFFF else ceilDiv (3 * isqrtUp v.variance) v.count

/-- The solution of an epoch from its record and what the firmware brings (R292 to R299). -/
def State.solve (s : State) (m : NavModel) (es : List EpochEntry) : Solution :=
  let all := m.sats.filterMap (s.satMeas m es)
  let tsys := s.get R.GNS.CFG.TSYS
  let few (k : Nat) : Bool := s.flag R.GNS.CFG.ISB_MODE && k != tsys && decide ((all.filter (fun x => x.sys == k)).length < 2)
  let sats := all.filter (fun x => !few x.sys)
  let extra := s.extraSystems sats
  let (used, excl, raim, fit) := s.raimLoop extra (s.get R.GNS.TRAIM.MAX_EXCL) 0 sats
  let x := (fit.map Fit.x).getD []
  let cell (f : Fit → List (List Rat)) (i : Nat) : Rat := ((((fit.map f).getD []).getD i []).getD i 0)
  let scale : Rat := max 1 ((fit.map Fit.factor).getD 0)
  let n := 1 + extra.length
  let near := s.solveAt m
  let posVar : Rat := scale * (cell Fit.cov n + cell Fit.cov (n + 1) + cell Fit.cov (n + 2))
  let v := s.gns.survey
  let here (k : Nat) (p : Rat) : Int := (p + x.getD (n + k) 0).floor
  let survey := if s.get R.GNS.STAT.MODE = 0 ∧ raim = .accept then
      { v with count := v.count + 1, sumX := v.sumX + here 0 near.1, sumY := v.sumY + here 1 near.2.1,
               sumZ := v.sumZ + here 2 near.2.2, variance := v.variance + posVar.ceil.toNat }
    else v
  let solved (k : Nat) : Int := match extra.findIdx? (· == k) with
    | some i => s.bump.roundFree (x.getD (1 + i) 0 / 256)
    | none => (s.systemOffset m k).getD 0
  { te := m.te, d := s.roundFree (x.getD 0 0), raim := raim, used := used.length, excl := excl,
    tdop := (ratSqrt (cell Fit.dop 0) * 100).floor.toNat, sigma := (ratSqrt (scale * cell Fit.cov 0)).ceil.toNat,
    iono := (used.filterMap SatMeas.iono).foldl (fun b i => some (max i (b.getD 0))) none,
    pos3s := isqrtUp (9 * posVar).ceil.toNat, bands := (used.flatMap SatMeas.bands).eraseDups,
    otherSystem := used.any (fun q => q.sys != tsys), utcOk := m.utc.isSome,
    weekOk := m.sats.any (fun q => q.sys.val == tsys && q.week.isSome), leapCur := (m.utc.map UtcModel.leapCur).getD 0,
    leapNext := (m.utc.map UtcModel.leapNext).getD 0, leapAt := (m.utc.map UtcModel.leapAt).getD 0,
    isb := (List.range 4).map solved, check := if s.flag R.GNS.FLAGS.EN_ANT then some (s.antCount m es) else none, survey := survey }

end Sys2Proof.Machine
end

