-- ==== Sys2Proof/Machine/Gns.lean ====
section
/-! DEFINITION. GNSS measurement epochs, the solution core, its flags and the observations of slot S8 (chapter 09). -/

namespace Sys2Proof.Machine

/-- GNS state changed. -/
def State.modGns (f : Gns → Gns) (s : State) : State := { s with gns := f s.gns }

/-- The solution core runs (R290). -/
def State.coreRuns (s : State) : Bool := s.get R.GNS.STAT.FW_STATE == 1

/-! ### The epoch grid (R280 to R282, R301) -/

/-- Epochs in a second by RATE code (R280). -/
def epochHz (code : Nat) : Nat := [1, 2, 4, 5, 8, 10, 20, 25, 40, 50].getD code 10

/-- The interval of the grid in force, in 2^-16 ns. -/
def State.epochStep (s : State) : Nat := secU / epochHz (s.get R.GNS.CFG.RATE)

/-- The epoch instant of the present tick: the grid instant reached less than 2 ns ago. -/
def State.epochInstant (s : State) : Option Nat :=
  let te := s.now.toNat / s.epochStep * s.epochStep
  if s.now.toNat < te + 2 * nsU then some te else none

/-- A solution falls at an epoch whose index n × F + j is a multiple of SOL_DIV (R301). -/
def State.solutionEpoch (s : State) (te : Nat) : Bool := te / s.epochStep % s.get R.GNS.CFG.SOL_DIV == 0

/-- The measurement side of a step (R282, and R110 for solutions in progress): the next record carries D, and grid instants
jumped past are counted. -/
def State.gnsStep (d : Int) (s : State) : State :=
  let p : Int := s.epochStep
  let before := s.now - d
  let skip : Nat := if 0 < d then ((s.now - 1) / p - before / p).toNat else 0
  (s.incBy R.GNS.SKIP_CNT.COUNT skip).modGns fun g =>
    { g with stepD := some d, skipped := g.skipped + skip, lastHalt := g.lastHalt.map (· + d),
             survey := { g.survey with startAt := g.survey.startAt + d }, due := g.due.map (fun e => { e with corr := e.corr + d }) }

/-! ### Flags (R298 to R300) -/

/-- The spoof flag rises (R300). -/
def State.spoofRise (s : State) : State :=
  let s1 := s.modGns fun g => { g with passes := 0 }
  if s.flag R.GNS.STAT.SPOOF then s1
  else (((s1.set R.GNS.STAT.SPOOF 1).inc R.GNS.SPOOF_CNT.COUNT).evt R.GNS.EVT.SPOOF).file F.gnsSpoof 0 0

/-- The spoof flag falls (R300). -/
def State.spoofFall (s : State) : State :=
  if s.flag R.GNS.STAT.SPOOF then (s.set R.GNS.STAT.SPOOF 0).evt R.GNS.EVT.SPOOF_CLEAR else s

/-! ### The core (R289, R290, R296) -/

/-- A survey that begins now. -/
def State.freshSurvey (s : State) : Survey := ⟨s.now, 0, 0, 0, 0, 0⟩

/-- The core starts: RUNNING, the survey anew, the spoof flag as R300 has it. -/
def State.coreStart (s : State) : State :=
  let s1 := (s.set R.GNS.STAT.FW_STATE 1).modGns fun g => { g with missed := 0, survey := s.freshSurvey, due := [] }
  if s1.flag R.GNS.FLAGS.EN_ANT then s1.spoofRise
  else if s1.flag R.GNS.STAT.POS_SUSPECT && s1.flag R.GNS.FLAGS.EN_RAIM then s1
  else s1.spoofFall

/-- The core leaves reset once its firmware is loaded and the Hearth runs (R279, R518). -/
def State.coreTryStart (s : State) : State :=
  if s.gns.loaded && s.hearth.running && s.get R.GNS.STAT.FW_STATE == 0 then s.coreStart else s

/-- The core halts (R290): its jobs are withdrawn and the spoof flag raised; it is restarted, unless it halted within the
last 3,600 s. -/
def State.coreHalt (s : State) : State :=
  let second := match s.gns.lastHalt with | some t => decide (s.now - t < 3600 * secI) | none => false
  let s1 := (((s.set R.GNS.STAT.FW_STATE 2).evt R.GNS.EVT.FW_HALT).file F.gnsFwHalt 0 0).withdrawFw.spoofRise
  let s2 := s1.modGns fun g => { g with lastHalt := some s.now, missed := 0, due := [] }
  if second then s2 else s2.coreStart

/-! ### Records (R283 to R288) -/

/-- The host epoch ring. -/
def epoRing : RingRegs := ⟨R.GNS.EPO_BASE_LO.ADDR, R.GNS.EPO_BASE_HI.ADDR, R.GNS.EPO_SIZE.SIZE, R.GNS.EPO_WR.PTR, R.GNS.EPO_RD.PTR⟩

/-- The fractional index x_n of the sample that stands at the balls of front end `n` at `te` (R283). -/
def State.sampleIndex (s : State) (n te : Nat) : Rat :=
  match (s.gnaFe n).ties with
  | [] => 0
  | (k0, t0) :: rest =>
    let (a, ts, _) := tieFit ((k0, t0) :: rest)
    if ts = 0 then k0 else k0 + ((te : Rat) - a) / ts

/-- A signed interval: non-negative fraction and nanoseconds, signed seconds (R286). -/
def spanBytes (d : Int) : List Byte :=
  let low := (d % secI).toNat
  leBytes 2 (low % nsU) ++ leBytes 4 (low / nsU) ++ leBytes 6 (ofSigned 48 (d / secI))

/-- The phases of an entry (R283): code phase and carrier phase at `te`, from the NCOs after sample k_n and f_n of a sample's
steps more; the carrier's count less that of IF (R287). Without a mapping they are free. -/
def State.entryPhases (s : State) (c te : Nat) : Nat × Int :=
  let n := s.get (R.GNT.CH.STAT.FE c)
  let x := s.gnt c
  if s.mapValid n then
    let at_ := s.sampleIndex n te
    let steps : Rat := at_ - x.sample
    let chi : Rat := (x.code + steps * x.rho) / 2 ^ 16
    let phi : Rat := (x.phi + steps * x.w) / 2 ^ 16 - x.ifHz * (at_ - x.start) / x.sr * 2 ^ 32
    ((s.roundFree chi % (x.period * 2 ^ 32 : Nat)).toNat, s.bump.roundFree phi)
  else (s.fresh, (s.bump.fresh : Nat))

/-- The entry of a channel (R287). -/
def State.epochEntry (s : State) (te c : Nat) : EpochEntry :=
  let fe := s.get (R.GNT.CH.STAT.FE c)
  let x := s.gnt c
  let (chi, phi) := s.entryPhases c te
  let ms : Nat := if s.chState c = 3 then
      match x.lockedAt with
      | some t => (s.bump.bump.roundFree (((te - t : Int) : Rat) / ((nsU : Nat) * 1000000 : Rat))).toNat
      | none => 0
    else 0
  { ch := c, sig := s.get (R.GNT.CH.STAT.SIG c), prn := s.get (R.GNT.CH.STAT.PRN c), fe := fe, state := s.chState c,
    half := s.flag (R.GNT.CH.STAT.HALF_CYC c), bitSync := s.flag (R.GNT.CH.STAT.BITSYNC c), slip := x.slipSince,
    noMap := !s.mapValid fe, ant := s.flag (R.GNA.FE.CFG.ANT fe), cn0 := s.get (R.GNT.CH.CN0.DBHZ c), chi := chi,
    period := x.period, doppler := s.get (R.GNT.CH.DOPPLER.MHZ c), phi := phi, pli := s.get (R.GNT.CH.PLI.PLI c),
    slips := s.get (R.GNT.CH.SLIP_CNT.COUNT c), lockMs := min ms 0xFFFFFFFF }

/-- Its 48 bytes (R287). -/
def EpochEntry.bytes (e : EpochEntry) : List Byte :=
  let status := e.state + 8 * ofBool e.half + 16 * ofBool e.bitSync + 32 * ofBool e.slip + 64 * ofBool e.noMap + 128 * ofBool e.ant
  leBytes 1 e.ch ++ leBytes 1 e.sig ++ leBytes 1 e.prn ++ leBytes 1 status ++ leBytes 2 e.cn0 ++ leBytes 1 e.fe ++ leBytes 1 0 ++
  leBytes 8 e.chi ++ leBytes 4 e.period ++ leBytes 4 e.doppler ++ leBytes 8 (ofSigned 64 e.phi) ++ leBytes 2 e.pli ++
  leBytes 2 e.slips ++ leBytes 4 e.lockMs ++ leBytes 8 0

/-- The header of 64 bytes (R286). -/
def State.epochHeader (s : State) (te count : Nat) (late : Bool) : List Byte :=
  let g := s.gns
  let flags := ofBool g.stepD.isSome + 2 * ofBool late + 4 * ofBool g.lostNext + 8 * ofBool (s.get R.TSC.STAT.STATE == 0)
  let fe (n : Nat) : Nat := s.feState n + 4 * ofBool (s.mapValid n) + 8 * s.get (R.GNA.FE.STAT.JAM n) +
    16 * s.get (R.GNA.FE.CFG.ANT n)
  leBytes 1 1 ++ leBytes 1 flags ++ leBytes 2 count ++ leBytes 4 g.sequence ++ timeBytes te ++ spanBytes (g.stepD.getD 0) ++
  leBytes 4 g.skipped ++ (List.range 4).flatMap (fun n => leBytes 1 (fe n)) ++
  (List.range 4).flatMap (fun n => leBytes 4 (s.get (R.GNS.FE_TIE.RATE.PPT n))) ++ leBytes 8 0

/-- A channel is in the record (R285): not IDLE, and handed off before k_n was computed, 50 µs of samples before it. -/
def State.latched (s : State) (te c : Nat) : Bool :=
  let n := s.get (R.GNT.CH.STAT.FE c)
  let x := s.gnt c
  s.chState c != 0 && (!s.mapValid n || decide ((x.start : Rat) ≤ s.sampleIndex n te - (x.sr : Rat) / 20000))

/-- What an epoch latches (R283, R285), each channel drawing its own free values. -/
def State.epochEntries (s : State) (te : Nat) : List EpochEntry :=
  ((List.range 256).filter (s.latched te)).map fun c => { s with freeCtr := s.freeCtr + 4 * c }.epochEntry te c

/-- The record of an epoch (R285, R286): the header and the entries. -/
def State.epochRecord (s : State) (te : Nat) (entries : List EpochEntry) (late : Bool) : List Byte :=
  s.epochHeader te entries.length late ++ entries.flatMap EpochEntry.bytes

/-- The record to the solution core and into the ring (R288), from which it is discarded where the ring is full (R270). -/
def State.putEpoch (rec : List Byte) (s : State) : State :=
  let s1 := (((s.inc R.GNS.EPOCH_CNT.COUNT).count 0x500 1).modGns fun g =>
    { g with sequence := (g.sequence + 1) % 2 ^ 32, stepD := none, skipped := 0 }).emit (.coreRecord rec)
  match s1.ringPut epoRing rec with
  | some s2 => if s.get R.GNS.EPO_SIZE.SIZE = 0 then s2 else s2.modGns fun g => { g with lostNext := false }
  | none => ((s1.modGns fun g => { g with lostNext := true }).inc R.GNS.EPO_LOST_CNT.COUNT).evt R.GNS.EVT.EPO_LOST

/-! ### Commits at an epoch (R281, R305) -/

/-- A commit of group SOL is accepted. -/
def gnsSolOk (_old new : State) : Bool :=
  new.get R.GNS.CFG.MODE != 3 && decide (new.get R.GNS.CFG.RATE ≤ 9) && decide (1 ≤ new.get R.GNS.CFG.SOL_DIV) &&
  decide (new.get R.GNS.CFG.SOL_DIV ≤ 50) && decide (1 ≤ new.get R.GNS.TRAIM.MIN_RED) &&
  new.get R.GNS.TRAIM.SUSPECT_N != 0 && new.get R.GNS.FLAGS.MIN_PAIRS != 0 && new.get R.GNS.FLAGS.CLEAR_N != 0 &&
  decide (new.get R.GNS.MASK.FW_CH ≤ 256)

/-- The survey begins anew (R296). -/
def State.surveyStart (s : State) : State := (s.set R.GNS.STAT.MODE 0).modGns fun g => { g with survey := s.freshSurvey }

/-- What an accepted commit of group SOL brings: RATE waits for the second (R280), and MODE comes into force. -/
def gnsSolAfter (old new : State) : State :=
  let s1 := (new.set R.GNS.CFG.RATE (old.get R.GNS.CFG.RATE)).modGns fun g =>
    { g with ratePend := some (new.get R.GNS.CFG.RATE) }
  let m := new.get R.GNS.CFG.MODE
  if m = 0 then (if old.get R.GNS.STAT.MODE = 0 then s1 else s1.surveyStart) else s1.set R.GNS.STAT.MODE m

/-- The group's commit reached CK_SOL at least 1 µs before the epoch (R281). -/
def State.inTime (s : State) (te : Nat) (g : Group) : Bool :=
  match s.committed g with
  | some c => decide (c.at_ + 1000 * (nsU : Int) ≤ te) || decide ((te : Int) + 2 * (nsU : Int) < c.at_)
  | none => false

/-- One group at an epoch. -/
def State.takeAtEpoch (te : Nat) (g : Group) (cmd reject : Field) (ok : State → State → Bool)
    (after : State → State → State) (s : State) : State :=
  if s.inTime te g then s.takeGroup g cmd reject ok after else s

/-- Writes of one ring's registers come into force, and its pointers return to zero (R270). -/
def State.ringMoved (s : State) (r : RingRegs) (old : State) : State :=
  if old.differ s r.baseLo || old.differ s r.baseHi || old.differ s r.size then (s.set r.wr 0).set r.rd 0 else s

/-- What waits for an epoch (R281). -/
def State.epochCommits (te : Nat) (s : State) : State :=
  let s1 := (List.range 4).foldl (fun st n =>
    st.takeAtEpoch te (.gnaFe n) (R.GNA.FE.CTL.COMMIT n) R.GNA.EVT.CFG_REJECTED (feOk n) (feAfter n)) s
  let chs := (s1.commits.filterMap (fun c => match c.group with | .gntCh n => some n | _ => none))
  let s2 := chs.foldl (fun st c =>
    st.takeAtEpoch te (.gntCh c) (R.GNT.CH.CTL.COMMIT c) R.GNA.EVT.CFG_REJECTED (gntOk c) (gntAfter c)) s1
  let s3 := s2.takeAtEpoch te .gnsSol R.GNS.CTL.SOL_COMMIT R.GNS.EVT.CFG_REJECTED gnsSolOk gnsSolAfter
  let s4 := s3.takeAtEpoch te .gnsPos R.GNS.CTL.POS_COMMIT R.GNS.EVT.CFG_REJECTED (fun _ _ => true) (fun _ new => new)
  let s5 := s4.applyWaiting .gnssEpoch (fun _ => true)
  let s6 := (s5.ringMoved navRing s4).ringMoved epoRing s4
  if s6.flag R.GNS.CTL.SURVEY_START then (s6.set R.GNS.CTL.SURVEY_START 0).surveyStart else s6

/-- RATE at the second boundary (R280). -/
def State.gnsSecond (s : State) : State :=
  match s.gns.ratePend with
  | some r => (s.set R.GNS.CFG.RATE r).modGns fun g => { g with ratePend := none }
  | none => s

/-! ### The time bound (R301) -/

/-- The γ of a band (R301). -/
def bandGamma (b : BandUse) : Rat := if b.role = 0 then 1 else if b.role = 1 then gamma1 else gamma1 - 1

/-- 2^-16 ns as nanoseconds. -/
def nsR (u : Nat) : Rat := (u : Rat) / 65536

/-- TB in 2^-8 ns, rounded up (R301). -/
def State.timeBound (s : State) (sol : Solution) : Nat :=
  let k : Rat := (s.get R.GNS.TB.K : Rat) / 16
  let pos := if s.get R.GNS.STAT.MODE = 1 then lightNs (s.get R.GNS.POS_UNC.MM)
    else if s.get R.GNS.STAT.MODE = 0 then lightNs sol.survey.unc else lightNs sol.pos3s
  let dly := (sol.bands.map (fun b => bandGamma b * ((s.get (R.GNS.DLY_UNC.UNC b.fe) : Nat) / 256 : Rat))).sum
  let iono : Rat := match sol.iono with | some x => max 5 (nsR x / 2) | none => 0
  let isb : Rat := if s.flag R.GNS.CFG.ISB_MODE = false ∧ sol.otherSystem = true then
      (s.get R.GNS.ISB_UNC.BOUND : Nat) / 256 else 0
  ((k * nsR sol.sigma + pos + dly + iono + isb + 1 / 8) * 256).ceil.toNat

/-- Observations are permitted in the mode in force (R295). -/
def State.modePermits (s : State) : Bool :=
  match s.get R.GNS.STAT.MODE with
  | 0 => s.flag R.GNS.CFG.SURVEY_GREF
  | 1 => true
  | 2 => s.flag R.GNS.CFG.NAV_GREF
  | _ => false

/-- Why a solution is not valid (R301): the codes of FAIL_CAUSE in the order of R301's list, 0 for a valid one. -/
def State.failCause (s : State) (sol : Solution) : Nat :=
  if !s.modePermits then 6
  else match sol.raim with
    | .nosat => 1
    | .inconsistent => 2
    | .accept =>
      if s.get R.GNS.TB.TDOP_MAX * 10 < sol.tdop then 3
      else if !sol.utcOk then 4 else if !sol.weekOk then 5 else 0

/-- A solution that delivers nothing (R301, R302). -/
def State.solFail (cause : Nat) (s : State) : State :=
  (((s.set R.GNS.STAT.FAIL_CAUSE cause).inc R.GNS.SOL_FAIL_CNT.COUNT).set R.GNS.STAT.SOL_VALID 0).evt R.GNS.EVT.SOL_FAIL

/-- R298: solutions that put the held position in doubt. -/
def State.judgePosition (sol : Solution) (s : State) : State :=
  let e := sol.excl
  let bad := s.get R.GNS.STAT.MODE == 1 && (sol.raim == .inconsistent || decide (e + sol.used < 2 * e))
  let k := if bad then s.gns.suspects + 1 else 0
  let s1 := s.modGns fun g => { g with suspects := k }
  let n := s.get R.GNS.TRAIM.SUSPECT_N
  if bad ∧ (k = n ∨ (n < k ∧ s.flag R.GNS.STAT.POS_SUSPECT = false)) then
    let s2 := ((s1.set R.GNS.STAT.POS_SUSPECT 1).evt R.GNS.EVT.POS_SUSPECT).file F.gnsPosSuspect 0 0
    if s2.flag R.GNS.FLAGS.EN_RAIM then s2.spoofRise else s2
  else if sol.raim == .accept && decide (e ≤ 1) && s1.flag R.GNS.STAT.POS_SUSPECT then
    let s2 := s1.set R.GNS.STAT.POS_SUSPECT 0
    if s2.flag R.GNS.FLAGS.EN_ANT then s2 else s2.spoofFall
  else s1

/-- The two-antenna check (R299, R300). -/
def State.antennaCheck (sol : Solution) (s : State) : State :=
  if !s.flag R.GNS.FLAGS.EN_ANT then s
  else
    let (inf, fail) := sol.check.getD (0, 0)
    if inf < s.get R.GNS.FLAGS.MIN_PAIRS then s.set R.GNS.STAT.CHECK 3
    else if inf < 2 * fail then (s.set R.GNS.STAT.CHECK 2).spoofRise
    else
      let k := s.gns.passes + 1
      let s1 := (s.set R.GNS.STAT.CHECK 1).modGns fun g => { g with passes := k }
      if s.get R.GNS.FLAGS.CLEAR_N ≤ k then s1.spoofFall else s1

/-- The survey (R296): it takes the solution's position, and is complete once TIME has passed and the mean is good enough. -/
def State.surveyJudge (sol : Solution) (s : State) : State :=
  let s := s.modGns fun g => { g with survey := sol.survey }
  if s.get R.GNS.STAT.MODE = 0 ∧ sol.raim = .accept ∧
      sol.survey.startAt + s.get R.GNS.SURVEY.TIME * secI ≤ s.now ∧ sol.survey.unc ≤ s.get R.GNS.SURVEY.TARGET * 10 then
    let (x, y, z) := sol.survey.mean
    ((((((s.setI R.GNS.POS_X.CM x).setI R.GNS.POS_Y.CM y).setI R.GNS.POS_Z.CM z).set R.GNS.POS_UNC.MM
      (min 0xFFFF sol.survey.unc)).set R.GNS.STAT.MODE 1).evt R.GNS.EVT.SURVEY_DONE)
  else s

/-- A valid solution delivers its observation and leap values (R301, R303). -/
def State.deliver (sol : Solution) (corr : Int) (s : State) : State :=
  let tb := s.timeBound sol
  let d := sol.d - corr
  let s1 := ((s.setSpan R.GNS.SOL_FRAC.FRAC R.GNS.SOL_NS.NS R.GNS.SOL_SEC_LO.SEC R.GNS.SOL_SEC_HI.SEC sol.d).set
    R.GNS.SOL_TB.TB (min 0xFFFFFFFF tb)).set R.GNS.STAT.SOL_VALID 1
  let s2 := ((s1.set R.GNS.STAT.FAIL_CAUSE 0).inc R.GNS.SOL_CNT.COUNT).evt R.GNS.EVT.SOL
  let s3 := (s2.setPresent 8 true).slotObserve 8 ((sol.te : Int) + corr) d (tb + s.get (R.REF.SLOT.JITB.JITB 8))
    (s.get (R.REF.SLOT.REFB.REFB 8))
  s3.leapPost ⟨2, sol.leapCur, sol.leapNext, sol.leapAt⟩

/-! ### The commands of the chapter -/

/-- GNSS_EPOCH (R281 to R288): the latch and its record, LOSS to IDLE, and what waits for an epoch. -/
def execGnssEpoch (late : Bool) (s : State) : Out :=
  if !s.ticking then .next s
  else (s.epochInstant).elim (.next s) fun te =>
      let entries := s.epochEntries te
      let s1 := s.putEpoch (s.epochRecord te entries late)
      let s2 := { s1 with freeCtr := s1.freeCtr + 1024 }
      let s3 := if late then ((s2.inc R.GNS.LATE_CNT.COUNT).evt R.GNS.EVT.EPOCH_LATE).file F.gnsEpochLate 0 0 else s2
      let s4 := s3.modGna fun g => { g with chans := g.chans.map (fun (c, x) => (c, { x with slipSince := false })) }
      let s5 := (List.range 256).foldl (fun st c => if st.chState c = 4 then st.chIdle c else st) s4
      let s6 := if s5.coreRuns && s5.solutionEpoch te then s5.modGns fun g => { g with due := (⟨te, 0, entries⟩ :: g.due).take 64 }
        else s5
      .next (s6.epochCommits te).jamFlag

/-- FW_ACK (R290, R291): the firmware acknowledges, and under AUTO_ACQ manages its own channels. -/
def execFwAck (acts : FwActions) (s : State) : Out :=
  if !s.coreRuns then .next s
  else
    let s1 := s.modGns fun g => { g with missed := 0 }
    if s.flag R.GNS.CFG.AUTO_ACQ then
      let s2 := (acts.release.filter (fun c => s.fwOwns c.toNat)).foldl (fun st c => st.chIdle c.toNat) s1
      .next ((acts.jobs.filter (fun r => r.chAuto || s.fwOwns r.ch)).foldl (fun st r => st.placeJob r false) s2)
    else .next s1

/-- FW_ACK_TIMEOUT (R290). -/
def execFwAckTimeout (s : State) : Out :=
  if !s.coreRuns then .next s
  else if 3 ≤ s.gns.missed + 1 then .next s.coreHalt
  else .next (s.modGns fun g => { g with missed := g.missed + 1 })

/-- FW_RESTART (R290): without firmware, or with the Hearth in reset, the core stays in RESET (R279, R518). -/
def execFwRestart (s : State) : Out :=
  if s.gns.loaded && s.hearth.running then .next s.withdrawFw.coreStart else .next s

/-- SOL_COMMIT (R305). -/
def execSolCommit (s : State) : Out := .next (s.commit .gnsSol R.GNS.CTL.SOL_COMMIT)

/-- POS_COMMIT (R305). -/
def execPosCommit (s : State) : Out := .next (s.commit .gnsPos R.GNS.CTL.POS_COMMIT)

/-- SURVEY_START (R296): at the next epoch. -/
def execSurveyStart (s : State) : Out := .next (s.set R.GNS.CTL.SURVEY_START 1)

/-- What a solution brings (R297 to R303), `corr` being the steps since its epoch. -/
def State.takeSolution (sol : Solution) (corr : Int) (s : State) : State :=
  let s2 := ((s.set R.GNS.SOL_INFO.USED sol.used).set R.GNS.SOL_INFO.EXCL sol.excl).set R.GNS.SOL_INFO.TDOP (min 0xFFFF sol.tdop)
  let s3 := (List.range 4).foldl (fun st i => st.setI (R.GNS.ISB.OFFSET i) (sol.isb.getD i 0)) s2
  let s4 := (s3.judgePosition sol).antennaCheck sol
  let late := decide ((sol.te : Int) + corr + s.get R.GNS.TB.SOL_DEADLINE * (1000000 * (nsU : Int)) < s.now)
  let cause := s.failCause sol
  let s5 := if cause ≠ 0 then s4.solFail cause
    else if late then (s4.solFail 7).file F.gnsSolLate 0 0
    else s4.deliver sol corr
  s5.surveyJudge sol

/-- SOLUTION_DELIVERY (R292 to R303): the solution of epoch `m.te`, if one is due, from the record of that epoch. -/
def execSolutionDelivery (m : NavModel) (s : State) : Out :=
  match s.gns.due.find? (fun e => e.te == m.te) with
  | none => .next s
  | some e =>
    if !s.coreRuns then .next s
    else .next (({ s with freeCtr := s.freeCtr + 8 }.modGns fun g =>
        { g with due := g.due.filter (fun e => e.te != m.te) }).takeSolution
      (s.solve m e.entries) e.corr)

end Sys2Proof.Machine
end

