-- ==== Sys2Proof/Machine/Mem.lean ====
section
/-! DEFINITION. The DRAM controller, memory errors and the sweep (R577 to R581, R584, R587). -/

namespace Sys2Proof.Machine

/-! ### Geometry and refresh (R577) -/

/-- Installed capacity in MiB: per rank DENSITY × 64 / WIDTH / 8 bytes. -/
def State.memMib (s : State) : Nat :=
  (1 + s.get R.MEM.GEO.RANKS) * (4 * 2 ^ s.get R.MEM.GEO.DENSITY * 1024 / 8 * 64 / (if s.get R.MEM.GEO.WIDTH = 0 then 4 else 8))

/-- The fields of GEO. -/
def memGeo : List Field := [R.MEM.GEO.RANKS, R.MEM.GEO.WIDTH, R.MEM.GEO.DENSITY, R.MEM.GEO.BIN]

/-- A commit of GEO, CFG, SWEEP and ARB is accepted: GEO within 16 GiB and not changed after DRAM is ready, the rest within
the ranges of R587. -/
def memOk (old new : State) : Bool :=
  let geo := memGeo.any (fun f => old.differ new f)
  new.get R.MEM.GEO.DENSITY != 3 && decide (new.memMib ≤ 16384) && !(geo && old.flag R.MEM.STAT.READY) &&
  new.get R.MEM.CFG.REFRESH != 3 && decide (100 ≤ new.get R.MEM.SWEEP.SRAM_MS) &&
  decide (new.get R.MEM.SWEEP.SRAM_MS ≤ 10000) && decide (1 ≤ new.get R.MEM.SWEEP.DRAM_H) &&
  decide (new.get R.MEM.SWEEP.DRAM_H ≤ 168) && decide (1 ≤ new.get R.MEM.ARB.BG_MIN) &&
  decide (new.get R.MEM.ARB.BG_MIN ≤ new.get R.MEM.ARB.BG_MAX) && decide (new.get R.MEM.ARB.BG_MAX ≤ 10)

/-- REF_2X follows REFRESH, and with 0b10 external sensor EXT_K against 85 °C. -/
def State.showRefresh (s : State) : State :=
  let m := s.get R.MEM.CFG.REFRESH
  s.setB R.MEM.STAT.REF_2X
    (m == 1 || (m == 2 && decide (85 * 16 < s.sget (R.PMC.TEL_EXT.TEMP (s.get R.PMC.TEL_CFG.EXT_K)))))

/-- The group's commit at a second boundary. -/
def State.memTake (s : State) : State :=
  s.takeGroup .memCfg R.MEM.CTL.COMMIT R.MEM.EVT.CFG_REJECTED memOk (fun _ new => new.showRefresh)

/-! ### Errors (R578 to R580; those of DRAM in Machine/Ecc.lean) -/

/-- Corrected error in an SRAM. -/
def State.sramCe (s : State) : State := ((s.inc R.MEM.SRAM_CE_CNT.COUNT).count 0x408 1).evt R.MEM.EVT.SRAM_CE

/-- What an uncorrectable error does in each SRAM; the faults of R227 and R290 stand in for MEM_SRAM_UE (R580). -/
def State.sramEffect (inst : Nat) (k : SramKind) (s : State) : State :=
  let ue (s : State) : State := s.file F.memSramUe inst 0
  match k with
  | .cleanLine e => ue (s.touch e.toNat false)
  | .dirtyLine e copy =>
    let c0 := slice copy 0 128
    let c := if eVersion c0 = 1 then eConvert c0 else c0
    ue ((s.dramWrite (s.ctBase + 128 * e.toNat) (splice c 46 (leBytes 2 (eGen c + 2)))).touch e.toNat false)
  | .glove g => ue (s.destroyGlove g.val)
  | .interpolator i =>
    if i.val = s.get R.TDC.STAT.SPARE then ((s.set R.TDC.STAT.RETIRED i.val).evt R.TDC.EVT.CAL_BAD).file F.tdcCalBad i.val 0
    else ue s
  | .solutionCore => if s.coreRuns then s.coreHalt else ue s
  | .frameBuffer | .other => ue s

/-- Uncorrectable error in an SRAM. -/
def State.sramUe (inst word : Nat) (k : SramKind) (s : State) : State :=
  ((((s.inc R.MEM.SRAM_UE_CNT.COUNT).count 0x409 1).set R.MEM.SRAM_UE_LOC.LOC (inst * 2 ^ 24 + word)).evt
    R.MEM.EVT.SRAM_UE).sramEffect inst k

/-- The solution core meets an uncorrectable error in its memory (R579). -/
def State.coreError (s : State) : State := if s.coreRuns then s.coreHalt else s

/-- An error that a sweep read finds (R579, R581): it stands in DRAM from then on. -/
def State.memError (e : MemError) (s : State) : State :=
  match e with
  | .dramCorrected => s.dramCe
  | .dramUncorrectable a => (s.upset a.toNat).dramUe a.toNat
  | .coreMemory a => ((s.upset a.toNat).dramUe a.toNat).coreError
  | .sramCorrected => s.sramCe
  | .sramUncorrectable i w k => s.sramUe i.toNat w.toNat k

/-- An error that lies where another requester reads (R578): one in DRAM is counted by the read that meets it. -/
def State.memUpset (e : MemError) (s : State) : State :=
  match e with
  | .dramUncorrectable a => s.upset a.toNat
  | e => s.memError e

/-! ### The commands -/

/-- MEM_COMMIT (R544, R587). -/
def execMemCommit (s : State) : Out := .next (s.commit .memCfg R.MEM.CTL.COMMIT)

/-- MEM_TRAIN_DONE (R577): once SYN0 is LOCKED training ends, READY or TRAIN_FAIL. Trained memory reads as it does where
nothing has been written (assumption log 3). -/
def execMemTrainDone (ok : Bool) (s : State) : Out :=
  if s.flag R.MEM.STAT.READY || s.flag R.MEM.STAT.TRAIN_FAIL || s.get (R.SYN.CH.STAT.STATE 0) != 3 then .next s
  else if ok then
    let s1 := (((s.set R.MEM.STAT.READY 1).set R.MEM.SIZE_MIB.MIB s.memMib).showRefresh).setB R.PMC.STAT.DUMP_ACTIVE
      (s.flag R.PMC.DUMP_CFG.EN)
    .next { s1 with dram := [], dramBad := [], pmc := { s1.pmc with
      lastDump := if s1.hearth.running then some s1.now else none, dramSweep := ⟨s1.mark, false⟩ } }
  else .next ((s.set R.MEM.STAT.TRAIN_FAIL 1).file F.memTrainFail 0 0)

/-- The pass under way over DRAM or the SRAMs. -/
def State.sweep (s : State) (dram : Bool) : SweepPass := if dram then s.pmc.dramSweep else s.pmc.sramSweep

/-- That pass changed. -/
def State.setSweep (dram : Bool) (x : SweepPass) (s : State) : State :=
  { s with pmc := if dram then { s.pmc with dramSweep := x } else { s.pmc with sramSweep := x } }

/-- The period of a pass in 2^-16 ns: DRAM_H hours, or SRAM_MS ms (R581). -/
def State.sweepPeriod (s : State) (dram : Bool) : Nat :=
  if dram then s.get R.MEM.SWEEP.DRAM_H * 3600 * secU else s.get R.MEM.SWEEP.SRAM_MS * msU

/-- The sweep reads that memory: DRAM once it is ready (R577, R581). -/
def State.swept (s : State) (dram : Bool) : Bool := !dram || s.flag R.MEM.STAT.READY

/-- SWEEP_PASS_DONE (R581): the errors the pass found, in order, and the pass counted; the next begins. -/
def execSweepPassDone (dram : Bool) (found : List MemError) (s : State) : Out :=
  if !s.swept dram then .next s
  else
    let s1 := found.foldl (fun st e => st.memError e) s
    .next ((s1.inc (if dram then R.MEM.DRAM_PASS_CNT.COUNT else R.MEM.SRAM_PASS_CNT.COUNT)).setSweep dram ⟨s1.mark, false⟩)

/-- SWEEP_SLOW (R581, R596): a pass is not complete within twice its period, which is judged once for each. -/
def execSweepSlow (dram : Bool) (s : State) : Out :=
  if s.swept dram && !(s.sweep dram).slow && s.passed (s.sweep dram).since (2 * s.sweepPeriod dram) then
    .next (((s.setSweep dram { s.sweep dram with slow := true }).evt R.MEM.EVT.SWEEP_SLOW).file F.memSweepSlow (ofBool dram) 0)
  else .next s

/-- BG_STARVED (R584). -/
def execBgStarved (s : State) : Out := .next ((s.evt R.MEM.EVT.BG_STARVED).file F.memBgStarved 0 0)

end Sys2Proof.Machine
end

