-- ==== Sys2Proof/Machine/Pmc.lean ====
section
/-! DEFINITION. Counter selection, dumps, stoker sampling and telemetry (R563 to R576, R582, R583). -/

namespace Sys2Proof.Machine

/-- The block's own state changed. -/
def State.modPmc (f : Pmc → Pmc) (s : State) : State := { s with pmc := f s.pmc }

/-! ### Events (R564) -/

/-- The table of R564 names the event. -/
def eventListed (e : Nat) : Bool :=
  decide (e ≤ 6) || (decide (8 ≤ e) && decide (e ≤ 0x18)) || (decide (0x100 ≤ e) && decide (e < 0x200) && decide (e % 16 ≤ 5)) ||
  (decide (0x200 ≤ e) && decide (e < 0x280) && decide (e % 32 ≤ 5)) || (decide (0x300 ≤ e) && decide (e ≤ 0x306)) ||
  (decide (0x380 ≤ e) && decide (e ≤ 0x383)) || (decide (0x400 ≤ e) && decide (e ≤ 0x409)) ||
  (decide (0x500 ≤ e) && decide (e ≤ 0x502)) || (decide (0x580 ≤ e) && decide (e ≤ 0x582)) ||
  e == 0x600 || e == 0x601 || e == 0xFFF

/-- The model counts the event where it happens; a tally does not bring it. -/
def eventOwn (e : Nat) : Bool :=
  (decide (0x200 ≤ e) && decide (e < 0x280)) || (decide (0x300 ≤ e) && decide (e ≤ 0x305)) || e == 0x405 || e == 0x406 ||
  e == 0x408 || e == 0x409 || (decide (0x500 ≤ e) && decide (e ≤ 0x502)) || (decide (0x580 ≤ e) && decide (e ≤ 0x582)) ||
  e == 0x600

/-- Increments that have reached the array. -/
def State.takeTally (t : Tally) (s : State) : State :=
  t.foldl (fun st x =>
    if x.1.toNat = 0 ∨ x.1.toNat = 0xFFF ∨ eventOwn x.1.toNat = true ∨ eventListed x.1.toNat = false then st
    else st.count x.1.toNat x.2) s

/-- A counter's 48 bits. -/
def State.counter (s : State) (i : Nat) : Nat := s.get2 (R.PMC.CNT.LO.COUNT i) (R.PMC.CNT.HI.COUNT i)

/-- A commit of group SEL is accepted (R564). -/
def selEventsOk (_old new : State) : Bool :=
  new.get (R.PMC.SEL.EVENT 0) != 0xFFF && (List.range 1024).all (fun i => eventListed (new.get (R.PMC.SEL.EVENT i)))

/-- Every counter whose EVENT changes is set to zero (R568). -/
def selEventsAfter (old new : State) : State :=
  let ch := (List.range 1024).filter (fun i => old.differ new (R.PMC.SEL.EVENT i))
  (ch.foldl (fun st i => st.set2 (R.PMC.CNT.LO.COUNT i) (R.PMC.CNT.HI.COUNT i) 0) new).modPmc fun p =>
    { p with changed := (p.changed ++ ch).eraseDups }

/-- The group at a second boundary. -/
def State.eventsTake (s : State) : State :=
  s.takeGroup .pmcSel R.PMC.CTL.SEL_COMMIT R.PMC.EVT.CFG_REJECTED selEventsOk selEventsAfter

/-! ### Dumps (R570 to R574) -/

/-- The period by its code, in µs (R570). -/
def dumpPeriods : List Nat :=
  [100, 200, 500, 1000, 2000, 5000, 10000, 20000, 50000, 100000, 200000, 500000, 1000000, 2000000, 5000000, 10000000]

/-- The period in force, in 2^-16 ns. -/
def State.dumpPeriod (s : State) : Nat := dumpPeriods.getD (s.get R.PMC.DUMP_CFG.PERIOD) 1 * 1000 * nsU

/-- The next dump instant, once the CK_CORE replica reads it or later (R571). DESIGN CHOICE: while that replica is invalid, time is
unavailable (R59) and none has been reached (log entry 115). -/
def State.dumpDue (s : State) : Option Nat :=
  match s.pmc.lastDump with
  | none => none
  | some t =>
    let p : Int := s.dumpPeriod
    let g := (t / p + 1) * p
    if s.ticking && s.flag R.PMC.DUMP_CFG.EN && s.flag R.MEM.STAT.READY &&
        (s.replicaTime 0).any (fun n => decide (g ≤ n)) then some g.toNat else none

/-- The entry of a counter (R572). -/
def State.dumpEntry (s : State) (i : Nat) : List Byte :=
  leBytes 6 (s.counter i) ++ leBytes 2 (s.get (R.PMC.SEL.EVENT i) + 16384 * ofBool (s.pmc.changed.contains i) +
    32768 * ofBool (s.pmc.wrapped.contains i))

/-- The header (R572): `at_` is the dump instant, none with NOTIME. -/
def State.dumpHeader (s : State) (at_ : Option Nat) (tick : Nat) (late offGrid : Bool) : List Byte :=
  let u := at_.getD 0
  let flags := ofBool s.pmc.stepped + 2 * ofBool s.pmc.lostNext + 4 * ofBool at_.isNone + 8 * ofBool late + 16 * ofBool offGrid
  leBytes 1 1 ++ leBytes 1 flags ++ leBytes 2 1024 ++ leBytes 4 s.pmc.seq ++ leBytes 2 (u % nsU) ++
  leBytes 4 (u % secU / nsU) ++ leBytes 6 (u / secU) ++ leBytes 4 tick ++ leBytes 4 s.pmc.skipped ++
  leBytes 1 (s.get R.PMC.DUMP_CFG.PERIOD) ++ leBytes 1 0 ++
  (List.range 4).flatMap (fun k => leBytes 2 (s.get (R.PMC.DIE.TEMP k))) ++ leBytes 2 (s.get R.PMC.THETA.TEMP) ++
  (List.range 12).flatMap (fun k => leBytes 2 (s.get (R.PMC.SUPPLY.MV k)))

/-- A whole record. -/
def State.dumpRecord (s : State) (at_ : Option Nat) (tick : Nat) (late offGrid : Bool) : List Byte :=
  s.dumpHeader at_ tick late offGrid ++ (List.range 1024).flatMap (fun i => s.dumpEntry i)

/-- The dump ring. -/
def dumpRing : RingRegs :=
  ⟨R.PMC.DUMP_BASE_LO.ADDR, R.PMC.DUMP_BASE_HI.ADDR, R.PMC.DUMP_SIZE.SIZE, R.PMC.DUMP_WR.PTR, R.PMC.DUMP_RD.PTR⟩

/-- A record latched and put into the ring, or discarded (R270, R573). -/
def State.putDump (at_ : Option Nat) (tick : Nat) (late offGrid : Bool) (s : State) : State :=
  let rec_ := s.dumpRecord at_ tick late offGrid
  let s1 := s.modPmc fun p =>
    { p with seq := (p.seq + 1) % 2 ^ 32, changed := [], wrapped := [], skipped := 0, stepped := false }
  match s1.ringPut dumpRing rec_ with
  | some s2 =>
    let s3 := if s.get R.PMC.DUMP_SIZE.SIZE = 0 then s2 else s2.modPmc fun p => { p with lostNext := false }
    if late then (s3.evt R.PMC.EVT.DUMP_LATE).file F.pmcDumpLate 0 0 else s3
  | none => ((s1.modPmc fun p => { p with lostNext := true }).inc R.PMC.DUMP_LOST_CNT.COUNT).evt R.PMC.EVT.DUMP_LOST

/-- The dump of a grid instant. -/
def State.gridDump (g tick : Nat) (late : Bool) (s : State) : State :=
  (s.putDump (some g) tick late false).modPmc fun p => { p with lastDump := some (g : Int) }

/-- A step moves the grid (R574): instants it passes are counted, instants reached again are latched again. -/
def State.pmcStep (d : Int) (s : State) : State :=
  match s.pmc.lastDump with
  | none => s
  | some t =>
    let p : Int := s.dumpPeriod
    let before := s.now - d
    let passed := if 0 < d ∧ s.flag R.PMC.DUMP_CFG.EN = true then ((s.now - 1) / p - before / p).toNat else 0
    let last := if 0 < d then max t (s.now - 1) else min t (s.now - 1)
    s.modPmc fun m => { m with lastDump := some last, skipped := m.skipped + passed, stepped := true }

/-! ### Temperature of the oscillator (R583) -/

/-- θ formed at a second boundary from its source, if that is fresh; the seconds since each reading go on. -/
def State.formTheta (s : State) : State :=
  let src := s.get R.PMC.TEL_CFG.THETA_SRC
  let k := s.get R.PMC.TEL_CFG.EXT_K
  let fresh (age : Option Nat) (span : Nat) : Bool := match age with | some a => decide (a < span) | none => false
  let v : Option Nat :=
    if src = 0 then (if fresh s.pmc.oscAge (2 * s.get R.OSC.UART.STAT_POLL) then some (s.get R.OSC.TEMP.TEMP) else none)
    else if src = 1 then (if fresh (Map.get? s.pmc.extAge k) 2 then Map.get? s.pmc.extLast k else none)
    else none
  let s1 := (s.set R.PMC.THETA.TEMP (v.getD 0x8000)).setB R.PMC.STAT.THETA_OK v.isSome
  s1.modPmc fun p => { p with oscAge := p.oscAge.map (· + 1), extAge := p.extAge.map (fun e => (e.1, e.2 + 1)) }

/-! ### The second -/

/-- A trigger is due: 2^LOG_INT cycles of CK_CORE, of which 8 are 5 ticks of CK_HRT, have passed since the last (R575). Where no tick
passes, the command itself says so (log entry 126). -/
def State.triggerDue (s : State) : Bool :=
  match s.pmc.sampAt with
  | some t => !s.ticking || decide (5 * 2 ^ s.get R.PMC.SAMP_CFG.LOG_INT ≤ 8 * (s.hearth.tick - t).toNat)
  | none => true

/-- A trigger that is due at a second needs the last one no longer: tick numbers return after 2^32 ticks. -/
def State.sampAged (s : State) : State := if s.triggerDue then s.modPmc fun p => { p with sampAt := none } else s

/-- The sample ring. -/
def sampRing : RingRegs :=
  ⟨R.PMC.SAMP_BASE_LO.ADDR, R.PMC.SAMP_BASE_HI.ADDR, R.PMC.SAMP_SIZE.SIZE, R.PMC.SAMP_WR.PTR, R.PMC.SAMP_RD.PTR⟩

/-- What a change of the block's configuration brings, against the state before it; the grid of a new period begins with that
second (R570). -/
def State.pmcChanged (old s : State) : State :=
  let s1 := (s.ringMoved dumpRing old).ringMoved sampRing old
  let s2 := s1.setB R.PMC.STAT.DUMP_ACTIVE (s1.flag R.PMC.DUMP_CFG.EN && s1.flag R.MEM.STAT.READY)
  let s3 := (List.range 4).foldl (fun st k =>
    if old.differ st (R.PMC.TEL_EXT.ADDR k) then
      (st.set (R.PMC.TEL_EXT.TEMP k) 0x8000).modPmc fun p => { p with extAge := Map.del p.extAge k, extLast := Map.del p.extLast k }
    else st) s2
  if (old.differ s3 R.PMC.DUMP_CFG.EN || old.differ s3 R.PMC.DUMP_CFG.PERIOD) && s3.flag R.PMC.DUMP_CFG.EN && s3.hearth.running then
    s3.modPmc fun p => { p with lastDump := some ((s3.second * secU : Nat) - 1 : Int) }
  else s3

/-- The block's second boundary, `old` the state before the boundary's writes: the dump of that instant goes before a commit
of SEL (R568, R585). -/
def State.pmcSecond (old : State) (s : State) : State :=
  let s1 := State.pmcChanged old s
  let b := s1.second * secU
  let s2 := if (s1.committed .pmcSel).isSome && s1.dumpDue.isSome && s1.pmc.lastDump.any (fun (t : Int) => decide (t < (b : Nat))) &&
      b % s1.dumpPeriod == 0 then s1.gridDump b s1.hearth.tick.toNat false else s1
  s2.eventsTake.formTheta.showRefresh.sampAged

/-! ### The commands -/

/-- PMC_SEL_COMMIT (R568). -/
def execPmcSelCommit (s : State) : Out := .next (s.commit .pmcSel R.PMC.CTL.SEL_COMMIT)

/-- DUMP_NOW (R570): one record off the grid, once DRAM is ready (R574), with the CK_CORE replica's time. DESIGN CHOICE: with NOTIME
where that is invalid (R59; log entry 115). -/
def execDumpNow (tally : Tally) (tick : Word) (late : Bool) (s : State) : Out :=
  let s1 := s.takeTally tally
  if !s1.flag R.MEM.STAT.READY then .next s1
  else .next (s1.putDump (if s1.ticking then (s1.replicaTime 0).map Int.toNat else none) tick.toNat late true)

/-- COUNTER_DUMP (R571 to R574): the next dump instant that has been reached; with the Hearth in reset the environment keeps
the grid of CK_HRT ticks. -/
def execCounterDump (tally : Tally) (tick : Word) (late : Bool) (s : State) : Out :=
  let s1 := s.takeTally tally
  if s1.hearth.running then
    match s1.dumpDue with
    | some g => .next (s1.gridDump g tick.toNat late)
    | none => .next s1
  else if s1.hrtRuns && s1.flag R.PMC.DUMP_CFG.EN && s1.flag R.MEM.STAT.READY then
    .next (s1.putDump none tick.toNat late false)
  else .next s1

/-- CNT_LO_READ (R569): the low word, and bits [47:32] latched. -/
def execCntLoRead (i : Fin 1024) (tally : Tally) (s : State) : Out :=
  let s1 := s.takeTally tally
  .next ((s1.modPmc fun p => { p with shadow := s1.get (R.PMC.CNT.HI.COUNT i) }).emit
    (.hostData (BitVec.ofNat 32 (s1.get (R.PMC.CNT.LO.COUNT i)))))

/-- CNT_HI_READ (R569): what the last read of a low word latched. -/
def execCntHiRead (s : State) : Out := .next (s.emit (.hostData (BitVec.ofNat 32 s.pmc.shadow)))

/-- One sample record (R576), with the time of the CK_CORE replica; while the Hearth is held in reset or that replica is invalid
(R59), a free value (log entry 115). -/
def State.sampleRecord (s : State) (thread : Nat) (o : SampleObs) : List Byte :=
  let t : Nat := match (if s.hearth.running then s.replicaTime 0 else none) with | some t => t.toNat | none => s.fresh
  let skid := if o.wait = 0 then o.skid else 0
  leBytes 4 (t % secU / nsU) ++ leBytes 4 (t / secU % 2 ^ 32) ++ leBytes 1 (o.stoker.val + 16 * thread) ++
  leBytes 1 (if o.wait = 0xF then 0 else o.handler.toNat) ++ leBytes 1 (o.step.toNat + 8 * skid) ++ leBytes 1 o.wait.toNat ++
  leBytes 4 s.pmc.sampSeq

/-- The sample of one stoker: dropped where the last is pending or the skid exceeds 6 (R575, R585). -/
def State.takeSample (o : SampleObs) (s : State) : State :=
  let k := o.stoker.val
  let thread := Map.getD s.pmc.turn k 0
  let s1 := s.modPmc fun p => { p with turn := Map.put p.turn k ((thread + 1) % 16) }
  if o.pending || (o.wait == 0 && decide (6 < o.skid)) then s1.inc R.PMC.SAMP_DROP_CNT.COUNT
  else
    let s2 := s1.bump.modPmc fun p => { p with sampSeq := (p.sampSeq + 1) % 2 ^ 32 }
    match s2.ringPut sampRing (s1.sampleRecord thread o) with
    | some s3 => s3
    | none => s2.inc R.PMC.SAMP_LOST_CNT.COUNT

/-- SAMPLE_TRIGGER (R575): every selected stoker of which something is observed gives one sample, in stoker order. -/
def execSampleTrigger (obs : List SampleObs) (s : State) : Out :=
  if !s.flag R.PMC.SAMP_CFG.EN || !s.flag R.MEM.STAT.READY || !s.triggerDue then .next s
  else
    .next (((List.range 16).filterMap (fun k =>
      if bitOf (s.get R.PMC.SAMP_CFG.STOKERS) k then obs.find? (fun o => o.stoker.val == k) else none)).foldl
        (fun st o => st.takeSample o) (s.modPmc fun p => { p with sampAt := some s.hearth.tick }))

/-- The nominal of a rail in mV (R582). -/
def State.railNominal (s : State) (r : Nat) : Nat :=
  if r < 6 then [800, 900, 1200, 1200, 1800, 1800].getD r 0
  else
    let c := bitsOf (s.get R.PMC.TEL_CFG.IO_NOM) (2 * (r - 6)) 2
    if c = 0 then 1800 else if c = 1 then 2500 else 3300

/-- TELEMETRY_SAMPLE (R582): temperatures and supplies shown; a supply out of range in two consecutive samples, and a die
above HOT, are filed as they begin. -/
def execTelemetrySample (die : List (BitVec 16)) (supply : List (BitVec 16)) (s : State) : Out :=
  let s1 := (List.range 4).foldl (fun st k => match die[k]? with | some v => st.set (R.PMC.DIE.TEMP k) v.toNat | none => st) s
  let s2 := (List.range 12).foldl (fun st k =>
    match supply[k]? with | some v => st.set (R.PMC.SUPPLY.MV k) v.toNat | none => st) s1
  let bad := (List.range 12).filter (fun r =>
    let n := s2.railNominal r
    decide (n * 5 < 100 * ((s2.get (R.PMC.SUPPLY.MV r) : Int) - n).natAbs))
  let faulty := bad.filter (fun r => s.pmc.supplyOut.contains r)
  let hot := (List.range 4).filter (fun k => decide ((s2.get R.PMC.TEL_CFG.HOT * 16 : Nat) < s2.sget (R.PMC.DIE.TEMP k)))
  let s3 := (faulty.filter (fun r => !s.pmc.supplyBad.contains r)).foldl (fun st r =>
    (st.evt R.PMC.EVT.SUPPLY).file F.pmcSupply r 0) s2
  let s4 := (hot.filter (fun k => !s.pmc.hot.contains k)).foldl (fun st k =>
    (st.evt R.PMC.EVT.OVERTEMP).file F.pmcOvertemp k 0) s3
  .next (s4.modPmc fun p => { p with supplyOut := bad, supplyBad := faulty, hot := hot })

/-- One external sensor: read, and a failed read marks it stale (R582). -/
def State.extRead (k : Nat) (v : Option (BitVec 16)) (s : State) : State :=
  let a := s.get (R.PMC.TEL_EXT.ADDR k)
  if a = 0 then s
  else
    let s1 := s.emit (.i2cRead a 0 2)
    match v with
    | none => s1.set (R.PMC.TEL_EXT.TEMP k) 0x8000
    | some x =>
      let t := ofSigned 16 (s1.roundFree ((x.toInt : Rat) / 16))
      (s1.bump.set (R.PMC.TEL_EXT.TEMP k) t).modPmc fun p =>
        { p with extAge := Map.put p.extAge k 0, extLast := Map.put p.extLast k t }

/-- EXT_SENSOR_READ (R582): what sensors 0 to 3 answered. -/
def execExtSensorRead (v0 v1 v2 v3 : Option (BitVec 16)) (s : State) : Out :=
  .next (((((s.extRead 0 v0).extRead 1 v1).extRead 2 v2).extRead 3 v3).showRefresh)

end Sys2Proof.Machine
end

