-- ==== Sys2Proof/Machine/Txn.lean ====
section
/-! DEFINITION. Transactions, their contexts, reservations and transmit slots (R381, R382, R385), ports as the flue and the
protocols see them. -/

namespace Sys2Proof.Machine

/-! ### Ports and the flue -/

/-- A port with nothing in it. -/
def EthPort.empty : EthPort :=
  { pauseEnd := none, shadow := none, armed := false, bursts := 0, esmcSent := 0, qlDue := false, lineEnd := 0, lastTx := [],
    unsched := [], headAt := none, linkAt := none, rclkAt := none, esmcAt := none }

/-- Port `p`. -/
def State.port (s : State) (p : Nat) : EthPort := Map.getD s.eth.ports p EthPort.empty

/-- Port `p` changed. -/
def State.modPort (p : Nat) (f : EthPort → EthPort) (s : State) : State :=
  { s with eth := { s.eth with ports := Map.put s.eth.ports p (f (s.port p)) } }

/-- The unscheduled frames of port `p` replaced; a new head begins to wait. DEDUCED: R356's wait of the head counts from when it
becomes the head (log entry 126). -/
def State.setUnsched (p : Nat) (l : List Unsched) (s : State) : State :=
  s.modPort p fun e => { e with unsched := l, headAt := if l.head? = e.unsched.head? then e.headAt else s.mark }

/-- The flue on port `p`. -/
def State.flue (s : State) (p : Nat) : LtsPort := Map.getD s.lts.ports p LtsPort.empty

/-- The flue on port `p` changed. -/
def State.modFlue (p : Nat) (f : LtsPort → LtsPort) (s : State) : State :=
  { s with lts := { s.lts with ports := Map.put s.lts.ports p (f (s.flue p)) } }

/-- The reservations of a port set, and their number shown. -/
def State.setResv (p : Nat) (rs : List Resv) (s : State) : State :=
  (s.modFlue p fun f => { f with resv := rs }).set (R.LTS.PORT.STAT.RESV p) rs.length

/-- The link is UP (R310). -/
def State.linkUp (s : State) (p : Nat) : Bool := s.get (R.ETH.STAT.LINK p) == 3

/-- The port may carry service: UP and not gated (R314, R353). -/
def State.portServes (s : State) (p : Nat) : Bool := s.linkUp p && !s.flag (R.ETH.STAT.HAT_GATED p)

/-- The MAC address of entry `m`, and whether it is enabled (R316). -/
def State.macOf (s : State) (p m : Nat) : List Byte :=
  beBytes 2 (s.get (R.ETH.MAC.HI.ADDR p m)) ++ beBytes 4 (s.get (R.ETH.MAC.LO.ADDR p m))

/-- Entry `m` is enabled. -/
def State.macEn (s : State) (p m : Nat) : Bool := s.flag (R.ETH.MAC.HI.EN p m)

/-! ### Contexts (R382) -/

/-- The transaction in context `c`. -/
def State.txn? (s : State) (c : Nat) : Option Txn := Map.get? s.rse.txns c

/-- The contexts in use, shown; the peak follows. -/
def State.showTxns (s : State) : State :=
  let n := s.rse.txns.length
  (s.set R.RSE.TXN_NOW.COUNT n).set R.RSE.TXN_PEAK.COUNT (max n (s.get R.RSE.TXN_PEAK.COUNT))

/-- The transaction of context `c` replaced. -/
def State.putTxn (c : Nat) (t : Txn) (s : State) : State := s.modRse fun r => { r with txns := Map.put r.txns c t }

/-- The lowest free context; one that port `p` may still take (R382). -/
def State.freeCtx (s : State) (p : Nat) : Option Nat :=
  if s.get (R.RSE.PORTCAP.MAX p) ≤ (s.rse.txns.filter (fun e => e.2.port == p)).length then none
  else (List.range 4096).find? (fun c => (s.txn? c).isNone)

/-- A transaction begins. -/
def State.beginTxn (c : Nat) (t : Txn) (s : State) : State := (s.putTxn c t).showTxns

/-- A transaction ends: its reservation, request, slot and context are released. -/
def State.endTxn (c : Nat) (s : State) : State :=
  match s.txn? c with
  | none => s
  | some t =>
    let s1 := s.setResv t.port ((s.flue t.port).resv.filter (fun r => r.ctx != some c))
    let s2 := s1.setUnsched t.port ((s1.port t.port).unsched.filter (fun u => u != .txn c))
    let s3 := { s2 with lts := { s2.lts with requests := s2.lts.requests.filter (fun x => x != c) } }
    (s3.modRse fun r => { r with txns := Map.del r.txns c, slotWait := r.slotWait.filter (fun x => x != c) }).showTxns

/-- A transaction dropped after DECIDE: its entry counts it (R392, R400). -/
def State.dropTxn (c : Nat) (s : State) : State :=
  match s.txn? c with
  | none => s
  | some t =>
    let s1 := match t.entry with
      | some n => if t.step = TxnStep.lookup then s else s.entryCount t.key n 116
      | none => s
    s1.endTxn c

/-! ### Transmit slots (R375, R381) -/

/-- The ENGINE transmit rings of a port. -/
def State.engineTx (s : State) (p : Nat) : List (Nat × Ring) :=
  s.rse.rings.filter (fun e => e.1 / 256 == p && e.1 / 128 % 2 == 1 && e.2.role == 1 && e.2.logN != 0)

/-- The slots in use. -/
def State.usedSlots (s : State) : List (Nat × Nat) := s.rse.txns.filterMap (fun e => e.2.slot)

/-- The first free slot of a port's ENGINE transmit rings. -/
def State.freeSlot (s : State) (p : Nat) : Option (Nat × Nat) :=
  let used := s.usedSlots
  (s.engineTx p).findSome? (fun e => ((List.range (2 ^ e.2.logN)).find? (fun j => !used.contains (e.1, j))).map (fun j => (e.1, j)))

/-- Bytes of a slot by its code: 2, 4, 8 or 16 KiB. -/
def slotBytes (code : Nat) : Nat := 2048 * 2 ^ code

/-- A frame written into a transaction's slot. -/
def State.storeFrame (sl : Nat × Nat) (f : List Byte) (s : State) : State :=
  match Map.get? s.rse.rings sl.1 with
  | some r => s.dramWrite (r.buf + sl.2 * slotBytes r.slot) f
  | none => s

/-- A frame or descriptor of ring `n` cannot be read from DRAM (R579): the frame is dropped and added to the ring's count. -/
def State.ringPoisoned (n : Nat) (s : State) : State :=
  match Map.get? s.rse.rings n with
  | some r => (s.modRse fun x => { x with rings := Map.put x.rings n { r with drops := r.drops + 1 } }).evt R.RSE.EVT.RING_DROP
  | none => s

/-- The words with an uncorrectable error that a transaction's frame has in its transmit slot. -/
def State.slotBad (s : State) (t : Txn) : List Nat :=
  match t.slot with
  | some sl => (Map.get? s.rse.rings sl.1).elim [] fun r => s.badWords (r.buf + sl.2 * slotBytes r.slot) t.out.length
  | none => []

/-! ### Deadlines (R385, R599) -/

/-- The response deadline in 2^-16 ns. -/
def State.respDeadline (s : State) : Int := s.get R.RSE.RESP.DL_US * (1000 * (nsU : Int))

/-- The share of an upper limit of `d` that lower retries have: floor(NEST_FRAC × D / 16) (R599). -/
def State.nestShare (s : State) (d : Int) : Int := (s.get R.FLT.CFG.NEST_FRAC : Int) * d / 16

/-! ### The state of the serving instances (R414) -/

/-- STATE of the serving instance of port `p`: 0 DISABLED, 1 LISTENING, 2 MASTER. -/
def State.ptpStateOf (s : State) (p : Nat) : Nat :=
  if !s.flag (R.PRO.PORT.CFG.EN p) then 0
  else if s.flag R.RED.STAT.HOLDING && !s.flag (R.ETH.STAT.HAT_GATED p) && s.linkUp p &&
      (s.get R.TSC.STAT.STATE != 0 || s.flag R.PRO.CFG.SERVE_UNSET) then 2
  else 1

/-- The states of the serving instances, shown. -/
def State.showPtp (s : State) : State :=
  (List.range 4).foldl (fun st p => st.set (R.PRO.PORT.STAT.STATE p) (st.ptpStateOf p)) s

end Sys2Proof.Machine
end

