-- ==== Sys2Proof/Machine/Build.lean ====
section
/-! DEFINITION. What the stokers write into frames: NTP replies (R428 to R433), PTP messages (R415 to R419), the step BUILD of
a transaction and the operations it issues to the glovebox (R370, R454, R460). -/

namespace Sys2Proof.Machine

/-! ### Received messages -/

/-- The UDP payload of a frame, or what follows the EtherType where there is none. -/
def payloadOf (frame : List Byte) : List Byte :=
  match ipView (ethView frame) with
  | some p => if p.proto = 17 then (udpView p).payload else []
  | none => (ethView frame).body

/-- The PTP message of a frame, cut to its messageLength. -/
def ptpOf (frame : List Byte) : List Byte := let m := payloadOf frame; m.take (be m 2 2)

/-- correctionField of a message, in 2^-16 ns. -/
def ptpCorr (m : List Byte) : Int := toSigned 64 (be m 8 8)

/-- A PTP Timestamp at an offset, in 2^-16 ns. -/
def ptpStamp (m : List Byte) (i : Nat) : Int := (be m i 6 * secU + be m (i + 6) 4 * nsU : Nat)

/-! ### NTP (R429, R430, R433) -/

/-- A UTC instant in seconds as an NTP timestamp, rounded to the nearest unit (R430). -/
def ntpOf (u : Rat) : Nat := (((u + 2208988800) * (2 ^ 32 : Nat) + 1 / 2).floor % (2 ^ 64 : Nat)).toNat

/-- The length of a smear window. -/
def State.smearLen (s : State) (k : Nat) : Int := s.get (R.PRO.SMEAR.W k) * secI

/-- The start of the window that a pending leap gives (R432). -/
def State.smearStart (s : State) (k : Nat) : Int :=
  let w := s.smearLen k
  (s.leapAt : Int) * secI - (if s.flag (R.PRO.SMEAR.CENTER k) then w / 2 else w)

/-- The leap of an open window has been withdrawn: none is pending, and the current offset is still the latched one (R433). -/
def State.smearWithdrawn (s : State) (m : Smear) : Bool :=
  !s.flag R.TSC.LEAP_NEXT.PENDING && s.sget R.TSC.LEAP_CUR.OFFSET == m.cur

/-- The smear that rules replies leaving at `t` from address index `k` (R432, R433). -/
def State.smearFor (s : State) (k : Nat) (t : Int) : Option Smear :=
  if !s.flag (R.PRO.SMEAR.EN k) then none
  else match Map.get? s.pro.smears k with
    | some m =>
      if m.start ≤ t ∧ t < m.start + s.smearLen k ∧ s.smearWithdrawn m = false then some m else none
    | none =>
      let ts := s.smearStart k
      if s.flag R.TSC.LEAP_NEXT.PENDING ∧ ts ≤ t ∧ t < ts + s.smearLen k ∧ ¬ s.pro.smeared.contains k = true then
        some ⟨s.sget R.TSC.LEAP_CUR.OFFSET, s.sget R.TSC.LEAP_NEXT.OFFSET - s.sget R.TSC.LEAP_CUR.OFFSET, ts⟩
      else none

/-- UTC of an instant in seconds (R41, R430), smeared where a smear rules (R433). -/
def State.utcAt (s : State) (k : Nat) (smear : Option Smear) (t : Int) : Rat :=
  match smear with
  | some m => (t : Rat) / (secI : Rat) - m.cur - ((t - m.start : Int) : Rat) / (s.smearLen k : Rat) * m.delta
  | none =>
    let sec := t / secI
    ((s.utcOf sec.toNat 0).1 : Rat) + ((t - sec * secI : Int) : Rat) / (secI : Rat)

/-- The leap indicator of a reply (R429, R433). -/
def State.leapIndicator (s : State) (smear : Option Smear) (t : Int) : Nat :=
  let at_ : Int := (s.leapAt : Int) * secI
  let win : Int := s.get R.PRO.NTP_CFG.LI_WINDOW * 3600 * secI
  if s.get R.EBD.STAT.STRATUM = 16 then 3
  else if smear.isSome then 0
  else if s.flag R.TSC.LEAP_NEXT.PENDING ∧ at_ - win ≤ t ∧ t < at_ then
    (if s.sget R.TSC.LEAP_CUR.OFFSET < s.sget R.TSC.LEAP_NEXT.OFFSET then 1 else 2)
  else 0

/-- The reference ID (R429). -/
def State.refId (s : State) : Nat :=
  let st := s.get R.EBD.STAT.STRATUM
  let sl := s.get R.EBD.STAT.SLOT
  if st = 16 then 0
  else if st ≠ 1 ∧ 9 ≤ sl ∧ sl ≤ 12 then s.get (R.PRO.PREF.UP_ID_HI.ID (sl - 9))
  else s.get (R.PRO.REFID.ID sl)

/-- A request's poll clamped (R429). -/
def State.ntpPoll (s : State) (req : List Byte) : Nat :=
  ofSigned 8 (max (s.get R.PRO.NTP_CFG.MINPOLL : Int) (min (s.get R.PRO.NTP_CFG.MAXPOLL : Int) (toSigned 8 (be req 2 1))))

/-- The 48-byte header of a reply that leaves at `tL` from address index `k` (R429). The reference timestamp is free while no
anchor has been. -/
def State.ntpHeader (s : State) (k : Nat) (req : List Byte) (tRx tL : Int) : List Byte :=
  let smear := s.smearFor k tL
  let stamp (t : Int) : List Byte := beBytes 8 (ntpOf (s.utcAt k (s.smearFor k t) t))
  let vn := be req 0 1 / 8 % 8
  beBytes 1 (s.leapIndicator smear tL * 64 + vn * 8 + 4) ++ beBytes 1 (s.get R.EBD.STAT.STRATUM) ++
  beBytes 1 (s.ntpPoll req) ++ beBytes 1 (s.get R.PRO.NTP_CFG.PRECISION) ++ beBytes 4 0 ++
  beBytes 4 (ntpDispersion (s.coreRecord.ebAt tL)) ++ beBytes 4 s.refId ++
  (if s.ebd.tm = 0 then beBytes 8 s.fresh else stamp s.ebd.tm) ++ slice req 40 8 ++ stamp tRx ++ stamp tL

/-- The header of a Kiss-o'-Death (R431, R455). It carries no time and no EB. -/
def State.kodHeader (s : State) (code req : List Byte) : List Byte :=
  beBytes 1 (3 * 64 + be req 0 1 / 8 % 8 * 8 + 4) ++ [0] ++ beBytes 1 (s.ntpPoll req) ++
  beBytes 1 (s.get R.PRO.NTP_CFG.PRECISION) ++ beBytes 8 0 ++ slice code 0 4 ++ beBytes 8 0 ++ slice req 40 8 ++ beBytes 16 0

/-! ### PTP (R410, R415 to R419) -/

/-- The chip's clockIdentity. -/
def State.clockId (s : State) : List Byte := beBytes 4 (s.get R.PRO.CLKID_HI.ID) ++ beBytes 4 (s.get R.PRO.CLKID_LO.ID)

/-- The sourcePortIdentity of port `p` (R415). -/
def State.portId (s : State) (p : Nat) : List Byte := s.clockId ++ beBytes 2 (p + 1)

/-- A PTP Timestamp: seconds and nanoseconds. -/
def ptpTime (t : Int) : List Byte := beBytes 6 (t / secI).toNat ++ beBytes 4 ((t % secI).toNat / nsU)

/-- The fraction of an instant, which goes into correctionField (R417). -/
def ptpFrac (t : Int) : Int := t % (nsU : Int)

/-- A PTP message: its header with messageLength, its body and TLVs. -/
def ptpMessage (typ domain flags0 flags1 : Nat) (corr : Int) (src : List Byte) (seq ctl : Nat) (log : Int)
    (body : List Byte) : List Byte :=
  beBytes 1 typ ++ [0x12] ++ beBytes 2 (34 + body.length) ++ beBytes 1 domain ++ [0] ++ beBytes 1 flags0 ++
  beBytes 1 flags1 ++ beBytes 8 (ofSigned 64 corr) ++ beBytes 4 0 ++ src ++ beBytes 2 seq ++ beBytes 1 ctl ++
  beBytes 1 (ofSigned 8 log) ++ body

/-- The currentUtcOffset at `t` (R415). -/
def State.utcOffsetAt (s : State) (t : Int) : Nat :=
  if s.flag R.TSC.LEAP_NEXT.PENDING ∧ (s.leapAt : Int) * secI ≤ t then s.get R.TSC.LEAP_NEXT.OFFSET
  else s.get R.TSC.LEAP_CUR.OFFSET

/-- The flags of an Announce, second byte (R415). -/
def State.announceFlags (s : State) (eb : Nat) (t : Int) : Nat :=
  let at_ : Int := (s.leapAt : Int) * secI
  let soon := s.flag R.TSC.LEAP_NEXT.PENDING && decide (at_ - 43200 * secI ≤ t) && decide (t < at_)
  let up := decide (s.sget R.TSC.LEAP_CUR.OFFSET < s.sget R.TSC.LEAP_NEXT.OFFSET)
  ofBool (soon && up) + 2 * ofBool (soon && !up) + 4 * ofBool (s.get R.TSC.LEAP_CUR.SRC != 0) + 8 +
    16 * ofBool (eb != 0xFFFFFFFF && decide (eb ≤ s.get R.PRO.CFG.TRACE_EB * 256)) + 32 * ofBool (s.ebMode != 0)

/-- The timeSource of an Announce (R415). -/
def State.timeSource (s : State) : Nat :=
  let sl := s.get R.EBD.STAT.SLOT
  if s.ebMode ≠ 1 then 0xA0 else if sl = 8 then 0x20 else if 9 ≤ sl ∧ sl ≤ 12 then 0x40 else 0x90

/-- The IEEE_C37_238 TLV (R419). -/
def State.c37Tlv (s : State) (eb : Nat) : List Byte :=
  beBytes 2 3 ++ beBytes 2 0x10 ++ beBytes 3 0x1C129D ++ beBytes 3 2 ++ beBytes 2 (s.get R.PRO.C37.GM_ID) ++ beBytes 4 0 ++
  beBytes 4 (if eb = 0xFFFFFFFF then eb else ceilDiv eb 256)

/-- masterLockingStatus by SEL's state (R418). -/
def State.lockingStatus (s : State) : Nat :=
  match s.get R.SEL.STAT.STATE with
  | 0 => 1
  | 1 => 4
  | _ => 3

/-- The SMPTE ST 2059-2 synchronization metadata TLV (R418). -/
def State.smpteTlv (s : State) : List Byte :=
  let data := ((List.range 11).flatMap (fun i => beBytes 4 (s.get (R.PRO.SMPTE_TLV.DATA i)))).take 42
  beBytes 2 3 ++ beBytes 2 0x30 ++ beBytes 3 0x6897E8 ++ beBytes 3 1 ++ splice data 8 (beBytes 1 s.lockingStatus)

/-- The organization TLV where its message enables it (R87). -/
def State.orgTlv (s : State) (en : Field) (t : Int) : List Byte := if s.flag en then s.ebTlv t else []

/-- A PTP message of a transaction that leaves at `tL`, without an AUTHENTICATION TLV (R415 to R419, R427). -/
def State.ptpBody (s : State) (t : Txn) (tL : Int) : List Byte :=
  let p := t.port
  let req := ptpOf t.frame
  let dom := if t.client then s.get (R.PRO.PREF.CFG.DOMAIN p) else s.get (R.PRO.PORT.CFG.DOMAIN p)
  let uni := if isGroupMac t.peer.mac then 0 else 4
  let src := s.portId p
  let twoStep := s.flag (R.PRO.PORT.CFG.TWO_STEP p)
  match t.reply with
  | .sync =>
    if twoStep then ptpMessage 0 dom (uni + 2) 0 0 src t.seq 0 t.log (ptpTime tL ++ s.orgTlv R.EBD.TLV_CFG.EN_SYNC tL)
    else ptpMessage 0 dom uni 0 (ptpFrac tL) src t.seq 0 t.log (ptpTime tL ++ s.orgTlv R.EBD.TLV_CFG.EN_SYNC tL)
  | .followUp => ptpMessage 8 dom uni 0 (ptpFrac t.origin) src t.seq 2 t.log (ptpTime t.origin)
  | .delayResp =>
    ptpMessage 9 dom uni 0 (ptpCorr req - ptpFrac t.start) src (be req 30 2) 3 (s.sget (R.PRO.PORT.INTV.LOG_MIN_DREQ p))
      (ptpTime t.start ++ slice req 20 10 ++ s.orgTlv R.EBD.TLV_CFG.EN_DELAY_RESP tL)
  | .pdelayResp =>
    ptpMessage 3 dom uni 0 (ptpCorr req + (tL - t.start)) src (be req 30 2) 5 127
      (beBytes 10 0 ++ slice req 20 10 ++ s.orgTlv R.EBD.TLV_CFG.EN_PDELAY_RESP tL)
  | .announce =>
    let eb := s.coreRecord.ebAt tL
    ptpMessage 0xB dom uni (s.announceFlags eb tL) 0 src t.seq 5 t.log
      (beBytes 10 s.fresh ++ beBytes 2 (s.utcOffsetAt tL) ++ [0] ++ beBytes 1 (s.get (R.PRO.PORT.DS.PRIORITY1 p)) ++
        beBytes 1 (s.get R.EBD.STAT.CLASS) ++ beBytes 1 (clockAccuracy eb) ++ beBytes 2 (s.oslv eb) ++
        beBytes 1 (s.get (R.PRO.PORT.DS.PRIORITY2 p)) ++ s.clockId ++ beBytes 2 0 ++ beBytes 1 s.timeSource ++
        s.orgTlv R.EBD.TLV_CFG.EN_ANNOUNCE tL ++ (if s.get (R.PRO.PORT.CFG.PROFILE p) = 4 then s.c37Tlv eb else []))
  | .management =>
    ptpMessage 0xD dom uni 0 0 src t.seq 4 127
      (List.replicate 10 0xFF ++ beBytes 2 s.fresh ++ [3, 0] ++ s.smpteTlv)
  | .signaling tlvs =>
    ptpMessage 0xC dom uni 0 0 src t.seq 5 127 ((if req.length < 30 then List.replicate 10 0xFF else slice req 20 10) ++ tlvs)
  | .delayReq => ptpMessage 1 dom uni 0 0 src t.seq 1 127 (ptpTime tL)
  | .pdelayReq => ptpMessage 2 dom uni 0 0 src t.seq 5 127 (ptpTime tL ++ beBytes 10 0)
  | _ => []

/-! ### Frames of a transaction -/

/-- The reply is a PTP message. -/
def Reply.isPtp : Reply → Bool
  | .ntp | .nts | .kod _ | .raw _ => false
  | _ => true

/-- The reply is scheduled (R350, R420). -/
def Reply.scheduled : Reply → Bool
  | .kod _ | .management | .signaling _ | .raw _ => false
  | _ => true

/-- The reply's PTP message is an event message. -/
def Reply.isEvent : Reply → Bool
  | .sync | .delayReq | .pdelayReq | .pdelayResp => true
  | _ => false

/-- The header bytes that no rule gives, drawn freely. -/
def State.ipFree (s : State) : IpFree :=
  ⟨s.fresh, s.bump.fresh, s.bump.bump.fresh, s.bump.bump.bump.fresh⟩

/-- A payload in its frame (R411). -/
def State.frameOf (s : State) (t : Txn) (payload : List Byte) : List Byte :=
  match t.reply with
  | .raw f => withFcs f
  | r =>
    if t.srcIp = [] then ethFrame t.peer.mac t.srcMac t.peer.tags 0x88F7 payload
    else
      let (sp, dp) := if r.isPtp then (if r.isEvent then (319, 319) else (320, 320)) else (123, t.peer.port)
      ethFrame t.peer.mac t.srcMac t.peer.tags (ipType t.srcIp)
        (ipPacket s.ipFree t.srcIp t.peer.ip 17 (udpDatagram t.srcIp t.peer.ip sp dp payload))

/-- The payload of a reply that the glovebox does not seal, at `tL`. -/
def State.plainPayload (s : State) (t : Txn) (tL : Int) : List Byte :=
  let req := payloadOf t.frame
  match t.reply with
  | .ntp | .nts => s.ntpHeader t.addr req t.start tL
  | .kod code => s.kodHeader code req ++ (match t.nts with | some n => n.uid | none => [])
  | .raw _ => []
  | _ => s.ptpBody t tL

/-- The length of a transaction's frame, L of R352. -/
def State.frameLen (s : State) (t : Txn) : Nat :=
  let n := match t.reply, t.nts with
    | .nts, some x => ntsReplyLen x.uid.length x.wanted
    | r, _ => (s.plainPayload t s.now).length + (if r.isPtp then s.authLen t.port t.client else 0)
  (s.frameOf t (List.replicate n 0)).length

/-! ### BUILD and AUTH (R357, R370, R454, R457, R460) -/

/-- A frame is complete: dropped where it is longer than its reservation (R357), else it waits for its release, or for its
turn among the unscheduled frames. -/
def State.frameDone (c : Nat) (f : List Byte) (s : State) : State :=
  match s.txn? c with
  | none => s
  | some t =>
    if t.reply.scheduled then
      if t.len < f.length then
        ((s.evt (R.LTS.PORT.EVT.LENGTH t.port)).inc (R.LTS.PORT.DROP_LEN.COUNT t.port)).dropTxn c
      else
        let s1 := match t.slot with | some sl => s.storeFrame sl f | none => s
        s1.putTxn c { t with out := f, step := .queued, ops := [] }
    else
      let s1 := match t.slot with | some sl => s.storeFrame sl f | none => s
      (s1.putTxn c { t with out := f, step := .unsched, ops := [] }).setUnsched t.port ((s1.port t.port).unsched ++ [.txn c])

/-- The seal of an NTS reply is issued (R454, R457). -/
def State.issueSeal (c : Nat) (t : Txn) (n : NtsCtx) (tL : Int) (s : State) : State :=
  let (pl, s1) := s.bump.ntsSeal (s.ntpHeader t.addr (payloadOf t.frame) t.start tL) n.uid n.cookies n.s2c
  let f := s1.frameOf t pl
  (s1.bump.bump.bump.bump).putTxn c { t with out := f, step := .auth, ops := [.seal] }

/-- BUILD of a transaction with its slot taken, for a frame that leaves at `tL`. -/
def State.buildAt (c : Nat) (t : Txn) (tL : Int) (s : State) : State :=
  let bumped := s.bump.bump.bump.bump.bump
  match t.reply, t.nts with
  | .nts, some n =>
    if t.ops.contains .mint then s.putTxn c { t with step := .auth } else s.issueSeal c t n tL
  | r, _ =>
    let pl := s.plainPayload t tL
    if r.isPtp ∧ (s.authOf t.port t.client).1 ≠ 0 then
      match s.signMessage t.port t.client pl with
      | none => (s.inc R.GLV.PTP_FAIL.COUNT).dropTxn c
      | some (m, s1) => ({ s1 with freeCtr := s1.freeCtr + 5 }).putTxn c
          { t with out := s.bump.frameOf t m, step := .auth, ops := [.sign] }
    else (bumped.putTxn c t).frameDone c (s.bump.frameOf t pl)

/-- What a packet boundary on the sending side brings into force: the enables of the organization TLV (R13, R87). -/
def State.txBoundary (s : State) : State := s.applyWaiting .packet (fun f => f.addr == R.EBD.TLV_CFG.EN_SYNC.addr)

/-- BUILD (R381): a slot is taken, or the transaction waits for one. -/
def State.build (c : Nat) (s0 : State) : State :=
  let s := s0.txBoundary
  match s.txn? c with
  | none => s
  | some t =>
    match (match t.slot with | some sl => some sl | none => s.freeSlot t.port) with
    | none =>
      (s.putTxn c { t with step := .slot }).modRse fun r =>
        { r with slotWait := if r.slotWait.contains c then r.slotWait else r.slotWait ++ [c] }
    | some sl =>
      let t1 := { t with slot := some sl }
      ((s.putTxn c t1).modRse fun r => { r with slotWait := r.slotWait.filter (fun x => x != c) }).buildAt c t1
        (t.tL.getD s.now)

/-- Slots that have come free go to the transactions that wait, in order. -/
def State.serveSlots (s : State) : State :=
  s.rse.slotWait.foldl (fun st c =>
    match st.txn? c with
    | some t => if (st.freeSlot t.port).isSome then st.build c else st
    | none => st) s

end Sys2Proof.Machine
end

