-- ==== Sys2Proof/Machine/Stats.lean ====
section
/-! DEFINITION. The statistics counters of a port (R322 to R326), and what leaving it counts. -/

namespace Sys2Proof.Machine

/-- Counter `i` of port `p`, 48 bits. -/
def State.stat (s : State) (p i : Nat) : Nat := s.get2 (R.ETH.STATS.LO.COUNT p i) (R.ETH.STATS.HI.COUNT p i)

/-- Counter `i` of port `p` set. -/
def State.setStat (p i v : Nat) (s : State) : State :=
  s.set2 (R.ETH.STATS.LO.COUNT p i) (R.ETH.STATS.HI.COUNT p i) (v % 2 ^ 48)

/-- The HALF bit of counter `i` (R324). -/
def State.setHalf (p i : Nat) (s : State) : State :=
  let f := if i < 32 then R.ETH.HALF0.HALF p else R.ETH.HALF1.HALF p
  (s.set f (putBit (s.get f) (i % 32) true)).evt (R.ETH.EVT.STATS_HALF p)

/-- Counter `i` advanced by `n`; a change of bit 47 sets its HALF bit (R324). -/
def State.statAdd (p i n : Nat) (s : State) : State :=
  let v := s.stat p i
  let s1 := s.setStat p i (v + n)
  if bitOf v 47 = bitOf ((v + n) % 2 ^ 48) 47 then s1 else s1.setHalf p i

/-- Counter `i` advanced by one. -/
def State.statInc (p i : Nat) (s : State) : State := s.statAdd p i 1

/-- The size bin of a length, 0 to 6 (R322). -/
def sizeBin (len : Nat) : Nat :=
  if len ≤ 64 then 0 else if len ≤ 127 then 1 else if len ≤ 255 then 2 else if len ≤ 511 then 3
  else if len ≤ 1023 then 4 else if len ≤ 1518 then 5 else 6

/-- Bits of a tag: the frame is tagged. -/
def isTagged (f : List Byte) : Bool := be f 12 2 == 0x8100

/-- What the addresses, size and tag of a frame count, from the index of the octets' counter on (R315, R322): counters and amounts. -/
def frameCounts (base unicast bins vlan : Nat) (f : List Byte) : List (Nat × Nat) :=
  let cast := if slice f 0 6 = broadcastMac then 2 else if isGroupMac f then 1 else 0
  [(base, f.length), (base + 1, 1), (unicast + cast, 1), (bins + sizeBin f.length, 1)] ++ (if isTagged f then [(vlan, 1)] else [])

/-- A frame counted. -/
def State.countFrame (p base unicast bins vlan : Nat) (f : List Byte) (s : State) : State :=
  (frameCounts base unicast bins vlan f).foldl (fun st e => st.statAdd p e.1 e.2) s

/-- A good received frame counts (R315). -/
def State.countRx (p : Nat) (f : List Byte) (s : State) : State := s.countFrame p 0 2 8 5 f

/-- The time of one byte on the line, in 2^-16 ns (R352). -/
def State.byteTime (s : State) (p : Nat) : Rat := if s.flag (R.ETH.CFG.SPEED p) then 524288 / 25 else 262144 / 5

/-- A frame passed to the transmit PCS: it leaves, counts, and holds the line to the end of its occupancy (R322, R352). -/
def State.sendFrame (p : Nat) (tL : Option Int) (f : List Byte) (s : State) : State :=
  let b := s.byteTime p
  let start : Rat := match tL with
    | some t => t
    | none => max (s.now : Rat) (s.port p).lineEnd + 8 * b
  (((s.emit (.frame p tL f)).countFrame p 32 34 39 37 f).modPort p fun e =>
    { e with lineEnd := start + ((f.length + 12 : Nat) : Rat) * b, lastTx := f })

/-- A frame in transmission is cut short (R312): its last byte does not leave, and what the transmit counters had counted of it is
taken back (R322). -/
def State.cutTx (p : Nat) (s : State) : State :=
  let e := s.port p
  if (s.now : Rat) < e.lineEnd - 12 * s.byteTime p then
    let own : List (Nat × Nat) := if be e.lastTx 12 2 = 0x8809 then [(38, 1)] else []
    (((frameCounts 32 34 39 37 e.lastTx ++ own).foldl (fun st x => st.setStat p x.1 (st.stat p x.1 + 2 ^ 48 - x.2)) s).emit
      (.frameCut p)).modPort p fun e => { e with lineEnd := (s.now : Rat) }
  else s

end Sys2Proof.Machine
end

