-- ==== Sys2Proof/Machine/Flue.lean ====
section
/-! DEFINITION. The flue (chapter 11): the receive mapping, receive timestamps, launch grants, releases, missed launches,
calibration. -/

namespace Sys2Proof.Machine

/-- Picoseconds in units of 2^-16 ns. -/
def psR (ps : Int) : Rat := (ps : Rat) * 8192 / 125

/-- The same of a fraction of picoseconds. -/
def psR' (ps : Rat) : Rat := ps * 8192 / 125

/-- One bit on the line, in 2^-16 ns (R346). -/
def State.uiTime (s : State) (p : Nat) : Rat := s.byteTime p * 4 / 33

/-! ### The receive mapping (R343, R345) -/

/-- The least-squares line over stamps (cycle, instant), about the newest: offset there and period (R343). -/
def mapFit (st : List (Int × Int)) : Rat × Rat :=
  match st with
  | [] => (0, 0)
  | (c0, t0) :: _ =>
    let n : Rat := st.length
    let xs : List Rat := st.map (fun e => ((e.1 - c0 : Int) : Rat))
    let ys : List Rat := st.map (fun e => ((e.2 - t0 : Int) : Rat))
    let sx := xs.sum
    let sy := ys.sum
    let sxx := (xs.map (fun x => x * x)).sum
    let sxy := (xs.zipWith (· * ·) ys).sum
    let d := n * sxx - sx * sx
    if d = 0 then (sy / n, 0)
    else
      let b := (n * sxy - sx * sy) / d
      ((sy - b * sx) / n, b)

/-- The instant that the mapping gives cycle `c`, counted from its newest stamp. -/
def mapAt (st : List (Int × Int)) (c : Int) : Rat :=
  match st with
  | [] => 0
  | (_, t0) :: _ => let (a, b) := mapFit st; (t0 : Rat) + a + b * c

/-- The nominal period of the recovered word clock, in 2^-16 ns: 64 bits. -/
def State.wordTime (s : State) (p : Nat) : Rat := 64 * s.uiTime p

/-- The residual of the mapping in ps, squared: its mean square. -/
def mapMs (st : List (Int × Int)) : Rat :=
  match st with
  | [] => 0
  | (c0, t0) :: _ =>
    let (a, b) := mapFit st
    let r := st.map (fun e => let d := ((e.2 - t0 : Int) : Rat) - a - b * ((e.1 - c0 : Int) : Rat); d * d)
    r.sum / (st.length : Nat) * (125 * 125) / (8192 * 8192)

/-- The mapping's validity set; its loss sets the event. -/
def State.mapInvalid (p : Nat) (s : State) : State :=
  (s.set (R.LTS.PORT.STAT.MAP_VALID p) 0).modFlue p fun f => { f with stamps := [], accepted := 0, discards := 0 }

/-- A stamp of every 1,024th recovered edge (R343). Its cycle number is the multiple of 1,024 nearest to where the mapping
has it. -/
def State.mapStamp (p : Nat) (t : Int) (s : State) : State :=
  let f := s.flue p
  if !(s.get (R.ETH.STAT.LINK p) == 2 || s.get (R.ETH.STAT.LINK p) == 3 || s.get (R.ETH.STAT.LINK p) == 4) || f.txphRun then s
  else
    match f.stamps with
    | [] => s.modFlue p fun f => { f with stamps := [(0, t)], accepted := 1, discards := 0 }
    | (c0, t0) :: rest =>
      let period := 1024 * (if rest = [] then s.wordTime p else (mapFit f.stamps).2)
      let base : Rat := if rest = [] then (t0 : Rat) else mapAt f.stamps 0
      let k := (((t : Rat) - base) / period + 1 / 2).floor
      let res := (t : Rat) - (base + period * k)
      if rest ≠ [] ∧ (psR 50 < res ∨ res < psR (-50)) then
        if f.discards = 2 then
          let s1 := s.mapInvalid p
          if s.flag (R.LTS.PORT.STAT.MAP_VALID p) then
            (s1.evt (R.LTS.PORT.EVT.MAP_BAD p)).file F.ltsMapBad p 0
          else s1
        else s.modFlue p fun f => { f with discards := f.discards + 1 }
      else
        let st := ((c0 + 1024 * k, t) :: f.stamps).take 16
        let acc := f.accepted + 1
        let ms := mapMs st
        let s1 := s.modFlue p fun f => { f with stamps := st, accepted := acc, discards := 0 }
        let s2 := s1.bump.set (R.LTS.PORT.MAP_RMS.PS p)
          (satN 16 (if s1.fresh % 2 = 0 then isqrt ms.floor.toNat else isqrtUp ms.ceil.toNat))
        if 16 ≤ acc then s2.set (R.LTS.PORT.STAT.MAP_VALID p) 1 else s2

/-- A step adds D to every stamp (R345). -/
def State.mapStep (d : Int) (s : State) : State :=
  { s with lts := { s.lts with ports := s.lts.ports.map (fun (p, f) =>
      (p, { f with stamps := f.stamps.map (fun (c, t) => (c, t + d)) })) } }

/-- Time as the CK_PCS replica of port `p` read it `age` units before now (R348). DESIGN CHOICE: while that replica is invalid (R59)
the stamp has no source that any rule names, and is a free value (log entry 115). -/
def State.pcsTime (s : State) (p age : Nat) : Int :=
  match s.replicaTime (2 + p) with
  | some t => t - age
  | none => s.fresh

/-- T_rx and COARSE of a frame (R346, R348, R349): the cycle of its word counted from the mapping's newest stamp, the bit
position, and for the replica how long before now the cycle began; a point that crossed before a step in this tick keeps
the value before it. -/
def State.rxStamp (s : State) (p : Nat) (cycle : Int) (k age : Nat) (preStep : Bool) : Int × Bool :=
  let valid := s.flag (R.LTS.PORT.STAT.MAP_VALID p)
  let tc : Rat := if valid then mapAt (s.flue p).stamps cycle else ((s.pcsTime p age : Int) : Rat)
  let span : Int := s.sget2 R.TSC.STEP_LAST_SEC_LO.SEC R.TSC.STEP_LAST_SEC_HI.SEC * (secU : Int) +
    ((s.get R.TSC.STEP_LAST_NS.NS * nsU + s.get R.TSC.STEP_LAST_FRAC.FRAC : Nat) : Int)
  let t := tc - psR (s.get (R.LTS.PORT.PMA_RX.PS p)) + (k : Rat) * s.uiTime p - psR (s.sget (R.LTS.PORT.RX_EXT.PS p))
  ((t + 1 / 2).floor - (if preStep then span else 0), !valid)

/-! ### Grants (R350 to R355) -/

/-- The occupancy of a frame of `len` bytes at `t` (R352). -/
def State.occupancy (s : State) (p len : Nat) (t : Int) : Rat × Rat :=
  ((t : Rat) - 8 * s.byteTime p, (t : Rat) + ((len + 12 : Nat) : Rat) * s.byteTime p)

/-- How an FEC lays blocks out on the line: blocks and bits of a codeword, blocks a group shares and bits of a group, and the bits
of a block. RS-FEC of Clause 108: a codeword is 20 groups of four blocks, 257 bits each, with 140 bits of parity; BASE-R FEC of
Clause 74: 32 blocks of 65 bits with 32 of parity; without FEC a block has 66 bits. PRESUMED: the clauses themselves, which R351
names and does not repeat (log entry 116). -/
def fecLayout (fec : Nat) : Nat × Nat × Nat × Nat × Nat :=
  if fec = 1 then (80, 5280, 4, 257, 64) else if fec = 2 then (32, 2112, 1, 65, 65) else (1, 66, 1, 66, 66)

/-- The bits on the line from the beginning of a codeword to block `n` of those that follow (R351). -/
def fecBits (fec n : Nat) : Nat :=
  let (blocks, bits, share, group, own) := fecLayout fec
  n / blocks * bits + n % blocks / share * group + n % blocks % share * own

/-- The bits on the line from the latest alignment marker of Clause 108, which takes the place of one group in 1,024 codewords, to
block `n` of those that follow; without RS-FEC there are no markers (R351). -/
def lineBits (fec n : Nat) : Nat :=
  if fec = 1 then n / 81916 * (1024 * 5280) + fecBits 1 (n % 81916 + 4) else fecBits fec n

/-- TXPH in force, in ps; until it has been measured the design-nominal transmit phase, which no rule states (R341, R358). -/
def State.txPhase (s : State) (p : Nat) : Rat :=
  if s.flag (R.LTS.PORT.STAT.TXPH_VALID p) then ((s.get (R.LTS.PORT.TXPH.PS p) : Nat) : Rat) else Config.nominalPhase p

/-- The record ahead of tick `k` that announces a change of S to a replica (R23, R57). -/
def Replica.coming (r : Replica) (k : BitVec 32) : Option HearthRecord :=
  r.records.find? (fun x => decide ((k - x.tick).toNat ≥ 2 ^ 31))

/-- The reading of the timescale `x` units of line time after tick `k`: the line follows SYN0 alone, and reads longer by S; after a
change that has been announced, by the new S (R351, R359, R364). -/
def State.lineReads (s : State) (k : BitVec 32) (x : Rat) : Rat :=
  let read (r : HearthRecord) (y : Rat) : Rat := (t96Lin r.lane.time : Nat) + y * (1 + (r.lane.s : Rat) / (10 ^ 15 : Nat))
  let here := read (s.replicaAt 0 k)
  match (s.replica 0).coming s.hearth.tick with
  | some c =>
    let y := x - ((c.tick - k).toInt : Rat) * (524288 / 5)
    if 0 ≤ y then read c y else here x
  | none => here x

/-- Instant `n` of the launch grid that counts on from block `b`: when the timestamp point crosses the reference plane in the `n`-th
block after it (R351). DESIGN CHOICE: rounded to the nearest 2^-16 ns (log entry 116). -/
def State.gridInstant (s : State) (p : Nat) (b : TxBlock) (n : Nat) : Int :=
  let fec := s.get (R.ETH.CFG.FEC p)
  let ui : Nat := 64 * b.cycles + b.bit.toNat + (lineBits fec (b.block + n) - lineBits fec b.block)
  let t := s.lineReads b.tick (psR' (s.txPhase p) + (ui : Rat) * s.uiTime p)
  (t + psR (s.get (R.LTS.PORT.PMA_TX.PS p)) + psR (s.sget (R.LTS.PORT.TX_EXT.PS p)) + 1 / 2).floor

/-- The first instant of a grid not before `least`, by bisection on `fuel` bits of its number. -/
def gridAux (g : Nat → Int) (least : Int) : Nat → Nat → Nat
  | 0, n => n
  | k + 1, n => gridAux g least k (if g (n + 2 ^ k - 1) < least then n + 2 ^ k else n)

/-- The first instant of a port's grid not before `least`, among 2^30. -/
def State.launchFrom (s : State) (p : Nat) (b : TxBlock) (least : Int) : Int :=
  s.gridInstant p b (gridAux (s.gridInstant p b) least 30 0)

/-- What an occupancy that begins at `a` and ends at `b` runs into, by where it ends: a known pause, the frame on the line, or a
reservation (R352). -/
def State.obstacle (s : State) (p : Nat) (a b : Rat) : Option Rat :=
  let ends : List Rat := (match (s.port p).pauseEnd with | some e => [(e : Rat)] | none => []) ++ [(s.port p).lineEnd]
  match ends.find? (fun e => decide (a < e)) with
  | some e => some e
  | none =>
    ((s.flue p).resv.find? (fun r => let (x, y) := s.occupancy p r.len r.tL; decide (x < b) && decide (a < y))).map
      fun r => (s.occupancy p r.len r.tL).2

/-- The search for the first fit: each obstacle on the way is passed once. -/
def State.fitAux (s : State) (p len : Nat) (b : TxBlock) (horizon : Int) : Nat → Int → Option Int
  | 0, _ => none
  | k + 1, least =>
    let t := s.launchFrom p b least
    let (x, y) := s.occupancy p len t
    if t < least ∨ horizon < t then none
    else
      match s.obstacle p x y with
      | none => some t
      | some e => s.fitAux p len b horizon k (max (t + 1) (e + 8 * s.byteTime p).ceil)

/-- The first instant of the grid, not before `least` and within a second of `now`, at which a frame of `len` bytes fits (R352). -/
def State.firstFit (s : State) (p len : Nat) (b : TxBlock) (now least : Int) : Option Int :=
  s.fitAux p len b (now + secI) ((s.flue p).resv.length + 3) least

/-- A reservation put in order of t_L. -/
def insertResv (r : Resv) : List Resv → List Resv
  | [] => [r]
  | x :: xs => if r.tL < x.tL then r :: x :: xs else x :: insertResv r xs

/-- The share of a transaction's response deadline that retries have is spent at `t` (R599). -/
def State.shareSpent (s : State) (t : Txn) (at_ : Int) : Bool := decide (s.nestShare s.respDeadline < at_ - t.start)

/-- A request refused (R353, R361, R384). -/
def State.grantRefuse (c : Nat) (t : Txn) (cause : Nat) (s : State) : State :=
  let s1 := (((s.inc (R.LTS.PORT.REFUSED.COUNT t.port)).count (0x204 + 32 * t.port) 1).set
      (R.LTS.PORT.STAT.REFUSE_CAUSE t.port) cause).evt
    (R.LTS.PORT.EVT.REFUSED t.port)
  if t.tOrig.isSome then (s1.inc (R.LTS.PORT.DROPPED.COUNT t.port)).dropTxn c
  else if cause = 2 ∧ s.shareSpent t s.now = false then s1.putTxn c { t with step := .retry, tried := s.mark }
  else (s1.inc R.RSE.DROP_REFUSED.COUNT).dropTxn c

/-- A launch time granted: the frame is built for it, or a re-time out of budget gives the grant back (R361, R362). -/
def State.grantGive (c : Nat) (t : Txn) (tL : Int) (s : State) : State :=
  let p := t.port
  let s1 := (s.setResv p (insertResv ⟨some c, tL, t.len, 0⟩ (s.flue p).resv)).inc (R.LTS.PORT.GRANTS.COUNT p)
  match t.tOrig with
  | none => (s1.putTxn c { t with tL := some tL, tOrig := some tL }).build c
  | some t0 =>
    let late : Int := s.get (R.LTS.CLASS.LATE_MAX t.cls) * (1000 * (nsU : Int))
    if late < tL - t0 ∨ s.shareSpent t tL = true then (s1.inc (R.LTS.PORT.DROPPED.COUNT p)).dropTxn c
    else
      ((s1.inc (R.LTS.PORT.RETIMED.COUNT p)).putTxn c { t with tL := some tL, retimes := t.retimes + 1 }).build c

/-- The flue's answer to the request of transaction `c` at `now`, over the launch grid of its port (R351 to R353). -/
def State.grant (c : Nat) (now : Int) (block : TxBlock) (s0 : State) : State :=
  let s := { s0 with lts := { s0.lts with requests := s0.lts.requests.filter (fun x => x != c) } }
  match s.txn? c with
  | none => s
  | some t =>
    let resp := t.frame ≠ []
    -- 1.2 µs is 78,643.2 units, 1.5 µs is 98,304
    let least := max t.tReq (max (now + 78644) (if resp then t.start + 98304 else t.tReq))
    if !s.portServes t.port then s.grantRefuse c t 3
    else if 1024 ≤ (s.flue t.port).resv.length then s.grantRefuse c t 2
    else
      match s.firstFit t.port t.len block now least with
      | some tL => s.grantGive c t tL
      | none => s.grantRefuse c t 1

/-! ### Missed launches (R360 to R363) -/

/-- The miss counter of a cause. -/
def missField (p k : Nat) : Field :=
  match k with
  | 1 => R.LTS.PORT.MISS_PAUSE.COUNT p
  | 2 => R.LTS.PORT.MISS_LINK.COUNT p
  | 3 => R.LTS.PORT.MISS_LATE.COUNT p
  | 4 => R.LTS.PORT.MISS_STEP.COUNT p
  | 5 => R.LTS.PORT.MISS_RATE.COUNT p
  | 6 => R.LTS.PORT.MISS_COAST.COUNT p
  | _ => R.LTS.PORT.MISS_HAT.COUNT p

/-- A missed frame is dropped, or asks for a new launch time not before the end of what obstructs it (R361). A reservation
of an unscheduled frame is only given up: the frame keeps its place (R356). -/
def State.missOne (p k : Nat) (obst : Option Int) (r : Resv) (s0 : State) : State :=
  let s := s0.setResv p ((s0.flue p).resv.filter (fun x => x != r))
  match r.ctx with
  | none => s
  | some c =>
    match s.txn? c with
    | none => s
    | some t =>
      let s1 := ((((s.inc (missField p k)).count (0x203 + 32 * p) 1).set (R.LTS.PORT.STAT.MISS_CAUSE p) k).evt
          (R.LTS.PORT.EVT.MISS p)).fileFirst
        F.ltsLaunchMiss p k
      if k = 2 ∨ k = 7 ∨ s.flag (R.LTS.CLASS.POLICY t.cls) = false ∨ t.retimes = s.get (R.LTS.CLASS.RETIME_MAX t.cls) then
        (s1.inc (R.LTS.PORT.DROPPED.COUNT p)).dropTxn c
      else
        let s2 := s1.putTxn c { t with step := .request, tReq := obst.getD r.tL, tL := none }
        { s2 with lts := { s2.lts with requests := s2.lts.requests ++ [c] },
                  rse := { s2.rse with slotWait := s2.rse.slotWait.filter (fun x => x != c) } }

/-- Every reservation of a port that `sel` selects is missed, in order of t_L. -/
def State.missWhere (p k : Nat) (obst : Option Int) (sel : Resv → Bool) (s : State) : State :=
  ((s.flue p).resv.filter sel).foldl (fun st r => st.missOne p k obst r) s

/-- Everything unreleased on a port is missed: its link or the hat is lost (R360, R364), and re-timed frames that wait for a
grant are dropped with it. -/
def State.missAll (p k : Nat) (s : State) : State :=
  let s1 := s.missWhere p k none (fun _ => true)
  (s1.lts.requests.filter (fun c => (s1.txn? c).any (fun t => t.port == p && t.tOrig.isSome))).foldl
    (fun st c => (st.inc (R.LTS.PORT.DROPPED.COUNT p)).dropTxn c) s1

/-- Launches missed on every port. -/
def State.missEvery (k : Nat) (obst : Option Int) (sel : Resv → Bool) (s : State) : State :=
  (List.range 4).foldl (fun st p => st.missWhere p k obst sel) s

/-- Reservations re-mapped after a change that moves their instants by `move` (R359): the drift adds up, and a reservation
beyond DRIFT_TOL is missed with cause RATE. -/
def State.remap (p : Nat) (move : Resv → Rat) (s : State) : State :=
  let rs := (s.flue p).resv.map (fun r => { r with drift := r.drift + move r })
  let tol := psR (s.get R.LTS.CFG.DRIFT_TOL)
  let s1 := s.setResv p rs
  s1.missWhere p 5 none (fun r => decide (tol < r.drift) || decide (r.drift < -tol))

/-! ### Releases (R356 to R358) -/

/-- What a released reply counts in the protocols' counters (R383, R414 to R424, R428, R456). -/
def State.countSent (t : Txn) (s : State) : State :=
  let p := t.port
  let s1 := if t.frame ≠ [] ∧ t.handler ≠ 6 then s.inc R.RSE.ANSWERED.COUNT else s
  match t.reply with
  | .ntp => s1.inc R.PRO.NTP_RESP.COUNT
  | .nts =>
    let n := (t.nts.map (fun x => x.cookies.length)).getD 0
    (s1.inc R.GLV.NTS_OK.COUNT).incBy R.GLV.COOKIES_MINTED.COUNT n
  | .sync => s1.inc (R.PRO.PORT.TX_SYNC.COUNT p)
  | .followUp => s1.inc (R.PRO.PORT.TX_FUP.COUNT p)
  | .announce => s1.inc (R.PRO.PORT.TX_ANN.COUNT p)
  | .delayResp => s1.inc (R.PRO.PORT.TX_DRESP.COUNT p)
  | .pdelayResp => s1.inc (R.PRO.PORT.TX_PDRESP.COUNT p)
  | .management => s1.inc (R.PRO.PORT.TX_MGMT.COUNT p)
  | _ => s1

/-- A transaction without a received frame. -/
def Txn.own (handler p : Nat) (start : Int) (reply : Reply) (peer : Peer) (srcMac srcIp : List Byte) (addr seq : Nat)
    (log : Int) (cls : Nat) (tReq : Int) : Txn :=
  { handler := handler, port := p, frame := [], start := start, coarse := false, step := .request, reply := reply,
    entry := none, key := ⟨0, [], p, []⟩, peer := peer, srcMac := srcMac, srcIp := srcIp, addr := addr, seq := seq,
    log := log, origin := 0, client := false, len := 0, cls := cls, tReq := tReq, tOrig := none, tL := none, retimes := 0,
    tried := none, slot := none, out := [], nts := none, auth := 0, ops := [] }

/-- A transaction of the chip's own begins, if a context is free: its request joins the flue's queue, or its frame is built
at once where it is unscheduled. -/
def State.openTxn (t : Txn) (s : State) : State :=
  match s.freeCtx t.port with
  | none => s
  | some c =>
    let t1 := { t with len := s.frameLen t }
    if t.reply.scheduled then
      let s1 := s.beginTxn c t1
      { s1 with lts := { s1.lts with requests := s1.lts.requests ++ [c] } }
    else (s.beginTxn c { t1 with step := .slot }).build c

/-- The Follow_Up of a two-step Sync that has left (R417, R420). -/
def State.followUp (t : Txn) (tL : Int) (s : State) : State :=
  if t.reply = .sync ∧ s.flag (R.PRO.PORT.CFG.TWO_STEP t.port) = true then
    let fin := (s.occupancy t.port t.out.length tL).2.ceil
    let f := Txn.own 5 t.port s.now .followUp t.peer t.srcMac t.srcIp t.addr t.seq t.log 1 fin
    s.openTxn { f with origin := tL, entry := t.entry, key := t.key }
  else s

/-- The delay exchange that a request of the PREF client began learns its t3 (R427). -/
def State.exchangeSent (t : Txn) (tL : Int) (s : State) : State :=
  match t.reply, Map.get? s.pro.prefs t.port with
  | .delayReq, some f | .pdelayReq, some f =>
    let f1 : Pref := { f with exch := f.exch.map (fun e => if e.seq = t.seq then { e with t3 := some tL } else e) }
    { s with pro := { s.pro with prefs := Map.put s.pro.prefs t.port f1 } }
  | _, _ => s

/-- A scheduled frame passed to the transmit PCS (R357). -/
def State.release (p : Nat) (r : Resv) (c : Nat) (t : Txn) (s : State) : State :=
  let s1 := (s.setResv p ((s.flue p).resv.filter (fun x => x != r))).sendFrame p (some r.tL) t.out
  let s2 := (((s1.inc (R.LTS.PORT.LAUNCHED.COUNT p)).count (0x201 + 32 * p) 1).countSent t).exchangeSent t r.tL
  ((s2.endTxn c).serveSlots).followUp t r.tL

/-- A frame that DRAM delivers poisoned from its transmit slot is dropped (R579). -/
def State.slotLost (c : Nat) (t : Txn) (s : State) : State :=
  let s1 := s.countBad (s.slotBad t)
  let s2 := match t.slot with | some sl => s1.ringPoisoned sl.1 | none => s1
  (s2.dropTxn c).serveSlots

/-! ### Groups -/

/-- A commit of group CLS is accepted: LATE_MAX of 0 is rejected with POLICY = 1. -/
def ltsClsOk (_old new : State) : Bool :=
  (List.range 8).all (fun x => !(new.flag (R.LTS.CLASS.POLICY x) && new.get (R.LTS.CLASS.LATE_MAX x) == 0))

/-- The flue's groups at the second (R368). -/
def State.ltsSecond (s : State) : State :=
  let s1 := s.takeGroup .ltsCls R.LTS.CTL.CLS_COMMIT R.LTS.EVT.CFG_REJECTED ltsClsOk (fun _ new => new)
  (List.range 4).foldl (fun st p =>
    st.takeGroup (.ltsPcal p) (R.LTS.PORT.CTL.COMMIT p) (R.LTS.PORT.EVT.CFG_REJECTED p) (fun _ _ => true) (fun _ new => new)) s1

/-! ### The commands of the chapter -/

/-- A TXPH measurement starts on a port that is ON (R342). -/
def State.txphStart (p : Nat) (s : State) : State :=
  if s.get (R.ETH.STAT.PWR_STATE p) = 2 then s.modFlue p fun f => { f with txphRun := true } else s

/-- TXPH_MEAS (R342). -/
def execTxphMeas (p : Fin 4) (s : State) : Out := .next (s.txphStart p)

/-- TXPH_PERIODIC (R342). -/
def execTxphPeriodic (p : Fin 4) (s : State) : Out := .next (s.txphStart p)

/-- TXPH in ps from the delays of the stamped transmit word edges after their ticks, in units of 2^-16 ps: their mean (R341, R342). -/
def State.txphOf (s : State) (delays : List Nat) : Nat :=
  satN 11 (s.roundFree ((delays.sum : Rat) / (65536 * max 1 delays.length : Nat))).toNat

/-- A measured TXPH is shown; a shift beyond 10 ps is flagged and filed, and the launches that wait follow it (R342, R359). -/
def State.txphTake (p ps : Nat) (s : State) : State :=
  let old := s.get (R.LTS.PORT.TXPH.PS p)
  let first := !s.flag (R.LTS.PORT.STAT.TXPH_VALID p)
  let s1 := (((s.set (R.LTS.PORT.TXPH.PS p) ps).set (R.LTS.PORT.STAT.TXPH_VALID p) 1).set
    (R.LTS.PORT.STAT.COARSE p) 0).modFlue p fun f => { f with txphRun := false }
  let d : Int := (ps : Int) - old
  let s2 := if first = false ∧ 10 < d.natAbs then
      (s1.evt (R.LTS.PORT.EVT.TXPH_SHIFT p)).file F.ltsTxphShift p 0
    else s1
  if d = 0 ∨ first = true then s2 else s2.remap p (fun _ => -psR d)

/-- TXPH_DONE (R342, R359): what the 16 stamps give. It needs the time-interval block in READY. -/
def execTxphDone (p : Fin 4) (delays : List Nat) (s : State) : Out :=
  if (s.flue p).txphRun = false ∨ s.get R.TDC.STAT.STATE ≠ 2 then .next s.bump
  else .next (s.bump.txphTake p (s.txphOf delays))

/-- Time as the flue reads it at a request: from the CK_CORE replica (R352). Requests are held before a step and while SYN0 coasts
(R355). DESIGN CHOICE: so they are while that replica is invalid, when time is unavailable (R59; log entry 115). -/
def State.grantTime (s : State) : Option Int := if s.lts.stepHold || s.lts.coastHold then none else s.replicaTime 0

/-- GRANT_REQUEST (R352 to R355): the flue serves the oldest request. -/
def execGrantRequest (block : TxBlock) (s : State) : Out :=
  match s.grantTime, s.lts.requests with
  | some now, c :: _ => .next (s.grant c now block)
  | _, _ => .next s

/-- HELD_GRANTS_RELEASE (R355): after the interval the requests held are served in order. -/
def execHeldGrantsRelease (blocks : List TxBlock) (s : State) : Out :=
  match s.grantTime with
  | some now => .next ((s.lts.requests.zip blocks).foldl (fun st e => st.grant e.1 now e.2) s)
  | none => .next s

/-- The head unscheduled frame of a port has waited UNSCHED_WAIT (R356). -/
def State.headWaited (s : State) (p : Nat) : Bool :=
  s.passed (s.port p).headAt (s.get R.LTS.CFG.UNSCHED_WAIT * (1000 * nsU))

/-- UNSCHED_RESERVE (R356): the head unscheduled frame, of `len` bytes, has waited and takes the first gap of the grid. -/
def execUnschedReserve (p : Fin 4) (len : BitVec 14) (block : TxBlock) (s : State) : Out :=
  let p := p.val
  if s.portServes p = false ∨ (s.port p).unsched = [] ∨ (s.flue p).resv.any (fun r => r.ctx.isNone) = true ∨
      1024 ≤ (s.flue p).resv.length ∨ s.headWaited p = false then .next s
  else
    match s.grantTime.bind (fun now => s.firstFit p len.toNat block now now) with
    | some t => .next (s.setResv p (insertResv ⟨none, t, len.toNat, 0⟩ (s.flue p).resv))
    | none => .next s

/-- LAUNCH_RELEASE (R357, R360): the earliest launch whose release instant, t_L − 64 ns, has come; a
poisoned frame is dropped (R579). -/
def execLaunchRelease (p : Fin 4) (s : State) : Out :=
  let p := p.val
  match (s.flue p).resv.find? (fun r => r.ctx.isSome) with
  | none => .next s
  | some r =>
    if s.now < r.tL - 64 * (nsU : Int) then .next s
    else
      match r.ctx.bind s.txn?, r.ctx with
      | some t, some c =>
        if t.step = .queued then
          if s.slotBad t = [] then .next (s.release p r c t) else .next (s.slotLost c t)
        else .next (s.missOne p 3 none r)
      | _, _ => .next (s.setResv p ((s.flue p).resv.filter (fun x => x != r)))

/-- CAL_RUN (R366). -/
def execCalRun (p : Fin 4) (s : State) : Out :=
  if s.portServes p = false ∨ s.flag (R.LTS.PORT.STAT.CAL_BUSY p) = true then .next (s.evt (R.LTS.PORT.EVT.CFG_REJECTED p))
  else .next (s.set (R.LTS.PORT.STAT.CAL_BUSY p) 1)

/-- A calibration frame (R366): 64 bytes, EtherType 0x88B5, MAC[0] as both addresses. What fills it no rule says. -/
def State.calFrame (s : State) (p : Nat) : List Byte :=
  ethFrame (s.macOf p 0) (s.macOf p 0) [] 0x88B5 (beBytes 46 s.fresh)

/-- LTS_CAL_DONE (R366): `launches` are the granted instants at which frames left, of 1,024, and `diffs` the T_rx − t_L of
those that came back, in ps. CAL_RMS is about the mean. -/
def execLtsCalDone (p : Fin 4) (launches : List Int) (diffs : List Int) (s : State) : Out :=
  let p := p.val
  if s.flag (R.LTS.PORT.STAT.CAL_BUSY p) = false then .next s
  else
    let sent := (launches.take 1024).length
    let s1 := (launches.take 1024).foldl (fun st t => (st.sendFrame p (some t) (st.calFrame p)).bump) s
    let s2 := ((s1.incBy (R.LTS.PORT.GRANTS.COUNT p) 1024).incBy (R.LTS.PORT.LAUNCHED.COUNT p) sent).incBy
      (R.LTS.PORT.DROPPED.COUNT p) (1024 - sent)
    let ds : List Rat := (diffs.take sent).map (fun (d : Int) => (d : Rat))
    let n := ds.length
    let mean : Rat := if n = 0 then (s2.fresh : Nat) else ds.sum / n
    let ms : Rat := (ds.map (fun d => (d - mean) * (d - mean))).sum / n
    let s3 := s2.bump.setI (R.LTS.PORT.CAL_MEAN.PS p) (s2.bump.roundFree mean)
    let s4 := s3.bump.set (R.LTS.PORT.CAL_RES.RMS p)
      (satN 16 (if s3.bump.fresh % 2 = 0 then isqrt ms.floor.toNat else isqrtUp ms.ceil.toNat))
    .next ((((s4.bump.set (R.LTS.PORT.CAL_RES.N p) n).set (R.LTS.PORT.STAT.CAL_BUSY p) 0).set (R.LTS.PORT.CTL.CAL_RUN p) 0).evt
      (R.LTS.PORT.EVT.CAL_DONE p))

/-- PCAL_COMMIT (R368). -/
def execPcalCommit (p : Fin 4) (s : State) : Out := .next (s.commit (.ltsPcal p) (R.LTS.PORT.CTL.COMMIT p))

/-- CLS_COMMIT (R368). -/
def execClsCommit (s : State) : Out := .next (s.commit .ltsCls R.LTS.CTL.CLS_COMMIT)

end Sys2Proof.Machine
end

