-- ==== Sys2Proof/Machine/Eth.lean ====
section
/-! DEFINITION. The Ethernet ports (chapter 10): power and link states, PAUSE, statistics, the wake detector, SyncE, ESMC. -/

namespace Sys2Proof.Machine

/-! ### SyncE (R114, R331 to R334) -/

/-- The received QL is accepted by the mask of the port's slot (R114, R331). -/
def State.qlAccepted (s : State) (p : Nat) : Bool :=
  s.flag (R.ETH.ESMC_RX.VALID p) && bitOf (s.get (R.REF.SLOT.SRCQ.QL_MASK (13 + p))) (s.get (R.ETH.ESMC_RX.QL p))

/-- The conditions that let the recovered clock of a port through (R331). -/
def State.rclkOk (s : State) (p : Nat) : Bool := s.linkUp p && (!s.flag (R.ETH.RCLK.SQ_QL p) || s.qlAccepted p)

/-- The output is squelched where its conditions fail, and they begin to hold where they do (R331). -/
def State.rclkJudge (p : Nat) (s : State) : State :=
  if 3 ≤ p then s
  else if s.rclkOk p then s.modPort p fun e => { e with rclkAt := e.rclkAt.orElse fun _ => s.mark }
  else (s.set (R.ETH.STAT.RCLK_SQUELCHED p) 1).modPort p fun e => { e with rclkAt := none }

/-- What ball RCLKp carries: CK_PCS divided by this number, or the low level (R331). -/
def State.rclkBall (s : State) (p : Nat) : Option Nat :=
  if s.flag (R.ETH.RCLK.EN p) && !s.flag (R.ETH.STAT.RCLK_SQUELCHED p) then some (s.get (R.ETH.RCLK.DIV p)) else none

/-- The check of R114 on the slot of a port. -/
def State.qlJudge (p : Nat) (s : State) : State :=
  if p < 3 then s.sourceCheck (13 + p) (if s.qlAccepted p then [] else [10]) else s

/-- The received QL is lost (R333). -/
def State.esmcLost (p : Nat) (s : State) : State :=
  if p < 3 ∧ s.flag (R.ETH.ESMC_CFG.RX_EN p) = true then
    ((((s.set (R.ETH.ESMC_RX.VALID p) 0).evt (R.ETH.EVT.ESMC_TO p)).file F.ethEsmcTo p 0).modPort p fun e =>
      { e with esmcAt := s.mark }).rclkJudge p |>.qlJudge p
  else s

/-- The QL that a port sends (R334). -/
def State.qlToSend (s : State) (p : Nat) : Nat :=
  if s.flag (R.ETH.ESMC_TX.FORCE_EN p) then s.get (R.ETH.ESMC_TX.FORCE_QL p)
  else
    match s.selState with
    | 0 => s.get (R.ETH.ESMC_TX.QL_FREE p)
    | 1 =>
      if s.get R.SEL.STAT.SLOT = 13 + p ∧ s.flag (R.ETH.ESMC_TX.DNU_SELECTED p) = true then 0xF
      else s.get (R.ETH.ESMC_TX.QL_LOCKED p)
    | _ => s.get (R.ETH.ESMC_TX.QL_BANK p)

/-- The QL in force for sending, shown; a change is due as an event PDU (R334). -/
def State.showQl (s : State) : State :=
  (List.range 4).foldl (fun st p =>
    let q := st.qlToSend p
    if q = st.get (R.ETH.ESMC_RX.QL_SENT p) then st
    else (st.set (R.ETH.ESMC_RX.QL_SENT p) q).modPort p fun e => { e with qlDue := true }) s

/-- An ESMC PDU (R332, R334): QL TLV alone, padded to 64 bytes. -/
def State.esmcPdu (s : State) (p : Nat) (event : Bool) : List Byte :=
  ethFrame [0x01, 0x80, 0xC2, 0x00, 0x00, 0x02] (s.macOf p 0) [] 0x8809
    ([0x0A, 0x00, 0x19, 0xA7, 0x00, 0x01] ++ beBytes 1 (0x10 + 8 * ofBool event) ++ [0, 0, 0, 0x01, 0x00, 0x04] ++
      beBytes 1 (s.get (R.ETH.ESMC_RX.QL_SENT p)))

/-- A PDU joins the unscheduled frames of its port. -/
def State.esmcSend (p : Nat) (event : Bool) (s : State) : State :=
  (s.setUnsched p ((s.port p).unsched ++ [.own (s.esmcPdu p event)])).modPort p fun e =>
    { e with esmcSent := e.esmcSent + 1, qlDue := e.qlDue && !event }

/-- A valid ESMC PDU's QL, and the enhanced code where an extended TLV is present (R332). -/
def esmcParse (f : List Byte) : Option (Nat × Option Nat) :=
  let m := (f.drop 12).take (f.length - 16)
  if be m 0 2 = 0x8809 ∧ be m 2 1 = 0x0A ∧ be m 3 3 = 0x0019A7 ∧ be m 6 2 = 0x0001 ∧ be m 8 1 / 16 = 1 ∧
      be m 12 1 = 0x01 ∧ be m 13 2 = 0x0004 ∧ 16 ≤ m.length then
    some (be m 15 1 % 16, if be m 16 1 = 0x02 ∧ be m 17 2 = 0x0014 then some (be m 19 1) else none)
  else none

/-- A PDU received (R315 check 6, R332). -/
def State.esmcReceive (p : Nat) (f : List Byte) (s : State) : State :=
  match esmcParse f with
  | none => s.statInc p 21
  | some (ql, enh) =>
    let s1 := (((s.statInc p 7).set (R.ETH.ESMC_RX.QL p) ql).set (R.ETH.ESMC_RX.VALID p) 1).setB (R.ETH.ESMC_RX.EXT_SEEN p) enh.isSome
    let s2 := match enh with | some e => s1.set (R.ETH.ESMC_RX.ENH_CODE p) e | none => s1
    ((if ql = s.get (R.ETH.ESMC_RX.QL p) then s2 else s2.evt (R.ETH.EVT.ESMC_QL p)).modPort p fun e =>
      { e with esmcAt := s.mark }).rclkJudge p |>.qlJudge p

/-! ### PAUSE (R318 to R321) -/

/-- The pause of a port ends. -/
def State.pauseOver (p : Nat) (s : State) : State :=
  (s.modPort p fun e => { e with pauseEnd := none }).set (R.ETH.STAT.PAUSED p) 0

/-- A PAUSE accepted now (R318 to R320); launches that begin before its end are missed (R360). -/
def State.pauseAccept (p quanta : Nat) (s : State) : State :=
  let lim := s.get (R.ETH.PAUSE.LIMIT p)
  let q := min quanta lim
  let s1 := if lim < quanta then s.evt (R.ETH.EVT.PAUSE_CLAMP p) else s
  let s2 := s1.statAdd p 46 q
  if q = 0 then s2.pauseOver p
  else
    let fin : Int := ((s.now : Rat) + (q * 64 : Nat) * s.byteTime p).ceil
    let s3 := (s2.modPort p fun e => { e with pauseEnd := some fin }).set (R.ETH.STAT.PAUSED p) 1
    s3.missWhere p 1 (some fin) (fun r => decide ((s3.occupancy p r.len r.tL).1 < fin))

/-! ### Link states (R310 to R312) -/

/-- The port's lane is looped back or carries PRBS: no frames, and the link reads DOWN (R336). -/
def State.laneTest (s : State) (p : Nat) : Bool := s.get (R.ETH.CFG.LOOP p) != 0 || s.flag (R.ETH.CFG.PRBS p)

/-- What leaving UP brings with it (R312, R321, R331, R333, R360). -/
def State.leaveUp (p : Nat) (cutRx : Bool) (s : State) : State :=
  let s1 := if cutRx then s.statInc p 20 else s
  let s2 := (((s1.pauseOver p).set (R.ETH.STAT.RCLK_SQUELCHED p) 1).cutTx p).modPort p fun e =>
      { e with lineEnd := min e.lineEnd (s.now : Rat), rclkAt := none }
  let s3 := (s2.statInc p 29).evt (R.ETH.EVT.LINK_DOWN p)
  let s4 := if s.flag R.RED.STAT.HOLDING then s3.file F.ethLinkDown p 0 else s3
  (s4.esmcLost p).missAll p 2

/-- The link state changed: UP left and entered, the receive mapping dropped in DOWN and OFF (R310, R343). -/
def State.setLink (p new : Nat) (cutRx : Bool) (s : State) : State :=
  let old := s.get (R.ETH.STAT.LINK p)
  if old = new then s
  else
    let s1 := s.set (R.ETH.STAT.LINK p) new
    let s2 := if old = 3 then s1.leaveUp p cutRx else s1
    let s3 := if new = 3 then
        ((s2.evt (R.ETH.EVT.LINK_UP p)).modPort p fun e => { e with esmcAt := s.mark }).rclkJudge p
      else if new = 2 then s2.modPort p fun e => { e with linkAt := s.mark }
      else s2
    let s4 := if new ≤ 2 then s3.mapInvalid p else s3
    s4.showPtp

/-- Block lock, FEC lock where FEC is enabled, and no hi_ber (R310). -/
def State.linkGood (s : State) (p : Nat) : Bool :=
  s.flag (R.ETH.STAT.BLOCK_LOCK p) && (s.get (R.ETH.CFG.FEC p) == 0 || s.flag (R.ETH.STAT.FEC_LOCK p)) &&
  !s.flag (R.ETH.STAT.HI_BER p) && !s.laneTest p

/-- A fault sequence is received. -/
def State.linkFault (s : State) (p : Nat) : Bool :=
  s.flag (R.ETH.STAT.LOCAL_FAULT p) || s.flag (R.ETH.STAT.REMOTE_FAULT p)

/-- What a port transmits besides frames: nothing in OFF and WAKE, PRBS31, remote fault while it receives local fault or is in DOWN
or PENDING, and idle otherwise (R311, R313, R314, R336). -/
inductive LineSignal where
  | off | prbs | remoteFault | idle
  deriving DecidableEq, Repr

/-- The signal of port `p` (R311). -/
def State.lineSignal (s : State) (p : Nat) : LineSignal :=
  let l := s.get (R.ETH.STAT.LINK p)
  if s.get (R.ETH.STAT.PWR_STATE p) ≠ 2 then .off
  else if s.flag (R.ETH.CFG.PRBS p) then .prbs
  else if s.flag (R.ETH.STAT.LOCAL_FAULT p) ∨ l ≤ 2 then .remoteFault
  else .idle

/-- The conditions that lead from PENDING and FAULT to UP (R310). -/
def State.linkClear (s : State) (p : Nat) : Bool := s.linkGood p && !s.linkFault p

/-- They have held for 10 ms, in the present state where that is PENDING (R310). -/
def State.linkHeld (s : State) (p : Nat) : Bool := s.linkClear p && s.passed (s.port p).linkAt (10 * msU)

/-- Where the link state goes on the conditions as they stand (R310). -/
def State.linkNext (s : State) (p : Nat) : Nat :=
  match s.get (R.ETH.STAT.LINK p) with
  | 0 => 0
  | 1 => if s.linkGood p then 2 else 1
  | 2 => if s.linkGood p && !s.linkFault p then 2 else 1
  | 3 => if !s.linkGood p then 1 else if s.linkFault p then 4 else 3
  | n => if !s.linkGood p then 1 else n

/-! ### Power states (R313, R314, R327 to R330) -/

/-- The conditions that the PCS shows are gone with its power. -/
def State.clearPcs (p : Nat) (s : State) : State :=
  [R.ETH.STAT.BLOCK_LOCK p, R.ETH.STAT.HI_BER p, R.ETH.STAT.FEC_LOCK p, R.ETH.STAT.LOCAL_FAULT p, R.ETH.STAT.REMOTE_FAULT p,
   R.ETH.STAT.RX_ADAPT p].foldl (fun st f => st.set f 0) s

/-- The power state in force changed: OFF and WAKE hold the link OFF, WAKE arms the detector, ON measures TXPH (R313, R330,
R342). -/
def State.setPower (p new : Nat) (s : State) : State :=
  if s.get (R.ETH.STAT.PWR_STATE p) = new then s
  else
    let s1 := ((s.setLink p 0 false).clearPcs p).set (R.ETH.STAT.PWR_STATE p) new
    let s2 := (s1.set (R.LTS.PORT.STAT.TXPH_VALID p) 0).set (R.LTS.PORT.STAT.COARSE p) 1
    let s3 := s2.modPort p fun e => { e with armed := new == 1, bursts := 0 }
    s3.modFlue p fun f => { f with txphRun := new == 2 }

/-- The power state that the configuration asks for; a port that is not released stays in WAKE (R314). -/
def State.powerWanted (s : State) (p : Nat) : Nat :=
  let c := s.get (R.ETH.CFG.PWR p)
  if c = 2 ∧ s.eth.released = false then 1 else c

/-- Every port put into the power state it is to have. -/
def State.powerAll (s : State) : State := (List.range 4).foldl (fun st p => st.setPower p (st.powerWanted p)) s

/-- A wake (R329). -/
def State.wake (p : Nat) (s : State) : State :=
  let s1 := ((s.evt (R.ETH.EVT.WAKE p)).statInc p 47).modPort p fun e => { e with armed := false }
  if s.flag (R.ETH.CFG.WAKE_AUTO p) ∧ s.eth.released = true then s1.setPower p 2 else s1

/-- The detector watches. -/
def State.detecting (s : State) (p : Nat) : Bool := s.get (R.ETH.STAT.PWR_STATE p) == 1 && (s.port p).armed

/-- `cycles` of CK_AON lie within ±25 % of `ms` (R327). -/
def nearMs (cycles ms : Nat) : Bool :=
  decide (3 * ms * 32768 ≤ 4 * cycles * 1000) && decide (4 * cycles * 1000 ≤ 5 * ms * 32768)

/-! ### The PORT and FILT groups -/

/-- A commit of group PORT is accepted (R306, R309, R313, R328, R331, R336, R338). -/
def ethPortOk (p : Nat) (_old new : State) : Bool :=
  let fec := new.get (R.ETH.CFG.FEC p)
  let speed := new.flag (R.ETH.CFG.SPEED p)
  let div := new.get (R.ETH.RCLK.DIV p)
  let len := new.get (R.ETH.FRAME.MAX_LEN p)
  new.get (R.ETH.CFG.PWR p) != 3 && new.get (R.ETH.CFG.LOOP p) != 3 &&
  (fec == 0 || (speed && fec == 1) || (!speed && fec == 2)) &&
  decide (new.get (R.ETH.TXEQ.PRE p) + new.get (R.ETH.TXEQ.MAIN p) + new.get (R.ETH.TXEQ.POST p) ≤ 63) &&
  decide (1518 ≤ len) && decide (len ≤ 9600) &&
  new.get (R.ETH.WAKE.PULSES p) != 0 && new.get (R.ETH.WAKE.ON_MS p) != 0 && new.get (R.ETH.WAKE.OFF_MS p) != 0 &&
  (p == 3 || (div != 0 && !(new.flag (R.ETH.RCLK.EN p) && speed && div == 1))) && new.get (R.ETH.ESMC_CFG.TO p) != 0

/-- A commit of group PORT: SPEED or FEC loads the PMA delays (R365), and with PWR, LOOP or PRBS restarts the link (R335). -/
def ethPortAfter (p : Nat) (old new : State) : State :=
  let differs := [R.ETH.CFG.SPEED p, R.ETH.CFG.FEC p].any (old.differ new)
  let s1 := if differs then
      let (rx, tx) := Map.getD new.lts.pma (new.get (R.ETH.CFG.SPEED p) * 4 + new.get (R.ETH.CFG.FEC p)) (12400, 10800)
      (new.set (R.LTS.PORT.PMA_RX.PS p) rx).set (R.LTS.PORT.PMA_TX.PS p) tx
    else new
  let s2 := if old.differ new (R.ETH.CFG.PWR p) then s1.setPower p (s1.powerWanted p) else s1
  let s3 := if (differs || [R.ETH.CFG.LOOP p, R.ETH.CFG.PRBS p].any (old.differ new)) &&
      decide (1 ≤ s2.get (R.ETH.STAT.LINK p)) then s2.setLink p 1 false else s2
  s3.rclkJudge p

/-- The ports at a second boundary: their groups, the masks of their slots (R331), and one information PDU each (R334, R338). -/
def State.ethSecond (s : State) : State :=
  let s1 := (List.range 4).foldl (fun st p =>
    st.takeGroup (.ethPort p) (R.ETH.CTL.COMMIT p) (R.ETH.EVT.CFG_REJECTED p) (ethPortOk p) (ethPortAfter p)) s
  let s2 := s1.showQl
  (List.range 4).foldl (fun st p =>
    let s3 := (st.rclkJudge p).modPort p fun e => { e with esmcSent := 0 }
    if s3.flag (R.ETH.ESMC_CFG.TX_EN p) && s3.portServes p then s3.esmcSend p false else s3) s2

/-- Counters clear on read while the service state is not SERVICE (R325). -/
def State.showCor (s : State) : State :=
  (List.range 4).foldl (fun st p => st.setB (R.ETH.STAT.STATS_COR p) (s.get R.NVC.STAT.SVC_STATE != 1)) s

/-! ### The commands of the chapter -/

/-- PORT_COMMIT (R338). -/
def execPortCommit (p : Fin 4) (s : State) : Out := .next (s.commit (.ethPort p) (R.ETH.CTL.COMMIT p))

/-- FILT_COMMIT (R338). -/
def execFiltCommit (p : Fin 4) (s : State) : Out := .next (s.commit (.ethFilt p) (R.ETH.CTL.FILT_COMMIT p))

/-- WAKE_ARM (R329, R330). -/
def execWakeArm (p : Fin 4) (s : State) : Out :=
  if s.get (R.ETH.STAT.PWR_STATE p) = 1 then .next (s.modPort p fun e => { e with armed := true, bursts := 0 }) else .next s

/-- PRBS_CLR (R336). -/
def execPrbsClr (p : Fin 4) (s : State) : Out := .next (s.set (R.ETH.PRBS_ERR.COUNT p) 0)

/-- SERDES_CAL_DONE (R310): from OFF to DOWN on a port that is ON. -/
def execSerdesCalDone (p : Fin 4) (s : State) : Out :=
  if s.get (R.ETH.STAT.PWR_STATE p) = 2 ∧ s.get (R.ETH.STAT.LINK p) = 0 then .next (s.setLink p 1 false) else .next s

/-- A counter of entries into a condition. -/
def State.countEntry (p i : Nat) (was is_ : Bool) (s : State) : State := if !was && is_ then s.statInc p i else s

/-- The conditions for UP hold from now on, where they did not before (R310). -/
def State.clearSince (p : Nat) (was : Bool) (s : State) : State :=
  if !was && s.linkClear p then s.modPort p fun e => { e with linkAt := s.mark } else s

/-- LINK_CONDITION_CHANGE (R310 to R312, R322, R336): a port that is not ON has no PCS to report. -/
def execLinkConditionChange (p : Fin 4) (u : LinkStatus) (s : State) : Out :=
  let p := p.val
  if s.get (R.ETH.STAT.PWR_STATE p) ≠ 2 then .next s
  else
    let fec := s.get (R.ETH.CFG.FEC p)
    let s1 := if fec = 0 then s else (s.statAdd p 25 u.fecCorrected).statAdd p 26 u.fecUncorrected
    let s2 := s1.statAdd p 27 u.badHeaders
    let s3 := s2.countEntry p 28 (s.flag (R.ETH.STAT.HI_BER p)) u.hiBer
    let s4 := s3.countEntry p 30 (s.flag (R.ETH.STAT.LOCAL_FAULT p)) u.localFault
    let s5 := s4.countEntry p 31 (s.flag (R.ETH.STAT.REMOTE_FAULT p)) u.remoteFault
    let s6 := (((s5.setB (R.ETH.STAT.BLOCK_LOCK p) u.blockLock).setB (R.ETH.STAT.FEC_LOCK p) u.fecLock).setB
      (R.ETH.STAT.HI_BER p) u.hiBer).setB (R.ETH.STAT.LOCAL_FAULT p) u.localFault
    let s7 := (s6.setB (R.ETH.STAT.REMOTE_FAULT p) u.remoteFault).setB (R.ETH.STAT.RX_ADAPT p) u.rxAdapt
    let s8 := if s.flag (R.ETH.CFG.PRBS p) ∧ u.prbsErrors ≠ 0 then
        (s7.incSat (R.ETH.PRBS_ERR.COUNT p) u.prbsErrors).evt (R.ETH.EVT.PRBS_ERR p)
      else s7
    .next ((s8.setLink p (s8.linkNext p) u.cutRx).clearSince p (s.linkClear p))

/-- LINK_PENDING_DONE (R310). -/
def execLinkPendingDone (p : Fin 4) (s : State) : Out :=
  if s.get (R.ETH.STAT.LINK p) = 2 ∧ s.linkHeld p = true then .next (s.setLink p 3 false) else .next s

/-- FAULT_CLEAR_DONE (R310). -/
def execFaultClearDone (p : Fin 4) (s : State) : Out :=
  if s.get (R.ETH.STAT.LINK p) = 4 ∧ s.linkHeld p = true then .next (s.setLink p 3 false) else .next s

/-- PAUSE_END (R319): the obeyed time has run out. -/
def execPauseEnd (p : Fin 4) (s : State) : Out :=
  match (s.port p).pauseEnd with
  | some t => if s.now < t ∧ s.ticking = true then .next s else .next (s.pauseOver p)
  | none => .next s

/-- STATS_LO_READ (R323, R325): bits [47:32] are latched, and with clear-on-read the counter is cleared. -/
def execStatsLoRead (p : Fin 4) (i : Fin 48) (s : State) : Out :=
  let v := s.stat p i
  let s1 := (s.modPort p fun e => { e with shadow := some (i.val, v / 2 ^ 32) }).emit (.hostData (BitVec.ofNat 32 v))
  .next (if s.flag (R.ETH.STAT.STATS_COR p) then s1.setStat p i 0 else s1)

/-- STATS_HI_READ (R323): the shadow of the same counter, or the live bits. -/
def execStatsHiRead (p : Fin 4) (i : Fin 48) (s : State) : Out :=
  let live := s.stat p i / 2 ^ 32
  match (s.port p).shadow with
  | some (j, h) =>
    if j = i.val then .next ((s.modPort p fun e => { e with shadow := none }).emit (.hostData (BitVec.ofNat 32 h)))
    else .next (s.emit (.hostData (BitVec.ofNat 32 live)))
  | none => .next (s.emit (.hostData (BitVec.ofNat 32 live)))

/-- SIGNAL_CHANGE (R327): the indication changes after `lasted` CK_AON cycles; the detector judges the burst or gap that
ends. -/
def execSignalChange (p : Fin 4) (on : Bool) (lasted : Nat) (s : State) : Out :=
  let p := p.val
  let s1 := s.setB (R.ETH.STAT.SIGNAL p) on
  let n := s.get (R.ETH.WAKE.PULSES p)
  if s.detecting p = false ∨ s.flag (R.ETH.STAT.SIGNAL p) = on then .next s1
  else if on then
    if (s.port p).bursts ≠ 0 ∧ nearMs lasted (s.get (R.ETH.WAKE.OFF_MS p)) = false then
      .next (s1.modPort p fun e => { e with bursts := 0 })
    else .next s1
  else if n = 1 then
    if s.get (R.ETH.WAKE.ON_MS p) * 32768 ≤ lasted * 1000 then .next (s1.wake p) else .next s1
  else if nearMs lasted (s.get (R.ETH.WAKE.ON_MS p)) = false then .next (s1.modPort p fun e => { e with bursts := 0 })
  else if (s.port p).bursts + 1 = n then .next (s1.wake p)
  else .next (s1.modPort p fun e => { e with bursts := e.bursts + 1 })

/-- WAKE_BURST_ON_MS (R327): a burst reaches ON_MS, which with PULSES = 1 is a wake. -/
def execWakeBurstOnMs (p : Fin 4) (s : State) : Out :=
  if s.detecting p ∧ s.flag (R.ETH.STAT.SIGNAL p) = true ∧ s.get (R.ETH.WAKE.PULSES p) = 1 then .next (s.wake p) else .next s

/-- ESMC_TIMEOUT (R333): no valid PDU for TO seconds. -/
def execEsmcTimeout (p : Fin 3) (s : State) : Out :=
  if s.passed (s.port p).esmcAt (s.get (R.ETH.ESMC_CFG.TO p) * secU) then .next (s.esmcLost p) else .next s

/-- ESMC_EVENT_TX (R334): at most 10 PDUs in a second. -/
def execEsmcEventTx (p : Fin 4) (s : State) : Out :=
  if s.flag (R.ETH.ESMC_CFG.TX_EN p) ∧ s.portServes p = true ∧ (s.port p).qlDue = true ∧ (s.port p).esmcSent < 10 then
    .next (s.esmcSend p true)
  else .next s

/-- RCLK_RELEASE (R331): UP, and the QL accepted, for HOLD_MS. -/
def execRclkRelease (p : Fin 3) (s : State) : Out :=
  if s.rclkOk p ∧ s.passed (s.port p).rclkAt (s.get (R.ETH.RCLK.HOLD_MS p) * msU) = true then
    .next (s.set (R.ETH.STAT.RCLK_SQUELCHED p) 0)
  else .next s

/-- SREF_OBSERVATION (R98, R344): `cycles` recovered cycles after the slot's last observation, at the cycle numbered from
the newest stamp of the receive mapping; while that is invalid the count is latched on the present tick. -/
def execSrefObservation (p : Fin 3) (cycles : Nat) (rel : Int) (s : State) : Out :=
  let p := p.val
  let n := 13 + p
  if s.linkUp p = false ∨ s.ticking = false then .next s
  else
    let t : Int := if s.flag (R.LTS.PORT.STAT.MAP_VALID p) then (mapAt (s.flue p).stamps rel + 1 / 2).floor else s.now
    let s0 := s.setPresent n true
    let s1 := if s0.slotState n = 1 then s0.slotQualify n else s0
    if s1.slotActive n = false then .next s1
    else
      let sl := s1.slot n
      let k := if sl.freqT0.isSome then sl.freqK + cycles else 0
      let t0 := sl.freqT0.getD t
      let s2 := s1.modSlot n fun x => { x with freqT0 := some t0, freqK := k }
      let (meas, refb) := s2.refBounds n
      .next (s2.bump.slotObserve n t (s2.roundFree ((k : Rat) * s2.wordTime p) - (t - t0) + s2.slotDelay n) meas refb)

end Sys2Proof.Machine
end

