-- ==== Sys2Proof/Machine/Pro.lean ====
section
/-! DEFINITION. PTP and NTP service (chapter 13): profiles, periodic messages, unicast grants, the PREF clients, smears. -/

namespace Sys2Proof.Machine

/-- The protocols' own state changed. -/
def State.modPro (f : Pro → Pro) (s : State) : State := { s with pro := f s.pro }

/-! ### Profiles (R412) -/

/-- A row of the profile table. -/
structure Profile where
  transports : List Nat
  p2p : Bool
  domLo : Nat
  domHi : Nat
  mcast : Bool
  unicast : Bool
  sync : Int × Int
  ann : Int × Int
  dreq : Int × Int

/-- The profile table (R412). -/
def profiles : List Profile :=
  [⟨[0, 1, 2], false, 0, 127, true, true, (-7, 1), (-3, 3), (-7, 5)⟩,
   ⟨[0, 1, 2], true, 0, 127, true, false, (-7, 1), (-3, 3), (-7, 5)⟩,
   ⟨[0], false, 24, 43, true, false, (-4, -4), (-3, -3), (-4, -4)⟩,
   ⟨[1, 2], false, 44, 63, false, true, (-7, 0), (-3, 0), (-7, 0)⟩,
   ⟨[0], true, 254, 254, true, false, (0, 0), (0, 0), (0, 0)⟩,
   ⟨[0], true, 0, 127, true, false, (0, 0), (0, 0), (0, 0)⟩,
   ⟨[1], false, 0, 127, true, false, (-7, -1), (-3, 1), (-7, -1)⟩,
   ⟨[1], false, 0, 127, true, false, (-4, 1), (0, 4), (-3, 5)⟩]

/-- The values of an instance lie within its profile's row. -/
def profileOk (n transport : Nat) (p2p : Bool) (domain : Nat) (mcast unicast : Bool) (sync ann dreq : Int) : Bool :=
  match profiles[n]? with
  | none => false
  | some r =>
    let within (x : Int) (b : Int × Int) : Bool := decide (b.1 ≤ x) && decide (x ≤ b.2)
    r.transports.contains transport && p2p == r.p2p && decide (r.domLo ≤ domain) && decide (domain ≤ r.domHi) &&
    (!mcast || r.mcast) && (!unicast || r.unicast) && within sync r.sync && within ann r.ann && within dreq r.dreq

/-- 2^log seconds in 2^-16 ns. -/
def interval (log : Int) : Int := if 0 ≤ log then secI * 2 ^ log.toNat else secI / 2 ^ (-log).toNat

/-! ### Addresses (R411) -/

/-- The source of what an instance sends unasked: Ethernet and IP address, and its index. -/
def State.ownSource (s : State) (p transport : Nat) : Option (List Byte × List Byte × Nat) :=
  if transport = 0 then some (s.macOf p 0, [], 0)
  else
    ((List.range 8).find? (fun k => s.flag (R.RSE.IFADDR.CFG.EN p k) && s.flag (R.RSE.IFADDR.CFG.V6 p k) == (transport == 2))).map
      (fun k => (s.macOf p (s.get (R.RSE.IFADDR.CFG.MAC p k)), s.ifAddr p k, k))

/-- The multicast destination of a message: Ethernet and IP address. -/
def groupDest (transport : Nat) (peerDelay l2dst : Bool) : List Byte × List Byte :=
  if transport = 0 then
    (if peerDelay || l2dst then [0x01, 0x80, 0xC2, 0x00, 0x00, 0x0E] else [0x01, 0x1B, 0x19, 0x00, 0x00, 0x00], [])
  else
    let ip : List Byte :=
      if transport = 1 then (if peerDelay then [224, 0, 0, 107] else [224, 0, 1, 129])
      else if peerDelay then [0xFF, 0x02] ++ List.replicate 13 0 ++ [0x6B]
      else [0xFF, 0x0E] ++ List.replicate 12 0 ++ [0x01, 0x81]
    (groupMac ip, ip)

/-! ### Sequence numbers, periodic messages (R416, R418, R424) -/

/-- The next sequence number of a port and messageType. -/
def State.nextSeq (p m : Nat) (s : State) : Nat × State :=
  let n := Map.getD s.pro.seqs (p * 16 + m) 0
  (n, s.modPro fun r => { r with seqs := Map.put r.seqs (p * 16 + m) ((n + 1) % 65536) })

/-- The lead of periodic transactions. -/
def State.leadU (s : State) : Int := s.get R.PRO.CFG.LEAD_US * (1000 * (nsU : Int))

/-- The due instant of a port's multicast message that may be created now: the first whole multiple of its interval that is
not past and not yet served, once it lies within the lead (R416). -/
def State.dueNow (s : State) (p m : Nat) (log : Int) : Option Int :=
  let i := interval log
  let d0 := (s.now + i - 1) / i * i
  let d := match Map.get? s.pro.due (p * 16 + m) with | some last => if d0 ≤ last then last + i else d0 | none => d0
  if d - s.now ≤ s.leadU then some d else none

/-- The launch class of a reply (R420). -/
def replyClass : Reply → Nat
  | .sync | .followUp => 1
  | .announce => 2
  | .delayReq | .pdelayReq => 3
  | _ => 0

/-- A multicast message of the serving instance of port `p`, due at `due` (R411, R416). -/
def State.multicast (p m : Nat) (r : Reply) (log due : Int) (s : State) : State :=
  let tr := s.get (R.PRO.PORT.CFG.TRANSPORT p)
  let s1 := s.modPro fun x => { x with due := Map.put x.due (p * 16 + m) due }
  match s.ownSource p tr with
  | none => s1
  | some (mac, ip, k) =>
    let (dm, di) := groupDest tr false (s.flag (R.PRO.PORT.CFG.L2_DST p))
    let (n, s2) := s1.nextSeq p m
    s2.openTxn (Txn.own 5 p s.now r ⟨dm, [], di, 0⟩ mac ip k n log (replyClass r) due)

/-- The next message of a unicast grant (R424); without its client's line it drops (R579). -/
def State.uniNext (e m : Nat) (r : Reply) (p : Nat) (s : State) : State :=
  match s.pro.grants.find? (fun g => g.entry == e && g.msg == m && g.port == p) with
  | none => s
  | some g =>
    let i := interval g.log
    -- T_rx itself is always past; later instants that are past are not made up
    let k := if g.next = 0 then 0 else max g.next ((s.now - g.start + i - 1) / i).toNat
    let due := g.start + k * i
    let others := s.pro.grants.filter (fun x => x != g)
    if g.expiry * secI ≤ due then (s.modPro fun x => { x with grants := others }).showSyncGranted
    else if s.leadU < due - s.now then s
    else
      let g1 := { g with next := k + 1 }
      let s1 := s.modPro fun x => { x with grants := others ++ [g1] }
      if s.get (R.PRO.PORT.STAT.STATE p) ≠ 2 then s1
      else
        let (n, s2) := s1.nextSeq p m
        let tr := s.get (R.PRO.PORT.CFG.TRANSPORT p)
        let src : List Byte × List Byte := if tr = 0 then (s.macOf p 0, [])
          else (s.macOf p (s.get (R.RSE.IFADDR.CFG.MAC p g.addr)), s.ifAddr p g.addr)
        let t := Txn.own 5 p s.now r g.peer src.1 src.2 g.addr n g.log (replyClass r) due
        if s2.lineBad e then (s2.lineError e).inc R.RSE.DROP_PARSE.COUNT
        else s2.openTxn { t with entry := some e, key := mbxKey (s.entry e) }

/-- PERIODIC_CREATE (R416, R418, R424): a message whose due instant lies within the lead. -/
def execPeriodicCreate (p : Fin 4) (msg : PeriodicMsg) (s : State) : Out :=
  let p := p.val
  if s.ticking = false then .next s
  else
    let master := s.get (R.PRO.PORT.STAT.STATE p) = 2
    let mc := s.flag (R.PRO.PORT.CFG.MCAST p)
    match msg with
    | .sync =>
      let log := s.sget (R.PRO.PORT.INTV.LOG_SYNC p)
      match s.dueNow p 0 log with
      | some d => if master ∧ mc = true then .next (s.multicast p 0 .sync log d) else .next s
      | none => .next s
    | .announce =>
      let log := s.sget (R.PRO.PORT.INTV.LOG_ANN p)
      match s.dueNow p 0xB log with
      | some d => if master ∧ mc = true then .next (s.multicast p 0xB .announce log d) else .next s
      | none => .next s
    | .management =>
      match s.dueNow p 0xD 0 with
      | some d =>
        if master ∧ s.get (R.PRO.PORT.CFG.PROFILE p) = 6 then .next (s.multicast p 0xD .management 0 d) else .next s
      | none => .next s
    | .uniSync e => .next (s.uniNext e.toNat 0 .sync p)
    | .uniAnnounce e => .next (s.uniNext e.toNat 0xB .announce p)

/-! ### Unicast negotiation (R422, R423) -/

/-- The smallest interval that a port grants for a messageType; none where it grants none (R422, R423). -/
def State.minInterval (s : State) (p m : Nat) : Option Int :=
  if m = 0 then some (s.sget (R.PRO.PORT.UNI_LOG.MIN_SYNC p))
  else if m = 0xB then some (s.sget (R.PRO.PORT.UNI_LOG.MIN_ANN p))
  else if m = 9 then some (s.sget (R.PRO.PORT.UNI_LOG.MIN_DRESP p))
  else none

/-- The rate of the Sync grants on a port but for those of `e` that a renewal replaces, with 2^−g added, fits the budget. -/
def State.budgetHolds (s : State) (p e : Nat) (g : Int) : Bool :=
  let rate (log : Int) : Rat := if log ≤ 0 then ((2 ^ (-log).toNat : Nat) : Rat) else 1 / ((2 ^ log.toNat : Nat) : Rat)
  let held : Rat := ((s.pro.grants.filter (fun x => x.port == p && x.msg == 0 && x.entry != e)).map (fun x => rate x.log)).sum
  decide (held + rate g ≤ (s.get (R.PRO.PORT.UNI_BUDGET.SYNC_PER_S p) : Nat))

/-- A GRANT record. -/
def grantRecord (m : Nat) (log : Int) (dur expiry : Nat) : List Byte :=
  beBytes 1 m ++ beBytes 1 (ofSigned 8 log) ++ [0, 0] ++ leBytes 4 dur ++ leBytes 4 expiry

/-- Where the grant of `m` goes in an entry: the record that names it, else the first that names none (R392). -/
def grantSlot (e : List Byte) (m : Nat) : Option Nat :=
  match (List.range 3).find? (fun i => le e (grantAt i) 1 == m && le e (grantAt i + 4) 4 != 0) with
  | some i => some i
  | none => (List.range 3).find? (fun i => le e (grantAt i) 1 == 0xF || le e (grantAt i + 4) 4 == 0)

/-- A denial counted (R422). -/
def State.grantDenied (p : Nat) (s : State) : State := (s.inc (R.PRO.PORT.DENIED.COUNT p)).evt R.PRO.EVT.GRANT_DENIED

/-- The TLV that answers a request: messageType, interval, duration, renewal. -/
def grantTlv (m : Nat) (log : Int) (dur : Nat) (renew : Bool) : List Byte :=
  beBytes 2 5 ++ beBytes 2 8 ++ beBytes 1 (m * 16) ++ beBytes 1 (ofSigned 8 log) ++ beBytes 4 dur ++ [0] ++ beBytes 1 (ofBool renew)

/-- One REQUEST_UNICAST_TRANSMISSION decided (R423). -/
def State.decideGrant (p : Nat) (entry : Option Nat) (overRate : Bool) (tRx : Int) (peer : Peer) (m : Nat) (g : Int) (d : Nat)
    (s : State) : List Byte × State :=
  let deny := (grantTlv m g 0 false, s.grantDenied p)
  match entry, s.minInterval p m with
  | some e, some least =>
    if overRate || decide (g < least) || decide (d < s.get (R.PRO.PORT.UNI.DUR_MIN p)) ||
        (m == 0 && !s.budgetHolds p e g) then deny
    else
      let dur := min d (s.get (R.PRO.PORT.UNI.DUR_MAX p))
      let expiry := (tRx / secI).toNat + dur
      let x := s.entry e
      match grantSlot x m with
      | none => deny
      | some i =>
        let s1 := (s.putEntry e (eWrite (fun y => splice y (grantAt i) (grantRecord m g dur (expiry % 2 ^ 32))) x)).inc
          (R.PRO.PORT.GRANTED.COUNT p)
        let gr : UniGrant := ⟨e, p, m, g, tRx, expiry, 0, peer, eAddr x⟩
        let s2 := s1.modPro fun r => { r with grants := r.grants.filter (fun y => !(y.entry == e && y.msg == m)) ++ [gr] }
        (grantTlv m g dur true, s2.showSyncGranted)
  | _, _ => deny

/-- One CANCEL_UNICAST_TRANSMISSION: the record is cleared at once (R424). -/
def State.cancelGrant (p : Nat) (entry : Option Nat) (m : Nat) (s : State) : List Byte × State :=
  let tlv := beBytes 2 7 ++ beBytes 2 2 ++ beBytes 1 (m * 16) ++ [0]
  match entry with
  | none => (tlv, s)
  | some e =>
    let x := s.entry e
    match (List.range 3).find? (fun i => le x (grantAt i) 1 == m && le x (grantAt i + 4) 4 != 0) with
    | none => (tlv, s)
    | some i =>
      let s1 := (s.putEntry e (eWrite (fun y => splice y (grantAt i) noGrant) x)).inc (R.PRO.PORT.CANCELLED.COUNT p)
      (tlv, (s1.modPro fun r => { r with grants := r.grants.filter (fun y => !(y.entry == e && y.msg == m)) }).showSyncGranted)

/-- The TLVs of a Signaling message answered in order (R422): the reply's TLVs. -/
def State.negotiate (p : Nat) (entry : Option Nat) (overRate : Bool) (tRx : Int) (peer : Peer) (msg : List Byte) (s : State) :
    List Byte × State :=
  (tlvsFrom msg.length msg 44).foldl (fun acc t =>
    let (typ, at_, _) := t
    let m := be msg at_ 1 / 16
    if typ = 4 then
      let (b, s1) := acc.2.decideGrant p entry overRate tRx peer m (toSigned 8 (be msg (at_ + 1) 1)) (be msg (at_ + 2) 4)
      (acc.1 ++ b, s1)
    else if typ = 6 then
      let (b, s1) := acc.2.cancelGrant p entry m
      (acc.1 ++ b, s1)
    else acc) ([], s)

/-! ### The PREF clients (R425 to R427) -/

/-- A client that has heard nothing. -/
def Pref.empty : Pref :=
  { masters := [], selected := none, annExpired := false, lastSync := none, wait := none, exch := none, mpds := [], grants := [],
    seq := 0, reqAt := none, ext := none, logSync := 0, mac := none }

/-- The client of port `p`. -/
def State.pref (s : State) (p : Nat) : Pref := Map.getD s.pro.prefs p Pref.empty

/-- The client of port `p` changed. -/
def State.modPref (p : Nat) (f : Pref → Pref) (s : State) : State :=
  s.modPro fun r => { r with prefs := Map.put r.prefs p (f (s.pref p)) }

/-- A grant that the client holds. -/
def Pref.holds (f : Pref) (now : Int) (m : Nat) : Bool := f.grants.any (fun g => g.1 == m && decide (now < g.2.1 + g.2.2.1 * secI))

/-- STATE, GRANTED, UP_ID and MPD of a client, shown. -/
def State.showPref (p : Nat) (s : State) : State :=
  let f := s.pref p
  let st := if !s.flag (R.PRO.PREF.CFG.EN p) then 0 else if f.selected.isNone then 1 else if f.mpds = [] then 2 else 3
  let id := f.selected.getD 0 / 2 ^ 16
  let held := ofBool (f.holds s.now 0xB) + 2 * ofBool (f.holds s.now 0) + 4 * ofBool (f.holds s.now 9)
  let mean : Rat := if f.mpds = [] then 0 else ((f.mpds.sum : Int) : Rat) / (f.mpds.length : Nat) / 256
  let s1 := (((s.set (R.PRO.PREF.STAT.STATE p) st).set (R.PRO.PREF.STAT.GRANTED p) held).set (R.PRO.PREF.UP_ID_HI.ID p)
    (id / 2 ^ 32)).set (R.PRO.PREF.UP_ID_LO.ID p) id
  s1.bump.setI (R.PRO.PREF.MPD.DELAY p) (s1.roundFree mean)

/-- A number compared before another in the dataset comparison: lower is better. PRESUMED: IEEE 1588-2019, 9.3.4. -/
def lexLess : List Nat → List Nat → Bool
  | a :: as, b :: bs => if a = b then lexLess as bs else decide (a < b)
  | _, _ => false

/-- What the comparison reads of a master, in order. -/
def Master.rank (m : Master) : List Nat := [m.prio1, m.cls, m.acc, m.oslv, m.prio2, m.gm, m.steps, m.id]

/-- A master qualifies (R426): two Announces within four of its intervals, heard since its timeout, not this chip, and
fewer than 255 steps removed. -/
def State.masterOk (s : State) (p : Nat) (m : Master) : Bool :=
  let i := interval m.log
  let own := ofBe s.clockId
  (match m.heard with
    | a :: b :: _ => decide (a - b ≤ 4 * i) && decide (s.now - a ≤ s.get (R.PRO.PREF.CFG.ANN_TO p) * i)
    | _ => false) &&
  decide (m.steps < 255) && m.gm != own && m.id / 2 ^ 16 != own

/-- The best qualified master. -/
def State.bestMaster (s : State) (p : Nat) : Option Master :=
  ((s.pref p).masters.filter (s.masterOk p)).foldl
    (fun b m => match b with | some x => if lexLess m.rank x.rank then some m else b | none => some m) none

/-- The selected master's dataset. -/
def Pref.master (f : Pref) : Option Master := f.masters.find? (fun m => f.selected == some m.id)

/-- The source checks of a PREF slot (R113). -/
def State.prefCauses (s : State) (p : Nat) : List Nat :=
  let f := s.pref p
  let n := 9 + p
  let bad := f.annExpired || (match f.master with
    | some m => decide (s.get (R.REF.SLOT.SRCQ.CC_MAX n) < m.cls) || (s.flag (R.REF.SLOT.SRCQ.REQ_TRACE n) && !m.timeTraceable)
    | none => false)
  if bad then [9] else []

/-- The checks of R113 on the slot of port `p`. -/
def State.prefJudge (p : Nat) (s : State) : State := s.sourceCheck (9 + p) (s.prefCauses p)

/-- The selection made anew (R426): a change restarts the slot and what was measured. Without a qualified master the old
selection stands. -/
def State.prefSelect (p : Nat) (s : State) : State :=
  match s.bestMaster p with
  | none => s
  | some m =>
    if (s.pref p).selected = some m.id then s
    else
      let s1 := s.modPref p fun f => { f with selected := some m.id, annExpired := false, lastSync := none, wait := none,
                                              exch := none, mpds := [], ext := none }
      ((s1.evt R.PRO.EVT.PREF_UPSTREAM).set (R.REF.SLOT.CTL.RESTART (9 + p)) 1).showPref p

/-- The leap information of the selected master, from the lowest-numbered qualified slot (R42, R43). -/
def State.prefLeap (p : Nat) (s : State) : State :=
  match (s.pref p).master with
  | none => s
  | some m =>
    let lower := (List.range p).any (fun q => bitOf (s.get R.REF.STAT_Q.QUALIFIED) (9 + q))
    if lower ∨ bitOf (s.get R.REF.STAT_Q.QUALIFIED) (9 + p) = false ∨ m.utcValid = false then s
    else
      let next := if m.leap61 then m.utc + 1 else if m.leap59 then m.utc - 1 else m.utc
      let midnight := (((s.second : Int) - m.utc) / 86400 + 1) * 86400
      s.leapPost ⟨1, m.utc, next, (midnight + next).toNat⟩

/-- An Announce at a client (R426). -/
def State.prefAnnounce (p : Nat) (msg : List Byte) (tRx : Int) (s : State) : State :=
  let id := be msg 20 10
  let f := s.pref p
  let old := f.masters.find? (fun m => m.id == id)
  let flags := be msg 7 1
  let m : Master :=
    { id := id, heard := (tRx :: ((old.map (·.heard)).getD [])).take 2, log := toSigned 8 (be msg 33 1), prio1 := be msg 47 1,
      cls := be msg 48 1, acc := be msg 49 1, oslv := be msg 50 2, prio2 := be msg 52 1, gm := be msg 53 8, steps := be msg 61 2,
      timeTraceable := bitOf flags 4, utc := toSigned 16 (be msg 44 2), utcValid := bitOf flags 2, leap61 := bitOf flags 0,
      leap59 := bitOf flags 1 }
  let s1 := s.modPref p fun f =>
    { f with masters := (f.masters.filter (fun x => x.id != id)) ++ [m],
             annExpired := f.annExpired && f.selected != some id }
  (((s1.prefSelect p).prefLeap p).showPref p).prefJudge p

/-- The organization TLV of R87 in a Sync or Delay_Resp: its bound, its growth and when it came (R115). -/
def State.prefExt (s : State) (msg : List Byte) (tRx : Int) : Option (Nat × Nat × Int) :=
  ((tlvsFrom msg.length msg (ptpFixed (be msg 0 1 % 16))).find? (fun t => t.1 == 3 && t.2.2 == 0x12 &&
      be msg t.2.1 3 == s.get R.EBD.TLV_ORG.ORG_ID && be msg (t.2.1 + 3) 3 == 1)).map
    (fun t => (be msg (t.2.1 + 10) 4, be msg (t.2.1 + 14) 4, tRx))

/-- The upstream term of REFB at an instant, in 2^-8 ns, saturated where it is unknown (R115). -/
def State.upstreamTerm (s : State) (p : Nat) (t : Int) : Nat :=
  let f := s.pref p
  match f.ext with
  | some (eb, rate, at_) => min 0xFFFFFFFF (eb + rate * ((t - at_ + secI - 1) / secI).toNat)
  | none =>
    match f.master.bind (fun m => accuracyBound m.acc) with
    | some b => min 0xFFFFFFFF b
    | none => 0xFFFFFFFF

/-- An observation of a client (R115, R427): t1 + c_s and t2, once a path delay is known. -/
def State.prefObserve (p : Nat) (t1c t2 : Int) (coarse : Bool) (s : State) : State :=
  let f := s.pref p
  let s0 := s.modPref p fun f => { f with lastSync := some (t2 - t1c, coarse) }
  if coarse then s0.inc (R.PRO.PREF.COARSE_CNT.COUNT p)
  else if f.mpds = [] then s0
  else
    let n := 9 + p
    let mean : Rat := ((f.mpds.sum : Int) : Rat) / (f.mpds.length : Nat)
    let meas := s.get (R.REF.SLOT.JITB.JITB n) + (if s.flag (R.ETH.CFG.SPEED p) then 128 else 205)
    let refb := min 0xFFFFFFFF (s.get (R.REF.SLOT.REFB.REFB n) + s.upstreamTerm p t2)
    ((s0.bump.setPresent n true).slotObserve n t2 (t1c - t2 + s0.roundFree mean) meas refb).inc (R.PRO.PREF.OBS_CNT.COUNT p)

/-- A Sync at a client: one-step it is an observation at once, two-step it waits for its Follow_Up (R427). -/
def State.prefSync (p : Nat) (msg : List Byte) (t2 : Int) (coarse : Bool) (s : State) : State :=
  if (s.pref p).selected ≠ some (be msg 20 10) then s
  else
    let ext := s.prefExt msg t2
    let s1 := s.modPref p fun f => { f with ext := ext, logSync := toSigned 8 (be msg 33 1) }
    if bitOf (be msg 6 1) 1 then
      s1.modPref p fun f => { f with wait := some ⟨be msg 30 2, t2, ptpCorr msg, coarse⟩ }
    else s1.prefObserve p (ptpStamp msg 34 + ptpCorr msg) t2 coarse

/-- A Follow_Up at a client. -/
def State.prefFollowUp (p : Nat) (msg : List Byte) (s : State) : State :=
  match (s.pref p).wait with
  | none => s
  | some w =>
    if (s.pref p).selected ≠ some (be msg 20 10) ∨ w.seq ≠ be msg 30 2 then s
    else (s.modPref p fun f => { f with wait := none }).prefObserve p (ptpStamp msg 34 + w.corr + ptpCorr msg) w.t2 w.coarse

/-- A path delay measured joins the latest MPD_N (R427); one with a COARSE stamp is only counted. -/
def State.prefDelay (p : Nat) (twice : Int) (coarse : Bool) (s : State) : State :=
  let s1 := s.modPref p fun f => { f with exch := none }
  if coarse then s1.inc (R.PRO.PREF.COARSE_CNT.COUNT p)
  else
    let d := s1.roundFree ((twice : Rat) / 2)
    ((s1.bump).modPref p fun f => { f with mpds := (d :: f.mpds).take (s.get (R.PRO.PREF.CFG.MPD_N p)) }).showPref p

/-- A Delay_Resp at a client (R427). -/
def State.prefDelayResp (p : Nat) (msg : List Byte) (tRx : Int) (s : State) : State :=
  let f := s.pref p
  if f.selected ≠ some (be msg 20 10) ∨ slice msg 44 10 ≠ s.portId p then s
  else
    let s1 := s.modPref p fun f => { f with ext := s.prefExt msg tRx }
    match f.exch, f.lastSync with
    | some e, some (ms, coarse) =>
      match e.t3 with
      | some t3 =>
        if e.seq = be msg 30 2 then s1.prefDelay p (ms + (ptpStamp msg 34 - t3 - ptpCorr msg)) coarse else s1
      | none => s1
    | _, _ => s1

/-- A Pdelay_Resp at a client, one-step or two-step (R427). PRESUMED: IEEE 1588-2019, 11.4. -/
def State.prefPdelayResp (p : Nat) (msg : List Byte) (tRx : Int) (coarse : Bool) (s : State) : State :=
  match (s.pref p).exch with
  | none => s
  | some e =>
    match e.t3 with
    | none => s
    | some t1 =>
      if e.seq ≠ be msg 30 2 ∨ slice msg 44 10 ≠ s.portId p then s
      else if bitOf (be msg 6 1) 1 then
        s.modPref p fun f => { f with exch := some { e with resp := some (tRx, ptpStamp msg 34, ptpCorr msg, coarse) } }
      else s.prefDelay p (tRx - t1 - ptpCorr msg) coarse

/-- A Pdelay_Resp_Follow_Up at a client. -/
def State.prefPdelayFollowUp (p : Nat) (msg : List Byte) (s : State) : State :=
  match (s.pref p).exch with
  | some ⟨seq, some t1, some (t4, t2, c, coarse)⟩ =>
    if seq = be msg 30 2 then s.prefDelay p (t4 - t1 - (ptpStamp msg 34 - t2) - c - ptpCorr msg) coarse else s
  | _ => s

/-- Grants and acknowledgements in a Signaling message at a client (R425). -/
def State.prefSignaling (p : Nat) (msg : List Byte) (tRx : Int) (s : State) : State :=
  let s1 := (tlvsFrom msg.length msg 44).foldl (fun st t =>
    let m := be msg t.2.1 1 / 16
    if t.1 = 5 then
      let g := (m, tRx, be msg (t.2.1 + 2) 4, toSigned 8 (be msg (t.2.1 + 1) 1))
      st.modPref p fun f =>
        { f with grants := f.grants.filter (fun x => x.1 != m) ++ (if g.2.2.1 = 0 then [] else [g]) }
    else if t.1 = 7 then st.modPref p fun f => { f with grants := f.grants.filter (fun x => x.1 != m) }
    else st) s
  s1.showPref p

/-- A message at the client of port `p` (R425 to R427). -/
def State.prefMessage (p : Nat) (frame msg : List Byte) (tRx : Int) (coarse : Bool) (s : State) : State :=
  let s0 := s.modPref p fun f => { f with mac := some (slice frame 6 6) }
  match be msg 0 1 % 16 with
  | 0 => s0.prefSync p msg tRx coarse
  | 3 => s0.prefPdelayResp p msg tRx coarse
  | 8 => s0.prefFollowUp p msg
  | 9 => s0.prefDelayResp p msg tRx
  | 0xA => s0.prefPdelayFollowUp p msg
  | 0xB => s0.prefAnnounce p msg tRx
  | 0xC => s0.prefSignaling p msg tRx
  | _ => s0

/-- Bytes of UP_ADDR. -/
def State.upAddr (s : State) (p n : Nat) : List Byte :=
  (beBytes 4 (s.get (R.PRO.PREF.UP_ADDR0.ADDR p)) ++ beBytes 4 (s.get (R.PRO.PREF.UP_ADDR1.ADDR p)) ++
    beBytes 4 (s.get (R.PRO.PREF.UP_ADDR2.ADDR p)) ++ beBytes 4 (s.get (R.PRO.PREF.UP_ADDR3.ADDR p))).take n

/-- Where a client sends: its upstream, or the group. The upstream's Ethernet address is the one last heard, else free. -/
def State.prefPeer (s : State) (p : Nat) (peerDelay : Bool) : Peer :=
  let tr := s.get (R.PRO.PREF.CFG.TRANSPORT p)
  if s.flag (R.PRO.PREF.CFG.UNICAST p) ∧ peerDelay = false then
    if tr = 0 then ⟨s.upAddr p 6, [], [], 0⟩
    else ⟨((s.pref p).mac).getD (beBytes 6 s.fresh), [], s.upAddr p (if tr = 1 then 4 else 16), 0⟩
  else
    let (m, i) := groupDest tr peerDelay false
    ⟨m, [], i, 0⟩

/-- A message of a client opened as a transaction. -/
def State.prefSend (p : Nat) (r : Reply) (seq : Nat) (log : Int) (s : State) : State :=
  match s.ownSource p (s.get (R.PRO.PREF.CFG.TRANSPORT p)) with
  | none => s
  | some (mac, ip, k) =>
    let t := Txn.own 6 p s.now r (s.prefPeer p (r == .pdelayReq)) mac ip k seq log (replyClass r) s.now
    s.bump.openTxn { t with client := true }

/-- ANNOUNCE_TIMEOUT (R113, R426). -/
def execAnnounceTimeout (p : Fin 4) (s : State) : Out :=
  let p := p.val
  let f := s.pref p
  match f.master with
  | none => .next s
  | some m =>
    if f.annExpired = true ∨ s.now - m.heard.headD s.now < s.get (R.PRO.PREF.CFG.ANN_TO p) * interval m.log then .next s
    else
      let s1 := (s.inc (R.PRO.PREF.ANN_TO_CNT.COUNT p)).evt R.PRO.EVT.ANN_TIMEOUT
      .next ((s1.modPref p fun f => { f with annExpired := true }).prefSelect p |>.prefJudge p)

/-- PREF_RENEW (R425): the grant of a messageType is asked for, or renewed once half its duration has passed. -/
def execPrefRenew (p : Fin 4) (msg : BitVec 4) (s : State) : Out :=
  let p := p.val
  let m := msg.toNat
  let log := if m = 0 then s.get (R.PRO.PREF.INTV.LOG_SYNC p) else if m = 0xB then s.get (R.PRO.PREF.INTV.LOG_ANN p)
    else s.get (R.PRO.PREF.INTV.LOG_DREQ p)
  let early := (s.pref p).grants.any (fun g => g.1 == m && decide (2 * (s.now - g.2.1) < g.2.2.1 * secI))
  if s.flag (R.PRO.PREF.CFG.EN p) = false ∨ s.flag (R.PRO.PREF.CFG.UNICAST p) = false ∨ early = true ∨ s.portServes p = false ∨
      ¬(m = 0 ∨ m = 9 ∨ m = 0xB) ∨ s.ticking = false then .next s
  else
    let tlv := beBytes 2 4 ++ beBytes 2 6 ++ beBytes 1 (m * 16) ++ beBytes 1 log ++ beBytes 4 (s.get (R.PRO.PREF.DUR.SECS p))
    let (n, s1) := s.nextSeq p 0xC
    .next (s1.prefSend p (.signaling tlv) n 127)

/-- PREF_DELAY_REQ (R427): one interval of LOG_DREQ after the latest. A unicast client sends none before it holds its grant. -/
def execPrefDelayReq (p : Fin 4) (s : State) : Out :=
  let p := p.val
  let f := s.pref p
  let p2p := s.flag (R.PRO.PREF.CFG.DELAY p)
  if s.flag (R.PRO.PREF.CFG.EN p) = false ∨ s.portServes p = false ∨ s.ticking = false then .next s
  else if s.passed f.reqAt (interval (s.sget (R.PRO.PREF.INTV.LOG_DREQ p))).toNat = false then .next s
  else if p2p = false ∧ (f.selected.isNone = true ∨ (s.flag (R.PRO.PREF.CFG.UNICAST p) = true ∧ f.holds s.now 9 = false)) then
    .next s
  else
    let seq := f.seq
    let s1 := s.modPref p fun f =>
      { f with seq := (f.seq + 1) % 65536, exch := some ⟨seq, none, none⟩, reqAt := s.mark }
    .next (s1.prefSend p (if p2p then .pdelayReq else .delayReq) seq (s.sget (R.PRO.PREF.INTV.LOG_DREQ p)))

/-! ### Smears (R432, R433) -/

/-- The windows that are open, shown. -/
def State.showSmears (s : State) : State :=
  s.set R.PRO.STAT.SMEARING ((s.pro.smears.map (fun e => 2 ^ e.1)).sum)

/-- A window closes. -/
def State.smearEnd (k : Nat) (s : State) : State :=
  ((s.modPro fun r => { r with smears := Map.del r.smears k, smeared := (k :: r.smeared).eraseDups }).evt R.PRO.EVT.SMEAR_END).showSmears

/-- Windows whose leap has been withdrawn end at once (R433). -/
def State.smearsWithdrawn (s : State) : State :=
  s.pro.smears.foldl (fun st e => if st.smearWithdrawn e.2 then st.smearEnd e.1 else st) s

/-- SMEAR_START (R432). -/
def execSmearStart (k : Fin 8) (s : State) : Out :=
  let k := k.val
  match Map.get? s.pro.smears k, s.smearFor k s.now with
  | none, some m =>
    .next (((s.modPro fun r => { r with smears := Map.put r.smears k m }).evt R.PRO.EVT.SMEAR_START).showSmears)
  | _, _ => .next s

/-- SMEAR_END (R432, R433). -/
def execSmearEnd (k : Fin 8) (s : State) : Out :=
  match Map.get? s.pro.smears k.val with
  | some m => if m.start + s.smearLen k ≤ s.now ∨ s.smearWithdrawn m = true then .next (s.smearEnd k) else .next s
  | none => .next s

/-! ### Groups (R412, R434, R435) -/

/-- A commit of group GLB is accepted. -/
def proGlbOk (_old new : State) : Bool :=
  decide (2 ≤ new.get R.PRO.CFG.LEAD_US) && decide (new.get R.PRO.NTP_CFG.MINPOLL ≤ new.get R.PRO.NTP_CFG.MAXPOLL) &&
  new.get R.PRO.NTP_CFG.LI_WINDOW != 0 &&
  (List.range 8).all (fun k => decide (3600 ≤ new.get (R.PRO.SMEAR.W k)) && decide (new.get (R.PRO.SMEAR.W k) ≤ 172800))

/-- A commit of group PTPp is accepted. -/
def proPtpOk (p : Nat) (_old new : State) : Bool :=
  new.get (R.PRO.PORT.CFG.TRANSPORT p) != 3 && decide (new.get (R.PRO.PORT.UNI.DUR_MIN p) ≤ new.get (R.PRO.PORT.UNI.DUR_MAX p)) &&
  profileOk (new.get (R.PRO.PORT.CFG.PROFILE p)) (new.get (R.PRO.PORT.CFG.TRANSPORT p)) (new.flag (R.PRO.PORT.CFG.DELAY p))
    (new.get (R.PRO.PORT.CFG.DOMAIN p)) (new.flag (R.PRO.PORT.CFG.MCAST p)) (new.flag (R.PRO.PORT.CFG.UNICAST p))
    (new.sget (R.PRO.PORT.INTV.LOG_SYNC p)) (new.sget (R.PRO.PORT.INTV.LOG_ANN p)) (new.sget (R.PRO.PORT.INTV.LOG_MIN_DREQ p))

/-- The entries of the client table that DRAM lists, each once. -/
def State.listedEntries (s : State) : List Nat :=
  (s.dram.foldl (fun (acc : List Nat) c =>
    match s.ctIndex c.1, acc with
    | some n, m :: _ => if n = m then acc else n :: acc
    | some n, [] => [n]
    | none, _ => acc) []).reverse

/-- Every grant record of a port's clients is cleared (R434). -/
def State.clearGrants (p : Nat) (s : State) : State :=
  let s1 := s.listedEntries.foldl (fun st n =>
    let e := st.entry n
    if st.lineBad n then st.lineError n
    else if eState e = 0 ∨ eUnknown e = true ∨ ePort e ≠ p ∨ eVersion e = 1 ∧ eGrants e = [noGrant, noGrant] then st
    else
      let c := if eVersion e = 1 then eConvert e else e
      let d := (List.range 3).foldl (fun x i => splice x (grantAt i) noGrant) c
      if d = e then st else st.putEntry n (eWrite (fun _ => d) c)) s
  (s1.modPro fun r => { r with grants := r.grants.filter (fun g => g.port != p) }).showSyncGranted

/-- The fields of a client whose change starts it anew. -/
def prefRestart (p : Nat) : List Field :=
  [R.PRO.PREF.CFG.EN p, R.PRO.PREF.CFG.PROFILE p, R.PRO.PREF.CFG.TRANSPORT p, R.PRO.PREF.CFG.DELAY p, R.PRO.PREF.CFG.UNICAST p,
   R.PRO.PREF.CFG.DOMAIN p, R.PRO.PREF.UP_ADDR0.ADDR p, R.PRO.PREF.UP_ADDR1.ADDR p, R.PRO.PREF.UP_ADDR2.ADDR p,
   R.PRO.PREF.UP_ADDR3.ADDR p]

/-- A commit of group PREFp is accepted. A client that does not negotiate listens to multicast, which its profile must permit. -/
def proPrefOk (p : Nat) (_old new : State) : Bool :=
  new.get (R.PRO.PREF.CFG.TRANSPORT p) != 3 && decide (2 ≤ new.get (R.PRO.PREF.CFG.ANN_TO p)) &&
  decide (new.get (R.PRO.PREF.CFG.ANN_TO p) ≤ 10) && new.get (R.PRO.PREF.CFG.MPD_N p) != 0 &&
  profileOk (new.get (R.PRO.PREF.CFG.PROFILE p)) (new.get (R.PRO.PREF.CFG.TRANSPORT p)) (new.flag (R.PRO.PREF.CFG.DELAY p))
    (new.get (R.PRO.PREF.CFG.DOMAIN p)) (!new.flag (R.PRO.PREF.CFG.UNICAST p)) (new.flag (R.PRO.PREF.CFG.UNICAST p))
    (new.sget (R.PRO.PREF.INTV.LOG_SYNC p)) (new.sget (R.PRO.PREF.INTV.LOG_ANN p)) (new.sget (R.PRO.PREF.INTV.LOG_DREQ p))

/-- A client after a commit. -/
def proPrefAfter (p : Nat) (old new : State) : State :=
  (if (prefRestart p).any (old.differ new) then new.modPref p fun _ => Pref.empty else new).showPref p

/-- The protocols at a second boundary: groups, smears, the leap warning. -/
def State.proSecond (s : State) : State :=
  let s1 := s.takeGroup .proGlb R.PRO.CTL.COMMIT R.PRO.EVT.CFG_REJECTED proGlbOk (fun _ new => new)
  let s2 := (List.range 4).foldl (fun st p =>
    (st.takeGroup (.proPtp p) (R.PRO.PORT.CTL.COMMIT p) R.PRO.EVT.CFG_REJECTED (proPtpOk p) (fun _ new =>
        new.clearGrants p)).takeGroup
      (.proPref p) (R.PRO.PREF.CTL.COMMIT p) R.PRO.EVT.CFG_REJECTED (proPrefOk p) (proPrefAfter p)) s1
  let s3 := s2.smearsWithdrawn
  let s4 := if s3.flag R.TSC.LEAP_NEXT.PENDING then s3 else s3.modPro fun r => { r with smeared := [] }
  let li := s4.leapIndicator none s4.now
  (s4.setB R.PRO.STAT.LI_ACTIVE (li == 1 || li == 2)).showPtp

/-- PRO_COMMIT (R435). -/
def execProCommit (s : State) : Out := .next (s.commit .proGlb R.PRO.CTL.COMMIT)

/-- PTP_COMMIT (R434, R435). -/
def execPtpCommit (p : Fin 4) (s : State) : Out := .next (s.commit (.proPtp p) (R.PRO.PORT.CTL.COMMIT p))

/-- PREF_COMMIT (R435). -/
def execPrefCommit (p : Fin 4) (s : State) : Out := .next (s.commit (.proPref p) (R.PRO.PREF.CTL.COMMIT p))

end Sys2Proof.Machine
end

