-- ==== Sys2Proof/Machine/Access.lean ====
section
/-! DEFINITION. Registers by address: the fields of a word, what a word reads as, what a written word holds for each field,
and the values that a field outside any group refuses (R12, R539 to R543, R547). -/

namespace Sys2Proof.Machine

/-- The register table of the block at address `a` (R539). -/
def blockTable (a : Nat) : List RegRow :=
  if (0xD0000 ≤ a ∧ a < 0x100000) ∨ 0x600000 ≤ a then []
  else
    match blockBit a with
    | 0 => R.GLB.table
    | 1 => R.HST.table
    | 2 => R.TSC.table
    | 3 => R.EBD.table
    | 4 => R.REF.table
    | 5 => R.SEL.table
    | 6 => R.OSC.table
    | 7 => R.SYN.table
    | 8 => R.OUT.table
    | 9 => R.TDC.table
    | 10 => R.GNA.table
    | 11 => R.GNT.table
    | 12 => R.GNS.table
    | 13 | 14 | 15 | 16 => R.ETH.table
    | 17 => R.LTS.table
    | 18 => R.RSE.table
    | 19 => R.PRO.table
    | 20 => R.GLV.table
    | 21 => R.SMP.table
    | 22 => R.RED.table
    | 23 => R.NVC.table
    | 24 => R.PMC.table
    | 25 => R.FLT.table
    | _ => R.MEM.table

/-- The fields of the register at word address `a`; none where it is not implemented. -/
def fieldsAt (a : Nat) : List Field := (blockTable a).filterMap (fun r => r.at? a)

/-- What a field reads as: KEY fields and reserved bits as zero (R540, R542); RATE shows the applied S, INTEG the applied
INTEG (R25), and BANK_SECS counts the seconds up to now (R73). -/
def State.readField (s : State) (f : Field) : Nat :=
  if f.acc == .key then 0
  else if f.key == R.TSC.RATE0.VALUE.key then s.voted.rate.toNat % 2 ^ 32
  else if f.key == R.TSC.RATE1.VALUE.key then s.voted.rate.toNat / 2 ^ 32
  else if f.key == R.TSC.INTEG0.VALUE.key then s.voted.integ.toNat % 2 ^ 32
  else if f.key == R.TSC.INTEG1.VALUE.key then s.voted.integ.toNat / 2 ^ 32
  else if f.key == R.EBD.BANK_SECS.SECS.key then (s.get f + s.bankUncounted) % 2 ^ 32
  else s.get f

/-- The word of a register. -/
def State.readWord (s : State) (a : Nat) : Nat :=
  ((fieldsAt a).map (fun f => s.readField f * 2 ^ f.lo)).sum

/-- The latest value written to a field: the one that waits, else the one in force. -/
def State.written (s : State) (f : Field) : Nat :=
  match Map.get? s.shadow f.key with | some w => w.value | none => s.get f

/-- The bits of a word that byte enables select. -/
def enabledBits (be : Nat) : Nat :=
  ((List.range 4).map (fun i => if bitOf be i then 255 * 256 ^ i else 0)).sum

/-- The value a write of `data` under byte enables `be` gives a field; none where no enabled byte holds a bit of it. -/
def State.newValue (s : State) (f : Field) (data be : Nat) : Option Nat :=
  let mask := bitsOf (enabledBits be) f.lo f.width
  if mask = 0 then none
  else
    let old := if f.acc == .cmd then 0 else s.written f
    some ((List.range f.width).foldl (fun v i => if bitOf mask i then putBit v i (bitOf data (f.lo + i)) else v) old)

/-- The event of a field outside any group whose value `v` its row refuses; none where it is accepted. -/
def State.refuses (s : State) (f : Field) (v : Nat) : Option Field :=
  let bad (c : Bool) (e : Field) : Option Field := if c then some e else none
  let is_ (g : Field) : Bool := f.key == g.key
  if is_ R.TSC.CFG.LOOP_RATE then bad (decide (4 < v)) R.TSC.EVT.CFG_REJECTED
  else if is_ R.EBD.CFG.SHRINK_WIN then bad (v == 0) R.EBD.EVT.CFG_REJECTED
  else if is_ R.TSC.VOTE.PREFER then bad (v == 3) R.TSC.EVT.CFG_REJECTED
  else if is_ (R.OUT.IRIG.CFG.OFFSET 0) || is_ (R.OUT.IRIG.CFG.OFFSET 1) then bad (v == 32) R.OUT.EVT.CFG_REJECTED
  else if is_ R.GNA.SPI_CFG.DIV then bad (decide (v < 4)) R.GNA.EVT.CFG_REJECTED
  else if is_ R.GNA.SPI_CMD.LEN then bad (v == 0 || decide (4 < v)) R.GNA.EVT.CFG_REJECTED
  else if is_ R.LTS.CFG.DRIFT_TOL then bad (decide (19 < v)) R.LTS.EVT.CFG_REJECTED
  else if is_ R.LTS.CFG.UNSCHED_WAIT then bad (v == 0) R.LTS.EVT.CFG_REJECTED
  else if is_ R.GLV.NTS_CFG.MAX_COOKIES then bad (v == 0 || decide (8 < v)) R.GLV.EVT.CFG_REJECTED
  else if is_ R.NVC.CFG.EMBER_INT then bad (decide (v < 4)) R.NVC.EVT.CFG_REJECTED
  else if is_ R.NVC.CFG.EMBER_DL then
    bad (decide (v < 100) || decide (s.written R.NVC.CFG.EMBER_INT * 1000 < v)) R.NVC.EVT.CFG_REJECTED
  else if is_ R.HST.CFG.WDOG_US then bad (decide (v < 8) || decide (1000 < v)) R.HST.STAT.CFG_REJECTED
  else if is_ R.PMC.SAMP_CFG.LOG_INT then bad (decide (v < 10) || decide (24 < v)) R.PMC.EVT.CFG_REJECTED
  else if is_ R.PMC.TEL_CFG.THETA_SRC then bad (v == 3) R.PMC.EVT.CFG_REJECTED
  else if is_ R.PMC.TEL_CFG.IO_NOM then bad ((List.range 6).any (fun i => bitsOf v (2 * i) 2 == 3)) R.PMC.EVT.CFG_REJECTED
  else if is_ R.GNA.NAV_SIZE.SIZE then bad (decide (4096 < v)) R.GNA.EVT.CFG_REJECTED
  else if is_ R.GNS.EPO_SIZE.SIZE then bad (decide (4096 < v)) R.GNS.EVT.CFG_REJECTED
  else if is_ R.PMC.DUMP_SIZE.SIZE || is_ R.PMC.SAMP_SIZE.SIZE then bad (decide (4096 < v)) R.PMC.EVT.CFG_REJECTED
  else if is_ R.FLT.RING_SIZE.SIZE then bad (decide (4096 < v)) R.FLT.EVT.CFG_REJECTED
  else if is_ R.FLT.CFG.NEST_FRAC then bad (v == 0) R.FLT.EVT.CFG_REJECTED
  else none

/-- One written field (R542, R543): CFG goes to its shadow, or at once where its boundary is none; LIVE and CNT at once.
The rest is not software's. -/
def State.writeField (f : Field) (v : Nat) (s : State) : State :=
  match f.acc with
  | .cfg =>
    if f.grp.isSome then s.hold f v
    else
      match s.refuses f v with
      | some e => s.evt e
      | none => if f.eff == .immediate then s.set f v else s.hold f v
  | .live => match s.refuses f v with | some e => s.evt e | none => s.set f v
  | .cnt => if f.key == R.EBD.BANK_SECS.SECS.key then s.bankCount.set f v else s.set f v
  | _ => s

/-- The CFG and LIVE fields that a profile record names, with their values (R519). -/
def recordFields (r : Nat × Nat) : List (Field × Nat) :=
  ((fieldsAt r.1).filter (fun f => f.acc == .cfg || f.acc == .live)).map (fun f => (f, bitsOf r.2 f.lo f.width))

/-- Values put into force at once, those a field refuses left out (R521). -/
def State.loadFields : List (Field × Nat) → State → State
  | [], s => s
  | (f, v) :: fs, s =>
    match s.refuses f v with
    | some e => (s.evt e).loadFields fs
    | none => (s.set f v).loadFields fs

end Sys2Proof.Machine
end

