-- ==== Sys2Proof/Machine/Rings.lean ====
section
/-! DEFINITION. Rings of the response engine and the sorting of received frames (R372 to R380), the address responder
(R405 to R408), reception of a frame (R315 to R318). -/

namespace Sys2Proof.Machine

/-! ### DRAM as installed (R577) -/

/-- Bytes of DRAM installed. -/
def State.dramSize (s : State) : Nat :=
  let width := if s.flag R.MEM.GEO.WIDTH then 8 else 4
  (s.get R.MEM.GEO.RANKS + 1) * (4 * 2 ^ s.get R.MEM.GEO.DENSITY * 2 ^ 30 * (64 / width) / 8)

/-! ### The ring table (R375, R376) -/

/-- Address of the ring table. -/
def State.rtabBase (s : State) : Nat := s.get R.RSE.RTAB_BASE_LO.ADDR * 4096 + s.get R.RSE.RTAB_BASE_HI.ADDR * 2 ^ 32

/-- Address of the writeback area. -/
def State.wbBase (s : State) : Nat := s.get R.RSE.WB_BASE_LO.ADDR * 4096 + s.get R.RSE.WB_BASE_HI.ADDR * 2 ^ 32

/-- The ring that an entry of the table describes. -/
def ringOf (e : List Byte) : Ring :=
  { desc := le e 0 8, buf := le e 8 8, logN := le e 16 1, role := bitsOf (le e 17 1) 0 2, pri := bitsOf (le e 17 1) 2 3,
    kind := bitsOf (le e 18 1) 0 4, slot := bitsOf (le e 18 1) 4 2, vector := le e 19 1, modUs := le e 20 2, wr := 0, rd := 0,
    drops := 0, moved := false, raise := false, wbAt := none, intAt := none }

/-- The ring is enabled. -/
def Ring.on (r : Ring) : Bool := r.logN != 0 && r.role != 0

/-- The areas of a ring: descriptors and buffers, base and end. -/
def Ring.areas (r : Ring) : List (Nat × Nat) :=
  [(r.desc, r.desc + 32 * 2 ^ r.logN), (r.buf, r.buf + slotBytes r.slot * 2 ^ r.logN)]

/-- Two areas overlap. -/
def overlap (a b : Nat × Nat) : Bool := decide (a.1 < b.2) && decide (b.1 < a.2)

/-- The areas of a list overlap nowhere. -/
def disjointAreas : List (Nat × Nat) → Bool
  | [] => true
  | a :: l => l.all (fun b => !overlap a b) && disjointAreas l

/-- The enabled rings of the table at `s.rtabBase`, by number. -/
def State.readTable (s : State) : List (Nat × Ring) :=
  ((List.range 1024).map (fun n => (n, ringOf (s.dramRead (s.rtabBase + 32 * n) 32)))).filter (fun e => e.2.on)

/-- A ring table is accepted (R376); a LOG_N or ROLE that the table does not define is not. -/
def State.tableOk (s : State) (t : List (Nat × Ring)) : Bool :=
  t.all (fun (n, r) =>
    decide (r.role ≤ 2) && decide (6 ≤ r.logN) && decide (r.logN ≤ 15) &&
    !(r.role == 1 && n / 128 % 2 == 0 && decide (3 < r.kind)) &&
    decide (s.get (R.ETH.FRAME.MAX_LEN (n / 256)) + 8 ≤ slotBytes r.slot) &&
    r.desc % 64 == 0 && r.buf % 4096 == 0 && r.areas.all (fun a => decide (a.2 ≤ s.dramSize))) &&
  disjointAreas (t.flatMap (fun e => e.2.areas))

/-- What a table entry says, without the pointers. -/
def Ring.same (a b : Ring) : Bool :=
  let plain (r : Ring) : Ring :=
    { r with wr := 0, rd := 0, drops := 0, moved := false, raise := false, wbAt := none, intAt := none }
  plain a == plain b

/-- Frames that a ring holds. -/
def Ring.held (r : Ring) : Nat := (r.wr + 65536 - r.rd) % 65536

/-- A table applied (R376): a ring whose entry changes starts at zero, its frames dropped and counted. -/
def State.applyTable (t : List (Nat × Ring)) (s : State) : State :=
  let kept (n : Nat) (r : Ring) : Bool := match Map.get? s.rse.rings n with | some o => o.same r | none => false
  let rings := t.map (fun (n, r) =>
    match Map.get? s.rse.rings n with
    | some o => if o.same r then (n, o) else (n, { r with drops := o.drops + o.held })
    | none => (n, r))
  let gone (n : Nat) : Bool := !(t.any (fun e => e.1 == n && kept n e.2))
  let s1 := s.rse.txns.foldl (fun st e => match e.2.slot with
    | some (n, _) => if gone n then st.dropTxn e.1 else st
    | none => st) s
  let s2 := s1.modRse fun r => { r with rings := rings }
  (List.range 4).foldl (fun st p =>
    st.setUnsched p ((st.port p).unsched.filter (fun u => match u with | .ring n _ => !gone n | _ => true))) s2

/-- The address of a ring's descriptor. -/
def Ring.descAt (r : Ring) (i : Nat) : Nat := r.desc + 32 * (i % 2 ^ r.logN)

/-- The address of a ring's slot. -/
def Ring.slotAt (r : Ring) (i : Nat) : Nat := r.buf + slotBytes r.slot * (i % 2 ^ r.logN)

/-- Ring `n` replaced. -/
def State.putRing (n : Nat) (r : Ring) (s : State) : State := s.modRse fun x => { x with rings := Map.put x.rings n r }

/-! ### Sorting (R372 to R374) -/

/-- An IP destination that RSE takes: local, a PTP group, or the solicited-node group of a local IPv6 address (R372). -/
def State.takesDest (s : State) (p : Nat) (a : List Byte) : Bool :=
  (s.localAddr p a).isSome || ptpGroups4.contains a || (a.length == 16 && isPtpGroup6 a) ||
  (List.range 8).any (fun k => s.flag (R.RSE.IFADDR.CFG.EN p k) && s.flag (R.RSE.IFADDR.CFG.V6 p k) &&
      solicitedNode (s.ifAddr p k) == a)

/-- The MAC entry that answers for a server address, where it is enabled (R406, R407). -/
def State.answering (s : State) (p : Nat) (a : List Byte) : Option (List Byte) :=
  (s.localAddr p a).bind (fun k =>
    let m := s.get (R.RSE.IFADDR.CFG.MAC p k)
    if s.macEn p m then some (s.macOf p m) else none)

/-- The reply to an ARP request that the responder accepts, without FCS (R406). -/
def State.arpReply (s : State) (p : Nat) (e : EthView) : Option (List Byte) :=
  let b := e.body
  if be b 0 2 = 1 ∧ be b 2 2 = 0x0800 ∧ be b 4 1 = 6 ∧ be b 5 1 = 4 ∧ be b 6 2 = 1 then
    (s.answering p (slice b 24 4)).map (fun mac =>
      slice b 8 6 ++ mac ++ e.tags ++ [0x08, 0x06, 0, 1, 0x08, 0, 6, 4, 0, 2] ++ mac ++ slice b 24 4 ++ slice b 8 6 ++ slice b 14 4)
  else none

/-- The source link-layer option of a Neighbor Solicitation, if it comes first among the options that follow. -/
def sourceLink : Nat → List Byte → Option (List Byte)
  | 0, _ => none
  | n + 1, o =>
    if o.length < 8 ∨ be o 1 1 = 0 then none
    else if be o 0 1 = 1 then some (slice o 2 6)
    else sourceLink n (o.drop (8 * be o 1 1))

/-- The advertisement that answers a solicitation the responder accepts, without FCS (R407). -/
def State.ndReply (s : State) (p : Nat) (e : EthView) (v : IpView) : Option (List Byte) :=
  let m := v.payload
  let target := slice m 8 16
  if v.v6 ∧ be m 0 1 = 135 ∧ v.hop = 255 ∧ be m 1 1 = 0 ∧ 24 ≤ m.length ∧ inetSum (pseudo v.src v.dst 58 m.length ++ m) = 0 then
    (s.answering p target).map (fun mac =>
      let none_ := v.src == List.replicate 16 0
      let dst : List Byte := if none_ then [0xFF, 0x02] ++ List.replicate 13 0 ++ [0x01] else v.src
      let dmac : List Byte := if none_ then [0x33, 0x33, 0, 0, 0, 1] else (sourceLink 16 (m.drop 24)).getD e.src
      let body (sum : Nat) : List Byte :=
        [136, 0] ++ beBytes 2 sum ++ beBytes 4 (if none_ then 0x20000000 else 0x60000000) ++ target ++ [2, 1] ++ mac
      let sum := inetSum (pseudo target dst 58 32 ++ body 0)
      dmac ++ mac ++ e.tags ++ beBytes 2 0x86DD ++ ipPacket { s.ipFree with ttl := 255 } target dst 58 (body sum))
  else none

/-- The types of the well-formed extension fields of an NTP packet. -/
def extTypes : Nat → List Byte → List Nat
  | 0, _ => []
  | n + 1, m =>
    let len := be m 2 2
    if m.length < 16 ∨ len % 4 ≠ 0 ∨ len < 16 ∨ m.length < len then []
    else be m 0 2 :: extTypes n (m.drop len)

/-- Where the sorter sends a frame: a kind (R372), or nowhere. -/
def State.kindOf (s : State) (p : Nat) (f : List Byte) : Option Nat :=
  let e := ethView f
  if e.moreTags then some 8
  else if e.etype = 0x0806 then some (if (s.arpReply p e).isSome then 4 else 5)
  else if e.etype = 0x88F7 then some (if be e.body 0 1 % 16 ≤ 3 then 0 else 1)
  else
    match ipView e with
    | none => some 8
    | some v =>
      if v.badSum then none
      else if v.odd || !s.takesDest p v.dst then some 8
      else if v.v6 && v.proto == 58 then
        let t := be v.payload 0 1
        if t = 135 then some (if (s.ndReply p e v).isSome then 4 else 5)
        else if t = 133 ∨ t = 134 ∨ t = 136 ∨ t = 137 then some 5
        else some 6
      else if !v.v6 && v.proto == 1 then some 6
      else if v.proto = 17 then
        let u := udpView v
        if u.badSum then none
        else if u.dport = 319 then some 0
        else if u.dport = 320 then some 1
        else if u.dport = 123 then some (if (extTypes 64 (u.payload.drop 48)).contains 0x0104 then 3 else 2)
        else some 8
      else if v.proto = 6 ∧ be v.payload 2 2 = s.get R.RSE.NTSKE.PORT then some 7
      else some 8

/-- CRC-32C of a frame's source IP address, or of its source MAC (R374). -/
def sourceHash (f : List Byte) : Nat :=
  match ipView (ethView f) with
  | some v => crc32c v.src
  | none => crc32c (slice f 6 6)

/-- A frame dropped by the sorter (R372 to R374). -/
def State.clsDrop (s : State) : State := s.inc R.RSE.CLS_DROP.COUNT

/-- A frame put into receive ring `n` (R377, R379). -/
def State.ringReceive (n : Nat) (r : Ring) (kind : Nat) (f : List Byte) (tRx : Int) (coarse : Bool) (s : State) : State :=
  if r.held = 2 ^ r.logN ∨ slotBytes r.slot < f.length then
    (s.putRing n { r with drops := r.drops + 1 }).evt R.RSE.EVT.RING_DROP
  else
    let tags := (ethView f).tags.length / 4
    let d := leBytes 2 f.length ++ leBytes 1 kind ++ leBytes 1 (ofBool coarse + 2 * tags) ++ timeBytes tRx.toNat ++
      leBytes 4 (sourceHash f) ++ List.replicate 12 0
    ((s.dramWrite (r.descAt r.wr) d).dramWrite (r.slotAt r.wr) f).putRing n { r with wr := (r.wr + 1) % 65536, moved := true, raise := true }

/-- The words with an uncorrectable error of descriptor `i` of a ring, and of `len` bytes of its slot. -/
def State.ringBad (s : State) (r : Ring) (i len : Nat) : List Nat :=
  (s.badWords (r.descAt i) 32 ++ s.badWords (r.slotAt i) len).eraseDups

/-- The ring index of a HOST kind on a port (R373). -/
def State.hostRing (s : State) (p kind : Nat) : Nat :=
  match kind with
  | 5 => s.get (R.RSE.HOSTMAP.ARPND p)
  | 6 => s.get (R.RSE.HOSTMAP.ICMP p)
  | 7 => s.get (R.RSE.HOSTMAP.NTSKE p)
  | _ => s.get (R.RSE.HOSTMAP.OTHER p)

/-- A responder reply is dispatched into a transaction of handler 0x07 (R382, R408), or waits for a context. -/
def State.respond (p : Nat) (frame reply : List Byte) (tRx : Int) (s : State) : State :=
  match s.freeCtx p with
  | none => s.modRse fun r => { r with respWait := r.respWait ++ [(p, frame, tRx)] }
  | some c =>
    let t := Txn.own 7 p tRx (.raw reply) ⟨[], [], [], 0⟩ [] [] 0 0 0 0 tRx
    ((s.inc R.RSE.DISPATCHED.COUNT).count 0x300 1 |>.bump.beginTxn c { t with frame := frame, step := .slot }).build c

/-- The responder's reply to a frame. -/
def State.responderReply (s : State) (p : Nat) (f : List Byte) : Option (List Byte) :=
  let e := ethView f
  if e.etype = 0x0806 then s.arpReply p e else (ipView e).bind (s.ndReply p e)

/-- Responder frames that wait for a context (R382, R408): one is taken up for every context that comes free. -/
def State.serveResp (s : State) : State :=
  match s.rse.respWait with
  | [] => s
  | (p, f, t) :: rest =>
    if (s.freeCtx p).isNone then s
    else
      let s1 := s.modRse fun r => { r with respWait := rest }
      match s1.responderReply p f with
      | some b => s1.respond p f b t
      | none => s1

/-- A delivered frame sorted and passed on (R369, R372 to R374). -/
def State.sortFrame (p : Nat) (f : List Byte) (tRx : Int) (coarse : Bool) (s : State) : State :=
  match s.kindOf p f with
  | none => s.clsDrop
  | some 4 => match s.responderReply p f with | some b => s.respond p f b tRx | none => s
  | some k =>
    if k ≤ 3 then
      if s.flag R.RSE.STAT.HSET_OK = false then s.inc R.RSE.DROP_PARSE.COUNT
      else
        let rs := s.rse.rings.filter (fun e => e.1 / 256 == p && e.1 / 128 % 2 == 0 && e.2.role == 1 && e.2.on && e.2.kind == k)
        match rs[sourceHash f % (max 1 rs.length)]? with
        | some (n, r) => s.ringReceive n r k f tRx coarse
        | none => s.clsDrop
    else
      let i := s.hostRing p k
      if 128 ≤ i then s.clsDrop
      else
        match Map.get? s.rse.rings (p * 256 + i) with
        | some r => if r.role = 2 then s.ringReceive (p * 256 + i) r k f tRx coarse else s.clsDrop
        | none => s.clsDrop

/-! ### Reception (R315, R316) -/

/-- The address filter admits a destination (R316). -/
def State.admits (s : State) (p : Nat) (d : List Byte) : Bool :=
  s.flag (R.ETH.FILTER.PROMISC p) || (List.range 32).any (fun k => s.macEn p k && s.macOf p k == d) ||
  (if d = broadcastMac then s.flag (R.ETH.FILTER.BCAST_EN p)
   else isGroupMac d && s.flag (R.ETH.FILTER.PASS_ALL_GROUPS p))

/-- The longest frame that a port takes: MAX_LEN and 4 bytes for each of up to two 802.1Q tags (R315). -/
def State.maxLen (s : State) (p : Nat) (f : List Byte) : Nat :=
  let tags := if be f 12 2 = 0x8100 then (if be f 16 2 = 0x8100 then 2 else 1) else 0
  s.get (R.ETH.FRAME.MAX_LEN p) + 4 * tags

/-- A commit of group ADDR is accepted (R405): no enabled entry names a disabled MAC entry. -/
def rseAddrOk (_old new : State) : Bool :=
  (List.range 4).all (fun p => (List.range 8).all (fun k =>
    !(new.flag (R.RSE.IFADDR.CFG.EN p k)) || new.macEn p (new.get (R.RSE.IFADDR.CFG.MAC p k))))

/-- What a packet boundary brings into force: groups FILT and ADDR, and what waits for a packet (R13, R458). -/
def State.packetBoundary (s : State) : State :=
  let s1 := (List.range 4).foldl (fun st p =>
    st.takeGroup (.ethFilt p) (R.ETH.CTL.FILT_COMMIT p) (R.ETH.EVT.CFG_REJECTED p) (fun _ _ => true) (fun _ new => new)) s
  let s2 := s1.takeGroup .rseAddr R.RSE.CTL.ADDR_COMMIT R.RSE.EVT.CFG_REJECTED rseAddrOk (fun _ new => new)
  (s2.applyWaiting .packet (fun _ => true)).showMint

/-- A frame that passed checks 1 to 4 (R315 checks 5 to 10). -/
def State.rxGood (p : Nat) (r : RxFrame) (s : State) : State :=
  let f := r.bytes
  let dst := slice f 0 6
  let etype := be f 12 2
  if etype = 0x8808 then
    if be f 14 2 = 1 ∧ (dst = [0x01, 0x80, 0xC2, 0x00, 0x00, 0x01] ∨ (s.macEn p 0 = true ∧ dst = s.macOf p 0)) then
      let s1 := s.statInc p 6
      if s.flag (R.ETH.PAUSE.RX_EN p) then s1.pauseAccept p (be f 16 2) else s1
    else s.statInc p 21
  else if etype = 0x8809 ∧ be f 14 1 = 0x0A ∧ dst = [0x01, 0x80, 0xC2, 0x00, 0x00, 0x02] ∧ p < 3 ∧
      s.flag (R.ETH.ESMC_CFG.RX_EN p) = true then s.esmcReceive p f
  -- calibration frames are taken back before the filter (R366)
  else if s.flag (R.LTS.PORT.STAT.CAL_BUSY p) ∧ etype = 0x88B5 ∧ dst = s.macOf p 0 ∧ slice f 6 6 = s.macOf p 0 then s
  else if s.admits p dst = false then s.statInc p 22
  else if s.flag (R.ETH.STAT.HAT_GATED p) then s.statInc p 24
  else if 65536 < r.backlog + f.length then (s.statInc p 23).count (0x205 + 32 * p) 1
  else
    let (t, coarse) := s.rxStamp p r.cycle r.bit r.age r.preStep
    let s1 := (s.inc (R.LTS.PORT.RX_STAMPED.COUNT p)).count (0x200 + 32 * p) 1
    (if coarse then s1.bump.inc (R.LTS.PORT.RX_COARSE.COUNT p) else s1).sortFrame p f t coarse

/-- A received frame that the PCS discards: an error block, or what the FEC marks; BASE-R FEC marks only with FEC_ERR_IND (R307,
R315 check 1). -/
def State.rxBroken (s : State) (p : Nat) (r : RxFrame) : Bool :=
  let fec := s.get (R.ETH.CFG.FEC p)
  r.codeError || (r.fecError && (fec == 1 || (fec == 2 && s.flag (R.ETH.CFG.FEC_ERR_IND p))))

/-- RX_FRAME (R307, R315 to R318, R346 to R349, R372): a frame is judged, counted and delivered or discarded. Frames are received
only in UP. -/
def execRxFrame (p : Fin 4) (r : RxFrame) (s0 : State) : Out :=
  let p := p.val
  let s := s0.packetBoundary
  if s.linkUp p = false then .next s
  else
    let f := r.bytes
    let good := fcsGood f
    if s.rxBroken p r then .next (s.statInc p 20)
    else if f.length < 64 then .next (s.statInc p (if good then 15 else 16))
    else if s.maxLen p f < f.length then .next (s.statInc p (if good then 17 else 18))
    else if good = false then .next (s.statInc p 19)
    else .next ((((s.countRx p f).rxGood p r).serveSlots).serveResp)

end Sys2Proof.Machine
end

