-- ==== Sys2Proof/Machine/Serve.lean ====
section
/-! DEFINITION. The response engine's transactions (R370, R371, R381 to R388, R400), its ring commands, and the life-cycle
command that cancels transactions (R449, R450). -/

namespace Sys2Proof.Machine

/-! ### Dispatch (R387) -/

/-- The ENGINE receive rings of a port with a ready frame. -/
def State.readyRings (s : State) (p : Nat) : List (Nat × Ring) :=
  s.rse.rings.filter (fun e => e.1 / 256 == p && e.1 / 128 % 2 == 0 && e.2.role == 1 && e.2.on && e.2.held != 0)

/-- The credit of a port's class. -/
def State.credit (s : State) (p x : Nat) : Int := Map.getD s.rse.credits (p * 8 + x) 0

/-- The class that a port serves next: the lowest strict one, else that of the largest credit. -/
def State.nextClass (s : State) (p : Nat) (ready : List Nat) : Nat :=
  match (List.range 8).find? (fun x => ready.contains x && s.flag (R.RSE.PRI.STRICT x)) with
  | some x => x
  | none =>
    ((List.range 8).foldl (fun (b : Option Nat) x =>
      if ready.contains x then
        match b with
        | some y => if s.credit p y < s.credit p x then some x else b
        | none => some x
      else b) none).getD 0

/-- The first of a rising list that lies above `last`, else its first. -/
def nextAfter (last : Nat) (l : List Nat) : Nat := (l.find? (fun n => last < n)).getD (l.headD 0)

/-- What a descriptor and its slot hold: frame, T_rx, COARSE, kind (R377). -/
def State.fetchFrame (s : State) (r : Ring) : List Byte × Int × Bool × Nat :=
  let d := s.dramRead (r.descAt r.rd) 32
  let t : Int := (le d 10 6 * secU + le d 6 4 * nsU + le d 4 2 : Nat)
  (s.dramRead (r.slotAt r.rd) (le d 0 2), t, bitOf (le d 3 1) 0, le d 2 1)

/-! ### PARSE (R383, R410, R428, R453) -/

/-- A transaction over a received frame. -/
def Txn.over (handler p : Nat) (frame : List Byte) (tRx : Int) (coarse : Bool) (key : ClientKey) : Txn :=
  let t := Txn.own handler p tRx .ntp ⟨[], [], [], 0⟩ [] [] 0 0 0 0 tRx
  { t with frame := frame, coarse := coarse, step := .lookup, key := key }

/-- The key of a request (R390). -/
def requestKey (p : Nat) (frame portId : List Byte) : ClientKey :=
  match ipView (ethView frame) with
  | some v => ⟨if v.v6 then 1 else 0, v.src, p, portId⟩
  | none => ⟨2, slice frame 6 6, p, portId⟩

/-- A request invalid at PARSE. -/
def State.dropParse (s : State) : State := s.inc R.RSE.DROP_PARSE.COUNT

/-- What of a request's server address: the index, its Ethernet address and its IP address; none for a group. -/
def State.arrivedAt (s : State) (p : Nat) (frame : List Byte) : Option (Nat × List Byte × List Byte) :=
  match ipView (ethView frame) with
  | some v => (s.localAddr p v.dst).map (fun k => (k, s.macOf p (s.get (R.RSE.IFADDR.CFG.MAC p k)), v.dst))
  | none => none

/-- An NTP request meets R428: length, mode, version, extension fields, no legacy MAC. -/
def ntpFields (m : List Byte) : Option (List ExtField) :=
  let vn := be m 0 1 / 8 % 8
  if m.length < 48 ∨ be m 0 1 % 8 ≠ 3 ∨ (vn ≠ 3 ∧ vn ≠ 4) then none
  else match extFields (m.length + 1) m 48 [] with
    | .fields l => some l
    | _ => none

/-- PARSE of an NTP request (R428). -/
def State.parseNtp (p : Nat) (frame : List Byte) (tRx : Int) (coarse : Bool) (s : State) : Option Txn × State :=
  let s1 := s.inc R.PRO.NTP_REQ.COUNT
  match ntpFields (payloadOf frame), s.arrivedAt p frame with
  | some _, some _ => (some (Txn.over 1 p frame tRx coarse (requestKey p frame (List.replicate 10 0))), s1)
  | _, _ => (none, (s1.inc R.PRO.NTP_DROP.COUNT).dropParse)

/-- PARSE of an NTS request (R438, R453, R454): its cookie is opened and its authenticator verified. -/
def State.parseNts (p : Nat) (frame : List Byte) (tRx : Int) (coarse : Bool) (s : State) : Option Txn × State :=
  let m := payloadOf frame
  match (ntpFields m).bind ntsRequest, s.arrivedAt p frame with
  | some r, some _ =>
    if s.flag R.GLV.NTS_CFG.EN = false ∨ s.flag R.GLV.STAT.RNG_OK = false then
      (none, (s.inc R.GLV.NTS_MALFORMED.COUNT).dropParse)
    else
      let t := Txn.over 2 p frame tRx coarse (requestKey p frame (List.replicate 10 0))
      let none_ : NtsCtx := ⟨[], [], r.uid, 0, []⟩
      let (keys, s1) := s.openCookie r.cookie
      match keys with
      | none => (some { t with nts := some none_, auth := 2 }, s1)
      | some (c2s, s2c) =>
        let n : NtsCtx := ⟨c2s, s2c, r.uid, min (1 + r.placeholders) (s.get R.GLV.NTS_CFG.MAX_COOKIES), []⟩
        (some { t with nts := some n, auth := if ntsVerify m r c2s then 1 else 3 }, s1)
  | _, _ => (none, (s.inc R.GLV.NTS_MALFORMED.COUNT).dropParse)

/-- A PTP message ignored by port `p` (R410). -/
def State.ignored (p : Nat) (s : State) : State := s.inc (R.PRO.PORT.IGNORED.COUNT p)

/-- The encapsulation of a frame, as TRANSPORT codes it (R411). -/
def transportOf (frame : List Byte) : Nat :=
  match ipView (ethView frame) with | some v => if v.v6 then 2 else 1 | none => 0

/-- messageTypes that only a client takes. -/
def upstreamType (m : Nat) : Bool := [0, 3, 8, 9, 0xA, 0xB].contains m

/-- A Signaling message carries a TLV type. -/
def hasTlv (msg : List Byte) (types : List Nat) : Bool := (tlvsFrom msg.length msg 44).any (fun t => types.contains t.1)

/-- An Announce of another master, heard by a serving instance (R414). -/
def State.foreignHeard (p : Nat) (heard : Bool) (s : State) : State :=
  if heard then (s.inc (R.PRO.PORT.FOREIGN_ANN.COUNT p)).evt R.PRO.EVT.FOREIGN_ANN else s

/-- A PTP message as handler `handler` takes it, its authentication judged (R461); an instance that is OFF checks nothing
(R460). -/
def State.takePtp (handler p : Nat) (frame : List Byte) (tRx : Int) (coarse : Bool) (s : State) : Option Txn × State :=
  let m := ptpOf frame
  let (r, s1) := if (s.authOf p (handler == 6)).1 = 0 then (AuthResult.absent, s) else s.verifyMessage m
  (some { Txn.over handler p frame tRx coarse (requestKey p frame (slice m 20 10)) with auth := r.code }, s1)

/-- PARSE of a PTP message (R410, R411, R414, R422, R425): who it is for, and its authentication (R461). -/
def State.parsePtp (p : Nat) (frame : List Byte) (tRx : Int) (coarse : Bool) (s : State) : Option Txn × State :=
  let m := ptpOf frame
  let typ := be m 0 1 % 16
  if m.length < ptpFixed typ ∨ be m 2 2 ≠ m.length then (none, s.dropParse)
  else if be m 1 1 % 16 ≠ 2 ∨ 2 ≤ be m 1 1 / 16 ∨ be m 0 1 / 16 ≠ 0 ∨ be m 5 1 ≠ 0 then (none, s.ignored p)
  else
    let dom := be m 4 1
    let tr := transportOf frame
    let client := s.flag (R.PRO.PREF.CFG.EN p) && dom == s.get (R.PRO.PREF.CFG.DOMAIN p) &&
      (upstreamType typ || (typ == 0xC && hasTlv m [5, 7]))
    let serves := s.flag (R.PRO.PORT.CFG.EN p) && dom == s.get (R.PRO.PORT.CFG.DOMAIN p) && tr == s.get (R.PRO.PORT.CFG.TRANSPORT p)
    let s0 := s.foreignHeard p (decide (serves ∧ typ = 0xB))
    if client then
      if tr = s.get (R.PRO.PREF.CFG.TRANSPORT p) then s0.takePtp 6 p frame tRx coarse else (none, s0.ignored p)
    else if serves && typ == 0xB then (none, s0)
    else if !serves || s.ptpStateOf p != 2 then (none, s0.ignored p)
    else if typ = 1 ∧ s.flag (R.PRO.PORT.CFG.DELAY p) = false then s0.takePtp 3 p frame tRx coarse
    else if typ = 2 ∧ s.flag (R.PRO.PORT.CFG.DELAY p) = true then s0.takePtp 3 p frame tRx coarse
    else if typ = 0xC ∧ s.flag (R.PRO.PORT.CFG.UNICAST p) = true then s0.takePtp 4 p frame tRx coarse
    else (none, s0.ignored p)

/-- DISPATCH (R387): the next ready frame enters a context, and PARSE runs. One that DRAM delivers poisoned is dropped (R579). -/
def execDispatch (s : State) : Out :=
  let ports := (List.range 4).filter (fun p => s.readyRings p ≠ [] ∧ (s.freeCtx p).isSome)
  if ports = [] then .next s
  else
    let p := nextAfter s.rse.lastPort ports
    let rings := s.readyRings p
    let ready := rings.map (fun e => e.2.pri)
    let x := s.nextClass p ready
    let n := nextAfter (Map.getD s.rse.lastRing (p * 8 + x) 1024) ((rings.filter (fun e => e.2.pri == x)).map (·.1))
    match Map.get? s.rse.rings n, s.freeCtx p with
    | some r, some c =>
      let (f, tRx, coarse, kind) := s.fetchFrame r
      let bad := s.ringBad r r.rd f.length
      if bad ≠ [] then
        .next (((s.countBad bad).putRing n { r with rd := (r.rd + 1) % 65536 }).ringPoisoned n)
      else
      let s1 := (s.putRing n { r with rd := (r.rd + 1) % 65536 }).inc R.RSE.DISPATCHED.COUNT |>.count 0x300 1
      let s2 := s1.modRse fun q =>
        { q with lastPort := p, lastRing := Map.put q.lastRing (p * 8 + x) n, credits := Map.put q.credits (p * 8 + x) (s.credit p x - 1) }
      let s3 := if (List.range 8).all (fun y => !ready.contains y || decide (s2.credit p y ≤ 0)) then
          s2.modRse fun q => { q with credits := (List.range 8).foldl (fun m y =>
            Map.put m (p * 8 + y) (s2.credit p y + s.get (R.RSE.PRI.WEIGHT y))) q.credits }
        else s2
      let (t, s4) := if kind = 2 then s3.parseNtp p f tRx coarse else if kind = 3 then s3.parseNts p f tRx coarse
        else s3.parsePtp p f tRx coarse
      match t with
      | some t => .next (s4.beginTxn c t)
      -- PARSE drops it in its context, which TXN_PEAK has seen
      | none => .next (s4.set R.RSE.TXN_PEAK.COUNT (max (s4.rse.txns.length + 1) (s4.get R.RSE.TXN_PEAK.COUNT)))
    | _, _ => .next s

/-! ### LOOKUP and DECIDE (R383, R390 to R395, R400) -/

/-- A transaction ends without a reply, its context released. -/
def State.endQuiet (c : Nat) (s : State) : State := ((s.endTxn c).serveSlots).serveResp

/-- The reply of a transaction is fixed: it asks for its launch, or is built at once where it is unscheduled (R383). -/
def State.reply (c : Nat) (t : Txn) (s : State) : State :=
  let t1 := { t with len := s.frameLen t, cls := replyClass t.reply, tReq := t.start }
  if t.reply.scheduled then
    let s1 := s.putTxn c { t1 with step := .request }
    { s1 with lts := { s1.lts with requests := s1.lts.requests ++ [c] } }
  else (s.putTxn c { t1 with step := .slot }).build c

/-- Where a reply goes and from where (R411): back to the sender from the address it came to, or, where the request came to a
group, to the multicast destination of its kind. -/
def State.replyPath (s : State) (t : Txn) : Option (Peer × List Byte × List Byte × Nat) :=
  let e := ethView t.frame
  let group (tr : Nat) : List Byte × List Byte :=
    groupDest tr (be (ptpOf t.frame) 0 1 % 16 == 2) (s.flag (R.PRO.PORT.CFG.L2_DST t.port))
  match ipView e with
  | some v =>
    let sport := (udpView v).sport
    match s.arrivedAt t.port t.frame with
    | some (k, mac, ip) => some (⟨e.src, e.tags, v.src, sport⟩, mac, ip, k)
    | none =>
      let tr := if v.v6 then 2 else 1
      (s.ownSource t.port tr).map (fun (mac, ip, k) => (⟨(group tr).1, e.tags, (group tr).2, sport⟩, mac, ip, k))
  | none =>
    if isGroupMac e.dst then some (⟨(group 0).1, e.tags, [], 0⟩, s.macOf t.port 0, [], 0)
    else some (⟨e.src, e.tags, [], 0⟩, e.dst, [], 0)

/-- A transaction with its path. -/
def Txn.along (t : Txn) (x : Peer × List Byte × List Byte × Nat) : Txn :=
  { t with peer := x.1, srcMac := x.2.1, srcIp := x.2.2.1, addr := x.2.2.2 }

/-- A request that failed authentication (R455, R461): its entry counts it; NTS answers with NTSN where NAK is set. -/
def State.authFailed (c : Nat) (t : Txn) (n : Option Nat) (s : State) : State :=
  let s1 := match n with | some k => s.entryCount t.key k 112 | none => s
  if t.handler = 2 then
    let s2 := s1.inc (if t.auth = 2 then R.GLV.NTS_BAD_COOKIE.COUNT else R.GLV.NTS_BAD_AUTH.COUNT)
    if s.flag R.GLV.NTS_CFG.NAK then
      match s.replyPath t with
      | some x => (s2.inc R.GLV.NTS_NAK.COUNT).reply c { t.along x with reply := .kod (ascii "NTSN") }
      | none => s2.endQuiet c
    else s2.endQuiet c
  else s1.endQuiet c

/-- DECIDE of an NTP request (R431). -/
def State.decideNtp (c : Nat) (t : Txn) (within : Bool) (s : State) : State :=
  match s.replyPath t with
  | none => s.endQuiet c
  | some x =>
    if within then s.reply c { t.along x with reply := .ntp }
    else if s.get R.PRO.NTP_CFG.KOD_MODE = 0 then (s.inc R.PRO.NTP_DROP.COUNT).endQuiet c
    else (s.inc R.PRO.NTP_KOD.COUNT).reply c { t.along x with reply := .kod (ascii "RATE") }

/-- DECIDE of an NTS request (R431, R454, R456): as many cookies as fit are minted; a reply without any is
counted and flagged (R458). -/
def State.decideNts (c : Nat) (t : Txn) (within : Bool) (s : State) : State :=
  match s.replyPath t, t.nts with
  | some x, some n =>
    if within then
      let k := cookiesFit n.uid.length (payloadOf t.frame).length n.wanted
      let (cs, s1) := s.mintCookies n.c2s n.s2c k
      let n1 : NtsCtx := { n with wanted := cs.length, cookies := cs }
      let s2 := if cs = [] then (s1.inc R.GLV.NTS_NO_MINT.COUNT).evt R.GLV.EVT.NO_MINT else s1
      s2.showMint.reply c { t.along x with reply := .nts, nts := some n1, ops := if cs = [] then [] else [.mint] }
    else (s.inc R.PRO.NTP_DROP.COUNT).endQuiet c
  | _, _ => s.endQuiet c

/-- DECIDE of a Delay_Req or Pdelay_Req (R417, R421, R424). -/
def State.decideDelay (c : Nat) (t : Txn) (entry : Option Nat) (within : Bool) (s : State) : State :=
  let p := t.port
  let granted := match entry with
    | some n => (eGrants (s.entry n)).any (fun g => le g 0 1 == 9 && grantLive (s.second % 2 ^ 32) g)
    | none => false
  if within = false then s.endQuiet c
  else if t.coarse ∧ s.flag R.PRO.CFG.COARSE_ANSWER = false then (s.inc (R.PRO.PORT.COARSE_DROP.COUNT p)).endQuiet c
  else if s.get (R.PRO.PORT.CFG.PROFILE p) = 3 ∧ granted = false then (s.inc (R.PRO.PORT.NO_GRANT.COUNT p)).endQuiet c
  else
    match s.replyPath t with
    | none => s.endQuiet c
    | some x => s.reply c { t.along x with reply := if be (ptpOf t.frame) 0 1 % 16 = 1 then .delayResp else .pdelayResp }

/-- DECIDE of a Signaling message (R422, R423). -/
def State.decideSignaling (c : Nat) (t : Txn) (entry : Option Nat) (within : Bool) (s : State) : State :=
  match s.replyPath t with
  | none => s.endQuiet c
  | some x =>
    let (tlvs, s1) := s.negotiate t.port entry (!within) t.start x.1 (ptpOf t.frame)
    if tlvs = [] then s1.endQuiet c
    else
      let (n, s2) := s1.nextSeq t.port 0xC
      s2.reply c { t.along x with reply := .signaling tlvs, seq := n }

/-- A protocol's decision. -/
def State.decideBy (c : Nat) (t : Txn) (entry : Option Nat) (within : Bool) (s : State) : State :=
  match t.handler with
  | 1 => s.decideNtp c t within
  | 2 => s.decideNts c t within
  | 3 => s.decideDelay c t entry within
  | _ => s.decideSignaling c t entry within

/-- A request fails authentication: its own failed, or its instance or entry requires what it lacks (R455, R460, R461). -/
def State.authFails (s : State) (t : Txn) (authReq : Bool) : Bool :=
  if t.handler = 1 then false
  else if t.handler = 2 then t.auth != 1
  else t.auth == 2 || (t.auth == 0 && (authReq || (s.authOf t.port false).1 == 2))

/-- The authentication of a request as its entry settles it: an instance that is OFF checks the TLV only where AUTH_REQ asks
for it (R460, R461). -/
def State.settleAuth (t : Txn) (authReq : Bool) (s : State) : Txn × State :=
  if (t.handler = 3 ∨ t.handler = 4) ∧ (s.authOf t.port false).1 = 0 ∧ authReq = true then
    let (r, s1) := s.verifyMessage (ptpOf t.frame)
    ({ t with auth := r.code }, s1)
  else (t, s)

/-- The transaction may allocate an entry (R395). -/
def State.mayAllocate (s : State) (t : Txn) : Bool :=
  ((t.handler == 1 || t.handler == 2) && s.flag R.RSE.CT_CFG.NTP_TRACK) || (t.handler == 4 && hasTlv (ptpOf t.frame) [4])

/-- A transaction's LOOKUP (R383, R390 to R395, R400): the entry is found or allocated, and DECIDE runs under its lock. One that
needs a poisoned line drops (R579). -/
def State.lookUp (c : Nat) (t0 : Txn) (s : State) : Out :=
  if t0.handler = 6 then
    let t := t0
    let lacks := t.auth == 0 && (s.authOf t.port true).1 == 2
    if lacks then .next ((s.inc R.GLV.PTP_FAIL.COUNT).endQuiet c)
    else if t.auth = 2 then .next (s.endQuiet c)
    else .next ((s.prefMessage t.port t.frame (ptpOf t.frame) t.start t.coarse).endQuiet c)
  else
    let (found, s0) := s.lookupEntry t0.key
    if (s.poisonedFor t0.key).isSome then .next (s0.dropParse.endQuiet c)
    else
    let e := (found.map s0.entry).getD []
    let authReq := found.isSome && eAuthReq e
    let (t, s1) := if found.isSome ∧ eState e = 3 then (t0, s0) else s0.settleAuth t0 authReq
    if found.isSome ∧ eState e = 3 then
      let n := found.getD 0
      let w := eWrite (eInc 48) e
      .next (((s1.putEntry n w).inc R.RSE.DROP_DENY.COUNT).endQuiet c)
    else if s1.authFails t authReq then
      let s2 := if t.handler ≠ 2 ∧ t.auth = 0 then s1.inc R.GLV.PTP_FAIL.COUNT else s1
      .next (s2.authFailed c t found)
    else if t.handler = 1 ∧ authReq = true then
      .next (((s1.inc R.PRO.NTP_DROP.COUNT).entryCount t.key (found.getD 0) 112).endQuiet c)
    else
      let k := ((s1.arrivedAt t.port t.frame).map (·.1)).getD 0
      let (n, s2) := if found.isNone ∧ s1.mayAllocate t = true then s1.allocEntry t.key k else (found, s1)
      match n with
      | none => .next (s2.decideBy c { t with entry := none } none true)
      | some i =>
        let (within, s3) := s2.takeToken i
        .next (s3.decideBy c { t with entry := some i } (some i) within)

/-- LOOKUP (R400, R578): of a transaction that stands there, with the memory errors that lie in what it reads. -/
def execLookup (ctx : BitVec 12) (errs : List MemError) (s : State) : Out :=
  match s.txn? ctx.toNat with
  | none => .next s
  | some t =>
    if t.step ≠ TxnStep.lookup then .next s else (errs.foldl (fun st e => st.memUpset e) s).lookUp ctx.toNat t

/-! ### The rest of a transaction -/

/-- GLOVEBOX_DONE (R454, R460): the oldest operation of a transaction completes. -/
def execGloveboxDone (ctx : BitVec 12) (s : State) : Out :=
  let c := ctx.toNat
  match s.txn? c with
  | none => .next s
  | some t =>
    match t.ops with
    | [] => .next s
    | .mint :: rest =>
      let t1 := { t with ops := rest }
      match t.step, t.nts with
      | .auth, some n => .next ((s.putTxn c t1).issueSeal c t1 n (t.tL.getD s.now))
      | _, _ => .next (s.putTxn c t1)
    | _ :: rest =>
      if t.step = .auth then .next ((s.putTxn c { t with ops := rest }).frameDone c t.out)
      else .next (s.putTxn c { t with ops := rest })

/-- STEP_OVERRUN (R371). -/
def execStepOverrun (ctx : BitVec 12) (s : State) : Out :=
  match s.txn? ctx.toNat with
  | none => .next s
  | some _ =>
    .next (((((s.bump.inc R.RSE.STEP_OVERRUN.COUNT).evt R.RSE.EVT.STEP_OVERRUN).file F.rseStepOverrun
        (s.fresh % 16) 0).dropTxn ctx.toNat).serveSlots.serveResp)

/-- FULL_RETRY (R384, R599): FULL_RETRY × 10 ns after the refusal. -/
def execFullRetry (ctx : BitVec 12) (s : State) : Out :=
  let c := ctx.toNat
  match s.txn? c with
  | none => .next s
  | some t =>
    if t.step ≠ TxnStep.retry ∨ s.passed t.tried (s.get R.RSE.RESP.FULL_RETRY * (10 * nsU)) = false then .next s
    else if s.shareSpent t s.now then .next (((s.inc R.RSE.DROP_REFUSED.COUNT).dropTxn c).serveSlots.serveResp)
    else
      let s1 := s.putTxn c { t with step := .request }
      .next { s1 with lts := { s1.lts with requests := s1.lts.requests ++ [c] } }

/-- RESPONSE_DEADLINE (R362, R385). -/
def execResponseDeadline (ctx : BitVec 12) (s : State) : Out :=
  let c := ctx.toNat
  match s.txn? c with
  | none => .next s
  | some t =>
    if s.now < t.start + s.respDeadline then .next s
    else
      let missed := t.retimes ≠ 0 ∨ (t.step = TxnStep.request ∧ t.tOrig.isSome = true)
      let s1 := (((s.inc R.RSE.DROP_DEADLINE.COUNT).count 0x305 1).evt R.RSE.EVT.DEADLINE).fileFirst F.rseRespDeadline t.port 0
      let s2 := if missed then s1.inc (R.LTS.PORT.DROPPED.COUNT t.port) else s1
      .next ((s2.dropTxn c).serveSlots.serveResp)

/-! ### Groups and rings -/

/-- A commit of group ENG is accepted (R373, R382, R384, R387, R389, R409). -/
def rseEngOk (old new : State) : Bool :=
  let dl := new.get R.RSE.RESP.DL_US
  let log := new.get R.RSE.CT_CFG.LOG
  let moved := [R.RSE.CT_BASE_LO.ADDR, R.RSE.CT_BASE_HI.ADDR, R.RSE.CT_CFG.LOG].any (old.differ new)
  let ring (f : Field) : Bool := decide (new.get f < 128) || new.get f == 255
  decide (10 ≤ dl) && decide (dl ≤ 10000) && new.get R.RSE.RESP.FULL_RETRY != 0 && new.get R.RSE.WB_CFG.WB_US != 0 &&
  decide (10 ≤ log) && decide (log ≤ 20) && (!moved || new.get R.NVC.STAT.SVC_STATE == 0) &&
  (List.range 4).all (fun p =>
    ring (R.RSE.HOSTMAP.ARPND p) && ring (R.RSE.HOSTMAP.ICMP p) && ring (R.RSE.HOSTMAP.NTSKE p) && ring (R.RSE.HOSTMAP.OTHER p) &&
    new.get (R.RSE.PORTCAP.MAX p) != 0 && decide (new.get (R.RSE.PORTCAP.MAX p) ≤ 4096)) &&
  (List.range 8).all (fun x => new.get (R.RSE.PRI.WEIGHT x) != 0)

/-- The client table moves with an accepted commit of its base or size (R389): the cache holds nothing of the new one. -/
def rseEngAfter (old new : State) : State :=
  if [R.RSE.CT_BASE_LO.ADDR, R.RSE.CT_BASE_HI.ADDR, R.RSE.CT_CFG.LOG].any (old.differ new) then
    new.modRse fun r => { r with cache := [] }
  else new

/-- A commit of group RTAB is accepted (R376). -/
def rseRtabOk (_old new : State) : Bool := new.tableOk new.readTable

/-- The response engine's groups at the second. -/
def State.rseSecond (s : State) : State :=
  (s.takeGroup .rseEng R.RSE.CTL.ENG_COMMIT R.RSE.EVT.CFG_REJECTED rseEngOk rseEngAfter).takeGroup .rseRtab
    R.RSE.CTL.RTAB_COMMIT R.RSE.EVT.CFG_REJECTED rseRtabOk (fun _ new => new.applyTable new.readTable)

/-- RTAB_COMMIT (R376). -/
def execRtabCommit (s : State) : Out := .next (s.commit .rseRtab R.RSE.CTL.RTAB_COMMIT)

/-- ENG_COMMIT (R409). -/
def execEngCommit (s : State) : Out := .next (s.commit .rseEng R.RSE.CTL.ENG_COMMIT)

/-- ADDR_COMMIT (R405). -/
def execAddrCommit (s : State) : Out := .next (s.commit .rseAddr R.RSE.CTL.ADDR_COMMIT)

/-- DOORBELL (R379): the host-owned pointer of a HOST ring moves forward, not past the other. -/
def execDoorbell (ring : BitVec 10) (ptr : BitVec 16) (s0 : State) : Out :=
  let s := (s0.set R.RSE.DOORBELL.RING ring.toNat).set R.RSE.DOORBELL.PTR ptr.toNat
  let n := ring.toNat
  match Map.get? s.rse.rings n with
  | none => .next (s.evt R.RSE.EVT.CFG_REJECTED)
  | some r =>
    if r.role ≠ 2 ∨ r.logN = 0 then .next (s.evt R.RSE.EVT.CFG_REJECTED)
    else if n / 128 % 2 = 0 then
      if r.held < (ptr.toNat + 65536 - r.rd) % 65536 then .next (s.evt R.RSE.EVT.CFG_REJECTED)
      else .next (s.putRing n { r with rd := ptr.toNat })
    else
      let add := (ptr.toNat + 65536 - r.wr) % 65536
      if 2 ^ r.logN < r.held + add then .next (s.evt R.RSE.EVT.CFG_REJECTED)
      else
        let new := (List.range add).map (fun i => Unsched.ring n ((r.wr + i) % 65536))
        .next ((s.putRing n { r with wr := ptr.toNat }).setUnsched (n / 256) ((s.port (n / 256)).unsched ++ new))

/-- A host descriptor finished with its status (R378). -/
def State.ringSent (n idx status : Nat) (s : State) : State :=
  match Map.get? s.rse.rings n with
  | none => s
  | some r =>
    (s.dramWrite (r.descAt idx + 3) (leBytes 1 status)).putRing n { r with rd := (r.rd + 1) % 65536, moved := true, raise := true }

/-- A host frame that DRAM delivers poisoned is dropped (R579). DESIGN CHOICE: R378 has no status for it, and its descriptor is left
as it is (log entry 128). -/
def State.ringLost (n : Nat) (s : State) : State :=
  match Map.get? s.rse.rings n with
  | none => s
  | some r => (s.putRing n { r with rd := (r.rd + 1) % 65536, moved := true, raise := true }).ringPoisoned n

/-- The head of a port's unscheduled frames leaves the queue, with the reservation it may hold. -/
def State.unschedPop (p : Nat) (s : State) : State :=
  (s.setUnsched p ((s.port p).unsched.drop 1)).setResv p ((s.flue p).resv.filter (fun r => r.ctx.isSome))

/-- An unscheduled frame of `len` bytes may start: no pause, and its occupancy ends before the next reservation begins
(R318, R356). -/
def State.mayStart (s : State) (p len : Nat) : Bool :=
  let b := s.byteTime p
  let fin : Rat := max (s.now : Rat) (s.port p).lineEnd + ((len + 20 : Nat) : Rat) * b
  (s.port p).pauseEnd.isNone &&
  (s.flue p).resv.all (fun r => r.ctx.isNone || decide (fin ≤ (s.occupancy p r.len r.tL).1))

/-- The responder's replies count as they leave (R406, R407). -/
def State.countReply (t : Txn) (s : State) : State :=
  if t.handler = 7 then
    (if (ethView t.frame).etype = 0x0806 then s.inc R.RSE.ARP_REPLY.COUNT else s.inc R.RSE.ND_REPLY.COUNT)
  else s

/-- UNSCHED_TX_DONE (R356, R378, R408): the head unscheduled frame of a port is sent, or dropped with its status. -/
def execUnschedTxDone (p : Fin 4) (s : State) : Out :=
  let p := p.val
  let serves := s.portServes p
  match (s.port p).unsched with
  | [] => .next s
  | .ring n idx :: _ =>
    match Map.get? s.rse.rings n with
    | none => .next (s.unschedPop p)
    | some r =>
      let len := le (s.dramRead (r.descAt idx) 2) 0 2
      if s.badWords (r.descAt idx) 32 ≠ [] then .next (((s.unschedPop p).readBad (r.descAt idx) 32).ringLost n)
      else if len < 60 ∨ s.get (R.ETH.FRAME.MAX_LEN p) < len + 4 then .next ((s.unschedPop p).ringSent n idx 2)
      else if s.linkUp p = false then .next ((s.unschedPop p).ringSent n idx 3)
      else if serves = false then .next ((s.unschedPop p).ringSent n idx 4)
      else if s.badWords (r.slotAt idx) len ≠ [] then .next (((s.unschedPop p).readBad (r.slotAt idx) len).ringLost n)
      else if s.mayStart p (len + 4) then
        .next (((s.unschedPop p).sendFrame p none (withFcs (s.dramRead (r.slotAt idx) len))).ringSent n idx 1 |>.count
            (0x202 + 32 * p) 1)
      else .next s
  | .txn c :: _ =>
    match s.txn? c with
    | none => .next (s.unschedPop p)
    | some t =>
      if serves && s.mayStart p t.out.length then
        .next (((((((s.unschedPop p).sendFrame p none t.out).count
            (0x202 + 32 * p) 1).countSent t).countReply t).endTxn c).serveSlots.serveResp)
      else .next s
  | .own f :: _ =>
    if serves = false then .next (s.unschedPop p)
    else if s.mayStart p f.length then .next ((((s.unschedPop p).sendFrame p none f).statInc p 38).count (0x202 + 32 * p) 1)
    else .next s

/-- A ring's writeback record is due: its pointer has moved, and WB_US have passed since the last (R379). -/
def State.writebackDue (s : State) (r : Ring) : Bool := r.moved && s.passed r.wbAt (s.get R.RSE.WB_CFG.WB_US * (1000 * nsU))

/-- The writeback record of ring `n` (R379). -/
def State.writeback (n : Nat) (r : Ring) (s : State) : State :=
  let own := if n / 128 % 2 = 0 then r.wr else r.rd
  (s.dramWrite (s.wbBase + 8 * n) (leBytes 2 own ++ [0, 0] ++ leBytes 4 r.drops)).putRing n
    { r with moved := false, wbAt := s.mark }

/-- A HOST ring's vector, once its pointer has moved and MOD_US have passed since the last (R380). -/
def State.ringVector (n : Nat) (s : State) : State :=
  match Map.get? s.rse.rings n with
  | none => s
  | some r =>
    if r.role = 2 ∧ r.raise = true ∧ s.passed r.intAt (r.modUs * (1000 * nsU)) = true then
      (s.putRing n { r with raise := false, intAt := s.mark }).requestVector r.vector
    else s

/-- RING_INTERRUPT (R379, R380): the ring's writeback record, and then a HOST ring's vector. A record that WB_US still holds back
holds back the interrupt with it. -/
def execRingInterrupt (ring : BitVec 10) (s : State) : Out :=
  let n := ring.toNat
  match Map.get? s.rse.rings n with
  | none => .next s
  | some r =>
    if s.writebackDue r then .next ((s.writeback n r).ringVector n)
    else if r.moved then .next s
    else .next (s.ringVector n)

/-- BAR2_TABLE_WRITE (R398): a host write of one word of a client-table entry, by byte enables. -/
def execBar2TableWrite (entry : BitVec 20) (word : Fin 32) (data : Word) (be : BitVec 4) (s : State) : Out :=
  if s.ctCount ≤ entry.toNat then .next s
  else
    let a := s.ctBase + 128 * entry.toNat + 4 * word.val
    let old := s.dramRead a 4
    let new := (List.range 4).map (fun i => if bitOf be.toNat i then (leBytes 4 data.toNat).getD i 0 else old.getD i 0)
    .next (s.tableWrite a new)

/-! ### The life-cycle command (R449, R450) -/

/-- A change of life-cycle state (R450). -/
def State.lcChange (target : Nat) (s : State) : State :=
  let s1 := s.destroyAll.clearKeyData.reseed
  let held := s.rse.txns.filter (fun e => (match e.2.nts with | some n => n.c2s != [] | none => false) || e.2.ops != [])
  let s2 := held.foldl (fun st e => (st.inc R.RSE.DROP_DEADLINE.COUNT).dropTxn e.1) s1
  (((s2.evt R.GLV.EVT.LC_CHANGE).file F.glvLcChange target 0).set R.GLV.LC.STATE target).showMint

/-- LC_CMD (R449): with the confirmation, and a target that the image's mask permits. -/
def execLcCmd (target : BitVec 2) (confirm : BitVec 16) (s : State) : Out :=
  let t := target.toNat
  if confirm.toNat ≠ 0x4C43 ∨ t = 3 ∨ bitOf (s.get R.GLV.LC.LC_MASK) t = false then .next (s.evt R.GLV.EVT.CFG_REJECTED)
  else if t = s.get R.GLV.LC.STATE then .next s
  else .next ((s.lcChange t).serveSlots.serveResp)

end Sys2Proof.Machine
end

