-- ==== Sys2Proof/Machine/Smp.lean ====
section
/-! DEFINITION. Sample ports (chapter 15). -/

namespace Sys2Proof.Machine

/-- A port with nothing in progress. -/
def SmpPort.empty : SmpPort :=
  { count := 0, post := 0, badRun := 0, lastEdge := none, resume := false, inRun := false, mask := 3, sending := [],
    prevRd := 0, blockNo := 0, sinceZ := none, csA := 0, csB := 0, csN := none, armed := none, startAt := none,
    stopAt := none }

/-- Port `n`. -/
def State.spk (s : State) (n : Nat) : SmpPort := Map.getD s.smp.ports n SmpPort.empty

/-- Port `n` changed. -/
def State.modSpk (n : Nat) (f : SmpPort → SmpPort) (s : State) : State :=
  { s with smp := { s.smp with ports := Map.put s.smp.ports n (f (s.spk n)) } }

/-- A lead with no stamp yet. -/
def SmpLead.empty : SmpLead := { n := 0, lo := 0, hi := 0, sum := 0, bad := false, last := none }

/-- Lead `l`. -/
def State.lead (s : State) (l : Nat) : SmpLead := Map.getD s.smp.leads l SmpLead.empty

/-- Lead `l` changed. -/
def State.modLead (l : Nat) (f : SmpLead → SmpLead) (s : State) : State :=
  { s with smp := { s.smp with leads := Map.put s.smp.leads l (f (s.lead l)) } }

/-- STATE of a port: 0 OFF, 1 IDLE, 2 PREROLL, 3 RUN, 4 POSTROLL, 5 STALL (R470). -/
def State.spkState (s : State) (n : Nat) : Nat := s.get (R.SMP.PORT.STAT.STATE n)

/-- The port runs AES3 (R466). -/
def State.aes (s : State) (n : Nat) : Bool := s.flag (R.SMP.PORT.CFG.MODE n)

/-- The port is an AES3 receive port (R465). -/
def State.aesRx (s : State) (n : Nat) : Bool := s.aes n && s.flag (R.SMP.PORT.CFG.RX_EN n)

/-- The nominal period in 2^-16 ns (R469). -/
def State.spkPeriod (s : State) (n : Nat) : Rat :=
  let fs := s.get (R.SMP.PORT.RATE.FS_NOM n)
  if fs = 0 then 0 else (secU : Rat) / (fs : Nat)

/-! ### Commits (R466, R477) -/

/-- The limits of R466 on a committed group PORTn. -/
def smpOk (n : Nat) (old new : State) : Bool :=
  let fs := new.get (R.SMP.PORT.RATE.FS_NOM n)
  let bits := new.get (R.SMP.PORT.FMT.BITS n)
  let slot := new.get (R.SMP.PORT.FMT.SLOT n)
  let tx := new.flag (R.SMP.PORT.CFG.TX_EN n)
  let rx := new.flag (R.SMP.PORT.CFG.RX_EN n)
  let ring (en : Bool) (size : Nat) : Bool := decide (size ≤ 4096) && (!en || decide (1 ≤ size))
  decide (old.spkState n ≤ 1) && !(new.aes n && tx && rx) &&
  (if new.aes n then decide (32000 ≤ fs) && decide (fs ≤ 192000)
   else decide (8000 ≤ fs) && decide (fs ≤ 384000) && decide (16 ≤ bits) && decide (bits ≤ 32) && decide (bits ≤ slot) &&
     decide (slot ≤ 32) && decide (2 * slot * fs ≤ 24576000)) &&
  new.get (R.SMP.PORT.RATE.RATE_N n) != 0 && new.get (R.SMP.PORT.ROLL.PREROLL n) != 0 &&
  ring tx (new.get (R.SMP.PORT.TX_SIZE.SIZE n)) && ring rx (new.get (R.SMP.PORT.RX_SIZE.SIZE n))

/-- What a commit of group PORTn brings: OFF or IDLE, and both rings empty (R470, R477). A port that stays in IDLE with the
same clock goes on watching it (R468, R469). -/
def smpAfter (n : Nat) (old new : State) : State :=
  let s1 := (((new.set (R.SMP.PORT.TX_WR.PTR n) 0).set (R.SMP.PORT.TX_RD.PTR n) 0).set (R.SMP.PORT.RX_WR.PTR n) 0).set
    (R.SMP.PORT.RX_RD.PTR n) 0
  let s2 := s1.set (R.SMP.PORT.STAT.STATE n) (ofBool (new.flag (R.SMP.PORT.CFG.EN n)))
  if old.spkState n = 1 ∧ new.flag (R.SMP.PORT.CFG.EN n) = true ∧ old.aesRx n = new.aesRx n then
    s2.modSpk n fun p => { SmpPort.empty with lastEdge := p.lastEdge, sinceZ := p.sinceZ }
  else
    ((s2.modSpk n fun _ => SmpPort.empty).set (R.SMP.PORT.STAT.AES_LOCK n) 0).set (R.SMP.PORT.STAT.CLK_PRESENT n) 0

/-- Group PORTn at the second. -/
def State.smpCommitSecond (n : Nat) (s : State) : State :=
  s.takeGroup (.smpPort n) (R.SMP.PORT.CTL.COMMIT n) (R.SMP.PORT.EVT.CFG_REJECTED n) (smpOk n) (smpAfter n)

/-- The lead fields: port and enable. -/
def leadPort (l : Nat) : Field := if l = 0 then R.SMP.CFG.LEAD0 else R.SMP.CFG.LEAD1
/-- Lead `l` enabled. -/
def leadEn (l : Nat) : Field := if l = 0 then R.SMP.CFG.LEAD0_EN else R.SMP.CFG.LEAD1_EN
/-- Its statistics are valid. -/
def leadValid (l : Nat) : Field := if l = 0 then R.SMP.STAT.PH_VALID0 else R.SMP.STAT.PH_VALID1

/-- The waiting SMP.CFG writes at the second (R482): rejected whole where they name an AES3 receive port as lead; a change
aborts an interval that the lead's channel has open. -/
def State.leadSecond (s : State) : State :=
  let mine (f : Field) : Bool := f.addr == R.SMP.CFG.LEAD0.addr
  let new := s.applyWaiting .second mine
  let names (l : Nat) : Bool := new.flag (leadEn l) && new.aesRx (new.get (leadPort l))
  let changed (l : Nat) : Bool := s.differ new (leadPort l) || s.differ new (leadEn l)
  if names 0 || names 1 then
    { s with shadow := s.shadow.filter (fun e => !mine e.2.field) }.evt R.SMP.EVT.CFG_REJECTED
  else
    let take (l : Nat) (t : State) : State :=
      if changed l then (t.tdcAbort (26 + l)).modLead l fun _ => { SmpLead.empty with bad := true } else t
    take 1 (take 0 new)

/-! ### Sample-clock phase (R482) -/

/-- The leads whose port is `n`. -/
def State.leadsOf (s : State) (n : Nat) : List Nat := [0, 1].filter (fun l => s.flag (leadEn l) && s.get (leadPort l) == n)

/-- The second's statistics of port `n`'s leads are spoilt. -/
def State.leadSpoil (n : Nat) (s : State) : State :=
  (s.leadsOf n).foldl (fun st l => st.modLead l fun x => { x with bad := true }) s

/-- The statistics of every lead are spoilt: the TDC left READY, or the Hearth stepped. -/
def State.leadSpoilAll (s : State) : State :=
  [0, 1].foldl (fun st l => st.modLead l fun x => { x with bad := true }) s

/-- PHASE of a stamp in ps: the stamp less the nearest instant of the grid k / FS_NOM of a whole second. -/
def leadPhase (t : Int) (fs : Nat) : Rat :=
  if fs = 0 then 0
  else
    let f : Nat := inSecond t
    let k : Nat := (2 * f * fs + secU) / (2 * secU)
    ((f : Rat) - (k * secU : Nat) / (fs : Nat)) * 125 / 8192

/-- START_* of a port written (R472). -/
def State.smpStartStamp (n : Nat) (t : Int) (fine : Bool) (s : State) : State :=
  (s.setTime (R.SMP.PORT.START_FRAC.STAMP n) (R.SMP.PORT.START_NS.STAMP n) (R.SMP.PORT.START_SEC_LO.STAMP n)
    (R.SMP.PORT.START_SEC_HI.STAMP n) t.toNat).setB (R.SMP.PORT.STAT.START_FINE n) fine

/-- FRAMES (R472). -/
def State.smpFrames (s : State) (n : Nat) : Nat := s.get2 (R.SMP.PORT.FRAMES_LO.COUNT n) (R.SMP.PORT.FRAMES_HI.COUNT n)

/-- A TDC stamp of lead `l`'s frame edge (R482): shown, its PHASE taken into the second's statistics; where it is the stamp
of a frame 0 that has so far its coarse stamp only, START_* takes it (R472). -/
def State.leadStamp (l : Nat) (t : Int) (s : State) : State :=
  if !s.flag (leadEn l) then s
  else
    let n := s.get (leadPort l)
    let x := s.roundFree (leadPhase t (s.get (R.SMP.PORT.RATE.FS_NOM n)))
    let s1 := (s.bump.setTime (R.SMP.LEAD.STAMP_FRAC.STAMP l) (R.SMP.LEAD.STAMP_NS.STAMP l)
      (R.SMP.LEAD.STAMP_SEC_LO.STAMP l) (R.SMP.LEAD.STAMP_SEC_HI.STAMP l) t.toNat).setI (R.SMP.LEAD.PHASE.PS l) x
    let s2 := s1.modLead l fun a =>
      { n := a.n + 1, lo := if a.n = 0 then x else min a.lo x, hi := if a.n = 0 then x else max a.hi x, sum := a.sum + x,
        bad := a.bad, last := some t }
    let start : Int := s2.getTime (R.SMP.PORT.START_FRAC.STAMP n) (R.SMP.PORT.START_NS.STAMP n)
      (R.SMP.PORT.START_SEC_LO.STAMP n) (R.SMP.PORT.START_SEC_HI.STAMP n)
    let near := decide (2 * ((t - start).natAbs : Rat) < s.spkPeriod n)
    if s2.spkState n = 3 ∧ s2.smpFrames n = 0 ∧ near ∧ !s2.flag (R.SMP.PORT.STAT.START_FINE n) then
      s2.smpStartStamp n t true
    else s2

/-- The statistics of the second that has just ended (R482). -/
def State.leadStats (l : Nat) (s : State) : State :=
  let a := s.lead l
  let ok := s.flag (leadEn l) && !a.bad && decide (1 ≤ a.n) && s.get R.TDC.STAT.STATE == 2
  let s1 := s.setB (leadValid l) ok
  let s2 := if ok then
      let m := s1.roundFree ((a.sum : Rat) / (a.n : Nat))
      ((s1.bump.setI (R.SMP.LEAD.PH_MIN.PS l) a.lo).setI (R.SMP.LEAD.PH_MAX.PS l) a.hi).setI (R.SMP.LEAD.PH_MEAN.PS l) m
    else s1
  s2.modLead l fun x => { x with n := 0, sum := 0, bad := s.get R.TDC.STAT.STATE != 2 }

/-! ### States (R470 to R472) -/

/-- SDO's words of the frame that ends leave, where SDO is driven. -/
def State.smpFlushWords (n : Nat) (s : State) : State :=
  let w := (s.spk n).sending
  let s1 := s.modSpk n fun p => { p with sending := [] }
  if w ≠ [] ∧ s.flag (R.SMP.PORT.STAT.SDO_DRIVEN n) then s1.emit (.sampleWords n w) else s1

/-- The port leaves its armed group; an arm with no port left ends. -/
def State.smpDisarm (n : Nat) (s : State) : State :=
  match (s.spk n).armed with
  | none => s
  | some k =>
    let s1 := s.modSpk n fun p => { p with armed := none, startAt := none }
    if (List.range 8).any (fun m => (s1.spk m).armed == some k && (s1.spk m).startAt.isNone) then s1
    else { s1 with smp := { s1.smp with groups := Map.del s1.smp.groups k } }.set R.SMP.STAT.ARMED
      (putBit (s1.get R.SMP.STAT.ARMED) k false)

/-- Entry to IDLE: SDO is released. -/
def State.smpIdle (n : Nat) (s : State) : State :=
  let s1 := (s.smpFlushWords n).smpDisarm n
  (((s1.modSpk n fun p => { p with count := 0, post := 0, resume := false, inRun := false, stopAt := none }).set
    (R.SMP.PORT.STAT.STATE n) 1).set (R.SMP.PORT.STAT.SDO_DRIVEN n) 0).set (R.SMP.PORT.CTL.STOP n) 0

/-- Entry to PREROLL, from IDLE or as a resume from STALL (R470, R471). -/
def State.smpPreroll (n : Nat) (resume : Bool) (s : State) : State :=
  let s1 := s.modSpk n fun p => { p with count := 0, resume := resume, blockNo := if resume then 0 else 191, inRun := false }
  let s2 := s1.set (R.SMP.PORT.STAT.STATE n) 2
  if resume then s2 else (s2.set (R.SMP.PORT.STAT.SWAP_RISK n) 0).set (R.SMP.PORT.STAT.STALL_CAUSE n) 0

/-- A stall cause (R469, R470): 1 STOP, 2 RATE, 3 LOCK. A frame it cuts short is discarded (R477); a STOP that waits
takes the stalled port to IDLE. -/
def State.smpStall (n cause : Nat) (s : State) : State :=
  let st := s.spkState n
  if st = 4 then s.smpIdle n
  else if st = 2 ∨ st = 3 then
    let s1 := ((s.smpFlushWords n).smpDisarm n).modSpk n fun p =>
      { p with count := 0, badRun := 0, inRun := false, stopAt := none }
    let s2 := (((((s1.set (R.SMP.PORT.STAT.STATE n) 5).set (R.SMP.PORT.STAT.STALL_CAUSE n) cause).inc
      (R.SMP.PORT.STALL_CNT.COUNT n)).evt (R.SMP.PORT.EVT.STALL n)).leadSpoil n).file F.smpStall n cause
    if s.flag (R.SMP.PORT.CTL.STOP n) then s2.smpIdle n else s2
  else s

/-- Entry to POSTROLL at a frame edge (R472). -/
def State.smpPostroll (n : Nat) (s : State) : State :=
  let k := s.get (R.SMP.PORT.ROLL.POSTROLL n)
  let s1 := (s.modSpk n fun p => { p with post := k, inRun := false, stopAt := none }).set (R.SMP.PORT.CTL.STOP n) 0
  if k = 0 then (s1.smpIdle n).evt (R.SMP.PORT.EVT.STOPPED n) else s1.set (R.SMP.PORT.STAT.STATE n) 4

/-- Entry to RUN at a frame edge stamped `t`: frame 0 with its stamp, or the resumption of the numbering (R471, R472). -/
def State.smpRun (n : Nat) (t : Option Int) (s : State) : State :=
  let p := s.spk n
  let s1 := (s.modSpk n fun p => { p with armed := none, startAt := none, resume := false, inRun := true }).set
    (R.SMP.PORT.STAT.STATE n) 3
  if p.resume then
    (s1.set2 (R.SMP.PORT.FRAMES_LO.COUNT n) (R.SMP.PORT.FRAMES_HI.COUNT n) (s.smpFrames n + 1)).evt
      (R.SMP.PORT.EVT.RESUMED n)
  else
    let s2 := (s1.set2 (R.SMP.PORT.FRAMES_LO.COUNT n) (R.SMP.PORT.FRAMES_HI.COUNT n) 0).evt (R.SMP.PORT.EVT.STARTED n)
    match t with
    | none => s2
    | some t =>
      let fine := (s.leadsOf n).findSome? fun l =>
        match (s.lead l).last with
        | some x => if 2 * ((x - t).natAbs : Rat) < s.spkPeriod n ∧ s.get R.TDC.STAT.STATE = 2 then some x else none
        | none => none
      match fine with
      | some x => s2.smpStartStamp n x true
      | none => s2.smpStartStamp n t false

/-! ### Transmit data (R477 to R479, R481) -/

/-- Bytes in a ring: from `rd` to `wr`. -/
def ringUsed (wr rd size : Nat) : Nat := if size = 0 then 0 else (wr + size - rd) % size

/-- The transmit ring's base and size in bytes. -/
def State.smpTxRing (s : State) (n : Nat) : Nat × Nat :=
  (s.get (R.SMP.PORT.TX_BASE_LO.ADDR n) * 4096 + s.get (R.SMP.PORT.TX_BASE_HI.ADDR n) * 2 ^ 32,
   s.get (R.SMP.PORT.TX_SIZE.SIZE n) * 4096)

/-- Words with an uncorrectable error are counted as underruns, without SWAP_RISK (R579). -/
def State.smpPoisoned (n k : Nat) (s : State) : State :=
  if k = 0 then s else (s.incBy (R.SMP.PORT.UNDERRUN_CNT.COUNT n) k).evt (R.SMP.PORT.EVT.UNDERRUN n)

/-- `k` bytes taken from the transmit ring, if they are in it; a 4-byte word with an uncorrectable error is zero (R579). -/
def State.smpTake (n k : Nat) (s : State) : Option (List Byte × State) :=
  let (base, size) := s.smpTxRing n
  let rd := s.get (R.SMP.PORT.TX_RD.PTR n)
  if k ≤ ringUsed (s.get (R.SMP.PORT.TX_WR.PTR n)) rd size then
    let word (j : Nat) : Nat := base + (rd + 4 * j) % size
    let bad := (List.range (k / 4)).filter (fun j => !(s.badWords (word j) 4).isEmpty)
    some ((List.range k).map (fun i => if bad.contains (i / 4) then 0 else Mem.byte dramBlank s.dram (base + (rd + i) % size)),
      ((s.countBad (bad.flatMap (fun j => s.badWords (word j) 4)).eraseDups).smpPoisoned n bad.length).set
        (R.SMP.PORT.TX_RD.PTR n) ((rd + k) % size))
  else none

/-- An underrun counted (R479). -/
def State.smpUnderrun (n : Nat) (s : State) : State :=
  let s1 := (s.inc (R.SMP.PORT.UNDERRUN_CNT.COUNT n)).evt (R.SMP.PORT.EVT.UNDERRUN n)
  if s.aes n then s1 else s1.set (R.SMP.PORT.STAT.SWAP_RISK n) 1

/-- One slot of a two-channel frame: its word MSB-aligned, zero where it is masked or missing (R478, R479). -/
def State.smpTxSlot (n slot : Nat) (s : State) : Nat × State :=
  if !bitOf (s.get (R.SMP.PORT.MASK.SLOT_MASK n)) slot then (0, s)
  else
    match s.smpTake n 4 with
    | none => (0, s.smpUnderrun n)
    | some (bs, s1) =>
      let bits := s.get (R.SMP.PORT.FMT.BITS n)
      (ofLe bs / 2 ^ (32 - bits) * 2 ^ (32 - bits), s1)

/-- One step of the AES3 CRCC (R480): polynomial x^8 + x^4 + x^3 + x^2 + 1, the first bit first. -/
def crccBit (c : Nat) (b : Bool) : Nat :=
  if (128 ≤ c) != b then (c * 2 % 256) ^^^ 0x1D else c * 2 % 256

/-- The CRCC of the first 23 bytes of a block of C bits, its register's top bit the first to be sent: bit 0 of byte 23. -/
def crcc (c : Nat) : Nat :=
  let r := (List.range 184).foldl (fun a i => crccBit a (bitOf c i)) 0xFF
  ((List.range 8).map (fun i => bitsOf r (7 - i) 1 * 2 ^ i)).sum

/-- The C bits of channel `ch` (0 A, 1 B) as registers `f` lay them out: first byte in [31:24], bit 0 of a byte first. -/
def State.csBits (s : State) (f : Nat → Field) (ch : Nat) : Nat :=
  ((List.range 24).map (fun i => bitsOf (s.get (f (6 * ch + i / 4))) (24 - 8 * (i % 4)) 8 * 2 ^ (8 * i))).sum

/-- The C bits to transmit (R481). -/
def State.csTx (s : State) (n ch : Nat) : Nat :=
  let c := s.csBits (R.SMP.PORT.CS_TX.CS n) ch
  if s.flag (R.SMP.PORT.CFG.CRC_GEN n) then putBits c 184 8 (crcc c) else c

/-- A subframe as it is sent: audio, V, U, C, and P that makes the time slots 4 to 31 even (R468, R477). -/
def aesSubframe (audio : Nat) (v u c : Bool) : Nat :=
  let w := audio * 256 + ofBool v * 8 + ofBool u * 4 + ofBool c * 2
  w + ((List.range 32).map (fun i => bitsOf w i 1)).sum % 2

/-- The two subframes of a frame of the transmit block: `data` holds ring data, or zero audio where the state sends none. -/
def State.aesWords (n : Nat) (data : Option (Nat × Nat)) (starved : Bool) (s : State) : List Nat :=
  let i := (s.spk n).blockNo
  let (a, b) := data.getD (0, 0)
  let va := starved || s.flag (R.SMP.PORT.VTX.V_A n)
  let vb := starved || s.flag (R.SMP.PORT.VTX.V_B n)
  [aesSubframe (a / 256) va (bitOf a 2) (bitOf (s.csTx n 0) i), aesSubframe (b / 256) vb (bitOf b 2) (bitOf (s.csTx n 1) i)]

/-- The words of the frame that begins (R470, R477): ring data in RUN, zero audio in PREROLL and POSTROLL. -/
def State.smpFetch (n : Nat) (s : State) : State :=
  if !s.flag (R.SMP.PORT.CFG.TX_EN n) then s
  else
    let st := s.spkState n
    let s0 := s.modSpk n fun p => { p with prevRd := s.get (R.SMP.PORT.TX_RD.PTR n) }
    if st = 3 then
      if s.aes n then
        match s0.smpTake n 8 with
        | none => (s0.smpUnderrun n).modSpk n fun p => { p with sending := s0.aesWords n none true }
        | some (bs, s1) => s1.modSpk n fun p => { p with sending := s0.aesWords n (some (le bs 0 4, le bs 4 4)) false }
      else
        let (a, s1) := s0.smpTxSlot n 0
        let (b, s2) := s1.smpTxSlot n 1
        s2.modSpk n fun p => { p with sending := [a, b] }
    else if st = 2 ∨ st = 4 then
      s0.modSpk n fun p => { p with sending := if s.aes n then s0.aesWords n none false else [0, 0] }
    else s0

/-! ### Received data (R477, R479, R480) -/

/-- Bytes put into the receive ring; a full ring discards them (R477, R479). -/
def State.smpPut (n : Nat) (bs : List Byte) (s : State) : State :=
  let r : RingRegs := ⟨R.SMP.PORT.RX_BASE_LO.ADDR n, R.SMP.PORT.RX_BASE_HI.ADDR n, R.SMP.PORT.RX_SIZE.SIZE n,
    R.SMP.PORT.RX_WR.PTR n, R.SMP.PORT.RX_RD.PTR n⟩
  match s.ringPut r bs with
  | some s1 => s1
  | none =>
    let s1 := (s.inc (R.SMP.PORT.OVERRUN_CNT.COUNT n)).evt (R.SMP.PORT.EVT.OVERRUN n)
    if s.aes n then s1 else s1.set (R.SMP.PORT.STAT.SWAP_RISK n) 1

/-- A frame received in RUN is written once it has completed (R477, R478). -/
def State.smpReceive (n : Nat) (u : SampleFrame) (framing : Bool) (s : State) : State :=
  let p := s.spk n
  if !p.inRun || !s.flag (R.SMP.PORT.CFG.RX_EN n) then s
  else if s.aes n then s.smpPut n (leBytes 4 u.wordA ++ leBytes 4 u.wordB)
  else
    let bits := s.get (R.SMP.PORT.FMT.BITS n)
    let slot := s.get (R.SMP.PORT.FMT.SLOT n)
    let word (w : Nat) : Nat := if framing then 0 else bitsOf w (slot - bits) bits * 2 ^ (32 - bits)
    let s1 := if bitOf p.mask 0 then s.smpPut n (leBytes 4 (word u.wordA)) else s
    if bitOf p.mask 1 then s1.smpPut n (leBytes 4 (word u.wordB)) else s1

/-- A block of channel status of one subframe passes the CRCC, or needs none (R480). -/
def csPasses (c : Nat) : Bool := !bitOf c 0 || crcc c == bitsOf c 184 8

/-- The C bits of one channel latched. -/
def State.csLatch (n ch c : Nat) (s : State) : State :=
  (List.range 6).foldl (fun st i =>
    st.set (R.SMP.PORT.CS_RX.CS n (6 * ch + i)) (ofBe (leBytes 4 (bitsOf c (32 * i) 32)))) s

/-- The end of a received block (R480). -/
def State.csBlock (n : Nat) (s : State) : State :=
  let p := s.spk n
  if csPasses p.csA && csPasses p.csB then
    let changed := s.csBits (R.SMP.PORT.CS_RX.CS n) 0 != p.csA || s.csBits (R.SMP.PORT.CS_RX.CS n) 1 != p.csB
    let s1 := ((s.csLatch n 0 p.csA).csLatch n 1 p.csB).evt (R.SMP.PORT.EVT.BLOCK n)
    if changed then s1.evt (R.SMP.PORT.EVT.CS_CHANGE n) else s1
  else s.inc (R.SMP.PORT.CS_ERR_CNT.COUNT n)

/-- The C bits of the frame that has ended, and whether a block begins with this one (R480): PREROLL and RUN assemble. -/
def State.csReceive (n : Nat) (u : SampleFrame) (s : State) : State :=
  if !(s.aesRx n && (s.spkState n == 2 || s.spkState n == 3)) then s.modSpk n fun p => { p with csN := none }
  else
    let p := s.spk n
    let s1 := match p.csN with
      | none => s
      | some i =>
        let s1 := s.modSpk n fun p =>
          { p with csA := putBit p.csA i (bitOf u.wordA 1), csB := putBit p.csB i (bitOf u.wordB 1), csN := some (i + 1) }
        if i + 1 = 192 then (s1.csBlock n).modSpk n fun p => { p with csN := none } else s1
    if u.preambleError then s1.modSpk n fun p => { p with csN := none }
    else if u.z then s1.modSpk n fun p => { p with csA := 0, csB := 0, csN := some 0 }
    else s1

/-! ### Checks at a frame edge (R468, R469) -/

/-- The AES3 receiver's lock at an edge: none where it is lost (R468). -/
def State.aesTrack (n : Nat) (u : SampleFrame) (s : State) : State :=
  let p := s.spk n
  let locked := s.flag (R.SMP.PORT.STAT.AES_LOCK n)
  let k := p.sinceZ.map (· + 1)
  if u.preambleError then (s.modSpk n fun p => { p with sinceZ := none }).set (R.SMP.PORT.STAT.AES_LOCK n) 0
  else if u.z then
    let ok := k == some 192
    (s.modSpk n fun p => { p with sinceZ := some 0 }).setB (R.SMP.PORT.STAT.AES_LOCK n) ok
  else
    let lost := match k with | some k => decide (192 ≤ k) | none => false
    (s.modSpk n fun p => { p with sinceZ := if lost then none else k }).setB (R.SMP.PORT.STAT.AES_LOCK n) (locked && !lost)

/-- The interval between two edges is in rate (R469). -/
def State.smpInRate (s : State) (n : Nat) (interval : Nat) : Bool :=
  let p := s.spkPeriod n
  let d := (interval : Rat) - p
  let lim := p * (s.get (R.SMP.PORT.RATE.TOL n) : Nat) / 1000000 + (5 * nsU : Nat)
  decide (d ≤ lim) && decide (-d ≤ lim)

/-- A group start fails: its waiting ports return to IDLE (R474, R475). -/
def State.smpGroupFail (k cause : Nat) (s : State) : State :=
  let members := (List.range 8).filter (fun n => (s.spk n).armed == some k)
  let s1 := members.foldl (fun st n => (st.smpIdle n).evt (R.SMP.PORT.EVT.START_FAIL n)) s
  (({ s1 with smp := { s1.smp with groups := Map.del s1.smp.groups k } }.set R.SMP.STAT.ARMED
    (putBit (s1.get R.SMP.STAT.ARMED) k false)).set R.SMP.STAT.FAIL_CAUSE cause).evt R.SMP.EVT.GRP_FAIL

/-- The instant from which a member's own edge answers the master's edge `em` (R474). -/
def State.memberFrom (s : State) (n : Nat) (em : Int) : Int := ((em : Rat) - s.spkPeriod n / 2).ceil

/-- The start frame of a port at an edge: it enters RUN and fetches the frame's words. -/
def State.smpStart (n : Nat) (t : Option Int) (s : State) : State := (s.smpRun n t).smpFetch n

/-- The master's start edge `em` of group `k` (R474): nobody starts unless every armed port has counted its pre-roll. The
others wait for their own edge, which may already have passed. -/
def State.smpGroupStart (k : Nat) (em : Int) (s : State) : State :=
  let members := (List.range 8).filter (fun n => (s.spk n).armed == some k)
  if members.any (fun n => decide ((s.spk n).count < s.get (R.SMP.PORT.ROLL.PREROLL n))) then s.smpGroupFail k 2
  else
    let s1 := { s with smp := { s.smp with groups := Map.del s.smp.groups k } }.set R.SMP.STAT.ARMED
      (putBit (s.get R.SMP.STAT.ARMED) k false)
    let start (st : State) (n : Nat) : State :=
      let from_ := st.memberFrom n em
      match (st.spk n).lastEdge with
      | some t => if from_ ≤ t then st.smpStart n (some t) else st.modSpk n fun p => { p with startAt := some from_ }
      | none => st.modSpk n fun p => { p with startAt := some from_ }
    (members.foldl start s1).evt R.SMP.EVT.GRP_STARTED

/-- The master's stop edge `em` of group `k` (R476): every other member in RUN stops at its own nearest edge, which may
already have passed: the frame begun there becomes the first post-roll frame. -/
def State.smpGroupStop (k master : Nat) (em : Int) (s : State) : State :=
  let members := (List.range 8).filter (fun n =>
    n != master && s.flag (R.SMP.PORT.CFG.GROUP_EN n) && s.get (R.SMP.PORT.CFG.GROUP n) == k && s.spkState n == 3)
  let stop (st : State) (n : Nat) : State :=
    let from_ := st.memberFrom n em
    match (st.spk n).lastEdge with
    | some t =>
      if from_ ≤ t ∧ 0 < st.smpFrames n then
        let s1 := (st.set (R.SMP.PORT.TX_RD.PTR n) (st.spk n).prevRd).set2 (R.SMP.PORT.FRAMES_LO.COUNT n)
          (R.SMP.PORT.FRAMES_HI.COUNT n) (st.smpFrames n - 1)
        (s1.smpPostroll n).smpFetch n
      else st.modSpk n fun p => { p with stopAt := some from_ }
    | none => st.modSpk n fun p => { p with stopAt := some from_ }
  members.foldl stop (s.set R.SMP.CTL.GRP_STOP (putBit (s.get R.SMP.CTL.GRP_STOP) k false))

/-- The channel-status group at a Z frame (R481). -/
def State.smpCstx (n : Nat) (s : State) : State :=
  if s.aes n && s.flag (R.SMP.PORT.CFG.TX_EN n) && decide ((s.spk n).blockNo = 0) &&
      (s.spkState n == 2 || s.spkState n == 3 || s.spkState n == 4) then
    s.takeGroup (.smpCstx n) (R.SMP.PORT.CTL.CS_COMMIT n) (R.SMP.PORT.EVT.CFG_REJECTED n) (fun _ _ => true)
      (fun _ new => new)
  else s

/-- A committed slot mask takes effect at the frame that begins (R478). -/
def State.smpMask (n : Nat) (s : State) : State :=
  let f := R.SMP.PORT.MASK.SLOT_MASK n
  let s1 := s.applyWaiting .sampleFrame (fun g => g.key == f.key)
  if s.differ s1 f then s1.set (R.SMP.PORT.MASK_FRAME.FRAME n) (s.smpFrames n) else s1

/-- The state of a port at a frame edge stamped `t` (R470 to R474): STOP first, then a start, a resume, the end of the
post-roll. `good` says that the frame before was in rate and free of framing errors, with the clocks present. -/
def State.smpAdvance (n : Nat) (t : Option Int) (good : Bool) (s : State) : State :=
  let p := s.spk n
  let stop := s.flag (R.SMP.PORT.CTL.STOP n)
  let due (a : Option Int) : Bool := match a, t with | some a, some t => decide (a ≤ t) | _, _ => false
  match s.spkState n with
  | 2 =>
    if stop then s.smpIdle n
    else if due p.startAt then s.smpRun n t
    else if !good then s.modSpk n fun p => { p with count := 0 }
    else if p.armed.isNone ∧ s.get (R.SMP.PORT.ROLL.PREROLL n) ≤ p.count then s.smpRun n t
    else s.modSpk n fun p => { p with count := p.count + 1 }
  | 3 =>
    if stop ∨ due p.stopAt then s.smpPostroll n
    else (s.set2 (R.SMP.PORT.FRAMES_LO.COUNT n) (R.SMP.PORT.FRAMES_HI.COUNT n) (s.smpFrames n + 1)).modSpk n fun p =>
      { p with inRun := true }
  | 4 =>
    if p.post ≤ 1 then (s.smpIdle n).evt (R.SMP.PORT.EVT.STOPPED n)
    else s.modSpk n fun p => { p with post := p.post - 1 }
  | 5 =>
    if s.flag (R.SMP.PORT.CFG.AUTO_RESUME n) && s.flag (R.SMP.PORT.STAT.CLK_PRESENT n) then s.smpPreroll n true else s
  | _ => s

/-- SDO is driven from a frame edge on while the chip holds the hat and the state sends (R470, R483). -/
def State.smpDrive (n : Nat) (s : State) : State :=
  s.setB (R.SMP.PORT.STAT.SDO_DRIVEN n)
    (s.flag R.RED.STAT.HOLDING && s.flag (R.SMP.PORT.CFG.TX_EN n) && decide (2 ≤ s.spkState n))

/-- What the master's edge of a group does beyond its own port (R474, R476). -/
def State.smpMaster (n : Nat) (t : Option Int) (s : State) : State :=
  match t with
  | none => s
  | some t =>
    let s1 := (List.range 4).foldl (fun st k =>
      match Map.get? st.smp.groups k with
      | some g => if g.master = n ∧ g.ts ≤ t then st.smpGroupStart k t else st
      | none => st) s
    (List.range 4).foldl (fun st k =>
      if bitOf (st.get R.SMP.CTL.GRP_STOP) k ∧ st.get (R.SMP.GRP.CFG.MASTER k) = n then st.smpGroupStop k n t else st) s1

/-- The master of a group whose stop waits stops at its own edge (R476). -/
def State.smpMasterStop (n : Nat) (s : State) : State :=
  if s.spkState n == 3 && (List.range 4).any (fun k =>
      bitOf (s.get R.SMP.CTL.GRP_STOP) k && s.get (R.SMP.GRP.CFG.MASTER k) == n) then s.set (R.SMP.PORT.CTL.STOP n) 1
  else s

/-- The block counter of an AES3 transmitter goes on with each frame (R468). -/
def State.smpBlockNext (n : Nat) (s : State) : State :=
  s.modSpk n fun p => { p with blockNo := (p.blockNo + 1) % 192 }

/-! ### Steps and seconds -/

/-- The instants a port holds move with the timescale. -/
def SmpPort.shifted (d : Int) (p : SmpPort) : SmpPort :=
  { p with lastEdge := p.lastEdge.map (· + d), startAt := p.startAt.map (· + d), stopAt := p.stopAt.map (· + d) }

/-- A step by `d` (R475, R482): an arm that it carries past T_s fails; instants move with the timescale. -/
def State.smpStep (d : Int) (s : State) : State :=
  let now := s.now
  let late := s.smp.groups.filter (fun (_, g) => decide (now - d < g.ts) && decide (g.ts ≤ now))
  let s1 := late.foldl (fun st (k, _) => st.smpGroupFail k 3) s
  let moved := s1.smp.ports.map (fun (n, p) => (n, p.shifted d))
  let s2 := { s1 with smp := { s1.smp with ports := moved } }
  let s3 := [0, 1].foldl (fun st l => st.modLead l fun x => { x with last := x.last.map (· + d) }) s2
  s3.leadSpoilAll

/-- The sample ports at a second boundary: commits, leads, statistics. -/
def State.smpSecond (s : State) : State :=
  let s1 := (s.leadStats 0).leadStats 1
  ((List.range 8).foldl (fun st n => st.smpCommitSecond n) s1).leadSecond

/-! ### The commands of the chapter -/

/-- SMP_COMMIT (R466): group PORTn waits for the second. -/
def execSmpCommit (n : Fin 8) (s : State) : Out := .next (s.commit (.smpPort n) (R.SMP.PORT.CTL.COMMIT n))

/-- SMP_START (R471): an IDLE port outside a group enters PREROLL; anything else is rejected. -/
def execSmpStart (n : Fin 8) (s : State) : Out :=
  if s.spkState n = 1 ∧ !s.flag (R.SMP.PORT.CFG.GROUP_EN n) then .next (s.smpPreroll n false)
  else .next (s.evt (R.SMP.PORT.EVT.CFG_REJECTED n))

/-- SMP_STOP (R470, R472): waits for the port's next frame edge in PREROLL and RUN; a stalled port, which may have no edge,
returns to IDLE at once. -/
def execSmpStop (n : Fin 8) (s : State) : Out :=
  let st := s.spkState n
  if st = 2 ∨ st = 3 then .next (s.set (R.SMP.PORT.CTL.STOP n) 1)
  else if st = 5 then .next (s.smpIdle n)
  else .next s

/-- CS_COMMIT (R481): group CSTXn waits for the next Z frame. -/
def execCsCommit (n : Fin 8) (s : State) : Out := .next (s.commit (.smpCstx n) (R.SMP.PORT.CTL.CS_COMMIT n))

/-- A group arm refused (R473). -/
def State.smpRefuse (cause : Nat) (s : State) : State := (s.set R.SMP.STAT.FAIL_CAUSE cause).evt R.SMP.EVT.GRP_FAIL

/-- GRP_START (R473): T_s is taken, judged, and every member in IDLE enters PREROLL. -/
def execGrpStart (k : Fin 4) (s : State) : Out :=
  let ts := s.getTime (R.SMP.GRP.START_FRAC.FRAC k) (R.SMP.GRP.START_NS.NS k) (R.SMP.GRP.START_SEC_LO.SEC k)
    (R.SMP.GRP.START_SEC_HI.SEC k)
  let master := s.get (R.SMP.GRP.CFG.MASTER k)
  let member (n : Nat) : Bool := s.flag (R.SMP.PORT.CFG.EN n) && s.flag (R.SMP.PORT.CFG.GROUP_EN n) &&
    s.get (R.SMP.PORT.CFG.GROUP n) == k.val && s.spkState n == 1
  if 1000000000 ≤ s.get (R.SMP.GRP.START_NS.NS k) then .next (s.file F.smpBadTime k 0)
  else if !s.hearth.running then .next (s.smpRefuse 5)
  else if (ts : Int) < s.now + 1200 * nsU then .next (s.smpRefuse 1)
  else if !member master then .next (s.smpRefuse 4)
  else
    let s1 := ((List.range 8).filter member).foldl (fun st n =>
      (st.smpPreroll n false).modSpk n fun p => { p with armed := some k.val, startAt := none }) s
    .next ({ s1 with smp := { s1.smp with groups := Map.put s1.smp.groups k.val ⟨ts, master⟩ } }.set R.SMP.STAT.ARMED
      (putBit (s1.get R.SMP.STAT.ARMED) k.val true))

/-- GRP_STOP (R476): waits for the master's next frame edge. -/
def execGrpStop (k : Fin 4) (s : State) : Out :=
  .next (s.set R.SMP.CTL.GRP_STOP (putBit (s.get R.SMP.CTL.GRP_STOP) k.val true))

/-- An edge of WS begins a frame (R467, R468): the falling one with JUST = 0, the rising one with JUST = 1 and for an AES3 transmitter;
WS_INV exchanges the two. An AES3 receiver has its own frame edges. -/
def State.frameBegins (s : State) (n : Nat) (rises : Bool) : Bool :=
  s.aesRx n || rises == ((s.aes n || s.flag (R.SMP.PORT.CFG.JUST n)) != s.flag (R.SMP.PORT.CFG.WS_INV n))

/-- SMP_FRAME_EDGE (R467 to R481): the frame that ends is checked and written, the state advances, the frame that begins
takes its mask, its channel status and its words. The other edge of WS begins no frame. -/
def execSmpFrameEdge (n : Fin 8) (u : SampleFrame) (s : State) : Out :=
  if s.spkState n = 0 ∨ s.frameBegins n u.rises = false then .next s
  else
    let t : Option Int := if s.ticking then some (s.now + u.rel) else none
    -- the checks of R469
    let s0 := (s.smpFlushWords n).smpBlockNext n
    let framing := !s.aes n && u.interval.isSome && decide (u.bclk ≠ 2 * s.get (R.SMP.PORT.FMT.SLOT n))
    let s1 := if framing then (s0.inc (R.SMP.PORT.FRAME_ERR_CNT.COUNT n)).evt (R.SMP.PORT.EVT.FRAME_ERR n) else s0
    let s2 := (s1.smpReceive n u framing).csReceive n u
    let wasLocked := s.flag (R.SMP.PORT.STAT.AES_LOCK n)
    let s3 := if s.aesRx n then s2.aesTrack n u else s2
    let lost := s.aesRx n && wasLocked && !s3.flag (R.SMP.PORT.STAT.AES_LOCK n)
    let present := !s.aesRx n || s3.flag (R.SMP.PORT.STAT.AES_LOCK n)
    let inRate := match u.interval with | some i => s.smpInRate n i | none => false
    let outRate := u.interval.isSome && !inRate
    let s4 := (s3.setB (R.SMP.PORT.STAT.CLK_PRESENT n) present).modSpk n fun p =>
      { p with lastEdge := t, inRun := false, badRun := if outRate then p.badRun + 1 else 0 }
    let s5 := if outRate then s4.leadSpoil n else s4
    let s6 := if lost then s5.smpStall n 3
      else if s.get (R.SMP.PORT.RATE.RATE_N n) ≤ (s5.spk n).badRun then s5.smpStall n 2
      else s5
    let stalled := s6.spkState n != s5.spkState n
    -- the states of R470
    let s7 := if stalled then s6
      else ((s6.smpMasterStop n).smpAdvance n t (inRate && !framing && present))
    let s8 := s7.smpMask n
    let s9 := (s8.modSpk n fun p => { p with mask := s8.get (R.SMP.PORT.MASK.SLOT_MASK n) }).smpCstx n
    -- the words of the frame that begins; the master starts and stops its group
    let s10 := if stalled then s9 else s9.smpFetch n
    let s11 := s10.smpMaster n t
    .next (s11.smpDrive n)

/-- 2 × P have passed since the port's last frame edge (R469), as far as the Hearth tells. -/
def State.edgeOverdue (s : State) (n : Nat) : Bool :=
  match (s.spk n).lastEdge with
  | some t => !s.ticking || decide ((t : Rat) + 2 * s.spkPeriod n ≤ (s.now : Rat))
  | none => true

/-- SMP_EDGE_TIMEOUT (R469): no frame edge within 2 × P of the last. -/
def execSmpEdgeTimeout (n : Fin 8) (s : State) : Out :=
  if s.spkState n = 0 ∨ s.edgeOverdue n = false then .next s
  else
    let s1 := (s.set (R.SMP.PORT.STAT.CLK_PRESENT n) 0).modSpk n fun p =>
      { p with lastEdge := none, badRun := 0, sinceZ := none, csN := none }
    let s2 := if s.aesRx n then s1.set (R.SMP.PORT.STAT.AES_LOCK n) 0 else s1
    .next ((s2.smpStall n 1).leadSpoil n)

end Sys2Proof.Machine
end

