-- ==== Sys2Proof/Machine/Edge.lean ====
section
/-! DEFINITION. What the time base, the hearth ties and the stamped edges bring, and SYN0's coast as it reaches CK_HRT
(R56, R97, R188, R221, R228 to R231). -/

namespace Sys2Proof.Machine

/-- RED's own state changed. -/
def State.modRed (f : Red → Red) (s : State) : State := { s with red := f s.red }

/-! ### What depends on TBASE -/

/-- The owners act on the TDC outside READY (R222): S0 to S7 (R100), calibration (R202), leads. -/
def State.tbaseGone (s : State) : State := s.refNoTdc.calHoldAll.leadSpoilAll

/-- TBASE is lost, if it was present (R221). -/
def State.tbaseLost (s : State) : State :=
  if s.flag R.TDC.STAT.TBASE_PRESENT ∨ s.get R.TDC.STAT.STATE ≠ 0 then s.tdcLoss.tbaseGone else s

/-- The time-interval block at a second boundary: its groups, and the ages of calibration (R219, R220, R225). -/
def State.tdcSecond (s : State) : State :=
  let s1 := s.takeGroup .tdcTb R.TDC.CTL.TB_COMMIT R.TDC.EVT.CFG_REJECTED tdcTbOk (fun _ n => n.tdcNoTbase.tbaseGone)
  ((List.range 32).foldl (fun st n => st.tdcChCommit n) s1).tdcAges

/-! ### The uses of a stamp -/

/-- A PPS stamp of the peer goes to RED: in the cold standby, on the slot that carries it (R501). -/
def State.redTakesPps (s : State) (n : Nat) : Bool :=
  !s.hearth.running && decide (n < 8) && s.flag R.RED.CFG.PPS_EN && s.get R.RED.CFG.PPS_SLOT == n && s.tdcOwner n == 1

/-- A marker or an EMBER without its partner (R500). -/
def State.emberMiss (s : State) : State :=
  (((s.modRed fun r => { r with marker := none, lastSecond := none }).inc R.RED.EMBER_MISS.COUNT).evt
    R.RED.EVT.EMBER_MISS).file F.redEmberMiss 0 0

/-- A marker stamp while the Hearth is held in reset waits for its EMBER (R500); one that still waited is unpaired. -/
def State.markerStamp (u : Int) (s : State) : State :=
  if s.hearth.running then s
  else
    let s1 := if s.red.marker.isSome then s.emberMiss else s
    s1.modRed fun r => { r with marker := some (u - (s.get R.RED.MK_DELAY.PS : Int)) }

/-- The latest PPS stamps, one more than the intervals kept (R501). -/
def State.ppsStamp (u : Int) (s : State) : State :=
  s.modRed fun r => { r with pps := (u :: r.pps).take (s.get R.RED.CFG.RATIO_N + 1) }

/-- What the owner of a channel other than HOST does with its stamp (R216). An instant before a step that the stamp is delivered
after has lost the step's D by then, as all that its owner keeps (R38, R110). -/
def State.ownerUse (n : Nat) (st : Stamp) (s : State) : State :=
  if n = 25 then s.markerStamp st.u
  else
    match st.t with
    | none => s
    | some t0 =>
      let t := t0 + (s.hearth.stepSum - st.stepSum)
      if n < 8 then (if s.tdcOwner n = 1 then s.refEdge n t else s)
      else if n = 24 then s.calStamp t
      else if n = 26 ∨ n = 27 then s.leadStamp (n - 26) t
      else if 28 ≤ n then s.mapStamp (n - 28) t
      else s

/-- An edge of REFn seen: with NOM below 1 kHz the input is present (R99). -/
def State.refSeen (n : Nat) (s : State) : State :=
  if n < 8 ∧ s.get (R.REF.SLOT.NOM.NOM n) < 1000 then s.setPresent n true else s

/-- A divided edge on a channel (R97, R99, R222, R224, R231). -/
def State.edgeAt (n : Nat) (c : Capture) (s : State) : State :=
  match (s.refSeen n).bump.tdcTake n (s.tdcRaw n c) with
  | (none, s1) => s1
  | (some st, s1) =>
    if s1.redTakesPps n then s1.ppsStamp st.u else (s1.tdcUse n st).ownerUse n st

/-! ### Ties -/

/-- A hearth tie at the present tick, stamped `u` (R228): rejected, with TBASE treated as lost, where the ratio it gives
departs too far. -/
def State.takeHearthTie (u : Int) (s : State) : State :=
  let ties := (⟨s.record, u⟩ :: s.tdc.ties).take 16
  if ratioBad (tieRatio ties) then (s.set R.TDC.STAT.RATIO_FAIL 1).tbaseLost
  else (s.set R.TDC.STAT.RATIO_FAIL 0).modTdc fun t => { t with ties := ties }

/-! ### The commands -/

/-- TBASE_WINDOW (R220, R221): a presence window of 64 CK_AON cycles ends with `count` edges. -/
def execTbaseWindow (count : BitVec 32) (s : State) : Out :=
  let ok := s.tbaseInRange count.toNat
  if s.get R.TDC.STAT.STATE = 0 then
    let good := if ok then s.tdc.good + 1 else 0
    let bad := if ok then 0 else s.tdc.bad + 1
    let s1 := (s.modTdc fun t => { t with good := good, bad := bad }).set R.TDC.TBASE_MEAS.HZ (count.toNat * 512)
    if 2 ≤ good then .next ((s1.set R.TDC.STAT.TBASE_PRESENT 1).set R.TDC.STAT.STATE 1)
    else if 2 ≤ bad ∧ s.flag R.TDC.STAT.TBASE_PRESENT = true then .next s1.tbaseLost else .next s1
  else
    let bad := if ok then 0 else s.tdc.bad + 1
    let s1 := (s.modTdc fun t => { t with bad := bad }).set R.TDC.TBASE_MEAS.HZ (count.toNat * 512)
    if 2 ≤ bad then .next s1.tbaseLost else .next s1

/-- TBASE_LOSS (R221): the multiplier's phase detector finds eight edges absent in succession. -/
def execTbaseLoss (s : State) : Out := .next s.tbaseLost

/-- The record of the present tick goes to every replica, and, where TBASE is present, the tie interpolator's stamp of the tick's
marker edge to the TDC (R56, R228). -/
def State.takeRecord (tie : Option Int) (s : State) : State :=
  let s1 := s.sendRecord s.record
  match tie with
  | some u => if s1.get R.TDC.STAT.STATE = 0 then s1 else s1.takeHearthTie u
  | none => s1

/-- The ticks from the present one to the next whose periodic record is still to be sent: their numbers are multiples of 1,024
(R56, R228). -/
def State.ticksToRecord (s : State) : Nat :=
  if s.hearth.tick.toNat % 1024 = 0 ∧ s.hearth.recordTick ≠ some s.hearth.tick then 0 else 1024 - s.hearth.tick.toNat % 1024

/-- The present tick's record is sent, or waits for the work of its boundaries. -/
def State.recordNow (tie : Option Int) (s : State) : State :=
  let s1 := s.modHearth fun h => { h with recordTick := some s.hearth.tick }
  if s1.hearth.updateDue || s1.hearth.secondDue then s1.modHearth fun h => { h with recordDue := some tie } else s1.takeRecord tie

/-- HEARTH_RECORD (R56, R228): the record of the next tick whose number is a multiple of 1,024, up to which the ticks pass first;
where a boundary lies before that tick it is not yet due. DESIGN CHOICE: which tick numbers the cadence of 1,024 falls on (log
entry 14). -/
def execHearthRecord (tie : Option Int) (s : State) : Out :=
  if !s.ticking then .next s
  else
    let n := s.ticksToRecord
    if n = 0 then .next (s.recordNow tie)
    else if s.hearth.updateDue || s.hearth.secondDue || decide (s.ticksToUpdate < n) then .next s
    else .next ((s.passTicks n).recordNow tie)

/-- The expected observation interval of slot S8 to S15 (R102): the solution interval, the Sync interval granted or else that of the
upstream's latest Sync, 100 ms. -/
def State.obsInterval (s : State) (n : Nat) : Int :=
  if n = 8 then s.epochStep * s.get R.GNS.CFG.SOL_DIV
  else if n < 13 then
    let f := s.pref (n - 9)
    if s.flag (R.PRO.PREF.CFG.UNICAST (n - 9)) then
      interval (match f.grants.find? (fun g => g.1 == 0) with | some g => g.2.2.2 | none => f.logSync)
    else interval f.logSync
  else secI / 10

/-- OBS_MISS (R102): slot S8 to S15 has had no observation within twice its interval; each further such span is a miss again. DESIGN
CHOICE: a miss that ends in HOLDOFF also shows the source absent (R99 says only when S0 to S7 are; log entry 28). -/
def execObsMiss (k : Fin 8) (s : State) : Out :=
  let n := 8 + k.val
  if s.slotActive n && decide (s.now - (s.slot n).lastObs < 2 * s.obsInterval n) then .next s
  else
    let s1 := (s.slotMiss n).modSlot n fun sl => { sl with lastObs := s.now }
    .next (if s1.slotState n = 4 then s1.setPresent n false else s1)

/-- The active edge of a channel (R96, R216): channels 0 to 7 by REF.SLOT[n].CFG.POL, 8 to 23 by TDC.CH[n].CFG.POL; on the chip's own
channels every edge that is captured is active. -/
def State.edgeActive (s : State) (n : Nat) (rises : Bool) : Bool :=
  if n < 8 then rises != s.flag (R.REF.SLOT.CFG.POL n)
  else if n < 24 then rises != s.flag (R.TDC.CH.CFG.POL n)
  else true

/-- TDC_EDGE (R231): the active edges of channel `n` up to one that its divider may pass. An edge of the other polarity is none. -/
def execTdcEdge (n : Fin 32) (u : ActiveEdge) (s : State) : Out :=
  if s.edgeActive n u.at_.rises then
    match s.tdcDivide n u with
    | (true, s1) => .next (s1.edgeAt n u.at_)
    | (false, s1) => .next (s1.refSeen n)
  else .next s

/-- TDC_READY (R220, R223): from LOCKING to READY, once two ties have been taken. -/
def execTdcReady (s : State) : Out :=
  if s.get R.TDC.STAT.STATE = 1 ∧ 2 ≤ s.tdc.ties.length then .next s.tdcReady.calHoldAll else .next s

/-- REF_EDGE (R97): a divided edge of REFn on its channel, if it is of the active polarity. -/
def execRefEdge (n : Fin 8) (u : Capture) (s : State) : Out :=
  if s.edgeActive n u.rises then .next (s.edgeAt n u) else .next s

/-- The instant of the first loop update at least 128 ticks from now (R188). -/
def State.coastEnds (s : State) : Int :=
  let u := s.toUpdate
  if 128 ≤ s.ticksToUpdate then s.now + u else s.now + u + (secU / s.updatesPerSecond : Nat)

/-- SYN0_COAST_TICK (R188): the coast reaches CK_HRT; SYN0_COAST is filed, and launches from here are missed. -/
def execSyn0CoastTick (s : State) : Out :=
  if s.syn.coastDue then
    let s1 := s.modSyn fun y => { y with coastDue := false, coasting := true, coastTick := s.hearth.tick }
    let s1 := s1.modSel fun m => { m with accBad := true }
    let s2 := { s1.file F.syn0Coast 0 0 with lts := { s1.lts with coastHold := true } }
    .next (s2.missEvery 6 (some s.coastEnds) (fun r => decide (s.now ≤ r.tL)))
  else .next s

end Sys2Proof.Machine
end

