-- ==== Sys2Proof/Machine/Ember.lean ====
section
/-! DEFINITION. The ember record (R524): what it holds, and how a chip forms one. -/

namespace Sys2Proof.Machine

/-- A record is valid: magic, version and CRC-32C over bytes 0 to 251 (R524). -/
def emberOk (e : List Byte) : Bool :=
  e.length == 256 && be e 0 4 == 0x534B454D && le e 4 1 == 1 && le e 252 4 == crc32c (slice e 0 252)

/-- A two's complement number in `n` bytes. -/
def leI (e : List Byte) (i n : Nat) : Int := toSigned (8 * n) (le e i n)

/-! ### Fields -/

/-- The Hearth's state, the EB mode, HEARTH_RUN. -/
def emState (e : List Byte) : Nat := bitsOf (le e 5 1) 0 2
/-- HEARTH_RUN. -/
def emRun (e : List Byte) : Bool := bitOf (le e 5 1) 4
/-- Sequence. -/
def emSeq (e : List Byte) : Nat := le e 8 8
/-- The instant in 2^-16 ns, and its second. -/
def emTime (e : List Byte) : Nat := le e 22 6 * secU + le e 18 4 * nsU + le e 16 2
/-- The second. -/
def emSecond (e : List Byte) : Nat := le e 22 6
/-- INTEG in counts. -/
def emInteg (e : List Byte) : Int := leI e 33 5
/-- P in counts. -/
def emProp (e : List Byte) : Int := leI e 38 4
/-- EB in 2^-8 ns. -/
def emEb (e : List Byte) : Nat := le e 42 4
/-- LOCK_B in counts. -/
def emLockB (e : List Byte) : Nat := le e 46 3
/-- OSC.ID. -/
def emOscId (e : List Byte) : Nat := le e 52 4
/-- OSC.CMD_NOW. -/
def emCmd (e : List Byte) : Int := leI e 56 4
/-- OSC.RUN_HOURS. -/
def emHours (e : List Byte) : Nat := le e 60 4
/-- TAI − UTC now and next, LEAP_AT. -/
def emLeap (e : List Byte) : Int × Int × Nat := (leI e 68 2, leI e 70 2, le e 72 6)
/-- TSC.LEAP_CUR.SRC. -/
def emLeapSrc (e : List Byte) : Nat := bitsOf (le e 78 1) 0 4
/-- The page index. -/
def emPage (e : List Byte) : Nat := le e 104 1

/-- The nonempty hourly summaries of a page as samples of the model, each as often as its count, at mid-hour. -/
def emSummaries (e : List Byte) : List (ModelSample × Nat) :=
  (List.range 8).filterMap (fun j =>
    let n := le e (112 + 8 * j + 7) 1
    if n = 0 then none
    else
      let h := le e 108 4 + j
      -- an hour in the future of the record stands for that of the week before
      let h' := if emRun e ∧ emSecond e < h * 3600 then h - 168 else h
      some (⟨((h' * 3600 + 1800 : Nat) : Rat), (leI e (112 + 8 * j) 5 : Rat), (leI e (112 + 8 * j + 5) 2 : Rat)⟩, n))

/-! ### Formation -/

/-- A value rounded freely by the `k`-th draw from here. -/
def State.roundNth (s : State) (k : Nat) (x : Rat) : Int :=
  if Config.freeValue (s.freeCtr + k) % 2 = 0 then x.floor else x.ceil

/-- The hour that a record's pages are counted from: the present one, or while the Hearth is held in reset that of the newest
sample. -/
def State.emberHour (s : State) : Nat :=
  if s.hearth.running then s.second / 3600
  else match s.sel.model with | m :: _ => (m.t / 3600).floor.toNat | [] => 0

/-- Summary of hour `h` (R524), the means rounded freely. -/
def State.hourSummary (s : State) (j h : Nat) : List Byte :=
  let ms := s.sel.model.filter (fun m => decide ((m.t / 3600).floor.toNat = h))
  let n : Rat := ms.length
  if ms.isEmpty then List.replicate 8 0
  else
    leBytes 5 (ofSigned 40 (s.roundNth (2 * j) ((ms.map ModelSample.f).sum / n))) ++
    leBytes 2 (ofSigned 16 (s.roundNth (2 * j + 1) ((ms.map ModelSample.th).sum / n))) ++ leBytes 1 (min 56 ms.length)

/-- The base hour of page `k`, and its summaries. -/
def State.emberPage (s : State) (k : Nat) : List Byte :=
  let h := s.emberHour
  let base := h + 168 - (h + 168 - 8 * k) % 168 - 168
  leBytes 4 base ++ (List.range 8).flatMap (fun j =>
    s.hourSummary j (if base + j ≤ h then base + j else base + j - 168))

/-- Bytes 0 to 251 of the record formed now. -/
def State.emberBody (s : State) : List Byte :=
  let run := s.hearth.running
  let t := if run then s.second else 0
  beBytes 4 0x534B454D ++ leBytes 1 1 ++
  leBytes 1 (s.get R.TSC.STAT.STATE + 4 * s.ebMode + 16 * ofBool run + 32 * ofBool s.damperOpen +
    64 * s.get R.NVC.STAT.PROFILE) ++
  leBytes 1 (s.selState + 8 * s.get R.SEL.STAT.MODEL_LEARNED + 16 * s.get R.SEL.STAT.TEMP_LEARNED) ++
  leBytes 1 s.nvc.hat ++ leBytes 8 s.nvc.seq ++ leBytes 2 0 ++ leBytes 4 0 ++ leBytes 6 t ++
  leBytes 5 (ofSigned 40 s.voted.s) ++ leBytes 5 (ofSigned 40 s.voted.i) ++ leBytes 4 (ofSigned 32 s.voted.p) ++
  leBytes 4 (s.get R.EBD.EB_SEC.EB) ++ leBytes 3 (s.get R.EBD.LOCK_B.VALUE) ++ leBytes 1 s.sourceSlot ++ leBytes 2 0 ++
  leBytes 4 (s.get R.OSC.ID.ID) ++ leBytes 4 (ofSigned 32 (s.sget R.OSC.CMD_NOW.C)) ++
  leBytes 4 (s.get R.OSC.RUN_HOURS.HOURS) ++ leBytes 2 (s.get R.OSC.CURRENT.CUR) ++ leBytes 2 (s.get R.OSC.TEMP.TEMP) ++
  leBytes 2 (s.get R.TSC.LEAP_CUR.OFFSET) ++ leBytes 2 (s.get R.TSC.LEAP_NEXT.OFFSET) ++ leBytes 6 s.leapAt ++
  leBytes 1 (s.get R.TSC.LEAP_CUR.SRC + 16 * s.get R.TSC.LEAP_NEXT.PENDING) ++ leBytes 1 0 ++
  leBytes 4 (s.get R.SEL.ALPHA.ALPHA) ++ leBytes 3 (s.get R.SEL.KTEMP.K) ++ leBytes 1 0 ++
  leBytes 2 (s.get R.SEL.THETA_C.THETA) ++ leBytes 2 (s.get R.SEL.MODEL_HOURS.HOURS) ++
  leBytes 4 (s.get R.SEL.MODEL_A.A) ++ leBytes 3 (s.get R.SEL.MODEL_B.B) ++ leBytes 3 (s.get R.SEL.MODEL_C.C) ++
  leBytes 2 (s.get R.SEL.MODEL_Q.Q) ++ leBytes 1 s.nvc.page ++ leBytes 3 0 ++ s.emberPage s.nvc.page ++
  List.replicate 76 0

/-- The record formed now (R524): its sequence and page move on, and it is the latest. -/
def State.formEmber (s : State) : State :=
  let body := s.emberBody
  { s with freeCtr := s.freeCtr + 16,
           nvc := { s.nvc with latest := some (body ++ leBytes 4 (crc32c body)), seq := s.nvc.seq + 1,
                               page := (s.nvc.page + 1) % 21 } }

/-- The model of a set of summaries (R503, R529): refitted with each summary weighted by its count. -/
def State.loadSummaries (es : List (List Byte)) (s : State) : State :=
  let ms := es.flatMap emSummaries
  (s.modSel fun m => { m with model := ms.flatMap (fun x => List.replicate x.2 x.1) }).modelFitHours ms.length
    |>.set R.SEL.MODEL_HOURS.HOURS ms.length

end Sys2Proof.Machine
end

