-- ==== Sys2Proof/Machine/Red.lean ====
section
/-! DEFINITION. Redundancy: the hat, roles, the hat link, seed pairs, takeover and release, the cold standby (chapter 16). -/

namespace Sys2Proof.Machine

/-- RED.STAT.ROLE (R486): 0 START, 1 ACTIVE, 2 STANDBY, 3 RENOUNCED, 4 TAKEOVER. -/
def State.role (s : State) : Nat := s.get R.RED.STAT.ROLE

/-- The chip holds the hat (R492). -/
def State.holding (s : State) : Bool := s.flag R.RED.STAT.HOLDING

/-! ### The Hearth leaves reset and returns to it (R34, R494, R515) -/

/-- A lane at the start of a timescale (R34, R503): TIME96 `u`, S = INTEG = `i`, everything else zero. -/
def Lane.start (u : Nat) (i : Int) : Lane :=
  { time := linT96 u, acc := 0, phase := 0, rate := BitVec.ofInt 40 i, integ := BitVec.ofInt 40 i, prop := 0, eb := 0 }

/-- The values of start-up or an ember held as source 0 of the leap registers, judged as any source's (R42 to R44, R503, R529). -/
def State.leapSource0 (l : Int × Int × Nat) (s : State) : State := s.leapJudge 0 l.1 l.2.1 l.2.2

/-- The profile records of TSC, kept until the Hearth leaves reset (R555): fields outside groups are put into force, values of
STEER and INTEG wait for the first loop update, the leap group takes effect as R46 has it. -/
def State.applyKept (s : State) : State :=
  let fs := s.nvc.kept.flatMap recordFields
  let grouped := fs.filter (fun x => x.1.grp.isSome)
  let s1 := (s.loadFields (fs.filter (fun x => !x.1.grp.isSome)))
  let s2 := grouped.foldl (fun st x => st.hold x.1 x.2) s1
  let named (g : Group) : Bool := grouped.any (fun x => x.1.grp == some g)
  let rate (b : Bool) (lo hi : Field) (st : State) : State :=
    if named (if b then .tscSteer else .tscInteg) then st.softCommit b (s2.written lo + s2.written hi * 2 ^ 32) 128 else st
  let s3 := rate false R.TSC.INTEG0.VALUE R.TSC.INTEG1.VALUE (rate true R.TSC.STEER0.VALUE R.TSC.STEER1.VALUE s2)
  if named .tscLeap then (s3.commit .tscLeap R.TSC.LEAP_CTL.COMMIT).leapHost else s3

/-- The Hearth leaves reset: every lane at `u` with S = INTEG = `i` (R34, R55, R503, R515). -/
def State.hearthFrom (u : Nat) (i : Int) (s : State) : State :=
  let l := Lane.start u i
  let s1 := s.modHearth fun h =>
    { h with running := true, laneA := l, laneB := l, laneC := l, secondDue := false, updateDue := false,
             lastUpdate := (u : Nat), phi := [((u : Nat), 0)], phiOsc := [], swSteer := i }
  ({ s1 with pmc := { s1.pmc with lastDump := some ((u : Int) - 1) } }.set R.GLB.IN_RESET.RESET
    (putBit (s1.get R.GLB.IN_RESET.RESET) 1 false)).crossingOpen 1

/-- S = INTEG of a normal start (R515). -/
def State.startInteg (s : State) : Int :=
  match s.nvc.restored with
  | some e => if emOscId e = s.get R.OSC.ID.ID ∧ emOscId e ≠ 0 ∧ emState e ≠ 0 then emInteg e else 0
  | none => 0

/-- A normal start (R34, R515): the leap values of start-up, and the records that wait for the Hearth. -/
def State.hearthStart (s : State) : State :=
  let s1 := (s.modRed fun r => { r with startDue := false }).hearthFrom 0 s.startInteg
  let s2 := match s.nvc.leap with | some l => s1.leapSource0 l | none => s1
  s2.applyKept.showPtp.synTrack

/-- A normal start that waits takes place in the first tick of CK_HRT (R515). -/
def State.hearthWake (s : State) : State := if s.red.startDue && s.hrtRuns then s.hearthStart else s

/-- Every listed field of TSC back at its reset value, with what waits for it. -/
def State.tscReset (s : State) : State :=
  let tsc (a : Nat) : Bool := decide (0x20000 ≤ a) && decide (a < 0x30000)
  { s with regs := s.regs.filter (fun e => !tsc (e.1 / 32)), shadow := s.shadow.filter (fun e => !tsc e.2.field.addr),
           commits := s.commits.filter (fun c => c.group != .tscLeap && c.group != .tscSteer && c.group != .tscInteg) }

/-- What lived by the timescale ends with it (R65, R100, R123, R194, R212, R279, R345): EB is UNKNOWN, SEL is in FREERUN,
enabled slots wait, after their holdoff, which HOLDOFF_EXPIRE then ends (log entry 29), outputs are unaligned, lines disarmed,
mappings and clients empty. -/
def State.timescaleGone (s : State) : State :=
  let z : Rat := 0
  let s1 := ((s.ebUnknown.modEbd fun e =>
    { e with bank := none, identPending := false, identLate := false, unknownHold := false, selSeen := 0,
             tm := 0, ccEntry := none, ccDwell := [] }).set
    R.EBD.EB_SEC.EB 0xFFFFFFFF).set R.SEL.STAT.STATE 0
  let s2 := (s1.modSel fun m =>
    { m with fHist := [], acc64 := [], accBad := true, wtrEnd := [], wtrRan := [], lastRep := [], absD := [],
             lockedUntil := 0, accSince := 0, qHist := [],
             q := z, e := z, bo := z, lockedSince := 0, measStart := 0 }).showWtr
  let s3 := (List.range 16).foldl (fun st n =>
    let s3 := st.modSlot n fun sl => { RefSlot.empty with sourceBad := sl.sourceBad && !(decide (9 ≤ n) && decide (n < 13)) }
    if st.slotState n = 0 then st else if st.slotState n = 4 then s3 else s3.setSlotState n 1) s2
  let s4 := (List.range 16).foldl (fun st n =>
    (((((st.modOutCh n fun c => { c with alignAt := none, since := false, auto := false, trim := st.sget (R.OUT.TRIM.PS n) }).set
      (R.OUT.STAT.ALIGN_STATE n) 0).set (R.OUT.STAT.ALIGN_WAIT n) 0).set
          (R.OUT.STAT.TRIM_SLEWING n) 0).setMute n 4 false).tevOff n) s3
  let s5 := (List.range 4).foldl (fun st n =>
    (st.modFe n fun f => { f with ties := [], accepted := 0, discarded := 0 }).set
        (R.GNS.FE_TIE.RMS.MAP_VALID n) 0) s4.outMutesAll.synTrack
  let s6 := (List.range 4).foldl (fun st p => st.mapInvalid p) s5
  let s7 := ((s6.withdrawFw.spoofRise.set R.GNS.STAT.FW_STATE 0).modGns fun g =>
      { g with due := [], missed := 0, stepD := none, lastHalt := none }).modPro
    fun p => { p with prefs := [], grants := [], due := [], smears := [], smeared := [] }
  { s7 with tdc := { s7.tdc with ties := [] }, smp := { s7.smp with ports := s7.smp.ports.map (fun (n, p) =>
      (n, { p with lastEdge := none })) }, pmc := { s7.pmc with lastDump := none } }

/-- The Hearth is put back into reset (R494). -/
def State.hearthReset (s : State) : State :=
  let l := Lane.start 0 0
  let s1 := s.tscReset.modHearth fun h =>
    { h with running := false, laneA := l, laneB := l, laneC := l, secondDue := false, updateDue := false, stepTick := none,
             stepAt := none, steps := 0, stepSum := 0, disagreed := [], triple := none, resyncs := [], steerPend := [],
             integPend := [], swSteer := 0, loopLate := false, lastUpdate := 0, announced := false, armDue := false,
             snapDue := false, recordDue := none, recordTick := none, leapPost := none,
             leapPoster := 0, phi := [], phiOsc := [], replicas := [] }
  ((s1.set R.GLB.IN_RESET.RESET (putBit (s1.get R.GLB.IN_RESET.RESET) 1 true)).crossingReset 1).timescaleGone

/-! ### Health (R505 to R507) -/

/-- The worst of some results. -/
def worst (rs : List Nat) : Nat := rs.foldl max 0

/-- The TDC's result (R505): an interpolator retired, a tap beyond 6 to 30 ps, or neither, once a calibration has been made. -/
def State.tdcHealth (s : State) : Nat :=
  let lo := s.get R.TDC.CAL_STAT.WMIN
  let hi := s.get R.TDC.CAL_STAT.WMAX
  if s.get R.TDC.STAT.RETIRED ≠ 0x3F then 3
  else if hi = 0 then 0
  else if lo < 24 ∨ 120 < hi then 2 else 1

/-- Byte 2 of the report: MBIST, TDC, SYN, SERDES. -/
def State.healthTests (s : State) : Nat :=
  worst (Map.vals s.red.mbist) + 4 * s.tdcHealth + 16 * worst (Map.vals s.red.synTest) + 64 * worst (Map.vals s.red.serdes)

/-- The overall result: the worst of the four (R505). -/
def State.healthAll (s : State) : Nat :=
  worst [worst (Map.vals s.red.mbist), s.tdcHealth, worst (Map.vals s.red.synTest), worst (Map.vals s.red.serdes)]

/-- Bits of the elements whose result is FAIL. -/
def failedBits (m : Map Nat) (first : Nat) : Nat :=
  m.foldl (fun v e => if e.2 = 3 ∧ first ≤ e.1 then putBit v (e.1 - first) true else v) 0

/-- The 16 bytes of a report (R507). -/
def State.healthReport (s : State) : List Byte :=
  leBytes 1 1 ++ leBytes 1 s.role ++ leBytes 1 s.healthTests ++ leBytes 1 s.healthAll ++
  leBytes 1 (s.get R.TDC.CAL_STAT.WMIN) ++ leBytes 1 (s.get R.TDC.CAL_STAT.WMAX) ++ leBytes 1 (s.get R.TDC.STAT.RETIRED) ++
  leBytes 1 (failedBits s.red.synTest 1 + 16 * failedBits s.red.serdes 0) ++ leBytes 2 (s.get (R.PMC.DIE.TEMP 0)) ++
  leBytes 2 s.red.healthSeq ++ leBytes 4 0

/-- HEALTH shows the report; in STANDBY a FAIL files RED_STBY_HEALTH (R506). -/
def State.judgeHealth (s : State) : State :=
  let s1 := s.set R.RED.HEALTH.REPORT (ofLe (s.healthReport.take 4))
  if s1.role = 2 ∧ s1.healthAll = 3 ∧ s1.red.failed = false then
    (s1.modRed fun r => { r with failed := true }).file F.redStbyHealth s1.healthTests 0
  else s1

/-! ### Gain and loss of the hat -/

/-- Service on every port gated, or not (R314). -/
def State.hatGate (b : Bool) (s : State) : State :=
  (List.range 4).foldl (fun st p => st.setB (R.ETH.STAT.HAT_GATED p) b) s

/-- The intervals between the PPS stamps held (R501). -/
def ppsIntervals : List Int → List Int
  | a :: b :: rest => (a - b) :: ppsIntervals (b :: rest)
  | _ => []

/-- The seed pair held is valid at an age in ticks (R500, R508). -/
def State.pairValid (s : State) (age : Nat) : Bool :=
  match s.red.pair with
  | none => false
  | some p =>
    emberOk p.ember && emState p.ember != 0 && emEb p.ember != 0xFFFFFFFF && s.get R.TDC.STAT.STATE == 2 &&
    decide (age ≤ s.get R.RED.CFG.EMBER_MAX_AGE * 625000000)

/-- A rate source applies (R502). -/
def State.rateSource (s : State) : Bool :=
  decide (4 ≤ (ppsIntervals s.red.pps).length) ||
    (match s.red.pair with | some p => emOscId p.ember == s.get R.OSC.ID.ID | none => false)

/-- The hat is gained (R487, R502): TAKEOVER with a valid pair and a rate source, else ACTIVE with a normal start. -/
def State.hatGain (age : Nat) (s : State) : State :=
  let s1 := ((s.set R.RED.STAT.HOLDING 1).evt R.RED.EVT.HAT_GAINED).modRed fun r => { r with arbitrating := false }
  if s.pairValid age && s.rateSource then
    (s1.set R.RED.STAT.ROLE 4).modRed fun r => { r with winDue := some true }
  else
    ((s1.set R.RED.STAT.ROLE 1).inc R.RED.TAKE_COLD.COUNT).modRed fun r =>
      { r with winDue := some false, startDue := true }

/-- The hat is lost (R193, R487, R492, R504): service is gated, unreleased launches are missed and the mute cause HAT appears at once,
the balls follow. -/
def State.hatLoss (sentHat : Bool) (s : State) : State :=
  let s1 := (s.set R.RED.STAT.HOLDING 0).evt R.RED.EVT.HAT_LOST
  let s2 := if sentHat then s1.renounce.file F.redHatLost 0 0 else s1
  let s3 := ((s2.set R.RED.STAT.ROLE 3).set R.RED.CTL.YIELD 0).modRed fun r =>
    { r with winDue := none, startDue := false, loseDue := true, yieldAt := none }
  let s4 := (s3.modOsc fun o => { o with flight := [] }).set R.OSC.STAT.CMD_PEND 0
  ((List.range 4).foldl (fun st p => st.missAll p 7) (s4.hatGate true)).outMutesAll.showPtp

/-- The claim of a frame that starts now: INCUMBENT and hat number (R488 to R490, R449). -/
def State.claimNow (s : State) : Nat :=
  let latch := s.flag R.RED.STAT.RENOUNCED
  let hat := if s.soloInForce || latch || (s.role == 0 && !s.red.arbitrating) || s.role == 3 ||
      s.get R.GLV.LC.STATE == 0 || s.syn.firstFailed then 0 else s.get R.RED.HAT.HAT_NUM
  (if s.holding && !latch then 256 else 0) + hat

/-- The bits a frame sends, bit 0 first, true for dominant (R490). -/
def frameBits (claim : Nat) : List Bool :=
  let body := [false, true] ++ (List.range 9).map (fun i => bitOf claim (8 - i))
  [true] ++ body ++ [(body.filter id).length % 2 == 1, false, false, false]

/-- The bits that a chip drives low in a frame (R491): what it sends up to the bit at which it loses, bit 0 in [15]. -/
def drivenBits (sent : List Bool) (lost : Option Nat) : Nat :=
  ((List.range 16).map fun i =>
    if sent.getD i false && (match lost with | some k => decide (i < k) | none => true) then 2 ^ (15 - i) else 0).sum

/-- The bits sampled, bit 0 first, true for low. -/
def sampledBits (bits : Nat) : List Bool := (List.range 16).map (fun i => !bitOf bits (15 - i))

/-- The bit at which a frame is lost, from 1 to 12 (R491). -/
def lostAt (sent sampled : List Bool) : Option Nat :=
  ((List.range 12).map (· + 1)).find? (fun i => !sent.getD i false && sampled.getD i false)

/-- A frame is valid (R491). -/
def frameValid (sampled : List Bool) : Bool :=
  sampled.getD 0 false && (((sampled.drop 1).take 12).filter id).length % 2 == 0 && !(sampled.drop 13).any id

/-- STANDBY is entered: the self-tests begin anew (R505). -/
def State.standBy (s : State) : State :=
  (s.set R.RED.STAT.ROLE 2).modRed fun r => { r with failed := false, mbist := [], synTest := [], serdes := [], synTurn := 0, serdesTurn := 0 }

/-- A valid frame decides the hat (R487, R492). A chip that arbitrates for the first time stands by where it loses, and is
RENOUNCED where its latch has meanwhile been set. -/
def State.judgeFrame (lost sentHat : Bool) (age : Nat) (s : State) : State :=
  let won := !lost && sentHat
  let s1 := if won then s.inc R.RED.WON.COUNT else s
  if s.holding then (if lost || !sentHat then s1.hatLoss (lost && sentHat) else s1)
  else if won then s1.hatGain age
  else if s.red.arbitrating && (lost || s.flag R.RED.STAT.RENOUNCED) then
    let s2 := s1.modRed fun r => { r with arbitrating := false }
    if s.flag R.RED.STAT.RENOUNCED then s2.set R.RED.STAT.ROLE 3 else s2.standBy
  else s1

/-- RECLAIM takes effect (R494): the Hearth is back in reset, the ports in WAKE, the role STANDBY. -/
def State.reclaimNow (s : State) : State :=
  if s.red.reclaim = true ∧ s.flag R.RED.STAT.RENOUNCED = false then
    let s1 := s.standBy.modRed fun r => { r with reclaim := false }
    let s2 := if s1.hearth.running then s1.hearthReset else s1
    { s2 with eth := { s2.eth with released := false } }.powerAll
  else s.modRed fun r => { r with reclaim := false }

/-! ### Seeding (R502, R503) -/

/-- Picoseconds of an own-base interval carried at a rate of `r` counts. -/
def carried (ps : Int) (r : Int) : Rat := (ps : Rat) * (1 + (r : Rat) / (10 ^ 15 : Nat))

/-- S_seed in counts (R502): by the mean PPS interval, else the ember's INTEG. -/
def State.seedRate (s : State) (e : List Byte) : Int :=
  let ds := ppsIntervals s.red.pps
  if 4 ≤ ds.length then
    let mean : Rat := (ds.sum : Rat) / (ds.length : Nat)
    if mean = 0 then 0 else ((10 ^ 15 : Nat) * ((10 ^ 12 : Nat) / mean - 1) + 1 / 2).floor
  else emInteg e

/-- φ in ps and whether PHASE_BAD holds for want of a fresh stamp (R502, R508): the latest PPS stamp less the instant
predicted for its second. -/
def State.seedPhase (s : State) (p : SeedPair) (us rate : Int) : Int × Bool :=
  if s.flag R.RED.CFG.PPS_EN = false then (0, false)
  else
    match s.red.pps with
    | [] => (0, true)
    | u :: _ =>
      if 1500000000000 < us - u then (0, true)
      else
        let d : Rat := (u - (p.u + s.sget R.RED.PPS_TRIM.PS + s.sget R.RED.PPS_DELAY.PS) : Int)
        let second : Rat := (10 ^ 12 : Nat) / (1 + (rate : Rat) / (10 ^ 15 : Nat))
        ((d - second * ((d / second + 1 / 2).floor : Int) + 1 / 2).floor, false)

/-- g in counts (R502): LOCK_B + |P| + 3σ / (RATIO_N × 10^-3), the root rounded freely to 2^-16 of a count; with no interval
held σ has no value and is free. -/
def State.seedGrowth (s : State) (e : List Byte) : Rat :=
  let ds := ppsIntervals s.red.pps
  let n : Rat := ds.length
  let rn : Rat := (max 1 (s.get R.RED.CFG.RATIO_N) : Nat)
  let base : Rat := (emLockB e + (emProp e).natAbs : Nat)
  if ds.isEmpty then base + 3 * (s.fresh : Rat) * 1000 / rn
  else
    let mean : Rat := (ds.sum : Rat) / n
    let var : Rat := (ds.map (fun (d : Int) => ((d : Rat) - mean) * ((d : Rat) - mean))).sum / n
    let sq := (9000000 * var / (rn * rn) * (2 ^ 32 : Nat)).ceil.toNat
    base + (((if s.fresh % 2 = 0 then isqrt sq else isqrtUp sq) : Nat) : Rat) / (2 ^ 16 : Nat)

/-- SEL's banking from the seeded value (R136, R503). -/
def State.seedSel (rate : Int) (s : State) : State :=
  let th := s.theta?.getD s.sel.thLast
  let f := rate + s.gc
  let s1 := (s.selBank false).modSel fun m =>
    { m with fFrz := (f : Rat), tc := secR s.now, thc := (th : Rat), thLast := th }
  (s1.setI2 R.SEL.FROZEN0.F_FRZ R.SEL.FROZEN1.F_FRZ f).setI R.SEL.THETA_C.THETA th

/-- EBD's banking from EB_seed, with b at least g (R503). -/
def State.seedEbd (eb : Nat) (g : Rat) (s : State) : State :=
  let s1 := s.bankLatch
  let s2 := s1.modEbd fun e =>
    { e with anchor := min ebMax (eb * 256), selSeen := 5, unknownHold := false, saturating := false,
             bank := e.bank.map (fun l => { l with set := { l.set with b := max l.set.b g.ceil.toNat } }) }
  (((s2.setEb (eb * 256 + s.bankInForce.1.a * 256)).set R.EBD.BANK_ENTRY.EB eb).set R.EBD.STAT.MODE 3).ebSaturation

/-- The drift model of an ember (R503). -/
def State.loadModel (e : List Byte) (s : State) : State :=
  let ms := emSummaries e
  let s1 := s.modSel fun m =>
    { m with model := ms.flatMap (fun x => List.replicate x.2 x.1), alphaFit := leI e 80 4, kFit := leI e 84 3,
             modelSet := ⟨le e 92 4, le e 96 3, le e 99 3, le e 102 2⟩ }
  (((s1.set R.SEL.STAT.MODEL_LEARNED (bitsOf (le e 6 1) 3 1)).set R.SEL.STAT.TEMP_LEARNED (bitsOf (le e 6 1) 4 1)).set
    R.SEL.MODEL_HOURS.HOURS (le e 90 2)).showLaw

/-- What the seeding tick does (R502, R503), `since` picoseconds of own base after the marker stamp of the pair. -/
def State.seed (p : SeedPair) (since : Int) (s : State) : State :=
  let e := p.ember
  let rate := s.seedRate e
  let dl := carried since rate
  let (phi, noStamp) := s.seedPhase p (p.u + since) rate
  let bad := decide (s.get R.RED.TAKE_CFG.PHASE_MAX < phi.natAbs)
  let ps := if bad then dl else dl - phi
  let u := (emTime e : Rat) + ps * 8192 / 125
  let ui := (s.roundFree u).toNat
  let g := s.bump.seedGrowth e
  let grow := g * dl / (10 ^ 15 : Nat) + (s.get R.RED.TAKE_CFG.PPS_B : Nat) + (phi.natAbs : Nat)
  let eb := min 0xFFFFFFFF (emEb e + (grow * 256 / 1000).ceil.toNat)
  let same := emOscId e == s.get R.OSC.ID.ID
  let s1 := (s.bump.bump.hearthFrom ui rate).set R.TSC.STAT.STATE 2
  let s2 := if same then (s1.setI R.OSC.CMD_NOW.C (emCmd e)).loadModel e else s1
  let s3 := ((s2.leapSource0 (emLeap e)).seedSel rate).seedEbd eb g
  let s4 := (List.range 16).foldl (fun st n =>
    if st.slotState n = 0 then st else (st.set (R.REF.SLOT.CTL.RESTART n) 1).slotRestart n) s3
  let s5 := (s4.setTime R.RED.SEED_FRAC.SEED R.RED.SEED_NS.SEED R.RED.SEED_SEC_LO.SEED R.RED.SEED_SEC_HI.SEED ui).setI
    R.RED.SEED_PHASE.PS phi
  let s6 := ((s5.set R.RED.SEED_EB.EB eb).set R.RED.SEED_AGE.MS (satN 16 (since.toNat / 10 ^ 9))).setI2
    R.RED.SEED_STEER0.S R.RED.SEED_STEER1.S rate
  let s7 := if bad || noStamp then s6.evt R.RED.EVT.PHASE_BAD else s6
  let s8 := if bad then s7.file F.redTakePhase 0 0 else s7
  ((((s8.inc R.RED.TAKEOVERS.COUNT).evt R.RED.EVT.TAKEOVER).set R.RED.STAT.ROLE 1).applyKept).showPtp.synTrack

/-! ### The group, and the second -/

/-- A commit of group RED is accepted (R509). -/
def redOk (_old new : State) : Bool :=
  new.get R.RED.CFG.EMBER_MAX_AGE != 0 && decide (4 ≤ new.get R.RED.CFG.RATIO_N) && decide (new.get R.RED.CFG.RATIO_N ≤ 64) &&
  (new.get R.RED.LINK_CFG.VER_MAX == 1 || new.get R.RED.LINK_CFG.VER_MAX == 2) &&
  new.get R.RED.TEST_CFG.SWEEP_MIN != 0 && new.get R.RED.TEST_CFG.LOOP_S != 0

/-- The link's state follows its enable (R498). -/
def State.linkEnable (s : State) : State :=
  let st := s.get R.RED.LINK_STAT.STATE
  if s.flag R.RED.LINK_CFG.EN then (if st = 0 then s.set R.RED.LINK_STAT.STATE 1 else s)
  else ((s.set R.RED.LINK_STAT.STATE 0).set R.RED.LINK_STAT.VER 0).modRed fun r => { r with peerVers := none }

/-- What a commit of group RED brings: the link's state, and the PPS intervals kept (R498, R501). -/
def redAfter (old new : State) : State :=
  let other := !new.flag R.RED.CFG.PPS_EN || old.differ new R.RED.CFG.PPS_SLOT
  (new.modRed fun r => { r with pps := if other then [] else r.pps.take (new.get R.RED.CFG.RATIO_N + 1) }).linkEnable

/-- RED at a second boundary (R509). -/
def State.redSecond (s : State) : State :=
  s.takeGroup .red R.RED.CTL.COMMIT R.RED.EVT.CFG_REJECTED redOk redAfter

/-- The next instant n:500,000,000 after `t` (R495). -/
def midSecond (t : Int) : Int := (t + secI / 2) / secI * secI + secI / 2

/-- A YIELD that waits follows a step. -/
def State.redStep (s : State) : State :=
  s.modRed fun r => { r with yieldAt := r.yieldAt.map (fun _ => midSecond s.now) }

/-! ### The link (R493, R497 to R500) -/

/-- The payload of a HELLO (R497). -/
def State.helloBody (s : State) : List Byte :=
  leBytes 1 1 ++ leBytes 1 (s.get R.RED.LINK_CFG.VER_MAX) ++ leBytes 1 (s.get R.RED.HAT.HAT_NUM) ++ leBytes 1 s.role ++
  leBytes 1 (ofBool s.holding + 2 * s.get R.RED.STAT.RENOUNCED) ++ leBytes 3 0

/-- A message that is discarded (R498). -/
def State.linkBad (s : State) : State := s.inc R.RED.LINK_CRC_ERR.COUNT

/-- The link exchanges messages: NEGOTIATE or UP. -/
def State.linkTalks (s : State) : Bool := decide (2 ≤ s.get R.RED.LINK_STAT.STATE)

/-- The highest version both chips offer (R498). -/
def State.commonVersion (s : State) (lo hi : Nat) : Option Nat :=
  let v := min hi (s.get R.RED.LINK_CFG.VER_MAX)
  if 1 ≤ v ∧ lo ≤ v then some v else none

/-- The versions of a HELLO (R498): filed once for each offer without a common version. -/
def State.negotiateLink (lo hi : Nat) (s : State) : State :=
  let s1 := s.modRed fun r => { r with peerVers := some (lo, hi) }
  match s.commonVersion lo hi with
  | some v =>
    let s2 := (s1.set R.RED.LINK_STAT.STATE 3).set R.RED.LINK_STAT.VER v
    if s.get R.RED.LINK_STAT.STATE = 3 then s2 else s2.evt R.RED.EVT.LINK_UP
  | none =>
    let s2 := (s1.set R.RED.LINK_STAT.STATE 2).set R.RED.LINK_STAT.VER 0
    if s.red.peerVers = some (lo, hi) then s2 else (s2.evt R.RED.EVT.LINK_VERSION).file F.redLinkVersion 0 0

/-- A HELLO (R493, R497, R498). -/
def State.hello (b : List Byte) (s : State) : State :=
  let hat := le b 2 1
  let holds := bitOf (le b 4 1) 0
  let s1 := (((s.negotiateLink (le b 0 1) (le b 1 1)).set R.RED.LINK_STAT.PEER_HAT hat).set R.RED.LINK_STAT.PEER_ROLE
    (le b 3 1)).setB R.RED.LINK_STAT.PEER_HOLDING holds
  if holds && s1.holding && decide (s1.get R.RED.HAT.HAT_NUM ≤ hat) then s1.file F.redHatConflict hat 0 else s1

/-! ### The commands of the chapter -/

/-- HAT_FRAME (R488 to R492): a frame ends. A SOLO chip ignores the line (R496), and in RECOVERY RED does not run (R513). -/
def execHatFrame (u : HatFrame) (s0 : State) : Out :=
  if s0.soloInForce || s0.get R.NVC.STAT.SVC_STATE == 3 then .next s0
  else
    let s := if u.changed then s0 else s0.reclaimNow
    let claim := if u.changed then s.red.claim else s.claimNow
    let sampled := sampledBits u.bits.toNat
    let lost := lostAt (frameBits claim) sampled
    let s1 := ((((s.emit (.hatClaim (drivenBits (frameBits claim) lost))).inc R.RED.FRAMES.COUNT).set R.RED.LAST_FRAME.BITS
      u.bits.toNat).set R.RED.STAT.CLAIM claim).modRed fun r => { r with claim := claim }
    let s2 := if lost = some 1 ∨ lost = some 2 then (s1.evt R.RED.EVT.HAT_VERSION).file F.redHatVersion 0 0 else s1
    let s3 := s2.setB R.RED.STAT.SEED_VALID (s2.pairValid u.pairAge)
    if frameValid sampled then
      .next ((s3.set R.RED.STAT.LINE_FAULT 0).judgeFrame lost.isSome (claim % 256 != 0) u.pairAge).judgeHealth
    else .next (s3.inc R.RED.FRAME_ERR.COUNT)

/-- HAT_LINE_TIMEOUT (R492): the holder keeps the hat. -/
def execHatLineTimeout (s : State) : Out :=
  if s.holding && !s.soloInForce && !s.flag R.RED.STAT.LINE_FAULT then
    .next ((s.set R.RED.STAT.LINE_FAULT 1).file F.redHatLine 0 0)
  else .next s

/-- RECLAIM (R494): the latch clears at once, the role changes at the next frame. -/
def execReclaim (s : State) : Out :=
  if s.role ≠ 3 ∨ s.synState 0 ≠ 3 ∨ s.get R.GLV.LC.STATE = 0 ∨ s.get R.RED.HAT.HAT_NUM = 0 then
    .next (s.evt R.RED.EVT.CFG_REJECTED)
  else .next ((s.set R.RED.STAT.RENOUNCED 0).modRed fun r => { r with reclaim := true })

/-- RENOUNCE (R488, R496, R508): the latch is set, and a YIELD that waits is discarded. -/
def execRenounce (s : State) : Out :=
  if s.soloInForce then .next (s.evt R.RED.EVT.CFG_REJECTED)
  else .next ((s.renounce.set R.RED.CTL.YIELD 0).modRed fun r => { r with yieldAt := none, reclaim := false })

/-- YIELD (R495, R496): only in the ACTIVE role of a chip with a peer. -/
def execYield (s : State) : Out :=
  if s.soloInForce ∨ s.role ≠ 1 then .next (s.evt R.RED.EVT.CFG_REJECTED)
  else .next ((s.set R.RED.CTL.YIELD 1).modRed fun r => { r with yieldAt := some (midSecond s.now) })

/-- YIELD_APPLY (R495): the timescale has reached the mid-second instant. -/
def execYieldApply (s : State) : Out :=
  match s.red.yieldAt with
  | none => .next s
  | some t =>
    if s.now < t then .next s
    else
      let s1 := (s.set R.RED.CTL.YIELD 0).modRed fun r => { r with yieldAt := none }
      .next (if s.role = 1 then s1.renounce else s1)

/-- HEALTH_NOW (R506): every self-test starts anew. -/
def execHealthNow (s : State) : Out :=
  if s.role = 2 then
    .next (s.modRed fun r => { r with mbist := [], synTest := [], serdes := [], synTurn := 0, serdesTurn := 0, failed := false }).judgeHealth
  else .next s

/-- RED_COMMIT (R509). -/
def execRedCommit (s : State) : Out := .next (s.commit .red R.RED.CTL.COMMIT)

/-- HELLO_TX (R497). -/
def execHelloTx (s : State) : Out :=
  if s.linkTalks then .next (s.emit (.hatMessage 1 s.helloBody)) else .next s

/-- HELLO_RX (R493, R498): the payload, or none where the CRC fails. -/
def execHelloRx (msg : Option (List Byte)) (s : State) : Out :=
  if !s.linkTalks then .next s
  else
    match msg with
    | none => .next s.linkBad
    | some b => .next (s.hello b)

/-- HAT_LINK_ALIGNED (R498). -/
def execHatLinkAligned (s : State) : Out :=
  if s.get R.RED.LINK_STAT.STATE = 1 then
    .next ((s.set R.RED.LINK_STAT.STATE 2).modRed fun r => { r with peerVers := none })
  else .next s

/-- HAT_LINK_TIMEOUT (R498). -/
def execHatLinkTimeout (s : State) : Out :=
  if s.linkTalks then
    let s1 := ((s.set R.RED.LINK_STAT.STATE 1).set R.RED.LINK_STAT.VER 0).modRed fun r => { r with peerVers := none }
    .next ((s1.inc R.RED.LINK_DOWN_CNT.COUNT).file F.redLinkDown 0 0)
  else .next s

/-- EMBER_TX (R499): the holder sends the record of the latest on-time instant, once. -/
def execEmberTx (s : State) : Out :=
  match s.nvc.latest with
  | some e =>
    if s.holding && s.get R.RED.LINK_STAT.STATE == 3 && emRun e && s.red.sent != some (emSecond e) then
      .next (((s.modRed fun r => { r with sent := some (emSecond e) }).inc R.RED.EMBER_TX.COUNT).emit (.hatMessage 2 e))
    else .next s
  | none => .next s

/-- EMBER_RX (R498, R500): in a chip whose Hearth is held in reset, an EMBER makes a pair with the marker that waits, if it names
the second after that of the previous pair. -/
def execEmberRx (msg : Option (List Byte)) (s : State) : Out :=
  if !s.linkTalks then .next s
  else if s.get R.RED.LINK_STAT.STATE ≠ 3 then .next s.linkBad
  else
    match msg with
    | none => .next s.linkBad
    | some e =>
      if s.hearth.running then .next s
      else
        let follows := match s.red.lastSecond with | some l => emSecond e == l + 1 | none => true
        match s.red.marker with
        | some u =>
          if follows && emberOk e && emRun e then
            let s1 := s.modRed fun r =>
              { r with marker := none, lastSecond := some (emSecond e), pair := some ⟨emSecond e, u, e⟩ }
            .next ((s1.inc R.RED.EMBER_RX.COUNT).setB R.RED.STAT.SEED_VALID (s1.pairValid 0))
          else .next s.emberMiss
        | none => .next s.emberMiss

/-- EMBER_PAIR_TIMEOUT (R500): 200 ms after a marker no EMBER has come. -/
def execEmberPairTimeout (s : State) : Out := if s.red.marker.isSome then .next s.emberMiss else .next s

/-- HEALTH_TX (R507): under link version 2. -/
def execHealthTx (s : State) : Out :=
  if s.get R.RED.LINK_STAT.STATE = 3 ∧ s.get R.RED.LINK_STAT.VER = 2 then
    let s1 := s.judgeHealth
    .next ((s1.emit (.hatMessage 3 s1.healthReport)).modRed fun r => { r with healthSeq := (r.healthSeq + 1) % 65536 })
  else .next s

/-- HEALTH_RX (R498, R507): the payload, or none where the CRC fails. -/
def execHealthRx (msg : Option (List Byte)) (s : State) : Out :=
  if !s.linkTalks then .next s
  else if s.get R.RED.LINK_STAT.STATE ≠ 3 ∨ s.get R.RED.LINK_STAT.VER ≠ 2 then .next s.linkBad
  else
    match msg with
    | none => .next s.linkBad
    | some b =>
      let was := bitsOf (s.get R.RED.PEER_HEALTH.REPORT) 24 8
      let s1 := s.set R.RED.PEER_HEALTH.REPORT (le b 0 4)
      let s2 := if was = le b 3 1 then s1 else s1.evt R.RED.EVT.PEER_HEALTH
      if s.holding ∧ le b 3 1 = 3 then .next (s2.file F.redPeerFail 0 0) else .next s2

/-- SEEDING (R502, R503): the seeding tick of a takeover, `since` picoseconds of own base after the marker of the pair. -/
def execSeeding (since : Int) (s : State) : Out :=
  if s.role = 4 ∧ s.hearth.running = false ∧ s.hrtRuns = true then
    match s.red.pair with
    | some p => .next (s.seed p since)
    | none => .next s
  else .next s

/-- The losing chip's balls are in high impedance: frames and messages on its lines end (R504). -/
def State.releaseBalls (s : State) : State :=
  let s1 := [0, 1].foldl (fun st i =>
    let a := if st.out.irigBusy.contains i then st.emit (.irigCut i) else st
    if (Map.get? a.out.todBusy i).isSome then a.emit (.todCut i) else a) s
  let s2 := (s1.modOut fun o => { o with irigBusy := [], todBusy := [], drive := false }).outMutesAll
  (List.range 16).foldl (fun st n => st.setDriving n false) s2

/-- LOSER_RELEASE (R504): by h + 500 µs. -/
def execLoserRelease (s : State) : Out :=
  if s.red.loseDue then .next (s.releaseBalls.modRed fun r => { r with loseDue := false }) else .next s

/-- The first instant of the output's grid at or after now (R191, R504). -/
def State.gridFrom (s : State) (n : Nat) : Int :=
  let t : Rat := s.outPeriod n * (secU : Nat)
  if t = 0 then s.now else s.roundFree (t * (((s.now : Rat) / t).ceil : Int))

/-- The alignment of a seeded start (R504). -/
def State.alignSeeded (n : Nat) (s : State) : State :=
  if s.flag (R.OUT.CFG.EN n) = false then s
  else
    let s1 := s.set (R.OUT.STAT.ALIGN_STATE n) 1
    if s.srcLocked n then
      (s1.bump.modOutCh n fun c => { c with alignAt := some (s.gridFrom n) }).set (R.OUT.STAT.ALIGN_WAIT n) 0
    else s1.alignWait n

/-- WINNER_RELEASE (R504, R631): at h + 1 ms drivers are enabled and ports leave WAKE; after a seeded start every enabled
output is aligned. -/
def execWinnerRelease (s : State) : Out :=
  match s.red.winDue with
  | none => .next s
  | some seeded =>
    let s1 := ((s.modRed fun r => { r with winDue := none }).modOut fun o => { o with drive := true }).outMutesAll
    let s2 := if seeded && s.hearth.running then (List.range 16).foldl (fun st n => st.alignSeeded n) s1 else s1
    .next ({ s2 with eth := { s2.eth with released := true } }.hatGate false).powerAll.showPtp

/-- SPARE_CAL_DONE (R225 to R227): the calibration, and the standby's health with it. -/
def execSpareCalDone (hist : List Nat) (diff : Nat) (s : State) : Out := .next (s.spareCalDone hist diff).judgeHealth

/-- The standby's tests run (R505). -/
def State.testing (s : State) : Bool := s.role == 2 && s.flag R.RED.TEST_CFG.EN

/-- SELFTEST_MBIST (R505): the march test of an SRAM array ends. -/
def execSelftestMbist (array : BitVec 8) (corrected uncorrectable : Bool) (s : State) : Out :=
  if s.testing then
    let r := if uncorrectable then 3 else if corrected then 2 else 1
    .next (s.modRed fun x => { x with mbist := Map.put x.mbist array.toNat r }).judgeHealth
  else .next s

/-- The result of a band sweep of synthesizer `n` (R175, R505). -/
def State.sweepResult (s : State) (n : Nat) (u : BandSweep) : Nat :=
  let hz (k : Nat) : Rat := (k : Rat) * s.synPfd n / 4096
  let narrow := u.edges.any (fun (_, lo, hi) => decide (hz hi - hz lo < 250000000))
  let half : Rat := (s.get (R.SYN.CH.BAND_CFG.GUARD n) * quarterMHz : Nat) / 2
  let near (a : Rat) (t : Nat) : Bool := decide (a - (t * quarterMHz : Nat) < half) && decide ((t * quarterMHz : Nat) - a < half)
  let close := u.edges.any (fun (b, lo, hi) => near (hz lo) (s.get (R.SYN.BAND.LO b)) || near (hz hi) (s.get (R.SYN.BAND.HI b)))
  if narrow || !u.relocked then 3 else if close then 2 else 1

/-- SELFTEST_SYN_SWEEP (R505): of SYN1 to SYN3 in turn, never SYN0. -/
def execSelftestSynSweep (n : Fin 4) (u : BandSweep) (s : State) : Out :=
  if s.testing && n.val == s.red.synTurn + 1 then
    .next (s.modRed fun x =>
      { x with synTest := Map.put x.synTest n.val (s.sweepResult n u), synTurn := (x.synTurn + 1) % 3 }).judgeHealth
  else .next s

/-- SELFTEST_SERDES (R505): the loopback of each port in turn ends with a number of bit errors, or without lock. -/
def execSelftestSerdes (p : Fin 4) (errors : Nat) (locked : Bool) (s : State) : Out :=
  if s.testing && p.val == s.red.serdesTurn then
    let r := if !locked || decide (10 < errors) then 3 else if 0 < errors then 2 else 1
    .next (s.modRed fun x => { x with serdes := Map.put x.serdes p.val r, serdesTurn := (x.serdesTurn + 1) % 4 }).judgeHealth
  else .next s

end Sys2Proof.Machine
end

