-- ==== Sys2Proof/Machine/Groups.lean ====
section
/-! DEFINITION. Every commit group with its command bit and its rule; profiles applied at once and by a switch (R519, R521 to
R523, R544, R545); interrupt levels recomputed (R557). -/

namespace Sys2Proof.Machine

/-- What governs a group: its command bit, the event of a refusal, whether it is accepted, what it brings. -/
structure GroupRule where
  cmd : Field
  reject : Field
  ok : State → State → Bool
  after : State → State → State

/-- A group that is always accepted, and brings nothing but its values. -/
def plainRule (cmd reject : Field) : GroupRule := ⟨cmd, reject, fun _ _ => true, fun _ new => new⟩

/-- The rule of each group (R544, R545). DESIGN CHOICE: values of group BANK become the host set however they are committed (log entry
112). -/
def groupRule : Group → GroupRule
  | .tscLeap => plainRule R.TSC.LEAP_CTL.COMMIT R.TSC.EVT.LEAP_REJECTED
  | .tscSteer | .tscInteg => plainRule R.TSC.LEAP_CTL.COMMIT R.TSC.EVT.STEER_REFUSED
  | .ebdBank => ⟨R.EBD.CTL.BANK_COMMIT, R.EBD.EVT.CFG_REJECTED, fun _ _ => true, fun _ new => new.modEbd fun e =>
      { e with hostSet := some ⟨new.get R.EBD.BANK_A.A, new.get R.EBD.BANK_B.B, new.get R.EBD.BANK_C.C, new.get R.EBD.BANK_Q.Q⟩ }⟩
  | .ebdCct => plainRule R.EBD.CTL.CC_COMMIT R.EBD.EVT.CFG_REJECTED
  | .refSlot n => ⟨R.REF.SLOT.CTL.COMMIT n, R.REF.SLOT.EVT.CFG_REJECTED n, slotOk n, slotAfter n⟩
  | .selPrio => ⟨R.SEL.CTL.PRIO_COMMIT, R.SEL.EVT.CFG_REJECTED, selPrioOk, fun _ new => new⟩
  | .selLoop => ⟨R.SEL.CTL.LOOP_COMMIT, R.SEL.EVT.CFG_REJECTED, selLoopOk, fun _ new => new⟩
  | .osc => ⟨R.OSC.CTL.COMMIT, R.OSC.EVT.CFG_REJECTED, oscOk, oscAfter⟩
  | .syn n => ⟨R.SYN.CH.CTL.COMMIT n, R.SYN.CH.EVT.CFG_REJECTED n, synOk n, synAfter n⟩
  | .synBand => ⟨R.SYN.CTL_G.BAND_COMMIT, R.SYN.CH.EVT.CFG_REJECTED 0, synBandOk, fun _ new => new⟩
  | .out n => ⟨R.OUT.CH_CTL.COMMIT n, R.OUT.EVT.CFG_REJECTED, outOk n, outAfter n⟩
  | .tdcTb => ⟨R.TDC.CTL.TB_COMMIT, R.TDC.EVT.CFG_REJECTED, tdcTbOk, fun _ new => new.tdcNoTbase.tbaseGone⟩
  | .tdcCh n => ⟨R.TDC.CH.CTL.COMMIT n, R.TDC.EVT.CFG_REJECTED, tdcChOk n, fun _ new => new.tdcAbort n⟩
  | .gnaFe n => ⟨R.GNA.FE.CTL.COMMIT n, R.GNA.EVT.CFG_REJECTED, feOk n, feAfter n⟩
  | .gntCh c => ⟨R.GNT.CH.CTL.COMMIT c, R.GNA.EVT.CFG_REJECTED, gntOk c, fun _ new => new⟩
  | .gnsSol => ⟨R.GNS.CTL.SOL_COMMIT, R.GNS.EVT.CFG_REJECTED, gnsSolOk, gnsSolAfter⟩
  | .gnsPos => plainRule R.GNS.CTL.POS_COMMIT R.GNS.EVT.CFG_REJECTED
  | .ethPort p => ⟨R.ETH.CTL.COMMIT p, R.ETH.EVT.CFG_REJECTED p, ethPortOk p, ethPortAfter p⟩
  | .ethFilt p => plainRule (R.ETH.CTL.FILT_COMMIT p) (R.ETH.EVT.CFG_REJECTED p)
  | .ltsCls => ⟨R.LTS.CTL.CLS_COMMIT, R.LTS.EVT.CFG_REJECTED, ltsClsOk, fun _ new => new⟩
  | .ltsPcal p => plainRule (R.LTS.PORT.CTL.COMMIT p) (R.LTS.PORT.EVT.CFG_REJECTED p)
  | .rseEng => ⟨R.RSE.CTL.ENG_COMMIT, R.RSE.EVT.CFG_REJECTED, rseEngOk, rseEngAfter⟩
  | .rseRtab => ⟨R.RSE.CTL.RTAB_COMMIT, R.RSE.EVT.CFG_REJECTED, rseRtabOk, fun _ new => new.applyTable new.readTable⟩
  | .rseAddr => ⟨R.RSE.CTL.ADDR_COMMIT, R.RSE.EVT.CFG_REJECTED, rseAddrOk, fun _ new => new⟩
  | .proGlb => ⟨R.PRO.CTL.COMMIT, R.PRO.EVT.CFG_REJECTED, proGlbOk, fun _ new => new⟩
  | .proPtp p => ⟨R.PRO.PORT.CTL.COMMIT p, R.PRO.EVT.CFG_REJECTED, proPtpOk p, fun _ new => new.clearGrants p⟩
  | .proPref p => ⟨R.PRO.PREF.CTL.COMMIT p, R.PRO.EVT.CFG_REJECTED, proPrefOk p, proPrefAfter p⟩
  | .glvSec => ⟨R.GLV.CTL.SEC_COMMIT, R.GLV.EVT.CFG_REJECTED, secOk, fun _ new => new⟩
  | .smpPort n => ⟨R.SMP.PORT.CTL.COMMIT n, R.SMP.PORT.EVT.CFG_REJECTED n, smpOk n, smpAfter n⟩
  | .smpCstx n => plainRule (R.SMP.PORT.CTL.CS_COMMIT n) (R.SMP.PORT.EVT.CFG_REJECTED n)
  | .red => ⟨R.RED.CTL.COMMIT, R.RED.EVT.CFG_REJECTED, redOk, redAfter⟩
  | .pmcSel => ⟨R.PMC.CTL.SEL_COMMIT, R.PMC.EVT.CFG_REJECTED, selEventsOk, selEventsAfter⟩
  | .memCfg => ⟨R.MEM.CTL.COMMIT, R.MEM.EVT.CFG_REJECTED, memOk, fun _ new => new.showRefresh⟩

/-- The copy of a group taken now, `accept` decided beforehand (R521: no boundary is awaited). -/
def State.takeNow (g : Group) (accept : Bool) (s : State) : State :=
  let r := groupRule g
  s.takeGroup g r.cmd r.reject (fun _ _ => accept) r.after

/-! ### Interrupt levels (R557) -/

/-- The HALF bits of the ports, which have no enables of their own (R324). -/
def isHalf (f : Field) : Bool :=
  (List.range 4).any (fun p => f.key == (R.ETH.HALF0.HALF p).key || f.key == (R.ETH.HALF1.HALF p).key)

/-- An RC field that holds an event of R557 rather than a value (R546). -/
def isEvent (f : Field) : Bool := f.acc == .rc && f.key != R.RSE.TXN_PEAK.COUNT.key && !isHalf f

/-- An event of block `b` is set and enabled. -/
def State.blockLevel (s : State) (b : Nat) : Bool :=
  s.regs.any (fun e =>
    let a := e.1 / 32
    blockBit a == b &&
      (fieldsAt a).any (fun f => f.key == e.1 && isEvent f && (List.range f.width).any (fun i =>
        bitOf e.2 i && bitOf (s.rawWord (a + 4)) (f.lo + i))))

/-- INT_STAT of block `b` follows its events; a rise requests the block's vector (R558). -/
def State.refreshInt (b : Nat) (s : State) : State :=
  if s.blockLevel b then s.raiseBlock b
  else s.set R.GLB.INT_STAT.BLOCK (putBit (s.get R.GLB.INT_STAT.BLOCK) b false)

/-- Ball INT_N is driven low while INT_STAT AND INT_EN is not zero (R557). -/
def State.intN (s : State) : Bool := s.get R.GLB.INT_STAT.BLOCK &&& s.get R.GLB.INT_EN.BLOCK != 0

/-! ### Profiles -/

/-- The records of a profile section (R519): those that name a field, later ones to a register replacing earlier ones. -/
def profileRecords : List Byte → Nat → List (Nat × Nat)
  | _, 0 => []
  | bs, n + 1 => (le bs 0 4, le bs 4 4) :: profileRecords (bs.drop 8) n

/-- A record that is skipped (R519). -/
def recordSkipped (r : Nat × Nat) : Bool :=
  (recordFields r).isEmpty || (decide (0x281000 ≤ r.1) && decide (r.1 < 0x282000))

/-- The value that a profile gives a field: its last record's. -/
def profileValue (recs : List (Nat × Nat)) (f : Field) : Option Nat :=
  (recs.reverse.find? (fun r => r.1 == f.addr)).map (fun r => bitsOf r.2 f.lo f.width)

/-- The register belongs to TSC. -/
def inTsc (a : Nat) : Bool := decide (0x20000 ≤ a) && decide (a < 0x30000)

/-- No group is part of a switch any longer. -/
def State.endSwitching (s : State) : State := { s with nvc := { s.nvc with switching := [] } }

/-- The profile applied at start-up (R519, R521, R555): fields outside groups in record order, then every group at once, each
judged against all; records of TSC wait for the Hearth. -/
def State.applyProfile (recs : List (Nat × Nat)) (s : State) : State :=
  let used := recs.filter (fun r => !recordSkipped r)
  let s0 := (s.incBy R.NVC.REC_SKIP_CNT.COUNT (recs.length - used.length))
  let s1 := { s0 with nvc := { s0.nvc with kept := used.filter (fun r => inTsc r.1) } }
  let fs := (used.filter (fun r => !inTsc r.1)).flatMap recordFields
  let s2 := s1.loadFields (fs.filter (fun x => x.1.grp.isNone))
  let grouped := fs.filter (fun x => x.1.grp.isSome)
  let s3 := grouped.foldl (fun st x => st.hold x.1 x.2) s2
  let groups := ((Map.vals s3.shadow).filterMap (fun w => w.field.grp)).eraseDups
  let all := s3.load (groups.flatMap (fun g => s3.shadowOf g))
  let s4 := groups.foldl (fun st g => st.commit g (groupRule g).cmd) s3
  let s5 := { s4 with nvc := { s4.nvc with switching := groups } }
  let s6 := groups.foldl (fun st g => st.takeNow g ((groupRule g).ok s3 all)) s5
  let s7 := s6.gnsSecond.endSwitching
  ((State.pmcChanged s s7).linkEnable.showAlarm)

/-! ### A switch (R522, R523) -/

/-- The fields that a switch can change: those that the records name, and those that hold or await a value. -/
def State.switchFields (s : State) (recs : List (Nat × Nat)) : List Field :=
  let addrs := (recs.map Prod.fst ++ (Map.keys s.regs).map (fun k => k / 32) ++ (Map.vals s.shadow).map (fun (w : Waiting) =>
      w.field.addr)).eraseDups
  addrs.flatMap (fun (a : Nat) => (fieldsAt a).filter (fun (f : Field) => f.acc == .cfg || f.acc == .live))

/-- A rate of the loop. -/
def isRate (f : Field) : Bool := f.grp == some .tscSteer || f.grp == some .tscInteg

/-- What staging gives a field: its record's value, for CFG else its reset value, EMBER_INT's being the header's (R532);
nothing to a LIVE field that no record names, nor to a rate of the loop. -/
def State.stagedValue (s : State) (recs : List (Nat × Nat)) (f : Field) : Option Nat :=
  match profileValue recs f with
  | some v => some v
  | none =>
    if f.acc == .live || isRate f then none
    else if f.key == R.NVC.CFG.EMBER_INT.key then some s.nvc.emberInt
    else some f.rst

/-- A profile staged (R522): values of groups in the shadows, the others kept for the switch. An earlier write that waits for
the second of the switch is replaced. -/
def State.stageProfile (k : Nat) (recs : List (Nat × Nat)) (s : State) : State :=
  let used := recs.filter (fun r => !recordSkipped r)
  let s0 := s.incBy R.NVC.REC_SKIP_CNT.COUNT (recs.length - used.length)
  let vals := (s0.switchFields used).filterMap (fun f => (s0.stagedValue used f).map (fun v => (f, v)))
  let shared (f : Field) : Bool := f.grp.isSome && !isRate f
  let s1 := (vals.filter (fun x => shared x.1)).foldl (fun st x => st.hold x.1 x.2) s0
  let rest := (vals.filter (fun x => !shared x.1)).map (fun x => (⟨x.1, x.2⟩ : Waiting))
  let whole := decide (secU / 1000 ≤ s.toSecond)
  let s2 := s1.dropShadow fun w => whole && w.field.grp.isNone && rest.any (fun x => x.field.key == w.field.key)
  { s2 with nvc := { s2.nvc with staged := some ⟨s.now + (secU / 1000 : Nat), k, rest⟩ } }

/-- A host write of a field outside groups stands against the staging (R531). -/
def State.unstage (f : Field) (s : State) : State :=
  match s.nvc.staged with
  | none => s
  | some p => { s with nvc := { s.nvc with staged := some { p with values := p.values.filter (fun w => w.field.key != f.key) } } }

/-- A staged value outside groups at the switch second: a LIVE field's, or one without a boundary, in force at once, the others
awaiting their boundary, be it this second; a value its field refuses is left out. -/
def State.switchValue (w : Waiting) (s : State) : State :=
  match s.refuses w.field w.value with
  | some e => s.evt e
  | none =>
    if w.field.acc == .live || w.field.eff == .immediate then s.set w.field w.value
    else if s.get w.field = w.value then s
    else s.hold w.field w.value

/-- A group whose shadows differ from the values in force is committed at the switch (R523), in time for its epoch (R522). -/
def State.switchGroup (g : Group) (s : State) : State :=
  if (s.shadowOf g).all (fun w => s.get w.field == w.value) then s
  else
    let s1 := s.commit g (groupRule g).cmd
    let at_ := s.now - (secU / 1000 : Nat)
    { s1 with commits := s1.commits.map (fun c => if c.group == g then { c with at_ := at_ } else c),
              nvc := { s1.nvc with switching := g :: s1.nvc.switching } }

/-- The rate that a profile gives the loop, where it differs from the one in force: a software commit in time (R24). -/
def State.switchRate (vals : List Waiting) (steer : Bool) (s : State) : State :=
  let lo := if steer then R.TSC.STEER0.VALUE else R.TSC.INTEG0.VALUE
  let hi := if steer then R.TSC.STEER1.VALUE else R.TSC.INTEG1.VALUE
  let v : Field → Nat := fun f => match vals.find? (fun w => w.field.key == f.key) with | some w => w.value | none => s.get f
  if v lo == s.get lo && v hi == s.get hi then s else s.softCommit steer (v lo + v hi * 2 ^ 32) 128

/-- The switch at a second boundary at least 1 ms after staging (R522). -/
def State.switchSecond (s : State) : State :=
  match s.nvc.staged with
  | none => s
  | some p =>
    if s.now < p.from_ then s
    else
      let s0 := { s with nvc := { s.nvc with staged := none } }
      let s1 := (p.values.filter (fun w => !isRate w.field)).foldl (fun st w => st.switchValue w) s0
      let groups := ((Map.vals s1.shadow).filterMap (fun w => w.field.grp)).eraseDups.filter
        (fun g => g != .tscSteer && g != .tscInteg)
      let s2 := groups.foldl (fun st g => st.switchGroup g) s1
      let s4 := (s2.switchRate p.values true).switchRate p.values false
      (((s4.set R.NVC.STAT.PROFILE p.profile).set R.NVC.STAT.PROF_PEND 0).inc R.NVC.SWITCH_CNT.COUNT).evt
        R.NVC.EVT.PROFILE_DONE

end Sys2Proof.Machine
end

