-- ==== Sys2Proof/Machine/Nvc.lean ====
section
/-! DEFINITION. The flash: its bytes, the ember ring and its writes, the host's operations (R512, R524 to R530, R599). -/

namespace Sys2Proof.Machine

/-- The block's own state changed. -/
def State.modNvc (f : Nvc → Nvc) (s : State) : State := { s with nvc := f s.nvc }

/-- The ring's state changed. -/
def State.modRing (f : EmberRing → EmberRing) (s : State) : State := s.modNvc fun n => { n with ring := f n.ring }

/-- The service state (R513): 0 START, 1 SERVICE, 2 TEST, 3 RECOVERY. -/
def State.svc (s : State) : Nat := s.get R.NVC.STAT.SVC_STATE

/-! ### The flash array (R512) -/

/-- `n` bytes of flash. -/
def State.flashRead (s : State) (a n : Nat) : List Byte := Mem.read flashBlank s.nvc.flash a n

/-- CK_NVM's divider of 12.5 GHz / 2 from SYN0's first LOCKED on (R512): the header's, at least 32 in octal and 61 in quad mode; 0
while the boot oscillator runs it. -/
def State.nvmDivider (s : State) : Nat :=
  if (s.synCh 0).locked then max s.nvc.nvmDiv (if s.flag R.NVC.STAT.STRAP_NVMSEL then 61 else 32) else 0

/-- Bytes programmed: a NOR cell is cleared by programming and set only by an erase (assumption log 4). -/
def State.flashProgram (a : Nat) (bs : List Byte) (s : State) : State :=
  let old := s.flashRead a bs.length
  s.modNvc fun n => { n with flash := Mem.write flashBlank n.flash a (old.zipWith (· &&& ·) bs) }

/-- The erase sector's size (R512, R526). -/
def State.sectorSize (s : State) : Nat := if s.nvc.sector64 then 65536 else 4096

/-- `n` bytes erased from `a`. -/
def State.flashErase (a n : Nat) (s : State) : State :=
  s.modNvc fun v => { v with flash := v.flash.filter (fun e => decide (e.1 < a) || decide (a + n ≤ e.1)) }

/-! ### The ring's sectors (R526, R528) -/

/-- Sectors of the ring. -/
def State.ringCount (s : State) : Nat := s.get R.NVC.EMBER_SIZE.BYTES / s.sectorSize

/-- Record slots of a sector. -/
def State.ringSlots (s : State) : Nat := s.sectorSize / 256 - 1

/-- Address of sector `k`. -/
def State.sectorAt (s : State) (k : Nat) : Nat := s.get R.NVC.EMBER_BASE.ADDR + k * s.sectorSize

/-- Sectors not retired. -/
def State.goodSectors (s : State) : List Nat := (List.range s.ringCount).filter (fun k => !bitOf s.nvc.ring.retired k)

/-- A sector's erase count. -/
def State.sectorCount (s : State) (k : Nat) : Nat := Map.getD s.nvc.ring.counts k 0

/-- EMBER_SEC, ERASE_MIN and ERASE_MAX follow the ring. -/
def State.showRing (s : State) : State :=
  let g := s.goodSectors
  let cs := g.map (fun k => s.sectorCount k)
  let lo := match cs with | [] => 0 | c :: rest => rest.foldl min c
  (((((s.set R.NVC.EMBER_SEC.SECTOR (s.nvc.ring.cur.getD 0)).setB R.NVC.EMBER_SEC.SIZE s.nvc.sector64).set
    R.NVC.EMBER_SEC.GOOD (if s.nvc.ring.on then g.length else 0)).set R.NVC.ERASE_MIN.COUNT lo).set R.NVC.ERASE_MAX.COUNT
      (cs.foldl max 0))

/-- The good sector with the lowest erase count, the current and the previous one excluded; a tie goes to the lowest index
(R528). -/
def State.chooseSector (s : State) : Option Nat :=
  let c := s.goodSectors.filter (fun k => s.nvc.ring.cur != some k && s.nvc.ring.prev != some k)
  c.foldl (fun (best : Option Nat) k =>
    match best with
    | none => some k
    | some b => if s.sectorCount k < s.sectorCount b then some k else some b) none

/-- Ember writing goes on: the ring is usable and at least four good sectors remain (R526, R528). -/
def State.ringWrites (s : State) : Bool := s.nvc.ring.on && !s.flag R.NVC.STAT.EMBER_WORN

/-- The next sector is chosen and its erase begins, unless one is ready or being erased. -/
def State.prepareSector (s : State) : State :=
  if !s.ringWrites || s.nvc.ring.next.isSome || s.nvc.ring.erasing.isSome then s
  else
    match s.chooseSector with
    | none => s
    | some k => (s.modRing fun r => { r with erasing := some k }).emit (.flashErase s.nvmDivider (s.sectorAt k))

/-- A sector is retired, once: counted and filed; below four good sectors writing stops (R528, R531). -/
def State.retireSector (k : Nat) (s : State) : State :=
  if bitOf s.nvc.ring.retired k then s
  else
    let s1 := (((s.modRing fun r => { r with retired := putBit r.retired k true, next := if r.next = some k then none else r.next }).inc
      R.NVC.RETIRED_CNT.COUNT).evt R.NVC.EVT.SECTOR_RETIRED).file F.nvcSectorRetired k 0
    let s2 := if s1.goodSectors.length < 4 ∧ s1.flag R.NVC.STAT.EMBER_WORN = false then
        ((s1.set R.NVC.STAT.EMBER_WORN 1).file F.nvcEmberWorn 0 0)
      else s1
    s2.prepareSector.showRing

/-! ### Sector headers and writes (R526, R527) -/

/-- The header of a sector (R526). -/
def sectorHeader (count seq retired : Nat) : List Byte :=
  let body := beBytes 4 0x534B4553 ++ leBytes 1 1 ++ leBytes 3 0 ++ leBytes 4 count ++ leBytes 4 seq ++ leBytes 32 retired ++
    List.replicate 204 0
  body ++ leBytes 4 (crc32c body)

/-- A sector header is valid. -/
def sectorHeaderOk (h : List Byte) : Bool :=
  be h 0 4 == 0x534B4553 && le h 4 1 == 1 && le h 252 4 == crc32c (slice h 0 252)

/-- Nothing else uses the flash (R530). -/
def State.flashFree (s : State) : Bool :=
  s.nvc.hostOp.isNone && s.nvc.ring.erasing.isNone && s.nvc.write.all (fun w => w.flying.isNone)

/-- A full or retired current sector gives way to the erased one. -/
def State.advanceSector (s : State) : State :=
  let r := s.nvc.ring
  let spent := match r.cur with | some k => decide (s.ringSlots ≤ r.slot) || bitOf r.retired k | none => true
  if !spent then s
  else
    match r.next with
    | some k => (s.modRing fun x =>
        { x with cur := some k, prev := x.cur, next := none, slot := 0, secSeq := x.secSeq + 1, opened := false,
                 slotFailed := false }).showRing
    | none => s.prepareSector

/-- The current sector has a free slot. -/
def State.slotFree (s : State) : Bool :=
  match s.nvc.ring.cur with | some k => decide (s.nvc.ring.slot < s.ringSlots) && !bitOf s.nvc.ring.retired k | none => false

/-- The oldest record that may still be tried goes to the flash: the next free slot, with the sector's header where it is the
first of it (R527, R528). -/
def State.emberKick (s : State) : State :=
  if !s.ringWrites || !s.flashFree then s
  else
    match s.nvc.write.findIdx? (fun w => !w.abandoned && !w.judged) with
    | none => s
    | some i =>
      let s1 := s.advanceSector
      if !s1.slotFree || !s1.flashFree then s1
      else
        let k := s1.nvc.ring.cur.getD 0
        let a := s1.sectorAt k + 256 * (1 + s1.nvc.ring.slot)
        let s2 := if s1.nvc.ring.slot = 0 then
            let h := sectorHeader (s1.sectorCount k) s1.nvc.ring.secSeq s1.nvc.ring.retired
            (s1.flashProgram (s1.sectorAt k) h).emit (.flashProgram s.nvmDivider (s1.sectorAt k) h)
          else s1
        let bytes := match s.nvc.write[i]? with | some w => w.bytes | none => []
        (s2.modNvc fun n => { n with write := n.write.modify i (fun w => { w with flying := some a }) }).emit
          (.flashProgram s.nvmDivider a bytes)

/-- A record to be written (R525): its instant, and the flash if it is free. -/
def State.emberPut (bytes : List Byte) (s : State) : State :=
  if !s.ringWrites then s
  else
    (s.modNvc fun n => { n with write := n.write ++ [⟨bytes, if s.hearth.running then s.now else 0, 0, none, false, false⟩] }).emberKick

/-- The retry budget of a record has run out (R599); while the Hearth is held in reset the command says so. -/
def State.budgetOut (s : State) (w : EmberWrite) (told : Bool) : Bool :=
  let ms := s.get R.FLT.CFG.NEST_FRAC * s.get R.NVC.CFG.EMBER_DL
  if s.hearth.running then decide (w.at_ + ms / 16 * (secU / 1000 : Nat) < s.now) else told

/-- A failed program or verify: a second in succession of one sector retires it, a third drops the record; beyond the budget
the record is abandoned (R527, R528, R599). -/
def State.emberFailed (i : Nat) (w : EmberWrite) (told : Bool) (s : State) : State :=
  let twice := s.nvc.ring.slotFailed
  let k := s.nvc.ring.cur.getD 0
  let w' := { w with flying := none, fails := w.fails + 1 }
  let s1 := (s.modNvc fun n => { n with write := n.write.set i w' }).modRing fun r => { r with slotFailed := true }
  let s2 := if twice then s1.retireSector k else s1
  if 3 ≤ w'.fails then
    ((((s2.modNvc fun n => { n with write := n.write.eraseIdx i }).inc R.NVC.EMBER_FAIL_CNT.COUNT).evt R.NVC.EVT.EMBER_FAIL).file
      F.nvcEmberFail 0 0)
  else if s2.budgetOut w' told then
    (s2.modNvc fun n => { n with write := n.write.set i { w' with abandoned := true } }).inc R.NVC.EMBER_LATE_CNT.COUNT
  else s2

/-- A record programmed and verified: counted; the first of a sector has the next one erased (R528). -/
def State.emberWritten (i : Nat) (w : EmberWrite) (s : State) : State :=
  let s1 := (s.modNvc fun n => { n with write := n.write.eraseIdx i }).modRing fun r => { r with opened := true, slotFailed := false }
  let q := emSeq w.bytes
  ((((s1.inc R.NVC.EMBER_CNT.COUNT).count 0x600 1).set2 R.NVC.EMBER_SEQ_LO.SEQ R.NVC.EMBER_SEQ_HI.SEQ q).prepareSector).showRing

/-! ### The host's operations (R530) -/

/-- Ranges rangesOverlap. -/
def rangesOverlap (a n b m : Nat) : Bool := decide (a < b + m) && decide (b < a + n)

/-- The address lies in the image region, or in the ember ring. -/
def State.inImage (a : Nat) : Bool := decide (a < 0x2000000)
/-- The ring. -/
def State.inRing (s : State) (a : Nat) : Bool :=
  decide (s.get R.NVC.EMBER_BASE.ADDR ≤ a) && decide (a < s.get R.NVC.EMBER_BASE.ADDR + s.get R.NVC.EMBER_SIZE.BYTES)

/-- The GLOVES section, if it is listed. -/
def State.gloveSection (s : State) (a n : Nat) : Bool :=
  match Map.get? s.nvc.sections 9 with | some (b, m, _) => rangesOverlap a n b m | none => false

/-- An operation is denied (R530). -/
def State.flDenied (s : State) (op a n : Nat) : Bool :=
  let change := op == 2 || op == 3
  (change && s.inRing a && s.svc == 1 && s.flag R.NVC.CFG.EMBER_EN) ||
  (change && State.inImage a && s.flag R.NVC.STAT.PROF_PEND) ||
  (op == 1 && s.gloveSection a n && (s.get R.GLV.LC.STATE == 1 || s.get R.GLV.LC.STATE == 2))

/-- An operation's result. -/
def State.flEnd (r : Nat) (s : State) : State :=
  ((s.set R.NVC.FL_STAT.RESULT r).set R.NVC.FL_STAT.BUSY 0).evt R.NVC.EVT.FL_DONE

/-- The bytes of FL_DATA. -/
def State.flBytes (s : State) (n : Nat) : List Byte :=
  ((List.range 64).flatMap (fun i => leBytes 4 (s.get (R.NVC.FL_DATA.DATA i)))).take n

/-- FL_GO with operation `op` (R530): rejected while one runs; BAD_ARG, DENIED, or under way. -/
def State.flGo (op : Nat) (s : State) : State :=
  if s.flag R.NVC.FL_STAT.BUSY then s.evt R.NVC.EVT.CFG_REJECTED
  else
    let a := s.get R.NVC.FL_ADDR.ADDR
    let n := s.get R.NVC.FL_CMD.LEN
    let bad := op == 0 || (op != 3 && (n == 0 || decide (256 < n))) || (op == 2 && decide (256 < a % 256 + n))
    if bad then s.flEnd 4
    else if s.flDenied op a n then s.flEnd 2
    else
      let e : Emission := if op = 1 then .flashRead s.nvmDivider a n
        else if op = 2 then .flashProgram s.nvmDivider a (s.flBytes n)
        else .flashErase s.nvmDivider (a / s.sectorSize * s.sectorSize)
      (((s.set R.NVC.FL_STAT.RESULT 0).set R.NVC.FL_STAT.BUSY 1).modNvc fun v =>
          { v with hostOp := some (op, a, n), hostData := if op = 2 then s.flBytes n else [] }).emit e

/-- The effect of an operation that succeeds. -/
def State.flEffect (op a n : Nat) (s : State) : State :=
  if op = 1 then s.setWords R.NVC.FL_DATA.DATA 0 (s.flashRead a n)
  else if op = 2 then s.flashProgram a s.nvc.hostData
  else s.flashErase (a / s.sectorSize * s.sectorSize) s.sectorSize

/-! ### Embers at a second (R525) -/

/-- The record of this second is formed; it is written on the grid of EMBER_INT, or where EMBER_NOW asks. -/
def State.emberSecond (s : State) : State :=
  let s1 := s.formEmber
  let now := s.flag R.NVC.CTL.EMBER_NOW
  let s2 := s1.set R.NVC.CTL.EMBER_NOW 0
  let due := now || s.second % (max 1 (s.get R.NVC.CFG.EMBER_INT)) == 0
  if due && s.svc == 1 && s.flag R.NVC.CFG.EMBER_EN then
    match s2.nvc.latest with | some e => s2.emberPut e | none => s2
  else s2

/-! ### The commands that read no image -/

/-- STANDBY_EMBER (R525): EMBER_INT seconds of CK_HRT ticks have passed with the Hearth held in reset. -/
def execStandbyEmber (s : State) : Out :=
  if s.hearth.running || !s.hrtRuns then .next s
  else
    let s1 := s.formEmber.set R.NVC.CTL.EMBER_NOW 0
    match s1.nvc.latest with
    | some e => .next (if s.svc == 1 && s.flag R.NVC.CFG.EMBER_EN then s1.emberPut e else s1)
    | none => .next s1

/-- EMBER_NOW (R525). -/
def execEmberNow (s : State) : Out := .next (s.set R.NVC.CTL.EMBER_NOW 1)

/-- EMBER_DEADLINE (R527, R599): the limit of the oldest record not yet judged falls; what is under way is not used. -/
def execEmberDeadline (s : State) : Out :=
  match s.nvc.write.findIdx? (fun w => !w.judged) with
  | none => .next s
  | some i =>
    match s.nvc.write[i]? with
    | none => .next s
    | some w =>
      if s.hearth.running ∧ s.now < w.at_ + s.get R.NVC.CFG.EMBER_DL * (secU / 1000 : Nat) then .next s
      else
        let s1 := (s.evt R.NVC.EVT.EMBER_LATE).file F.nvcEmberLate 0 0
        let s2 := if w.abandoned then s1 else s1.inc R.NVC.EMBER_LATE_CNT.COUNT
        .next ((s2.modNvc fun n =>
          { n with write := if w.flying.isSome then n.write.set i { w with judged := true } else n.write.eraseIdx i }).emberKick)

/-- FL_READ (R530): FL_GO with OP = READ. -/
def execFlRead (s : State) : Out := .next (s.flGo 1)

/-- FL_PROGRAM (R530). -/
def execFlProgram (s : State) : Out := .next (s.flGo 2)

/-- FL_ERASE (R530). -/
def execFlErase (s : State) : Out := .next (s.flGo 3)

end Sys2Proof.Machine
end

