-- ==== Sys2Proof/Machine/Start.lean ====
section
/-! DEFINITION. Resets, straps, the stages of start-up, the ember scan, profile switches (R510 to R523, R529, R559, R612,
R613). -/

namespace Sys2Proof.Machine

/-! ### Resets (R510, R511, R533, R559) -/

/-- The causes by their RST_CAUSE bit (R510). -/
inductive ResetCause where
  | powerOn | resetPin | host | jtag | reload
  deriving DecidableEq, Repr

/-- The bit of a cause. -/
def ResetCause.bit : ResetCause → Nat
  | .powerOn => 0
  | .resetPin => 1
  | .host => 2
  | .jtag => 3
  | .reload => 4

/-- The host interface lives through the reset (R510, R559). -/
def ResetCause.keepsHost (c : ResetCause) : Bool := c == .host || c == .reload

/-- A listed register field lies in the always-on domain: the log, its head and the reset count, the renounce latch, gloves,
the life-cycle state (R489, R445, R449, R593, R594). -/
def alwaysOn (key : Nat) : Bool :=
  let a := key / 32
  (decide ((R.FLT.LOG.RECORD 0 0).addr ≤ a) && decide (a < (R.FLT.LOG.RECORD 0 0).addr + 64 * 32)) ||
  a == R.FLT.LOG_HEAD.INDEX.addr || a == R.FLT.RESET_CNT.COUNT.addr || key == R.RED.STAT.RENOUNCED.key ||
  (decide ((R.GLV.GLOVE.ATTR.CLASS 0).addr ≤ a) && decide (a < (R.GLV.GLOVE.ATTR.CLASS 0).addr + 64 * 16)) ||
  key == R.GLV.LC.STATE.key

/-- A listed register field that the host interface keeps: over RELOAD every GLB and HST register but the clock and reset maps;
over HOST the window base and the link (R510, R559). -/
def hostKept (c : ResetCause) (key : Nat) : Bool :=
  let a := key / 32
  let link := a == R.HST.WIN_BASE.MIB.addr || key == R.HST.STAT.HOSTSEL.key || key == R.HST.STAT.LINK_UP.key ||
    key == R.HST.STAT.SPEED.key || key == R.HST.STAT.WIDTH.key
  match c with
  | .host => link
  | .reload => decide (a < 0x20000) && a != R.GLB.CLK_RUN.RUN.addr && a != R.GLB.IN_RESET.RESET.addr &&
      key != R.HST.STAT.PEND_DOM.key
  | _ => false

/-- A flash program under way when the chip resets is torn: its first half is in the flash (R531). -/
def State.tearProgram (s : State) : State :=
  let s1 := s.nvc.write.foldl (fun st w => match w.flying with | some a => st.flashProgram a (w.bytes.take 128) | none => st) s
  match s.nvc.hostOp with
  | some (2, a, n) => s1.flashProgram a (s.nvc.hostData.take (n / 2))
  | _ => s1

/-- The registers and the state of every domain but the always-on one at reset, with what the cause keeps. Accesses that wait
in a crossing are discarded with it; a kept interface answers them as refused (R556). -/
def State.wipe (c : ResetCause) (s0 : State) : State :=
  let s := s0.tearProgram
  let r := State.reset
  let keep := c.keepsHost
  let out := if keep then s.host.stalled.map (fun _ => if s.flag R.HST.STAT.HOSTSEL then .spiFrame 0xE3 else Emission.hostRefused)
    else []
  { r with
    pending := s.pending, freeCtr := s.freeCtr, emitted := out ++ s.emitted,
    regs := s.regs.filter (fun e => alwaysOn e.1 || hostKept c e.1),
    nvc := { r.nvc with flash := s.nvc.flash, sector64 := s.nvc.sector64 },
    glv := { keys := s.glv.keys, calls := 0 },
    flt := { r.flt with seq := s.flt.seq, logged := s.flt.logged },
    host := if keep then { s.host with stalled := [], abandoned := [], handshakes := [] } else r.host,
    dram := s.dram, dramBad := s.dramBad }

/-- The always-on domain is cleared too: gloves, latch, life cycle, log (R445, R449, R489, R593). -/
def State.wipeAll (s : State) : State :=
  let t := s.wipe .powerOn
  { t with regs := [], glv := { keys := [], calls := 0 }, flt := Flt.reset }

/-- The majority of a strap's three samples (R608). -/
def strapMajority (a b c : BitVec 2) : BitVec 2 := (a &&& b) ||| (a &&& c) ||| (b &&& c)

/-- The straps that three samples give (R608). -/
def strapsOf (x : StrapSamples) : Straps :=
  let m (f : Straps → BitVec 2) : BitVec 2 := strapMajority (f x.first) (f x.second) (f x.third)
  let one (f : Straps → Bool) : Bool := m (fun p => if f p then 1 else 0) == 1
  { prof := m Straps.prof, boot := m Straps.boot, nvmsel := one Straps.nvmsel, hostsel := one Straps.hostsel }

/-- Samples of straps that do not move. -/
def steadyStraps (p : Straps) : StrapSamples := ⟨p, p, p⟩

/-- The straps as sampled at the end of a reset (R511, R533). -/
def State.sampleStraps (c : ResetCause) (p : Straps) (s : State) : State :=
  let s1 := ((s.set R.NVC.STAT.STRAP_PROF p.prof.toNat).set R.NVC.STAT.STRAP_BOOT p.boot.toNat).setB R.NVC.STAT.STRAP_NVMSEL
    p.nvmsel
  if c.keepsHost then s1 else s1.setB R.HST.STAT.HOSTSEL p.hostsel

/-- The reset of the chip (R510): EXPIRE_AT_RESET gloves are destroyed (R445), the cause is recorded, the straps sampled. -/
def State.chipReset (c : ResetCause) (p : Straps) (s : State) : State :=
  let s1 := if c = .powerOn then s.wipeAll else
    let t := s.wipe c
    ((List.range 64).foldl (fun st g => if st.flag (R.GLV.GLOVE.ATTR.LIFE g) then st.emptyGlove g else st) t).inc
      R.FLT.RESET_CNT.COUNT
  let s2 := s1.set R.NVC.RST_CAUSE.CAUSE (2 ^ c.bit)
  let s3 := s2.set R.GLB.INT_STAT.BLOCK (s2.get R.GLB.INT_STAT.BLOCK % 4)
  { s3.sampleStraps c p with power := .on }

/-- The straps as last sampled. -/
def State.lastStraps (s : State) : Straps :=
  { prof := BitVec.ofNat 2 (s.get R.NVC.STAT.STRAP_PROF), boot := BitVec.ofNat 2 (s.get R.NVC.STAT.STRAP_BOOT),
    nvmsel := s.flag R.NVC.STAT.STRAP_NVMSEL, hostsel := s.flag R.HST.STAT.HOSTSEL }

/-- A flash program or erase runs, which RELOAD waits for (R531). -/
def State.flashBusy (s : State) : Bool :=
  s.nvc.ring.erasing.isSome || s.nvc.write.any (fun w => w.flying.isSome) ||
  (match s.nvc.hostOp with | some (op, _, _) => op != 1 | none => false)

/-- A RELOAD that waits takes place once the flash is done. -/
def State.reloadWhenFree (s : State) : State :=
  if s.nvc.reload && !s.flashBusy then s.chipReset .reload s.lastStraps else s

/-- POWER_ON (R510): the always-on supply comes up. -/
def execPowerOn (p : StrapSamples) (s : State) : Out := .next (s.chipReset .powerOn (strapsOf p))

/-- RESET_PIN (R510): RESET_N rises. Without the always-on supply nothing leaves reset (R613). -/
def execResetPin (p : StrapSamples) (s : State) : Out :=
  if s.power = .lost then .next s else .next (s.chipReset .resetPin (strapsOf p))

/-- JTAG_RESET (R510). -/
def execJtagReset (p : StrapSamples) (s : State) : Out :=
  if s.power = .on then .next (s.chipReset .jtag (strapsOf p)) else .next s

/-- RELOAD (R510, R531): at once, or when the flash program or erase that runs has ended. -/
def execReload (p : StrapSamples) (s : State) : Out :=
  if s.power ≠ .on then .next s
  else if s.flashBusy then .next (s.modNvc fun n => { n with reload := true })
  else .next (s.chipReset .reload (strapsOf p))

/-- CHIP_RESET (R559): only with the confirmation in the same write. -/
def execChipReset (confirm : BitVec 16) (p : StrapSamples) (s : State) : Out :=
  if s.power = .on ∧ confirm.toNat = 0x4852 then .next (s.chipReset .host (strapsOf p)) else .next s

/-- RESET_N_ASSERTED (R612): every domain but the always-on one is held in reset until RESET_N rises. -/
def execResetNAsserted (s : State) : Out :=
  if s.power = .lost then .next s else .next { s.wipe .resetPin with power := .held }

/-- BROWNOUT (R612): the chip is held in reset as by RESET_N, and a PMC_SUPPLY entry of the rail marks it in the always-on
log. -/
def execBrownout (rail : BitVec 8) (s : State) : Out :=
  if s.power ≠ .on then .next s
  else
    let r := s.faultRec F.pmcSupply rail.toNat 0 0
    .next { (s.bump.logRecord r).wipe .resetPin with power := .held }

/-- AON_LOSS (R613): every domain is held in reset until the supply returns. -/
def execAonLoss (s : State) : Out := .next { s.wipeAll with power := .lost }

/-! ### Stage 1: the header and the directory (R514, R516, R517, R520) -/

/-- RECOVERY entered with its cause (R513). -/
def State.recovery (cause : Nat) (s : State) : State :=
  ((s.set R.NVC.STAT.SVC_STATE 3).set R.NVC.STAT.RECOVERY_CAUSE cause).showCor

/-- An image header at a flash address (R516): its magic; its format and kind, entry count, length and CRC. -/
def headerOk (h : List Byte) (kind : Nat) : Bool :=
  (le h 4 1 == 1 || le h 4 1 == 2) && le h 5 1 == kind && le h 252 4 == crc32c (slice h 0 252) &&
  decide (1 ≤ le h 38 2) && decide (le h 38 2 ≤ 32) && decide (le h 20 4 ≤ 0x2000000)

/-- The magic of an image header. -/
def headerMagic (h : List Byte) : Bool := be h 0 4 == 0x4B4E444C

/-- The directory of an image at `base` (R517): the entries listed by type, and whether one was ignored. -/
def State.directory (s : State) (base : Nat) (h : List Byte) : Map (Nat × Nat × Nat) × Bool :=
  (List.range (le h 38 2)).foldl (fun (acc : Map (Nat × Nat × Nat) × Bool) i =>
    let e := s.flashRead (base + 0x100 + 16 * i) 16
    let t := le e 0 1
    let off := le e 4 4
    let len := le e 8 4
    if le h 20 4 < off + len ∨ (Map.get? acc.1 t).isSome = true then (acc.1, true)
    else (Map.put acc.1 t (base + off, len, le e 12 4), acc.2)) ([], false)

/-- Sections of a supplement for every type that the primary image does not supply (R520). -/
def State.withSupplement (primary : Map (Nat × Nat × Nat)) (s : State) : Map (Nat × Nat × Nat) × Bool × Bool :=
  let own := primary.filter (fun e => e.1 == 5 || e.1 == 6 || e.1 == 10)
  let h := s.flashRead 0x1000000 256
  if headerMagic h && headerOk h 1 && le h 4 1 == 2 then
    let (d, bad) := s.directory 0x1000000 h
    (d.foldl (fun m e => if (Map.get? m e.1).isSome then m else Map.put m e.1 e.2) own, true, bad)
  else (own, false, false)

/-- The life-cycle state of the header, or ASSEMBLY without a valid one (R449, R450); the generator has been seeded since the
reset (R438). -/
def State.takeLifeCycle (st mask : Nat) (s : State) : State :=
  let s1 := (s.set R.GLV.LC.LC_MASK mask).reseed
  if st = s.get R.GLV.LC.STATE then s1 else s1.lcChange st

/-- What a valid header gives (R516, R526, R532). -/
def State.takeHeader (h : List Byte) (s : State) : State :=
  let v2 := le h 4 1 == 2
  let lc := if le h 6 1 % 4 = 3 then 0 else le h 6 1 % 4
  let s1 := s.takeLifeCycle lc (bitsOf (le h 6 1) 4 3)
  let s2 := ((((s1.set R.RED.HAT.HAT_NUM (le h 7 1)).set R.PRO.CLKID_HI.ID (be h 8 4)).set R.PRO.CLKID_LO.ID (be h 12 4)).set
    R.EBD.TLV_ORG.ORG_ID (le h 16 3)).set R.NVC.IMG_REV.REV (le h 24 4)
  let int_ := if v2 && decide (4 ≤ le h 36 1) then le h 36 1 else 16
  let s3 := if v2 then (s2.set R.NVC.EMBER_BASE.ADDR (le h 28 4)).set R.NVC.EMBER_SIZE.BYTES (le h 32 4) else s2
  let s4 := (s3.set R.NVC.CFG.EMBER_INT int_).setB R.NVC.STAT.LEGACY !v2
  s4.modNvc fun n =>
    { n with hat := le h 7 1, nvmDiv := le h 19 1, emberInt := int_,
             leap := if v2 then some (leI h 40 2, leI h 42 2, le h 44 6) else none }

/-- The ring may be used: 4 to 256 whole sectors outside the image region (R526). -/
def State.ringOk (s : State) : Bool :=
  let b := s.get R.NVC.EMBER_BASE.ADDR
  decide (4 ≤ s.ringCount) && decide (s.ringCount ≤ 256) && decide (0x2000000 ≤ b) && b % s.sectorSize == 0

/-- The sections of an image whose header is valid, a supplement's where the format is 0x01 (R517, R520), and whether the
ring may be used (R526). -/
def State.takeDirectory (h : List Byte) (s1 : State) : State :=
  let (d0, bad0) := s1.directory 0 h
  let (d, sup, bad1) := if le h 4 1 = 1 then s1.withSupplement d0 else (d0, false, false)
  let s2 := (s1.modNvc fun n => { n with sections := d, stage := 1 }).setB R.NVC.STAT.SUPPLEMENT sup
  let s3 := if bad0 || bad1 then s2.evt R.NVC.EVT.SECTION_BAD else s2
  if s3.ringOk then s3.modRing fun r => { r with on := true } else s3.file (F.nvcSectionBad .degrade) 0 0

/-- HEADER_READ (R512, R514): stage 1. `sector64` is what the flash's SFDP table declares. -/
def execHeaderRead (sector64 : Bool) (s0 : State) : Out :=
  if s0.nvc.stage ≠ 0 ∨ s0.svc ≠ 0 ∨ s0.power ≠ .on then .next s0
  else
    let s := s0.modNvc fun n => { n with sector64 := sector64 }
    let h := s.flashRead 0 256
    let strapped := s.get R.NVC.STAT.STRAP_BOOT % 2 == 1
    let fail (cause : Nat) : Out := .next ((s.takeLifeCycle 0 (s.get R.GLV.LC.LC_MASK)).recovery (if strapped then 1 else cause))
    if !headerMagic h then fail 2
    else if !headerOk h 0 then fail 3
    else
      let s4 := (s.takeHeader h).takeDirectory h
      .next (if strapped then s4.recovery 1 else s4)

/-! ### Stages 2 and 3 (R514, R518, R519, R521) -/

/-- A section read and checked (R517): its bytes if it is listed and its CRC holds. SEC_STAT follows; a failed CRC sets
SECTION_BAD. -/
def State.readSection (t : Nat) (s : State) : Option (List Byte) × State :=
  match Map.get? s.nvc.sections t with
  | none => (none, s)
  | some (a, n, crc) =>
    let bs := s.flashRead a n
    if crc32c bs = crc then (some bs, s.set R.NVC.SEC_STAT.VALID (putBit (s.get R.NVC.SEC_STAT.VALID) (t - 1) true))
    else (none, (s.set R.NVC.SEC_STAT.VALID (putBit (s.get R.NVC.SEC_STAT.VALID) (t - 1) false)).evt R.NVC.EVT.SECTION_BAD)

/-- The first valid profile of a list of numbers. -/
def State.firstProfile : List Nat → State → Option (Nat × List Byte) × State
  | [], s => (none, s)
  | k :: ks, s =>
    match s.readSection (k + 1) with
    | (some bs, s1) => (some (k, bs), s1)
    | (none, s1) => s1.firstProfile ks

/-- The band table as BANDS lays it out. -/
def State.loadBands (bs : List Byte) (s : State) : State :=
  s.loadFields ((List.range 64).flatMap (fun b => recordFields ((R.SYN.BAND.LO b).addr, le bs (4 * b) 4)))

/-- Stage 3: the profile applied, the kind of the oscillator class in force shown (R147), the latch judged on it (R489),
    the identity read begun (R149). -/
def State.stageThree (k : Nat) (bs : List Byte) (s : State) : State :=
  let recs := profileRecords bs (bs.length / 8)
  let s0 := (s.set R.NVC.STAT.PROFILE k).applyProfile recs
  let s1 := s0.set R.OSC.STAT.KIND s0.oscClass.kind
  let s2 := if s1.flag R.RED.CFG.RESET_CLEARS then s1.set R.RED.STAT.RENOUNCED 0 else s1
  ((s2.modNvc fun n => { n with stage := 3 }).set R.NVC.STAT.WAIT_HOSC 1).oscIdStart

/-- EARLY_SECTIONS_READ (R514): BANDS, REFERENCE, the strapped profile, and its application. `ref` is what REFERENCE holds. -/
def execEarlySectionsRead (ref : ReferenceSection) (s : State) : Out :=
  if s.nvc.stage ≠ 1 ∨ s.svc ≠ 0 ∨ s.power ≠ .on then .next s
  else
    match s.readSection 5 with
    | (none, s1) => .next (s1.recovery 4)
    | (some bands, s1) =>
      if bands.length ≠ 256 then .next (s1.recovery 4)
      else
        let s2 := s1.loadBands bands
        let s3 := match s2.readSection 6 with
          | (some _, t) =>
            { (t.modOsc fun o => { o with classes := ((List.range 8).zip ref.classes) }) with
              lts := { t.lts with pma := ref.pma.foldl (fun (m : Map (Nat × Nat)) (e : Fin 16 × BitVec 16 × BitVec 16) =>
                Map.put m e.1.val (e.2.1.toNat, e.2.2.toNat)) [] } }
          | (none, t) => t.file (F.nvcSectionBad .degrade) 6 0
        let want := s3.get R.NVC.STAT.STRAP_PROF
        match s3.readSection (want + 1) with
        | (some bs, s4) => .next (s4.stageThree want bs)
        | (none, s4) =>
          match s4.firstProfile [0, 1, 2, 3] with
          | (some (k, bs), s5) => .next ((s5.file F.nvcProfileFallback want 0).stageThree k bs)
          | (none, s5) => .next (s5.recovery 5)

/-! ### Stage 4 (R244, R248, R289, R369, R518) -/

/-- LATE_SECTIONS_READ (R514): HANDLERS, GNSS, GLOVES and CLIENTS. `c` is what they hold. -/
def execLateSectionsRead (c : LateSections) (s : State) : Out :=
  if s.nvc.stage ≠ 3 ∨ s.svc ≠ 0 ∨ s.power ≠ .on then .next s
  else
    let s1 := match s.readSection 7 with
      | (some _, t) => if c.handlers.toNat / 2 ^ 24 = 2 then
          (t.set R.RSE.STAT.HSET_OK 1).set R.RSE.HSET_VER.VERSION c.handlers.toNat else t.file F.rseHsetBad 0 0
      | (none, t) => t.file F.rseHsetBad 0 0
    let s2 := match s1.readSection 8 with
      | (some _, t) =>
        (((t.set R.GNS.FW_VER.VERSION c.gnss.version.toNat).setB R.GNA.STAT.E1_CODES (!c.gnss.e1Codes.isEmpty)).modGns fun g =>
          { g with loaded := true }).modGna fun g =>
            { g with scripts := (List.range 4).zip c.gnss.scripts, e1Codes := c.gnss.e1Codes, e5aCodes := c.gnss.e5aCodes }
      | (none, t) => t.file (F.nvcSectionBad .degrade) 8 0
    let s3 := match s2.readSection 9 with
      | (some _, t) => t.modNvc fun n => { n with gloves := c.gloves.take 64 }
      | (none, t) => t.file (F.nvcSectionBad .note) 9 0
    let s4 := match s3.readSection 10 with
      | (some _, t) => t
      | (none, t) => t.file (F.nvcSectionBad .note) 10 0
    let s5 := s4.modNvc fun n => { n with stage := 4 }
    .next ((List.range 4).foldl (fun st n =>
      if st.feState n ≠ 0 ∧ (st.gnaFe n).ran = false ∧ (st.gnaFe n).script.isNone = true then st.scriptStart n
      else st) s5).coreTryStart

/-! ### Stage 5: the ember scan (R529) -/

/-- The valid records of a sector, in slot order. -/
def State.sectorRecords (s : State) (k : Nat) : List (List Byte) :=
  ((List.range s.ringSlots).map (fun j => s.flashRead (s.sectorAt k + 256 * (j + 1)) 256)).filter emberOk

/-- Slots of a sector up to the last that is not erased. -/
def State.scannedSlots (s : State) (k : Nat) : Nat :=
  (List.range s.ringSlots).foldl (fun m j =>
    if s.flashRead (s.sectorAt k + 256 * (j + 1)) 256 = List.replicate 256 flashBlank then m else j + 1) 0

/-- The record of highest sequence. -/
def newestRecord (es : List (List Byte)) : Option (List Byte) :=
  es.foldl (fun (best : Option (List Byte)) e =>
    match best with
    | none => some e
    | some b => if emSeq b < emSeq e then some e else some b) none

/-- Sectors with a valid header, highest sector sequence first: insertion by sequence. -/
def insertSector (x : Nat × Nat) : List (Nat × Nat) → List (Nat × Nat)
  | [] => [x]
  | y :: ys => if y.2 < x.2 then x :: y :: ys else y :: insertSector x ys

/-- The sectors of the ring as the scan finds them: index and sequence of the valid ones, newest first. -/
def State.validSectors (s : State) : List (Nat × Nat) :=
  (List.range s.ringCount).foldl (fun l k =>
    let h := s.flashRead (s.sectorAt k) 256
    if sectorHeaderOk h then insertSector (k, le h 12 4) l else l) []

/-- The ring's state after the scan: counts, retired map, current and previous sector, an erased one (R526, R528, R529). -/
def State.scanRing (s : State) : State :=
  let v := s.validSectors
  let count (k : Nat) : Nat := le (s.flashRead (s.sectorAt k) 256) 8 4
  let most := (v.map (fun e => count e.1)).foldl max 0
  let valid (k : Nat) : Bool := v.any (fun e => e.1 == k)
  let counts : Map Nat := (List.range s.ringCount).map (fun k => (k, if valid k then count k else most))
  let cur := v.head?.map Prod.fst
  let retired := match cur with | some k => le (s.flashRead (s.sectorAt k) 256) 16 32 | none => 0
  let next := (List.range s.ringCount).find? (fun k => !valid k && !bitOf retired k)
  (s.modRing fun r =>
    { r with cur := cur, secSeq := (v.head?.map Prod.snd).getD 0, slot := (cur.map (fun k => s.scannedSlots k)).getD 0,
             prev := (v.tail.head?).map Prod.fst, next := next, counts := counts, retired := retired, opened := cur.isSome }).showRing

/-- The newest page of each index in up to three sectors (R529). -/
def State.scanPages (s : State) : List (List Byte) :=
  let es := ((s.validSectors.take 3).map Prod.fst).flatMap (fun k => s.sectorRecords k)
  (List.range 21).filterMap (fun p => newestRecord (es.filter (fun e => emPage e == p)))

/-- What a valid ember restores besides (R529): the identity that the one read is compared with, and, where they are equal,
hours, command and model. -/
def State.restore (e : List Byte) (pages : List (List Byte)) (s : State) : State :=
  let s1 := if s.osc.idRead then s.judgeIdentity (some (emOscId e)) (s.get R.OSC.ID.ID)
    else s.modOsc fun o => { o with prevId := some (emOscId e) }
  let s2 := if emOscId e = s1.get R.OSC.ID.ID ∧ emOscId e ≠ 0 then
      ((s1.set R.OSC.RUN_HOURS.HOURS (emHours e)).setI R.OSC.CMD_NOW.C (emCmd e)).loadSummaries pages
    else s1
  let leap := if emLeapSrc e = 0 then s2.nvc.leap else some (emLeap e)
  (s2.modNvc fun n => { n with restored := some e, seq := emSeq e + 1, page := (emPage e + 1) % 21, leap := leap }).set
    R.NVC.STAT.EMBER_RESTORED 1

/-- EMBER_SCAN (R529): stage 5. -/
def execEmberScan (s : State) : Out :=
  if s.nvc.stage ≠ 4 ∨ s.svc ≠ 0 ∨ s.power ≠ .on then .next s
  else
    let s0 := s.modNvc fun n => { n with stage := 5 }
    let none_ (t : State) : State := if t.osc.idRead then t.judgeIdentity none (t.get R.OSC.ID.ID) else t
    if !s0.nvc.ring.on then .next (none_ s0)
    else
      let s1 := s0.scanRing
      match newestRecord (((s1.validSectors.take 2).map Prod.fst).flatMap (fun k => s1.sectorRecords k)) with
      | none => .next (none_ s1)
      | some e => .next (s1.restore e s1.scanPages)

/-! ### Stages 6 and 7 (R446, R487, R496, R513, R514) -/

/-- A glove of the image (R446): skipped where its slot is LOADED or R442 forbids it. -/
def State.imageGlove (g : ImageGlove) (s : State) : State :=
  let k := g.slot.val
  let life := ofBool g.life
  if s.loadResult k g.cls.toNat life g.id.toNat g.count.toNat true = 1 then
    s.loadGlove k g.cls.toNat life g.id.toNat g.count.toNat g.key.toNat 1
  else s.inc R.GLV.KEY_SKIPPED.COUNT

/-- The entries of CLIENTS in order: 96 bytes of format 0x01, 128 of any other. -/
def clientEntries : Nat → List Byte → List (List Byte)
  | 0, _ => []
  | _, [] => []
  | fuel + 1, bs => let n := if le bs 0 1 = 1 then 96 else 128; slice bs 0 n :: clientEntries fuel (bs.drop n)

/-- An entry inserted as by the mailbox (R399, R514); one that does not end DONE is counted. -/
def State.imageClient (d : List Byte) (s : State) : State :=
  let skip (t : State) : State := t.inc R.NVC.CLIENT_SKIP_CNT.COUNT
  if (eVersion d ≠ 1 ∧ eVersion d ≠ 2) ∨ ¬(1 ≤ eState d ∧ eState d ≤ 3) ∨ (s.mbxFind d).isSome = true ∨
      (s.poisonedFor (mbxKey d)).isSome = true then skip s
  else
    match (s.bucketSlots (mbxKey d)).find? (fun n => eState (s.entry n) == 0) with
    | none => skip s
    | some n => s.putEntry n (mbxInsertEntry d)

/-- The client entries of the image, once DRAM is ready; none can be inserted where it failed. -/
def State.loadClients (s : State) : State :=
  match Map.get? s.nvc.sections 10 with
  | none => s
  | some (a, n, _) =>
    if bitOf (s.get R.NVC.SEC_STAT.VALID) 9 then
      let es := clientEntries n (s.flashRead a n)
      if s.flag R.MEM.STAT.READY then es.foldl (fun st d => st.imageClient d) s
      else s.incBy R.NVC.CLIENT_SKIP_CNT.COUNT es.length
    else s

/-- An engine that fails its known-answer test is out of service (R436). -/
def State.engineTests (aes : BitVec 8) (sha : BitVec 4) (s : State) : State :=
  let s1 := (s.set R.GLV.STAT.AES_OK (0xFF - aes.toNat)).set R.GLV.STAT.SHA_OK (0xF - sha.toNat)
  let bad := (List.range 8).filter (fun i => bitOf aes.toNat i) ++ ((List.range 4).filter (fun i => bitOf sha.toNat i)).map (· + 8)
  bad.foldl (fun st i => (st.evt R.GLV.EVT.ENG_FAIL).file F.glvEngineFail i 0) s1

/-- The role at the end of start-up (R487, R496): a SOLO chip, or one in TEST, holds the hat; otherwise the latch or a hat
number of 0 renounces, and a nonzero one arbitrates. -/
def State.firstRole (s : State) : State :=
  if s.flag R.RED.CFG.SOLO || s.svc == 2 then
    (((s.set R.RED.STAT.HOLDING 1).evt R.RED.EVT.HAT_GAINED).set R.RED.STAT.ROLE 1).modRed fun r =>
      { r with solo := s.flag R.RED.CFG.SOLO, winDue := some false, startDue := true }
  else if s.flag R.RED.STAT.RENOUNCED || s.get R.RED.HAT.HAT_NUM == 0 then s.set R.RED.STAT.ROLE 3
  else s.modRed fun r => { r with arbitrating := true }

/-- STARTUP_COMPLETE (R514): once SYN0 is LOCKED and DRAM has been trained or has failed. `aes` and `sha` name the engines of
the glovebox that failed their tests. -/
def execStartupComplete (aes : BitVec 8) (sha : BitVec 4) (s : State) : Out :=
  if s.nvc.stage ≠ 5 ∨ s.svc ≠ 0 ∨ s.synState 0 ≠ 3 ∨
      (s.flag R.MEM.STAT.READY = false ∧ s.flag R.MEM.STAT.TRAIN_FAIL = false) ∨ s.power ≠ .on then .next s
  else
    let s1 := s.nvc.gloves.foldl (fun st g => st.imageGlove g) (s.engineTests aes sha)
    let s2 := (s1.modNvc fun n => { n with gloves := [], stage := 7 }).loadClients.showMint
    let s3 := (s2.set R.NVC.STAT.WAIT_HOSC 0).set R.NVC.STAT.SVC_STATE (if s2.get R.NVC.STAT.STRAP_BOOT = 2 then 2 else 1)
    .next ((s3.showCor.firstRole).showPtp.judgeHealth)

/-! ### Profile switch and flash completions -/

/-- PROFILE_SET (R522, R531): the section named is read and staged; ignored while a switch is pending. -/
def execProfileSet (s : State) : Out :=
  if s.flag R.NVC.STAT.PROF_PEND then .next (s.evt R.NVC.EVT.CFG_REJECTED)
  else
    let k := s.get R.NVC.PROF_REQ.PROFILE
    match s.readSection (k + 1) with
    | (none, s1) => .next (s1.evt R.NVC.EVT.PROFILE_FAIL)
    | (some bs, s1) => .next ((s1.set R.NVC.STAT.PROF_PEND 1).stageProfile k (profileRecords bs (bs.length / 8)))

/-- EMBER_PROGRAM_DONE (R527, R599): the program and verify of a record end; `told` says, while the Hearth is held in reset,
that the retry budget has run out. -/
def execEmberProgramDone (ok told : Bool) (s : State) : Out :=
  match s.nvc.write.findIdx? (fun w => w.flying.isSome) with
  | none => .next s
  | some i =>
    match s.nvc.write[i]? with
    | none => .next s
    | some w =>
      let a := w.flying.getD 0
      let s1 := (s.flashProgram a (if ok then w.bytes else w.bytes.take 128)).modRing fun r => { r with slot := r.slot + 1 }
      let s2 := if w.judged then s1.modNvc fun n => { n with write := n.write.eraseIdx i }
        else if ok then s1.emberWritten i w
        else s1.emberFailed i w told
      .next s2.emberKick.reloadWhenFree

/-- SECTOR_ERASE_DONE (R528): the erased sector is ready, unless the erase failed or its count has reached the limit. -/
def execSectorEraseDone (ok : Bool) (s : State) : Out :=
  match s.nvc.ring.erasing with
  | none => .next s
  | some k =>
    let s1 := s.modRing fun r => { r with erasing := none, counts := Map.put r.counts k (Map.getD r.counts k 0 + 1) }
    let s2 := if ok then s1.flashErase (s1.sectorAt k) s1.sectorSize else s1
    let s3 := if !ok || decide (s.get R.NVC.ERASE_LIMIT.LIMIT ≤ s2.sectorCount k) then s2.retireSector k
      else (s2.modRing fun r => { r with next := some k }).showRing
    .next s3.emberKick.reloadWhenFree

/-- FL_DONE (R530): the host's operation ends, DONE with its effect or FAILED; an ember that waited goes on. -/
def execFlDone (ok : Bool) (s : State) : Out :=
  match s.nvc.hostOp with
  | none => .next s
  | some (op, a, n) =>
    let s1 := s.modNvc fun v => { v with hostOp := none }
    let s2 := if ok then (s1.flEffect op a n).flEnd 1 else s1.flEnd 3
    .next s2.emberKick.reloadWhenFree

end Sys2Proof.Machine
end

