-- ==== Sys2Proof/Machine/Boundary.lean ====
section
/-! DEFINITION. Ticks, second boundaries, loop updates and the announcement of their changes (R17 to R40 and, block by block,
what each chapter has happen at them). -/

namespace Sys2Proof.Machine

/-! ### The tick -/

/-- HEARTH_TICK (R17 to R20, R47, R48, R52). A normal start that waits makes its tick the Hearth's first (R34, R515). Without
a running CK_HRT no tick occurs. -/
def execHearthTick (upset : Option LaneUpset) (s : State) : Out :=
  if s.red.startDue && s.hrtRuns then .next s.hearthStart
  else if !s.ticking then .next s
  else .next (s.oneTick upset)

/-- What waited for the work of this tick's boundaries comes about: a STEP_ARM (R39), a snapshot (R61), and once the second too is
over the periodic record with its tie (R56, R228). -/
def State.settleTick (s : State) : State :=
  if s.hearth.updateDue then s
  else
    let s1 := if s.hearth.armDue then (s.modHearth fun h => { h with armDue := false }).arm else s
    let s2 := if s1.hearth.snapDue then (s1.modHearth fun h => { h with snapDue := false }).snapTake else s1
    if s2.hearth.secondDue then s2
    else
      match s2.hearth.recordDue with
      | some tie => (s2.modHearth fun h => { h with recordDue := none }).takeRecord tie
      | none => s2

/-- After the work of a boundary: what its announcement did not foresee reaches the replicas with the tick (R57), and what waited
comes about. -/
def State.afterWork (s : State) : State := (s.amendRecord s.record).settleTick

/-! ### The second (R19, R37, R543 to R545) -/

/-- Ungrouped writes that their block takes itself, to judge them together: SMP.CFG and the time-of-day lines (R207, R482). -/
def blockTakes (f : Field) : Bool :=
  f.addr == R.SMP.CFG.LEAD0.addr || f.addr == (R.OUT.TOD.CFG.EN 0).addr || f.addr == (R.OUT.TOD.CFG.EN 1).addr

/-- Writes outside any group are put into force (R543), and what hangs on them follows. -/
def State.writesSecond (s : State) : State :=
  ((s.applyWaiting .second (fun f => !blockTakes f)).ringMoved fltRing s).showAlarm

/-- The checks of S9 to S15 with what the second has put into force: a limit that a commit moves, a slot that it enables (R113,
R114). -/
def State.upstreamChecks (s : State) : State :=
  [0, 1, 2].foldl (fun st p => st.qlJudge p) ([0, 1, 2, 3].foldl (fun st p => st.prefJudge p) s)

/-- The Hearth, the error bound, the slots, selection and the oscillator at the second. -/
def State.timeSecond (s : State) : State :=
  let leap := s.leapTakePost.leapHost.leapApply
  let eb := (leap.bankTakeCommit.bankTakeRelease.takeGroup .ebdCct R.EBD.CTL.CC_COMMIT R.EBD.EVT.CFG_REJECTED
    (fun _ _ => true) (fun _ new => new))
  eb.refSecond.upstreamChecks.selSecond.oscSecond.ebdSecond

/-- Every other block at the second; IRIG-B frames begin only at an on-time instant (R203). -/
def State.blocksSecond (onTime : Bool) (s : State) : State :=
  let s1 := (s.synSecond.outSecond.todTake 0).todTake 1
  let s2 := if onTime then s1.irigSecond else s1
  let s3 := s2.tdcSecond.gnsSecond.coreTryStart.glvSecond.ethSecond.ltsSecond.rseSecond.proSecond
  s3.smpSecond.redSecond.memTake.emberSecond

/-- The work of a second boundary: lanes, a profile switch, writes that wait, then block by block. -/
def State.secondWork (s : State) : State :=
  let onTime := s.hearth.stepTick != some s.hearth.tick
  let s1 := (s.modHearth fun h => { h with secondDue := false }).voteSecond
  (((State.pmcSecond s1 s1.switchSecond.writesSecond).timeSecond).blocksSecond onTime).afterWork

/-- SECOND_BOUNDARY: the boundary of the present tick if its work is due; otherwise the ticks up to the next one pass first.
Without a running Hearth none occurs. -/
def execSecondBoundary (s0 : State) : Out :=
  let s := s0.hearthWake
  if !s.ticking then .next s
  else if s.hearth.secondDue then .next s.secondWork
  else .next (s.passTicks (s.ticksToSecond)).secondWork

/-! ### The loop update (R22 to R32) -/

/-- Configuration of the loop update; a change of OWNER (R28, R29): the damper that opens keeps S until software commits
another, the one that closes starts the phase term from zero. -/
def State.loopConfig (s : State) : State :=
  let s1 := s.applyWaiting .loopUpdate (fun _ => true)
  let s2 := s1.setB R.TSC.STAT.OWNER_APPLIED s1.damperOpen
  if s.damperOpen == s2.damperOpen then s2
  else if s2.damperOpen then s2.modHearth fun h => { h with swSteer := s.voted.s }
  else
    let z : Rat := 0
    let tm := match Map.get? s.sel.lastRep (s.get R.SEL.STAT.SLOT) with | some r => r.tm | none => secR s.now
    (s2.modSel fun m => { m with q := z, e := z, clamped := false, qHist := [], tObs := tm }).modHearth fun h =>
      { h with lastUpdate := s.now }

/-- The flags of GNS act on S8 in the loop update after they rise (R112). -/
def State.sourceChecks (s : State) : State :=
  if s.slotState 8 = 0 then s.sourceCheck 8 (s.grefCauses (s.flag R.GNS.STAT.SPOOF) (s.flag R.GNS.STAT.JAM))
  else s.grefFlags (s.flag R.GNS.STAT.SPOOF) (s.flag R.GNS.STAT.JAM)

/-- What SYN0's coast brings at an update (R188): at the first at least 128 ticks after it EB is to saturate, to stay unknown until
SEL next reports a LOCKED slot, and grants are given again; a saturation ends once SYN0 is LOCKED. -/
def State.coastUpdate (s : State) : State :=
  let s1 := if s.ebd.saturating && s.synState 0 == 3 then s.modEbd fun e => { e with saturating := false } else s
  if s1.lts.coastHold && decide (128 ≤ (s1.hearth.tick - s1.syn.coastTick).toNat) then
    { s1 with lts := { s1.lts with coastHold := false } }.modEbd fun e => { e with saturating := true, unknownHold := true }
  else s1

/-- The report on which the Hearth steps at this update (R35, R124): that of a selected, qualified TIME slot, and at the
entry to LOCKED the latest it gave. `before` is SEL's state before the update. -/
def State.stepReport (reps : List Report) (before : Nat) (s : State) : Option Report :=
  let n := s.get R.SEL.STAT.SLOT
  if s.selState ≠ 1 ∨ s.syn.coasting = true ∨ s.slotKind n ≠ 2 ∨ s.slotSeen n = false ∨
      ¬(s.get R.TSC.STAT.STATE = 0 ∨ s.get R.TSC.STAT.STATE = 1) then none
  else
    match reps.find? (fun r => r.slot == n) with
    | some r => some r
    | none => if before = 1 then none else Map.get? s.sel.lastRep n

/-- Instants of the ports, the clients and what waits move with a step (R36, R38); launch grids count anew. -/
def State.instantsStep (d : Int) (s : State) : State :=
  let port (e : EthPort) : EthPort := { e with pauseEnd := e.pauseEnd.map (· + d), lineEnd := e.lineEnd + (d : Rat) }
  let pref (f : Pref) : Pref :=
    { f with masters := f.masters.map (fun m => { m with heard := m.heard.map (· + d) }),
             wait := f.wait.map (fun w => { w with t2 := w.t2 + d }),
             exch := f.exch.map (fun e => { e with t3 := e.t3.map (· + d), resp := e.resp.map (fun (a, b, c, k) => (a + d, b, c, k)) }),
             grants := f.grants.map (fun (m, t, n, l) => (m, t + d, n, l)),
             ext := f.ext.map (fun (e, g, t) => (e, g, t + d)) }
  { s with
    eth := { s.eth with ports := s.eth.ports.map (fun (p, e) => (p, port e)) },
    pro := { s.pro with prefs := s.pro.prefs.map (fun (p, f) => (p, pref f)), due := [],
                        grants := s.pro.grants.map (fun g => { g with next := min g.next 1 }) },
    commits := s.commits.map (fun c => { c with at_ := c.at_ + d }),
    nvc := { s.nvc with staged := s.nvc.staged.map (fun p => { p with from_ := p.from_ + d }),
                        write := s.nvc.write.map (fun w => { w with at_ := w.at_ + d }) },
    osc := { s.osc with comp := s.osc.comp.map (fun (t, f) => (t + d, f)) },
    hearth := { s.hearth with phi := s.hearth.phi.map (fun (t, p) => (t + d, p)),
                              phiOsc := s.hearth.phiOsc.map (fun (t, p) => (t + d, p)),
                              lastUpdate := s.hearth.lastUpdate + d } }

/-- The step of D (R35 to R40), and every block's answer to it (R38, R69, R110, R140, R196 to R198, R206, R210, R213). -/
def State.stepBy (d : Int) (r : Report) (s : State) : State :=
  let before := s.now
  let first := s.get R.TSC.STAT.STATE == 0
  let s1 := (s.hearthStep d).instantsStep d
  let s2 := ((s1.ebStepAnchor r d).refStep d).selStepped d r.tm first
  let s3 := ((s2.outStep d first).irigStep.todStep before).tevStep before
  let s4 := (((s3.tieStep d).gnsStep d).mapStep d).smpStep d
  (s4.pmcStep d).redStep

/-- The loop's wish as a plan: a compensation of a transfer takes the limit of R31 first, the loop's own change the rest
(R156). -/
def State.planLoop (q : LoopRequest) (s : State) : RatePlan :=
  let cur := s.voted.i
  if s.get R.TSC.STAT.STATE = 0 then s.planRate (q.integ - q.comp) (fun _ => q.prop)
  else
    let step := s.integStep
    let c := max (-step) (min step (-q.comp))
    let rest := step - c.natAbs
    let own := max (-rest) (min rest (q.integ - cur))
    let p := s.planRate (cur + c + own) (fun _ => q.prop)
    { p with integClamped := p.integClamped || cur + c + own != q.integ - q.comp }

/-- INTEG, P and S of this update: software's with the damper open, else the hardware loop's (R26, R27), which are left out
where they came too late (R598). While SYN0 coasts P is 0 and INTEG stays (R188). -/
def State.rateUpdate (q : LoopRequest) (s : State) : State :=
  if s.damperOpen then
    let (s1, p) := s.takeSoft
    (s1.applyRate p).selNotional
  else
    let s1 := s.refuseSoft
    if s1.hearth.loopLate then s1.modHearth fun h => { h with loopLate := false }
    else if s1.syn.coasting then s1.applyRate (s1.planRate s1.voted.i (fun _ => 0))
    else
      let (c, s2) := s1.takeComp
      s2.applyRate (s2.planLoop { q with comp := c })

/-- The phase that S has moved the timescale by, kept at each update (R107). -/
def State.keepPhi (s : State) : State :=
  let p := phiLog s.voted.s s.hearth.phi s.now
  s.modHearth fun h => { h with phi := ((s.now, p) :: h.phi).take 256, lastUpdate := s.now }

/-- EB at the update once selection has chosen (R66 to R69, R73, R76, R77, R187, R188): the mode, then a candidate, which a
FREQ slot never forms (R94). -/
def State.ebUpdate (reps : List Report) (stepped : Bool) (s : State) : State :=
  let s1 := s.ebModeUpdate.ebIdentity
  if stepped || s1.ebMode != 1 || s1.syn.coasting || s1.slotKind (s1.get R.SEL.STAT.SLOT) == 0 then s1
  else
    match reps.find? (fun r => r.slot == s1.get R.SEL.STAT.SLOT) with
    | some r => s1.ebCandidate r
    | none => s1

/-- The work of a loop update. -/
def State.loopWork (s : State) : State :=
  let s0 := ((s.modHearth fun h => { h with updateDue := false, announced := false }).count 0x580 1).ebAccrue
  let s1 := ({ s0 with lts := { s0.lts with stepHold := false } }.loopConfig).sourceChecks.coastUpdate
  let (reps, s2) := s1.slotReports
  let before := s2.selState
  let s3 := if s2.syn.coasting then s2 else s2.selUpdate reps
  let rep := s3.stepReport reps before
  let used := if rep.isSome then [] else reps
  let (q, s4) := if s3.damperOpen || s3.syn.coasting then (⟨s3.voted.i, 0, 0⟩, s3.keepAbsD used)
    else (s3.keepAbsD used).loopRequest used before
  let s5 := s4.keepPhi
  let s6 := match rep with
    | some r => s5.bump.stepBy (s5.roundFree (r.d * 65536)) r
    | none => s5
  let s7 := s6.ebUpdate reps rep.isSome
  let s8 := s7.rateUpdate (if rep.isSome then { q with prop := 0 } else q)
  let s9 := if s8.voted.s = s7.voted.s then s8 else s8.synTrack
  ((s9.ebSegment.selRecord).showPtp.showQl).afterWork

/-- LOOP_UPDATE: the update of the present tick if its work is due; otherwise the ticks up to the next one pass first. -/
def execLoopUpdate (s0 : State) : Out :=
  let s := s0.hearthWake
  if !s.ticking then .next s
  else if s.hearth.updateDue then .next s.loopWork
  else .next (s.passTicks (s.ticksToUpdate)).loopWork

/-! ### The announcement (R23, R56, R355, R359, R360) -/

/-- The coming update as it will be: nothing that could change it is open any more (R24, R118). DESIGN CHOICE: where its tick is a
second boundary too, the work of the second is foreseen as done before it (log entry 14). -/
def State.coming (s : State) : State :=
  let t := s.passTicks (s.ticksToUpdate)
  (if t.hearth.secondDue then t.secondWork else t).loopWork

/-- Reservations after a rate change at instant `t`: each moves by the change of S over the time from the change to it. -/
def State.rateRemap (old new : Int) (t : Int) (s : State) : State :=
  (List.range 4).foldl (fun st p =>
    st.remap p (fun r => if t < r.tL then (((old - new) * (r.tL - t) : Int) : Rat) / (10 ^ 15 : Nat) else 0)) s

/-- The change is announced: the record of its tick to the replicas, be it the rate, the time or an error-bound parameter that
changes (R23, R56, R81), and the flue's answer. Before a step requests are held and launches from the step tick on are missed;
after a change of S reservations are mapped anew. -/
def State.announce (s : State) : State :=
  let c := s.coming
  let t := s.passTicks (s.ticksToUpdate)
  let s0 := s.modHearth fun h => { h with announced := true }
  let s1 := if c.record == t.record then s0 else s0.sendRecord c.record
  if c.hearth.stepTick == some c.hearth.tick then
    ({ s1 with lts := { s1.lts with stepHold := true } }).missEvery 4 (some c.now) (fun r => decide (t.now ≤ r.tL))
  else if c.voted.s == s.voted.s then s1
  else s1.rateRemap s.voted.s c.voted.s t.now

/-- CHANGE_ANNOUNCEMENT: 64 ticks before the next loop update; the ticks up to then pass first. Once its tick has passed, or
nothing changes, there is no announcement. -/
def execChangeAnnouncement (s : State) : Out :=
  if !s.ticking || s.hearth.announced || s.hearth.updateDue then .next s
  else
    let n := s.ticksToUpdate
    if n < 64 then .next s
    else if n = 64 then .next s.announce
    else .next (s.passTicks (n - 64)).announce

end Sys2Proof.Machine
end

