-- ==== Sys2Proof/Machine/Host.lean ====
section
/-! DEFINITION. Host access: registers read and written by address, the DRAM window, the SPI target, errors, stopped clocks,
resets of crossings and of the PCIe interface (chapter 18). -/

namespace Sys2Proof.Machine

/-- The host interface's own state changed. -/
def State.modHost (f : HostIf → HostIf) (s : State) : State := { s with host := f s.host }

/-- The state that a command of this model leads to; every one of them has one. -/
def goOn (o : Out) (s : State) : State := match o with | .next t => t | _ => s

/-! ### Commands by their register bits (R542) -/

/-- The register bits that command something: field `i` of an array of `n`, and what value `v` of it does; `data` is the whole
word written. -/
structure CmdRow where
  n : Nat
  field : Nat → Field
  run : Nat → Nat → Nat → State → Out

/-- A single command bit. -/
def cmdOne (f : Field) (run : State → Out) : CmdRow := ⟨1, fun _ => f, fun _ _ _ s => run s⟩

/-- A command bit in an array. -/
def cmdArray (n : Nat) (f : Nat → Field) (run : Nat → State → Out) : CmdRow := ⟨n, f, fun i _ _ s => run i s⟩

/-- A field whose bits each command something. -/
def cmdBits (f : Field) (run : Nat → State → Out) : CmdRow :=
  ⟨1, fun _ => f, fun _ v _ s =>
    .next ((List.range f.width).foldl (fun st i => if bitOf v i then goOn (run i st) st else st) s)⟩

/-- A field whose bits each command something, except where the bit of `contra` in the same word commands the contrary (R212). -/
def cmdBitsUnless (f contra : Field) (run : Nat → State → Out) : CmdRow :=
  ⟨1, fun _ => f, fun i v w s =>
    (cmdBits f run).run i (v &&& ((2 ^ f.width - 1) ^^^ bitsOf w contra.lo contra.width)) w s⟩

/-- An index below `n`. -/
def fin (n : Nat) (i : Nat) (h : 0 < n := by decide) : Fin n := ⟨i % n, Nat.mod_lt _ h⟩

/-- MBX_GO by its OP (R399). -/
def mbxGo (s : State) : Out :=
  match s.get R.RSE.MBX_CMD.OP with
  | 1 => execMbxRead s
  | 2 => execMbxWrite s
  | 3 => execMbxInsert s
  | 4 => execMbxDelete s
  | 5 => execMbxLookup s
  | _ => execMbxBadOp s

/-- KEY_CMD by its OP (R442, R447); any other is rejected. -/
def keyGo (op : Nat) (s : State) : Out :=
  let g := fin 64 (s.get R.GLV.KEY_CMD.INDEX)
  match op with
  | 1 => execKeyLoad g s
  | 2 => execKeyDestroy g s
  | 3 => execKeyDestroyAll s
  | _ => .next (s.evt R.GLV.EVT.CFG_REJECTED)

/-- FL_GO by its OP (R530). -/
def flashGo (s : State) : Out :=
  match s.get R.NVC.FL_CMD.OP with
  | 1 => execFlRead s
  | 2 => execFlProgram s
  | 3 => execFlErase s
  | _ => .next (s.flGo 0)

/-- Commands of chapters 01 to 07. -/
def cmdsTime : List CmdRow :=
  [cmdOne R.TSC.CTL.STEP_ARM execStepArm, cmdOne R.TSC.CTL.SNAP execSnap,
   cmdOne R.TSC.CTL.UNFENCE_A (execUnfence 0), cmdOne R.TSC.CTL.UNFENCE_B (execUnfence 1),
   cmdOne R.TSC.CTL.UNFENCE_C (execUnfence 2), cmdOne R.TSC.LEAP_CTL.COMMIT execLeapCommit,
   cmdOne R.EBD.CTL.QUERY execQuery, cmdOne R.EBD.CTL.BANK_COMMIT execBankCommit,
   cmdOne R.EBD.CTL.BANK_RELEASE execBankRelease, cmdOne R.EBD.CTL.CC_COMMIT execCcCommit,
   cmdArray 16 R.REF.SLOT.CTL.COMMIT (fun n => execSlotCommit (fin 16 n)),
   cmdArray 16 R.REF.SLOT.CTL.RESTART (fun n => execSlotRestart (fin 16 n)),
   cmdOne R.SEL.CTL.PRIO_COMMIT execPrioCommit, cmdOne R.SEL.CTL.CLEAR_WTR execClearWtr,
   cmdOne R.SEL.CTL.MODEL_RESET execModelReset, cmdOne R.SEL.CTL.LOOP_COMMIT execLoopCommit,
   cmdOne R.OSC.CTL.ID_READ execIdRead, cmdOne R.OSC.CTL.SWCMD_SEND execSwcmdSend,
   cmdOne R.OSC.CTL.COMMIT execOscCommit, cmdOne R.SYN.CTL_G.BAND_COMMIT execBandCommit,
   cmdArray 4 R.SYN.CH.CTL.COMMIT (fun n => execSynCommit (fin 4 n)),
   cmdArray 4 R.SYN.CH.CTL.RELOCK (fun n => execSynRelock (fin 4 n)),
   ⟨1, fun _ => R.OUT.CTL.REALIGN, fun _ v _ => execRealign (BitVec.ofNat 16 v)⟩,
   cmdBitsUnless R.OUT.TEV_CTL.ARM R.OUT.TEV_CTL.DISARM (fun m => execTevArm (fin 16 m)),
   cmdBits R.OUT.TEV_CTL.DISARM (fun m => execTevDisarm (fin 16 m)),
   cmdArray 16 R.OUT.CH_CTL.COMMIT (fun n => execOutCommit (fin 16 n)),
   cmdArray 16 R.OUT.CH_CTL.MUTE (fun n => execOutMute (fin 16 n)),
   cmdArray 16 R.OUT.CH_CTL.UNMUTE (fun n => execOutUnmute (fin 16 n)),
   cmdOne R.TDC.CTL.TB_COMMIT execTbCommit, cmdArray 32 R.TDC.CH.CTL.COMMIT (fun n => execTdcChCommit (fin 32 n)),
   cmdArray 32 R.TDC.CH.CTL.FLUSH (fun n => execTdcFlush (fin 32 n))]

/-- Commands of chapters 08 to 14. -/
def cmdsNet : List CmdRow :=
  [cmdOne R.GNA.CTL.SUBMIT execSubmit, cmdOne R.GNA.CTL.SPI_GO execSpiGo, cmdOne R.GNA.CTL.JOB_FLUSH execJobFlush,
   cmdArray 4 R.GNA.FE.CTL.COMMIT (fun n => execFeCommit (fin 4 n)), cmdArray 4 R.GNA.FE.CTL.INIT (fun n => execFeInit (fin 4 n)),
   cmdArray 4 R.GNA.FE.CTL.JAM_LEARN (fun n => execJamLearn (fin 4 n)),
   cmdArray 256 R.GNT.CH.CTL.RELEASE (fun c => execChRelease (BitVec.ofNat 8 c)),
   cmdArray 256 R.GNT.CH.CTL.COMMIT (fun c => execChCommit (BitVec.ofNat 8 c)),
   cmdOne R.GNS.CTL.SOL_COMMIT execSolCommit, cmdOne R.GNS.CTL.POS_COMMIT execPosCommit,
   cmdOne R.GNS.CTL.SURVEY_START execSurveyStart, cmdOne R.GNS.CTL.FW_RESTART execFwRestart,
   cmdArray 4 R.ETH.CTL.COMMIT (fun p => execPortCommit (fin 4 p)), cmdArray 4 R.ETH.CTL.FILT_COMMIT (fun p =>
       execFiltCommit (fin 4 p)),
   cmdArray 4 R.ETH.CTL.WAKE_ARM (fun p => execWakeArm (fin 4 p)), cmdArray 4 R.ETH.CTL.PRBS_CLR (fun p => execPrbsClr (fin 4 p)),
   cmdOne R.LTS.CTL.CLS_COMMIT execClsCommit, cmdArray 4 R.LTS.PORT.CTL.COMMIT (fun p => execPcalCommit (fin 4 p)),
   cmdArray 4 R.LTS.PORT.CTL.CAL_RUN (fun p => execCalRun (fin 4 p)),
   cmdArray 4 R.LTS.PORT.CTL.TXPH_MEAS (fun p => execTxphMeas (fin 4 p)),
   cmdOne R.RSE.CTL.ENG_COMMIT execEngCommit, cmdOne R.RSE.CTL.RTAB_COMMIT execRtabCommit,
   cmdOne R.RSE.CTL.ADDR_COMMIT execAddrCommit, cmdOne R.RSE.CTL.MBX_GO mbxGo, cmdOne R.RSE.CTL.CT_FLUSH execCtFlush,
   cmdOne R.PRO.CTL.COMMIT execProCommit, cmdArray 4 R.PRO.PORT.CTL.COMMIT (fun p => execPtpCommit (fin 4 p)),
   cmdArray 4 R.PRO.PREF.CTL.COMMIT (fun p => execPrefCommit (fin 4 p)),
   cmdOne R.GLV.CTL.SEC_COMMIT execSecCommit, ⟨1, fun _ => R.GLV.KEY_CMD.OP, fun _ v _ => keyGo v⟩]

/-- Commands of chapters 15 to 20. -/
def cmdsSystem : List CmdRow :=
  [cmdBits R.SMP.CTL.GRP_START (fun k => execGrpStart (fin 4 k)), cmdBits R.SMP.CTL.GRP_STOP (fun k => execGrpStop (fin 4 k)),
   cmdArray 8 R.SMP.PORT.CTL.COMMIT (fun n => execSmpCommit (fin 8 n)), cmdArray 8 R.SMP.PORT.CTL.START (fun n =>
       execSmpStart (fin 8 n)),
   cmdArray 8 R.SMP.PORT.CTL.STOP (fun n => execSmpStop (fin 8 n)), cmdArray 8 R.SMP.PORT.CTL.CS_COMMIT (fun n =>
       execCsCommit (fin 8 n)),
   cmdOne R.RED.CTL.RECLAIM execReclaim, cmdOne R.RED.CTL.RENOUNCE execRenounce, cmdOne R.RED.CTL.YIELD execYield,
   cmdOne R.RED.CTL.HEALTH_NOW execHealthNow, cmdOne R.RED.CTL.COMMIT execRedCommit,
   cmdOne R.NVC.CTL.PROFILE_SET execProfileSet, cmdOne R.NVC.CTL.RELOAD (fun s => execReload (steadyStraps s.lastStraps) s),
   cmdOne R.NVC.CTL.EMBER_NOW execEmberNow, cmdOne R.NVC.CTL.FL_GO flashGo,
   ⟨1, fun _ => R.GLB.CTL.CHIP_RESET, fun _ _ w s => execChipReset (BitVec.ofNat 16 (w / 2 ^ 16)) (steadyStraps s.lastStraps) s⟩,
   cmdOne R.PMC.CTL.SEL_COMMIT execPmcSelCommit,
   cmdOne R.PMC.CTL.DUMP_NOW (fun s => execDumpNow [] (BitVec.ofNat 32 s.hearth.tick.toNat) false s),
   cmdOne R.MEM.CTL.COMMIT execMemCommit, cmdOne R.FLT.CTL.CLEAR_DEG execClearDeg,
   cmdOne R.FLT.CTL.CLEAR_SURR execClearSurr, cmdOne R.FLT.CTL.LOG_CLEAR execLogClear]

/-- The row and index of a command field. -/
def cmdRowOf (f : Field) : List CmdRow → Option (CmdRow × Nat)
  | [] => none
  | r :: rs =>
    let stride := if r.n ≤ 1 then 1 else (r.field 1).addr - (r.field 0).addr
    let i := (f.addr - (r.field 0).addr) / stride
    if i < r.n ∧ (r.field i).key = f.key then some (r, i) else cmdRowOf f rs

/-- A command field written with `v`: a 0 has no effect (R542). -/
def State.doCommand (f : Field) (v word : Nat) (s : State) : State :=
  if v = 0 then s
  else
    match cmdRowOf f (cmdsTime ++ cmdsNet ++ cmdsSystem) with
    | some (r, i) => goOn (r.run i v word s) s
    | none => s

/-! ### A register written (R535, R540 to R543, R547 to R549) -/

/-- The key page's data words: held until the next LOAD, and marked as written (R442). -/
def State.writeKey (f : Field) (v : Nat) (s : State) : State :=
  (s.set f v).set R.GLV.KEY_STAT.WORDS (putBit (s.get R.GLV.KEY_STAT.WORDS) ((f.addr - (R.GLV.KEY_DATA.KEY 0).addr) / 4) true)

/-- One field of a written word but for commands. The second words of STEER and INTEG commit both (R25). -/
def State.writeOne (data be : Nat) (f : Field) (s : State) : State :=
  if f.acc == .cmd then s
  else
    match s.newValue f data be with
    | none => s
    | some v =>
      if f.acc == .key then s.writeKey f v
      else if f.key = R.TSC.STEER1.VALUE.key then goOn (execSteerCommit (BitVec.ofNat 8 v) s) s |>.unstage f
      else if f.key = R.TSC.INTEG1.VALUE.key then goOn (execIntegCommit (BitVec.ofNat 8 v) s) s |>.unstage f
      else (s.writeField f v).unstage f

/-- The command fields of a written word, in order of their bits. -/
def State.writeCommands (data be : Nat) (fs : List Field) (s : State) : State :=
  let word := data &&& enabledBits be
  fs.foldl (fun st f => if f.acc == .cmd then st.doCommand f (bitsOf word f.lo f.width) word else st) s

/-- Registers whose fields hardware loads too (R548). -/
def sharedLoad (a : Nat) : Bool :=
  [R.EBD.BANK_A.A, R.EBD.BANK_B.B, R.EBD.BANK_C.C, R.EBD.BANK_Q.Q, R.EBD.THETA.MARGIN, R.TSC.LEAP_CUR.OFFSET,
   R.TSC.LEAP_NEXT.OFFSET, R.TSC.LEAP_AT_LO.AT, R.TSC.LEAP_AT_HI.AT, R.GNA.FE.BASE.DB 0, R.GNA.FE.BASE.DB 1, R.GNA.FE.BASE.DB 2,
   R.GNA.FE.BASE.DB 3, R.GNS.POS_X.CM, R.GNS.POS_Y.CM, R.GNS.POS_Z.CM, R.GNS.POS_UNC.MM].any (fun f => f.addr == a)

/-- A hardware load of the register fell in the cycle of the write and was discarded (R548). -/
def State.collide (a : Nat) (s : State) : State := (s.set R.GLB.COLLIDE_ADDR.ADDR a).evt R.GLB.EVT.SHARED_COLLIDE

/-- Registers that are commands as a whole: DOORBELL (R379) and LC_CMD (R450). -/
def State.writeWhole (a data be : Nat) (s : State) : State :=
  let word := data &&& enabledBits be
  if a = R.RSE.DOORBELL.RING.addr then
    goOn (execDoorbell (BitVec.ofNat 10 (s.get R.RSE.DOORBELL.RING)) (BitVec.ofNat 16 (s.get R.RSE.DOORBELL.PTR)) s) s
  else if a = R.GLV.LC_CMD.TARGET.addr ∧ word ≠ 0 then
    goOn (execLcCmd (BitVec.ofNat 2 word) (BitVec.ofNat 16 (word / 2 ^ 16)) s) s
  else s

/-- A block's status lines that follow what software writes: the interrupt level and the alarm (R557, R590). -/
def State.afterWrite (a : Nat) (s : State) : State := (s.refreshInt (blockBit a)).showAlarm

/-- HITS after a write: with no calibration running before it, the next one takes the new value (R225, R237). -/
def State.calHits (before s : State) : State :=
  if before.flag R.TDC.CAL.EN then s else s.modTdc fun t => { t with hits := s.get R.TDC.CAL.HITS }

/-- A word written to a register of the map. -/
def State.writeWord (a data be : Nat) (hw : Bool) (s : State) : State :=
  let fs := fieldsAt a
  let s0 := fs.foldl (fun st f => st.writeOne data be f) s
  let s1 := if a == R.TDC.CAL.EN.addr then s.calHits s0 else s0
  let s2 := if hw && sharedLoad a then s1.collide a else s1
  ((s2.writeWhole a data be).writeCommands data be fs).afterWrite a

/-! ### MSI-X (R534, R558) -/

/-- The MSI-X table. -/
def inMsixTable (a : Nat) : Bool := decide (0x18000 ≤ a) && decide (a < 0x18400)

/-- The pending-bit array. -/
def inPba (a : Nat) : Bool := a == 0x19000 || a == 0x19004

/-- The pending messages that may now be sent. -/
def State.msixRelease (s : State) : State :=
  (List.range 64).foldl (fun st v =>
    if bitOf st.host.pba v && !(st.host.entry v).masked && st.host.busMaster && !st.host.perst then
      (st.modHost fun h => { h with pba := putBit h.pba v false }).emit (.msix v)
    else st) s

/-- The dword of the table at `a`. -/
def State.msixRead (a : Nat) (s : State) : Nat :=
  let e := s.host.entry ((a - 0x18000) / 16)
  match (a - 0x18000) % 16 / 4 with
  | 0 => e.addrLo.toNat
  | 1 => e.addrHi.toNat
  | 2 => e.data.toNat
  | _ => ofBool e.masked

/-- A dword written into the table; an entry unmasked sends what is pending. -/
def State.msixWrite (a data be : Nat) (s : State) : State :=
  let v := (a - 0x18000) / 16
  let e := s.host.entry v
  let m := enabledBits be
  let mix (old : Word) : Word := (old &&& ~~~(BitVec.ofNat 32 m)) ||| BitVec.ofNat 32 (data &&& m)
  let e' : MsixEntry := match (a - 0x18000) % 16 / 4 with
    | 0 => { e with addrLo := mix e.addrLo }
    | 1 => { e with addrHi := mix e.addrHi }
    | 2 => { e with data := mix e.data }
    | _ => if bitOf be 0 then { e with masked := data % 2 == 1 } else e
  (s.modHost fun h => { h with msix := Map.put h.msix v e' }).msixRelease

/-! ### A register read (R535, R540, R546) -/

/-- A read that a row of its own governs, at word address `a`: a result queue's pop (R235, R257), the counters with a latch
(R323, R569). -/
def State.ownRead (a : Nat) (s : State) : Option Out :=
  let p := (a - 0x100000) / 0x10000
  let o := (a - 0x100000) % 0x10000
  let lo := (R.PMC.CNT.LO.COUNT 0).addr
  if a = R.GNA.JOB_RES0.VALID.addr then some (execJobResultPop s)
  else if 0x90000 ≤ a ∧ a < 0xA0000 then
    match (List.range 32).find? (fun n => (R.TDC.CH.RES0.VALID n).addr == a) with
    | some n => some (execTdcResPop (fin 32 n) s)
    | none => none
  else if 0x100000 ≤ a ∧ a < 0x140000 ∧ 0x800 ≤ o ∧ o < 0x980 then
    some (if o % 8 = 0 then execStatsLoRead (fin 4 p) (fin 48 ((o - 0x800) / 8)) s
      else execStatsHiRead (fin 4 p) (fin 48 ((o - 0x800) / 8)) s)
  else if lo ≤ a ∧ a < lo + 0x2000 then
    some (if a % 8 = lo % 8 then execCntLoRead (fin 1024 ((a - lo) / 8)) [] s else execCntHiRead s)
  else none

/-- RC fields of a register that has been read: events clear, TXN_PEAK is loaded anew from its source (R546). -/
def State.clearRead (a : Nat) (s : State) : State :=
  (fieldsAt a).foldl (fun st f =>
    if f.acc == .rc then
      (if f.key = R.RSE.TXN_PEAK.COUNT.key then st.set f (st.get R.RSE.TXN_NOW.COUNT) else st.set f 0)
    else st) s

/-- After a read of an event register, INT_STAT follows; a bit that is still 1 requests its vector anew (R558). -/
def State.requestAgain (a : Nat) (s : State) : State :=
  let b := blockBit a
  let s1 := s.refreshInt b
  if (fieldsAt a).any isEvent && bitOf (s1.get R.GLB.INT_STAT.BLOCK) b && s1.flag (R.HST.VEC_MAP.EN b) then
    s1.requestVector (s1.get (R.HST.VEC_MAP.VECTOR b))
  else s1

/-- A word read from a register of the map. -/
def State.readRegister (a : Nat) (s : State) : State :=
  match s.ownRead a with
  | some o => goOn o s
  | none => ((s.emit (.hostData (BitVec.ofNat 32 (s.readWord a)))).clearRead a).requestAgain a

/-! ### Where an access goes (R536, R539, R540, R553, R555) -/

/-- The domain of the register file that holds `a`. -/
def regDomain (a : Nat) : Nat :=
  if 0x20000 ≤ a ∧ a < 0x30000 then 1
  else if 0xA0000 ≤ a ∧ a < 0xD0000 then 22
  else if 0x180000 ≤ a ∧ a < 0x300000 then 0
  else 12

/-- `a` is an implemented register or MSI-X structure. -/
def implemented (a : Nat) : Bool := inMsixTable a || inPba a || !(fieldsAt a).isEmpty

/-- The register file at `a` is held in reset (R555): TSC with the Hearth; a domain that has not run since the reset; in
RECOVERY every block but GLB, HST and NVC. -/
def State.fileInReset (s : State) (a : Nat) : Bool :=
  let d := regDomain a
  (d == 1 && !s.hearth.running) || (d != 1 && d != 12 && bitOf (s.get R.GLB.IN_RESET.RESET) d) ||
  (s.svc == 3 && decide (0x20000 ≤ a) && !(decide (0x400000 ≤ a) && decide (a < 0x480000)))

/-- What becomes of an access. -/
inductive Gate where
  | unsupported | refused | stalls | passes
  deriving DecidableEq, Repr

/-- What becomes of an access to `a` that arrives now. -/
def State.gate (s : State) (a : Nat) : Gate :=
  let d := regDomain a
  if !implemented a then .unsupported
  else if s.fileInReset a then .refused
  else if !(Map.getD s.host.abandoned d []).isEmpty then .refused
  else if !s.clock d || s.host.handshakes.contains d || s.host.stalled.any (fun e => e.1 == d) then .stalls
  else .passes

/-- The address of an errored access (R540, R553). -/
def State.errAddr (a : Nat) (window : Bool) (s : State) : State := (s.set R.HST.ERR_ADDR.ADDR a).setB R.HST.ERR_ADDR.WINDOW window

/-- An access outside every register, or above the installed DRAM (R536, R540). -/
def State.unsupported (a : Nat) (window : Bool) (s : State) : State :=
  (((s.inc R.HST.ERR_CNT.UR).errAddr a window).evt R.HST.STAT.UNSUPPORTED).answer 0xE1 .hostUnsupported

/-- An access refused at once (R535, R553, R555). -/
def State.refuseAccess (a : Nat) (window : Bool) (s : State) : State :=
  (((s.inc R.HST.ERR_CNT.CA).errAddr a window).evt R.HST.STAT.REFUSED).answer 0xE3 .hostRefused

/-- An access carried out; over SPI its OK status goes first (R538). -/
def State.perform (h : HostAccess) (hw : Bool) (s : State) : State :=
  let s1 := if s.flag R.HST.STAT.HOSTSEL then s.emit (.spiFrame 0xA5) else s
  if inMsixTable h.addr then
    (if h.write then s1.msixWrite h.addr h.data h.be else s1.emit (.hostData (BitVec.ofNat 32 (s.msixRead h.addr))))
  else if inPba h.addr then
    (if h.write then s1 else s1.emit (.hostData (BitVec.ofNat 32 (s.host.pba / 2 ^ (8 * (h.addr % 8))))))
  else if h.write then s1.writeWord h.addr h.data h.be hw
  else s1.readRegister h.addr

/-- A BAR0 access of one dword (R535 to R540, R553 to R556). -/
def State.access (h : HostAccess) (hw : Bool) (s : State) : State :=
  match s.gate h.addr with
  | .unsupported => s.unsupported h.addr false
  | .refused => s.refuseAccess h.addr false
  | .stalls => s.modHost fun x => { x with stalled := x.stalled ++ [(regDomain h.addr, { h with since := s.mark })] }
  | .passes => s.perform h hw

/-- PCIe requests reach the function: it is the interface in use, out of its reset, and the chip runs (R533, R560). -/
def State.pcieUp (s : State) : Bool := s.power == .on && !s.flag R.HST.STAT.HOSTSEL && !s.host.perst

/-- In D3hot BAR requests are unsupported (R535). -/
def State.inD3 (a : Nat) (window : Bool) (s : State) : State :=
  ((s.inc R.HST.ERR_CNT.UR).errAddr a window).emit .hostUnsupported

/-- REGISTER_WRITE (R535, R541 to R549): a PCIe write of `data` under byte enables `be`; `long` where it is not one aligned
dword; `hw` where a hardware load of the register falls in its cycle. -/
def execRegisterWrite (addr : BitVec 24) (data : Word) (be : BitVec 4) (long hw : Bool) (s : State) : Out :=
  let a := addr.toNat
  if !s.pcieUp then .next s
  else if s.host.d3hot then .next (s.inD3 a false)
  else if long || a % 4 != 0 then .next (s.refuseAccess a false)
  else .next (s.access ⟨true, a, data.toNat, be.toNat, none⟩ hw)

/-- RC_READ (R535, R546, R558): a PCIe read of a register; every RC field of it clears. With no byte enabled nothing is read
and the data mean nothing. -/
def execRcRead (addr : BitVec 24) (be : BitVec 4) (long : Bool) (s : State) : Out :=
  let a := addr.toNat
  if !s.pcieUp then .next s
  else if s.host.d3hot then .next (s.inD3 a false)
  else if long || a % 4 != 0 then .next (s.refuseAccess a false)
  else if be = 0 then .next (s.bump.emit (.hostData (BitVec.ofNat 32 s.fresh)))
  else .next (s.access ⟨false, a, 0, be.toNat, none⟩ false)

/-! ### The window (R397, R398, R536) -/

/-- DRAM address of a window byte. -/
def State.windowBase (s : State) : Nat := s.get R.HST.WIN_BASE.MIB * 2 ^ 20

/-- Bytes stored line by line: those of the client table through its cache controller (R397, R398). -/
def State.windowStore : Nat → Nat → List Byte → State → State
  | 0, _, _, s => s
  | _, _, [], s => s
  | fuel + 1, a, bs, s =>
    let n := 128 - a % 128
    let seg := bs.take n
    let s1 := if (s.ctIndex a).isSome then s.tableWrite a seg else s.dramWrite a seg
    s1.windowStore fuel (a + n) (bs.drop n)

/-- Bytes read with uncorrectable errors in the dwords `bad`: all ones there, and DATA_ERR (R536, R578). -/
def State.windowData (a : Nat) (bs : List Byte) (bad : List Nat) : List Byte :=
  (List.range bs.length).map (fun i => if bad.contains ((a % 4 + i) / 4) then 0xFF else bs.getD i 0)

/-- A window access of `n` bytes at offset `w` is answered with an error, or goes on. -/
def State.windowGate (s : State) (w n : Nat) : Gate :=
  if !s.flag R.MEM.STAT.READY || s.svc == 3 then .refused
  else if s.dramSize < s.windowBase + w + n then .unsupported
  else .passes

/-- The words with an uncorrectable error that a read of `n` bytes from `a` meets in DRAM; a cached line of the client table is
not read there (R397). -/
def State.windowBad (s : State) (a n : Nat) : List Nat :=
  (s.badWords a n).filter (fun x => !(s.ctIndex (8 * x)).any s.cached)

/-- The dwords of such a read, from the aligned first, that those words hold. -/
def badDwords (a n : Nat) (words : List Nat) : List Nat :=
  (List.range (ceilDiv (a % 4 + n) 4)).filter (fun i => words.contains ((a / 4 + i) / 2))

/-- A window read, with the memory errors that lie in what it reads. -/
def State.windowRead (w n : Nat) (errs : List MemError) (s0 : State) : State :=
  let s := errs.foldl (fun st e => st.memUpset e) s0
  match s0.windowGate w n with
  | .passes =>
    let a := s.windowBase + w
    let bs := s.dramRead a n
    let hit := s.windowBad a n
    if hit.isEmpty then
      (if s.flag R.HST.STAT.HOSTSEL then s.emit (.spiFrame 0xA5) else s).emit (.hostBytes bs)
    else
      let s1 := s.countBad hit
      ((s1.errAddr w true).evt R.HST.STAT.DATA_ERR).answer 0xE4 (.hostDataError (State.windowData a bs (badDwords a n hit)))
  | .unsupported => s0.unsupported w true
  | _ => s0.refuseAccess w true

/-- A window write. -/
def State.windowWrite (w : Nat) (bs : List Byte) (s : State) : State :=
  match s.windowGate w bs.length with
  | .passes =>
    (if s.flag R.HST.STAT.HOSTSEL then s.emit (.spiFrame 0xA5) else s).windowStore (bs.length + 1) (s.windowBase + w) bs
  | .unsupported => s.unsupported w true
  | _ => s.refuseAccess w true

/-- WINDOW_READ (R536, R578): up to 4,096 bytes, with the memory errors that the read finds. -/
def execWindowRead (addr : BitVec 28) (len : Fin 4097) (errs : List MemError) (s : State) : Out :=
  if !s.pcieUp then .next s
  else if s.host.d3hot then .next (s.inD3 addr.toNat true)
  else .next (s.windowRead addr.toNat len.val errs)

/-- WINDOW_WRITE (R536): up to 256 bytes in address order. -/
def execWindowWrite (addr : BitVec 28) (data : List Byte) (s : State) : Out :=
  if !s.pcieUp then .next s
  else if s.host.d3hot then .next (s.inD3 addr.toNat true)
  else .next (s.windowWrite addr.toNat (data.take 256))

/-! ### The SPI target (R537, R538) -/

/-- What the host is told of an access. -/
def isAnswer : Emission → Bool
  | .hostData _ | .hostBytes _ | .hostOk | .hostUnsupported | .hostAbandoned | .hostRefused | .hostDataError _ | .spiFrame _ => true
  | _ => false

/-- Answers that leave after `old` are not sent: the host has ended the frame (R538). -/
def State.unheard (old s : State) : State :=
  let n := s.emitted.length - old.emitted.length
  { s with emitted := (s.emitted.take n).filter (fun e => !isAnswer e) ++ s.emitted.drop n }

/-- One frame: a register or window dword, read or written. -/
def State.spiAccess (h : Nat) (data : Word) (errs : List MemError) (s : State) : State :=
  let a := h % 2 ^ 28
  let window := bitOf h 30
  if bitsOf h 28 2 ≠ 0 ∨ h % 4 ≠ 0 then s.unsupported a window
  else if window then
    (if bitOf h 31 then s.windowRead a 4 errs else s.windowWrite a (leBytes 4 data.toNat))
  else s.access ⟨!bitOf h 31, a, data.toNat, 15, none⟩ false

/-- HSPI_FRAME (R537, R538): a frame that ends within its header is ignored; one that ends before its status is carried out
unheard. -/
def execHspiFrame (u : SpiHostFrame) (s : State) : Out :=
  match u.header with
  | none => .next s
  | some h =>
    if s.power ≠ .on ∨ s.flag R.HST.STAT.HOSTSEL = false then .next s
    else
      let t := s.spiAccess h.toNat u.data u.errs
      if u.toEnd then .next t else .next (State.unheard s t)

/-! ### Stopped clocks (R552, R553) -/

/-- Accesses of domain `d` that wait are carried out in order. -/
def State.release_ (d : Nat) (s : State) : State :=
  let hs := (s.host.stalled.filter (fun e => e.1 == d)).map Prod.snd
  hs.foldl (fun st h => st.perform h false) (s.modHost fun x => { x with stalled := x.stalled.filter (fun e => e.1 != d) })

/-- WDOG_US in 2^-16 ns (R554). -/
def State.watchdogSpan (s : State) : Nat := s.get R.HST.CFG.WDOG_US * 1000 * nsU

/-- ACCESS_WATCHDOG (R553, R554, R591): the oldest stalled access of domain `d`, once it has waited WDOG_US, is abandoned, which is
filed; a write stays in the crossing. -/
def execAccessWatchdog (d : Fin 24) (s : State) : Out :=
  match s.host.stalled.find? (fun e => e.1 == d.val) with
  | none => .next s
  | some (_, h) =>
    if !s.passed h.since s.watchdogSpan then .next s
    else
      let s1 := s.modHost fun x => { x with stalled := x.stalled.erase (d.val, h) }
      let s2 := ((((s1.inc R.HST.ERR_CNT.CA).errAddr h.addr false).evt R.HST.STAT.ABANDONED).answer 0xE2
        (if h.write then .aerAbort else .hostAbandoned)).file F.hstAccessAbandoned d.val 0
      if h.write then
        .next ((s2.modHost fun x => { x with abandoned := Map.put x.abandoned d.val (Map.getD x.abandoned d.val [] ++ [h]) }).set
          R.HST.STAT.PEND_DOM d.val)
      else .next s2

/-- The clocks that other rules start and stop: CK_HRT and CK_TDC (R187, R220). -/
def followsRule (d : Nat) : Bool := d == 1 || d == 11

/-- CK_HOST and CK_AON run whenever the chip is out of reset (R539). -/
def alwaysRuns (d : Nat) : Bool := d == 12 || d == 23

/-- CLK_STOP (R552): two CK_AON cycles without an edge. -/
def execClkStop (d : Fin 24) (s : State) : Out :=
  let d := d.val
  if alwaysRuns d || (followsRule d && s.clock d) || !bitOf (s.get R.GLB.CLK_RUN.RUN) d then .next s
  else .next (((s.setClock d false).set R.GLB.CLK_RUN.RUN (putBit (s.get R.GLB.CLK_RUN.RUN) d false)).evt R.GLB.EVT.CLK_STOP)

/-- A domain whose clock runs for the first time since the reset leaves it; the Hearth's does so by its own rules, and in
RECOVERY only GLB, HST and NVC run (R513, R552). -/
def State.leaveReset (d : Nat) (s : State) : State :=
  if d ≠ 1 ∧ bitOf (s.get R.GLB.IN_RESET.RESET) d = true ∧ (s.svc ≠ 3 ∨ d = 21) then
    (s.set R.GLB.IN_RESET.RESET (putBit (s.get R.GLB.IN_RESET.RESET) d false)).crossingOpen d
  else s

/-- The abandoned writes of domain `d` land, in order (R553). -/
def State.landWrites (d : Nat) (s : State) : State :=
  let ws := Map.getD s.host.abandoned d []
  if ws.isEmpty then s
  else
    ((ws.foldl (fun st h => st.writeWord h.addr h.data h.be false)
      (s.modHost fun x => { x with abandoned := Map.del x.abandoned d })).evt R.HST.STAT.LATE_WRITE).showPend

/-- CLK_RETURN (R59, R552, R553): the replica is invalidated, abandoned writes land, accesses that wait are carried out. -/
def execClkReturn (d : Fin 24) (s : State) : Out :=
  let d := d.val
  if s.power ≠ .on ∨ alwaysRuns d = true ∨ (followsRule d = true ∧ s.clock d = false) ∨
      bitOf (s.get R.GLB.CLK_RUN.RUN) d = true then .next s
  else
    let s1 := ((s.setClock d true).set R.GLB.CLK_RUN.RUN (putBit (s.get R.GLB.CLK_RUN.RUN) d true)).evt R.GLB.EVT.CLK_RETURN
    let s2 := (if replicaDomains.contains d then s1.setReplica d Replica.invalid else s1).leaveReset d
    let s3 := s2.landWrites d
    if s3.host.handshakes.contains d then .next s3 else .next (s3.release_ d)

/-- RESET_HANDSHAKE_DONE (R553, R556): blocked accesses are delivered in order, once the clock runs, those abandoned in the
meantime first. -/
def execResetHandshakeDone (d : Fin 24) (s : State) : Out :=
  let s1 := s.modHost fun x => { x with handshakes := x.handshakes.filter (fun y => y != d.val) }
  if s.clock d.val then .next ((s1.landWrites d.val).release_ d.val) else .next s1

/-! ### The PCIe interface (R535, R560) -/

/-- Configuration space, the MSI-X structures and WIN_BASE at reset. -/
def State.pcieClear (s : State) : State :=
  (s.modHost fun h => { h with busMaster := false, d3hot := false, msix := [], pba := 0 }).set R.HST.WIN_BASE.MIB 0

/-- The link as STAT shows it. -/
def State.pcieLink (up : Bool) (speed width : Nat) (s : State) : State :=
  ((s.setB R.HST.STAT.LINK_UP up).set R.HST.STAT.SPEED speed).set R.HST.STAT.WIDTH width

/-- PCIE_RESET (R560): PERST_N, a hot reset and a link-down reset the PCIe interface alone. -/
def execPcieReset (e : PcieEvent) (s : State) : Out :=
  if s.power ≠ .on ∨ s.flag R.HST.STAT.HOSTSEL = true then .next s
  else
    match e with
    | .perst true => .next (((s.pcieClear).pcieLink false 0 0).modHost fun h => { h with perst := true })
    | .perst false => .next (s.modHost fun h => { h with perst := false })
    | .hotReset => .next s.pcieClear
    | .linkDown => .next (s.pcieClear.pcieLink false 0 0)
    | .linkUp speed width => if s.host.perst then .next s else .next (s.pcieLink true speed.toNat width.toNat)

/-- PCIE_CONFIG_WRITE (R535): Bus Master Enable and D3hot; pending messages go out once they may. -/
def execPcieConfigWrite (busMaster d3hot : Bool) (s : State) : Out :=
  if !s.pcieUp then .next s
  else .next (s.modHost fun h => { h with busMaster := busMaster, d3hot := d3hot }).msixRelease

end Sys2Proof.Machine
end

