-- ==== Sys2Proof/Machine/Dispatch.lean ====
section
/-! DEFINITION. Which meaning each command has. -/

namespace Sys2Proof.Machine

/-- A command's effect on everything but the queue. -/
def exec (i : Instr) (s : State) : Host.Outcome State Fault Refusal :=
  match i with
  | .hearthTick upset => Sys2Proof.Machine.execHearthTick upset s
  | .secondBoundary => Sys2Proof.Machine.execSecondBoundary s
  | .loopUpdate => Sys2Proof.Machine.execLoopUpdate s
  | .changeAnnouncement => Sys2Proof.Machine.execChangeAnnouncement s
  | .steerCommit hi => Sys2Proof.Machine.execSteerCommit hi s
  | .integCommit hi => Sys2Proof.Machine.execIntegCommit hi s
  | .stepArm => Sys2Proof.Machine.execStepArm s
  | .unfence lane => Sys2Proof.Machine.execUnfence lane s
  | .hearthRecord tie => Sys2Proof.Machine.execHearthRecord tie s
  | .snap => Sys2Proof.Machine.execSnap s
  | .snapLatch => Sys2Proof.Machine.execSnapLatch s
  | .leapCommit => Sys2Proof.Machine.execLeapCommit s
  | .bankCommit => Sys2Proof.Machine.execBankCommit s
  | .bankRelease => Sys2Proof.Machine.execBankRelease s
  | .ccCommit => Sys2Proof.Machine.execCcCommit s
  | .query => Sys2Proof.Machine.execQuery s
  | .refEdge n u => Sys2Proof.Machine.execRefEdge n u s
  | .refGate n count => Sys2Proof.Machine.execRefGate n count s
  | .slowAbsent n => Sys2Proof.Machine.execSlowAbsent n s
  | .missWindowClose n => Sys2Proof.Machine.execMissWindowClose n s
  | .obsMiss k => Sys2Proof.Machine.execObsMiss k s
  | .todMessage n msg => Sys2Proof.Machine.execTodMessage n msg s
  | .holdoffExpire n => Sys2Proof.Machine.execHoldoffExpire n s
  | .slotCommit n => Sys2Proof.Machine.execSlotCommit n s
  | .slotRestart n => Sys2Proof.Machine.execSlotRestart n s
  | .swTimeout => Sys2Proof.Machine.execSwTimeout s
  | .wtrExpire n => Sys2Proof.Machine.execWtrExpire n s
  | .prioCommit => Sys2Proof.Machine.execPrioCommit s
  | .clearWtr => Sys2Proof.Machine.execClearWtr s
  | .modelReset => Sys2Proof.Machine.execModelReset s
  | .loopCommit => Sys2Proof.Machine.execLoopCommit s
  | .modelSample => Sys2Proof.Machine.execModelSample s
  | .idPoll => Sys2Proof.Machine.execIdPoll s
  | .idRead => Sys2Proof.Machine.execIdRead s
  | .idReadDone bytes => Sys2Proof.Machine.execIdReadDone bytes s
  | .statusPoll => Sys2Proof.Machine.execStatusPoll s
  | .statusReply cur temp => Sys2Proof.Machine.execStatusReply cur temp s
  | .runHour => Sys2Proof.Machine.execRunHour s
  | .oscLockChange locked => Sys2Proof.Machine.execOscLockChange locked s
  | .commandAck => Sys2Proof.Machine.execCommandAck s
  | .ackTimeout => Sys2Proof.Machine.execAckTimeout s
  | .dacFrameDone => Sys2Proof.Machine.execDacFrameDone s
  | .swcmdSend => Sys2Proof.Machine.execSwcmdSend s
  | .oscCommit => Sys2Proof.Machine.execOscCommit s
  | .synCommit n => Sys2Proof.Machine.execSynCommit n s
  | .synRelock n => Sys2Proof.Machine.execSynRelock n s
  | .bandCommit => Sys2Proof.Machine.execBandCommit s
  | .syn0FirstSearch => Sys2Proof.Machine.execSyn0FirstSearch s
  | .bandTrialDone n lo hi => Sys2Proof.Machine.execBandTrialDone n lo hi s
  | .lockWindow n count fine => Sys2Proof.Machine.execLockWindow n count fine s
  | .synRefLoss n => Sys2Proof.Machine.execSynRefLoss n s
  | .synRefReturn n => Sys2Proof.Machine.execSynRefReturn n s
  | .syn0CoastTick => Sys2Proof.Machine.execSyn0CoastTick s
  | .outCommit n => Sys2Proof.Machine.execOutCommit n s
  | .outMute n => Sys2Proof.Machine.execOutMute n s
  | .outUnmute n => Sys2Proof.Machine.execOutUnmute n s
  | .realign bits => Sys2Proof.Machine.execRealign bits s
  | .alignComplete n => Sys2Proof.Machine.execAlignComplete n s
  | .outputPeriodEnd n => Sys2Proof.Machine.execOutputPeriodEnd n s
  | .calUpdate n => Sys2Proof.Machine.execCalUpdate n s
  | .calLoopbackTimeout n => Sys2Proof.Machine.execCalLoopbackTimeout n s
  | .todOutStart j => Sys2Proof.Machine.execTodOutStart j s
  | .tevArm m => Sys2Proof.Machine.execTevArm m s
  | .tevDisarm m => Sys2Proof.Machine.execTevDisarm m s
  | .tevEdge m => Sys2Proof.Machine.execTevEdge m s
  | .tbCommit => Sys2Proof.Machine.execTbCommit s
  | .tdcChCommit n => Sys2Proof.Machine.execTdcChCommit n s
  | .tdcFlush n => Sys2Proof.Machine.execTdcFlush n s
  | .tdcResPop n => Sys2Proof.Machine.execTdcResPop n s
  | .tbaseWindow count => Sys2Proof.Machine.execTbaseWindow count s
  | .tbaseLoss => Sys2Proof.Machine.execTbaseLoss s
  | .tdcReady => Sys2Proof.Machine.execTdcReady s
  | .tdcLockTimeout => Sys2Proof.Machine.execTdcLockTimeout s
  | .spareCalDone hist diff => Sys2Proof.Machine.execSpareCalDone hist diff s
  | .tdcEdge n u => Sys2Proof.Machine.execTdcEdge n u s
  | .intervalTimeout n => Sys2Proof.Machine.execIntervalTimeout n s
  | .feCommit n => Sys2Proof.Machine.execFeCommit n s
  | .feInit n => Sys2Proof.Machine.execFeInit n s
  | .jamLearn n => Sys2Proof.Machine.execJamLearn n s
  | .feGate n count tie => Sys2Proof.Machine.execFeGate n count tie s
  | .spiTransferDone rx => Sys2Proof.Machine.execSpiTransferDone rx s
  | .scriptDelayDone n => Sys2Proof.Machine.execScriptDelayDone n s
  | .spiGo => Sys2Proof.Machine.execSpiGo s
  | .submit => Sys2Proof.Machine.execSubmit s
  | .jobFlush => Sys2Proof.Machine.execJobFlush s
  | .jobStart e => Sys2Proof.Machine.execJobStart e s
  | .dwellDone e run => Sys2Proof.Machine.execDwellDone e run s
  | .jobResultPop => Sys2Proof.Machine.execJobResultPop s
  | .chRelease c => Sys2Proof.Machine.execChRelease c s
  | .chCommit c => Sys2Proof.Machine.execChCommit c s
  | .integrationDump ch samples => Sys2Proof.Machine.execIntegrationDump ch samples s
  | .pullinTimeout c => Sys2Proof.Machine.execPullinTimeout c s
  | .syncTimeout c => Sys2Proof.Machine.execSyncTimeout c s
  | .cn0Loss c => Sys2Proof.Machine.execCn0Loss c s
  | .navRecord ch u => Sys2Proof.Machine.execNavRecord ch u s
  | .jamWindow n samples noise => Sys2Proof.Machine.execJamWindow n samples noise s
  | .gnssEpoch late => Sys2Proof.Machine.execGnssEpoch late s
  | .fwAck acts => Sys2Proof.Machine.execFwAck acts s
  | .fwAckTimeout => Sys2Proof.Machine.execFwAckTimeout s
  | .fwRestart => Sys2Proof.Machine.execFwRestart s
  | .solCommit => Sys2Proof.Machine.execSolCommit s
  | .posCommit => Sys2Proof.Machine.execPosCommit s
  | .surveyStart => Sys2Proof.Machine.execSurveyStart s
  | .solutionDelivery m => Sys2Proof.Machine.execSolutionDelivery m s
  | .portCommit p => Sys2Proof.Machine.execPortCommit p s
  | .filtCommit p => Sys2Proof.Machine.execFiltCommit p s
  | .wakeArm p => Sys2Proof.Machine.execWakeArm p s
  | .prbsClr p => Sys2Proof.Machine.execPrbsClr p s
  | .serdesCalDone p => Sys2Proof.Machine.execSerdesCalDone p s
  | .linkConditionChange p u => Sys2Proof.Machine.execLinkConditionChange p u s
  | .linkPendingDone p => Sys2Proof.Machine.execLinkPendingDone p s
  | .faultClearDone p => Sys2Proof.Machine.execFaultClearDone p s
  | .rxFrame p r => Sys2Proof.Machine.execRxFrame p r s
  | .pauseEnd p => Sys2Proof.Machine.execPauseEnd p s
  | .statsLoRead p k => Sys2Proof.Machine.execStatsLoRead p k s
  | .statsHiRead p k => Sys2Proof.Machine.execStatsHiRead p k s
  | .signalChange p on lasted => Sys2Proof.Machine.execSignalChange p on lasted s
  | .esmcTimeout p => Sys2Proof.Machine.execEsmcTimeout p s
  | .esmcEventTx p => Sys2Proof.Machine.execEsmcEventTx p s
  | .rclkRelease p => Sys2Proof.Machine.execRclkRelease p s
  | .txphMeas p => Sys2Proof.Machine.execTxphMeas p s
  | .txphPeriodic p => Sys2Proof.Machine.execTxphPeriodic p s
  | .txphDone p delays => Sys2Proof.Machine.execTxphDone p delays s
  | .grantRequest block => Sys2Proof.Machine.execGrantRequest block s
  | .heldGrantsRelease blocks => Sys2Proof.Machine.execHeldGrantsRelease blocks s
  | .unschedReserve p len block => Sys2Proof.Machine.execUnschedReserve p len block s
  | .launchRelease p => Sys2Proof.Machine.execLaunchRelease p s
  | .calRun p => Sys2Proof.Machine.execCalRun p s
  | .ltsCalDone p launches diffs => Sys2Proof.Machine.execLtsCalDone p launches diffs s
  | .pcalCommit p => Sys2Proof.Machine.execPcalCommit p s
  | .clsCommit => Sys2Proof.Machine.execClsCommit s
  | .dispatch => Sys2Proof.Machine.execDispatch s
  | .lookup ctx errs => Sys2Proof.Machine.execLookup ctx errs s
  | .gloveboxDone ctx => Sys2Proof.Machine.execGloveboxDone ctx s
  | .stepOverrun ctx => Sys2Proof.Machine.execStepOverrun ctx s
  | .fullRetry ctx => Sys2Proof.Machine.execFullRetry ctx s
  | .responseDeadline ctx => Sys2Proof.Machine.execResponseDeadline ctx s
  | .rtabCommit => Sys2Proof.Machine.execRtabCommit s
  | .engCommit => Sys2Proof.Machine.execEngCommit s
  | .addrCommit => Sys2Proof.Machine.execAddrCommit s
  | .doorbell ring ptr => Sys2Proof.Machine.execDoorbell ring ptr s
  | .unschedTxDone p => Sys2Proof.Machine.execUnschedTxDone p s
  | .agingVisit entry => Sys2Proof.Machine.execAgingVisit entry s
  | .mbxRead => Sys2Proof.Machine.execMbxRead s
  | .mbxWrite => Sys2Proof.Machine.execMbxWrite s
  | .mbxInsert => Sys2Proof.Machine.execMbxInsert s
  | .mbxDelete => Sys2Proof.Machine.execMbxDelete s
  | .mbxLookup => Sys2Proof.Machine.execMbxLookup s
  | .mbxBadOp => Sys2Proof.Machine.execMbxBadOp s
  | .ctFlush => Sys2Proof.Machine.execCtFlush s
  | .flushDone => Sys2Proof.Machine.execFlushDone s
  | .bar2TableWrite entry word data be => Sys2Proof.Machine.execBar2TableWrite entry word data be s
  | .periodicCreate p msg => Sys2Proof.Machine.execPeriodicCreate p msg s
  | .announceTimeout p => Sys2Proof.Machine.execAnnounceTimeout p s
  | .prefRenew p msg => Sys2Proof.Machine.execPrefRenew p msg s
  | .prefDelayReq p => Sys2Proof.Machine.execPrefDelayReq p s
  | .smearStart k => Sys2Proof.Machine.execSmearStart k s
  | .smearEnd k => Sys2Proof.Machine.execSmearEnd k s
  | .proCommit => Sys2Proof.Machine.execProCommit s
  | .ptpCommit p => Sys2Proof.Machine.execPtpCommit p s
  | .prefCommit p => Sys2Proof.Machine.execPrefCommit p s
  | .keyLoad index => Sys2Proof.Machine.execKeyLoad index s
  | .keyDestroy index => Sys2Proof.Machine.execKeyDestroy index s
  | .keyDestroyAll => Sys2Proof.Machine.execKeyDestroyAll s
  | .lcCmd target confirm => Sys2Proof.Machine.execLcCmd target confirm s
  | .secCommit => Sys2Proof.Machine.execSecCommit s
  | .rngHealthFail => Sys2Proof.Machine.execRngHealthFail s
  | .smpCommit n => Sys2Proof.Machine.execSmpCommit n s
  | .smpStart n => Sys2Proof.Machine.execSmpStart n s
  | .smpStop n => Sys2Proof.Machine.execSmpStop n s
  | .csCommit n => Sys2Proof.Machine.execCsCommit n s
  | .grpStart k => Sys2Proof.Machine.execGrpStart k s
  | .grpStop k => Sys2Proof.Machine.execGrpStop k s
  | .smpFrameEdge n u => Sys2Proof.Machine.execSmpFrameEdge n u s
  | .smpEdgeTimeout n => Sys2Proof.Machine.execSmpEdgeTimeout n s
  | .hatFrame u => Sys2Proof.Machine.execHatFrame u s
  | .hatLineTimeout => Sys2Proof.Machine.execHatLineTimeout s
  | .reclaim => Sys2Proof.Machine.execReclaim s
  | .renounce => Sys2Proof.Machine.execRenounce s
  | .yield => Sys2Proof.Machine.execYield s
  | .yieldApply => Sys2Proof.Machine.execYieldApply s
  | .healthNow => Sys2Proof.Machine.execHealthNow s
  | .redCommit => Sys2Proof.Machine.execRedCommit s
  | .helloTx => Sys2Proof.Machine.execHelloTx s
  | .helloRx msg => Sys2Proof.Machine.execHelloRx msg s
  | .hatLinkAligned => Sys2Proof.Machine.execHatLinkAligned s
  | .hatLinkTimeout => Sys2Proof.Machine.execHatLinkTimeout s
  | .emberTx => Sys2Proof.Machine.execEmberTx s
  | .emberRx msg => Sys2Proof.Machine.execEmberRx msg s
  | .emberPairTimeout => Sys2Proof.Machine.execEmberPairTimeout s
  | .healthTx => Sys2Proof.Machine.execHealthTx s
  | .healthRx msg => Sys2Proof.Machine.execHealthRx msg s
  | .seeding since => Sys2Proof.Machine.execSeeding since s
  | .loserRelease => Sys2Proof.Machine.execLoserRelease s
  | .winnerRelease => Sys2Proof.Machine.execWinnerRelease s
  | .selftestMbist array corrected uncorrectable => Sys2Proof.Machine.execSelftestMbist array corrected uncorrectable s
  | .selftestSynSweep n u => Sys2Proof.Machine.execSelftestSynSweep n u s
  | .selftestSerdes p errors locked => Sys2Proof.Machine.execSelftestSerdes p errors locked s
  | .powerOn p => Sys2Proof.Machine.execPowerOn p s
  | .resetPin p => Sys2Proof.Machine.execResetPin p s
  | .jtagReset p => Sys2Proof.Machine.execJtagReset p s
  | .reload p => Sys2Proof.Machine.execReload p s
  | .chipReset confirm p => Sys2Proof.Machine.execChipReset confirm p s
  | .headerRead sector64 => Sys2Proof.Machine.execHeaderRead sector64 s
  | .earlySectionsRead ref => Sys2Proof.Machine.execEarlySectionsRead ref s
  | .lateSectionsRead c => Sys2Proof.Machine.execLateSectionsRead c s
  | .emberScan => Sys2Proof.Machine.execEmberScan s
  | .startupComplete aes sha => Sys2Proof.Machine.execStartupComplete aes sha s
  | .profileSet => Sys2Proof.Machine.execProfileSet s
  | .standbyEmber => Sys2Proof.Machine.execStandbyEmber s
  | .emberNow => Sys2Proof.Machine.execEmberNow s
  | .emberProgramDone ok told => Sys2Proof.Machine.execEmberProgramDone ok told s
  | .sectorEraseDone ok => Sys2Proof.Machine.execSectorEraseDone ok s
  | .emberDeadline => Sys2Proof.Machine.execEmberDeadline s
  | .flRead => Sys2Proof.Machine.execFlRead s
  | .flProgram => Sys2Proof.Machine.execFlProgram s
  | .flErase => Sys2Proof.Machine.execFlErase s
  | .flDone ok => Sys2Proof.Machine.execFlDone ok s
  | .registerWrite addr data be long hw => Sys2Proof.Machine.execRegisterWrite addr data be long hw s
  | .rcRead addr be long => Sys2Proof.Machine.execRcRead addr be long s
  | .windowRead addr len errs => Sys2Proof.Machine.execWindowRead addr len errs s
  | .windowWrite addr data => Sys2Proof.Machine.execWindowWrite addr data s
  | .hspiFrame u => Sys2Proof.Machine.execHspiFrame u s
  | .accessWatchdog d => Sys2Proof.Machine.execAccessWatchdog d s
  | .clkStop d => Sys2Proof.Machine.execClkStop d s
  | .clkReturn d => Sys2Proof.Machine.execClkReturn d s
  | .resetHandshakeDone d => Sys2Proof.Machine.execResetHandshakeDone d s
  | .pcieReset e => Sys2Proof.Machine.execPcieReset e s
  | .dumpNow tally tick late => Sys2Proof.Machine.execDumpNow tally tick late s
  | .counterDump tally tick late => Sys2Proof.Machine.execCounterDump tally tick late s
  | .cntLoRead k tally => Sys2Proof.Machine.execCntLoRead k tally s
  | .sampleTrigger obs => Sys2Proof.Machine.execSampleTrigger obs s
  | .telemetrySample die supply => Sys2Proof.Machine.execTelemetrySample die supply s
  | .extSensorRead v0 v1 v2 v3 => Sys2Proof.Machine.execExtSensorRead v0 v1 v2 v3 s
  | .memTrainDone ok => Sys2Proof.Machine.execMemTrainDone ok s
  | .sweepPassDone dram found => Sys2Proof.Machine.execSweepPassDone dram found s
  | .sweepSlow dram => Sys2Proof.Machine.execSweepSlow dram s
  | .brownout rail => Sys2Proof.Machine.execBrownout rail s
  | .srefObservation p cycles rel => Sys2Proof.Machine.execSrefObservation p cycles rel s
  | .ringInterrupt ring => Sys2Proof.Machine.execRingInterrupt ring s
  | .wakeBurstOnMs p => Sys2Proof.Machine.execWakeBurstOnMs p s
  | .pcieConfigWrite busMaster d3hot => Sys2Proof.Machine.execPcieConfigWrite busMaster d3hot s
  | .pmcSelCommit => Sys2Proof.Machine.execPmcSelCommit s
  | .cntHiRead => Sys2Proof.Machine.execCntHiRead s
  | .memCommit => Sys2Proof.Machine.execMemCommit s
  | .bgStarved => Sys2Proof.Machine.execBgStarved s
  | .fltLogWrite => Sys2Proof.Machine.execFltLogWrite s
  | .fltRingWrite => Sys2Proof.Machine.execFltRingWrite s
  | .clearDeg => Sys2Proof.Machine.execClearDeg s
  | .clearSurr => Sys2Proof.Machine.execClearSurr s
  | .logClear => Sys2Proof.Machine.execLogClear s
  | .loopDeadline => Sys2Proof.Machine.execLoopDeadline s
  | .aonLoss => Sys2Proof.Machine.execAonLoss s
  | .resetNAsserted => Sys2Proof.Machine.execResetNAsserted s

end Sys2Proof.Machine
end

