-- ==== Sys2Proof/Safety.lean ====
section
/-! DEFINITION. What a safe run keeps, in the terms the statements use. -/

namespace Sys2Proof.Machine

/-- Registers, shadows, DRAM and flash are held in their one canonical form: keys strictly rising, and no byte listed that
an unlisted address reads as; and DRAM's words with an uncorrectable error rise strictly. Equal contents are then equal data. -/
structure State.Canonical (s : State) : Prop where
  regs : Map.wf s.regs = true
  shadow : Map.wf s.shadow = true
  dram : Mem.wf dramBlank s.dram = true
  bad : s.dramBad.Pairwise (· < ·)
  flash : Mem.wf flashBlank s.nvc.flash = true

/-- What holds of `t` where it follows from `s`: the queue is `s`'s, nothing that has left the part is taken back, no value
that the manual leaves open is drawn twice, and the storage stays canonical. -/
structure State.Follows (s t : State) : Prop where
  queue : t.pending = s.pending
  sent : s.emitted <:+ t.emitted
  drawn : s.freeCtr ≤ t.freeCtr
  canonical : s.Canonical → t.Canonical

/-! ### What a command leaves unchanged

A frame has two parts: the register fields that may read differently, and an equation for all the rest of the state. Storage,
queues and every other part that the equation does not name are then the same. -/

/-- The fields of a list. -/
def among (fs : List Field) (f : Field) : Prop := ∃ g ∈ fs, f.key = g.key

/-- The fields of the registers in [a, a + n). -/
def inside (a n : Nat) (f : Field) : Prop := a ≤ f.key / 32 ∧ f.key / 32 < a + n

/-- Fields of either kind. -/
def either (p q : Field → Prop) (f : Field) : Prop := p f ∨ q f

/-- Every field but those that `p` allows reads in `t` as in `s`. -/
def State.KeepsBut (p : Field → Prop) (s t : State) : Prop := ∀ f : Field, ¬p f → t.get f = s.get f

/-- What the rise of an event may bring elsewhere: its block's bit of INT_STAT (R557). -/
def signalField : Field → Prop := among [R.GLB.INT_STAT.BLOCK]

/-- What a performance counter may bring (R566, R567): the counters, and the wrap event with its index. -/
def countField : Field → Prop :=
  either (inside 0x482000 0x2000) (among [R.PMC.WRAP_IDX.INDEX, R.PMC.EVT.WRAP, R.GLB.INT_STAT.BLOCK])

/-- What a filing may bring (R589, R592): the counters and bits of FLT, the record of a SURRENDER, and the renounce latch with
the role (R488). -/
def filingField : Field → Prop :=
  either (inside 0x500060 32)
    (among [R.FLT.NOTE_CNT.COUNT, R.FLT.DEGRADE_CNT.COUNT, R.FLT.SURRENDER_CNT.COUNT, R.FLT.DROP_CNT.COUNT, R.FLT.STAT.DEGRADED,
      R.FLT.STAT.SURRENDERED, R.FLT.STAT.ALARM, R.FLT.STAT.QUEUE, R.FLT.EVT.DEGRADE, R.FLT.EVT.SURRENDER, R.FLT.EVT.DROP,
      R.RED.STAT.RENOUNCED, R.RED.STAT.ROLE, R.RED.RENOUNCE_CNT.COUNT, R.GLB.INT_STAT.BLOCK])

/-- Only MSI-X messages were sent in addition. -/
def State.SentVectors (s t : State) : Prop := ∃ vs : List Nat, t.emitted = vs.map Emission.msix ++ s.emitted

/-- From `s` to `t` only fields that `p` allows change. -/
structure State.OnlyFields (p : Field → Prop) (s t : State) : Prop where
  fields : s.KeepsBut p t
  rest : t = { s with regs := t.regs }

/-- Only fields that `p` allows change, and what the rise of an event may bring: its block's level, and the block's vector. -/
structure State.OnlySignals (p : Field → Prop) (s t : State) : Prop where
  fields : s.KeepsBut (either p signalField) t
  sent : s.SentVectors t
  rest : t = { s with regs := t.regs, emitted := t.emitted, host := { s.host with pba := t.host.pba } }

/-- The same, and what the performance counters may bring. -/
structure State.OnlyCounts (p : Field → Prop) (s t : State) : Prop where
  fields : s.KeepsBut (either p countField) t
  sent : s.SentVectors t
  rest : t = { s with regs := t.regs, emitted := t.emitted, host := { s.host with pba := t.host.pba },
                      pmc := { s.pmc with wrapped := t.pmc.wrapped } }

/-- The same, and what a filing may bring: FLT's queue, and one draw of what its record leaves open. -/
structure State.OnlyFilings (p : Field → Prop) (s t : State) : Prop where
  fields : s.KeepsBut (either p filingField) t
  sent : s.SentVectors t
  rest : t = { s with regs := t.regs, emitted := t.emitted, host := { s.host with pba := t.host.pba }, freeCtr := t.freeCtr,
                      flt := { s.flt with queue := t.flt.queue, discarded := t.flt.discarded, firsts := t.flt.firsts } }

/-! ### What a filing does -/

/-- The counter of a class (R589). -/
def classCounter : FaultClass → Field
  | .note => R.FLT.NOTE_CNT.COUNT
  | .degrade => R.FLT.DEGRADE_CNT.COUNT
  | .surrender => R.FLT.SURRENDER_CNT.COUNT

/-- Fault `k` with its element has been filed on the way from `s` to `t` (R588, R589, R592): its class is counted, and while the
queue has room its record enters it last, unless it is a NOTE of a masked block. -/
structure State.Filed (k : FaultKind) (element : Nat) (s t : State) : Prop where
  counted : t.get (classCounter k.cls) = (s.get (classCounter k.cls) + 1) % 2 ^ (classCounter k.cls).width
  queued : ¬(k.cls = .note ∧ bitOf (s.get R.FLT.NOTE_MASK.MASK) (k.code / 256) = true) → s.flt.queue.length < 16 →
    ∃ r : FaultRec, t.flt.queue = s.flt.queue ++ [r] ∧ r.kind = k ∧ r.element = element

/-! ### The Hearth -/

/-- A lane as the rules keep it: cadence phase 0 to 4 (R18), ACC below 5^15 (R20), nanoseconds below 10^9 (R11). -/
structure Lane.Regular (l : Lane) : Prop where
  phase : l.phase.toNat < 5
  acc : l.acc.toNat < 30517578125
  valid : t96Ns l.time < 1000000000

/-- The Hearth runs, its start is behind it, all lanes hold `l`, and none is fenced. -/
structure State.Runs (l : Lane) (s : State) : Prop where
  ticking : s.ticking = true
  started : s.red.startDue = false
  laneA : s.hearth.laneA = l
  laneB : s.hearth.laneB = l
  laneC : s.hearth.laneC = l
  unfenced : ∀ n : Fin 3, s.fenced n.val = false

/-! ### Source slots and TDC channels -/

/-- The registers that speak of slot `n`: its own, its bits of STAT_Q and CHG, and the running timers. -/
def slotField (n : Nat) : Field → Prop :=
  either (inside (R.REF.SLOT.CFG.EN n).addr 0x80)
    (among [R.REF.STAT_Q.QUALIFIED, R.REF.STAT_Q.PRESENT, R.REF.CHG.CHANGED, R.SEL.WTR_RUN.RUNNING])

/-- Only slot `n` changes, with its wait-to-restore timer and the events of its registers; every other slot stays. -/
structure State.OnlySlot (n : Nat) (s t : State) : Prop where
  own : ({ s with ref := t.ref, sel := { s.sel with wtrEnd := t.sel.wtrEnd, wtrRan := t.sel.wtrRan } }).OnlySignals (slotField n) t
  others : ∀ m, m ≠ n → Map.get? t.ref m = Map.get? s.ref m

/-- Slot `n` has gone to HOLDOFF with a cause (R117, R119). -/
structure State.HeldOff (n cause : Nat) (t : State) : Prop where
  state : t.slotState n = 4
  cause : t.get (R.REF.SLOT.STAT.CAUSE n) = cause
  event : t.get (R.REF.SLOT.EVT.DISQUALIFIED n) = 1
  unqualified : bitOf (t.get R.REF.STAT_Q.QUALIFIED) n = false

/-- Only TDC channel `n` changes: its registers, its queue and open interval; every other channel stays. -/
structure State.OnlyChannel (n : Nat) (p : Field → Prop) (s t : State) : Prop where
  own : ({ s with tdc := { s.tdc with chans := t.tdc.chans } }).OnlySignals
    (either (inside (R.TDC.CH.CFG.EN n).addr 0x40) p) t
  others : ∀ m, m ≠ n → Map.get? t.tdc.chans m = Map.get? s.tdc.chans m

/-- The registers that speak of synthesizer `n`: its own, the block's summary, and the outputs, which it feeds. -/
def synField (n : Nat) : Field → Prop :=
  either (inside (R.SYN.CH.CFG.EN n).addr 0x80)
    (either (inside 0x80000 0x10000) (among [R.SYN.SUM.LOCKED, R.SYN.SUM.COAST, R.SYN.CHG.CHANGED]))

/-- A command answers a next state of which `P` holds. -/
def Answers (c : Instr) (s : State) (P : State → Prop) : Prop := ∃ t, exec c s = .next t ∧ P t

end Sys2Proof.Machine
end

