-- ==== Sys2Proof/WellFormed.lean ====
section
/-! DEFINITION. Which commands can occur: the ranges of operands that their types do not already give. -/

namespace Sys2Proof

/-- No number twice. -/
def distinct : List Nat → Bool
  | [] => true
  | x :: xs => !xs.contains x && distinct xs

/-- The width of a part of a lane (R47). -/
def LanePart.width : LanePart → Nat
  | .time => 96
  | .acc => 35
  | .phase => 3
  | .rate => 40
  | .integ => 40
  | .prop => 48
  | .eb => 64

/-- The bit lies in its part. -/
def LaneUpset.wf (u : LaneUpset) : Bool := decide (u.bit < u.part.width)

/-- A command as it can occur: an upset within its lane, an identity and a window access of the length the rules
give (R149, R536), a register address of a whole word (R539), a messageType that is granted (R425), a sweep of SYN1 to
SYN3 (R505), one entry for each channel, slot, handler thread or event, a supply of R582. -/
def Instr.wf : Instr → Bool
  | .hearthTick upset => upset.all LaneUpset.wf
  | .secondBoundary => true
  | .loopUpdate => true
  | .changeAnnouncement => true
  | .steerCommit _ => true
  | .integCommit _ => true
  | .stepArm => true
  | .unfence _ => true
  | .hearthRecord _ => true
  | .snap => true
  | .snapLatch => true
  | .leapCommit => true
  | .bankCommit => true
  | .bankRelease => true
  | .ccCommit => true
  | .query => true
  | .refEdge _ _ => true
  | .refGate _ _ => true
  | .slowAbsent _ => true
  | .missWindowClose _ => true
  | .obsMiss _ => true
  | .todMessage _ _ => true
  | .holdoffExpire _ => true
  | .slotCommit _ => true
  | .slotRestart _ => true
  | .swTimeout => true
  | .wtrExpire _ => true
  | .prioCommit => true
  | .clearWtr => true
  | .modelReset => true
  | .loopCommit => true
  | .modelSample => true
  | .idPoll => true
  | .idRead => true
  | .idReadDone bytes => bytes.all (fun b => decide (16 ≤ b.length) && decide (b.length ≤ 128))
  | .statusPoll => true
  | .statusReply _ _ => true
  | .runHour => true
  | .oscLockChange _ => true
  | .commandAck => true
  | .ackTimeout => true
  | .dacFrameDone => true
  | .swcmdSend => true
  | .oscCommit => true
  | .synCommit _ => true
  | .synRelock _ => true
  | .bandCommit => true
  | .syn0FirstSearch => true
  | .bandTrialDone _ _ _ => true
  | .lockWindow _ _ _ => true
  | .synRefLoss _ => true
  | .synRefReturn _ => true
  | .syn0CoastTick => true
  | .outCommit _ => true
  | .outMute _ => true
  | .outUnmute _ => true
  | .realign _ => true
  | .alignComplete _ => true
  | .outputPeriodEnd _ => true
  | .calUpdate _ => true
  | .calLoopbackTimeout _ => true
  | .todOutStart _ => true
  | .tevArm _ => true
  | .tevDisarm _ => true
  | .tevEdge _ => true
  | .tbCommit => true
  | .tdcChCommit _ => true
  | .tdcFlush _ => true
  | .tdcResPop _ => true
  | .tbaseWindow _ => true
  | .tbaseLoss => true
  | .tdcReady => true
  | .tdcLockTimeout => true
  | .spareCalDone hist _ => decide (hist.length = 1024)
  | .tdcEdge _ u => decide (u.dead < u.edges)
  | .intervalTimeout _ => true
  | .feCommit _ => true
  | .feInit _ => true
  | .jamLearn _ => true
  | .feGate _ _ _ => true
  | .spiTransferDone _ => true
  | .scriptDelayDone _ => true
  | .spiGo => true
  | .submit => true
  | .jobFlush => true
  | .jobStart _ => true
  | .dwellDone _ run => decide (run.first + run.samples.length ≤ run.handoff)
  | .jobResultPop => true
  | .chRelease _ => true
  | .chCommit _ => true
  | .integrationDump _ _ => true
  | .pullinTimeout _ => true
  | .syncTimeout _ => true
  | .cn0Loss _ => true
  | .navRecord _ u => decide (u.firstSample ≤ u.lastSample)
  | .jamWindow _ _ _ => true
  | .gnssEpoch _ => true
  | .fwAck _ => true
  | .fwAckTimeout => true
  | .fwRestart => true
  | .solCommit => true
  | .posCommit => true
  | .surveyStart => true
  | .solutionDelivery _ => true
  | .portCommit _ => true
  | .filtCommit _ => true
  | .wakeArm _ => true
  | .prbsClr _ => true
  | .serdesCalDone _ => true
  | .linkConditionChange _ _ => true
  | .linkPendingDone _ => true
  | .faultClearDone _ => true
  | .rxFrame _ _ => true
  | .pauseEnd _ => true
  | .statsLoRead _ _ => true
  | .statsHiRead _ _ => true
  | .signalChange _ _ _ => true
  | .esmcTimeout _ => true
  | .esmcEventTx _ => true
  | .rclkRelease _ => true
  | .txphMeas _ => true
  | .txphPeriodic _ => true
  | .txphDone _ delays => delays.length == 16
  | .grantRequest _ => true
  | .heldGrantsRelease _ => true
  | .unschedReserve _ _ _ => true
  | .launchRelease _ => true
  | .calRun _ => true
  | .ltsCalDone _ launches diffs => decide (diffs.length ≤ launches.length) && decide (launches.length ≤ 1024)
  | .pcalCommit _ => true
  | .clsCommit => true
  | .dispatch => true
  | .lookup _ _ => true
  | .gloveboxDone _ => true
  | .stepOverrun _ => true
  | .fullRetry _ => true
  | .responseDeadline _ => true
  | .rtabCommit => true
  | .engCommit => true
  | .addrCommit => true
  | .doorbell _ _ => true
  | .unschedTxDone _ => true
  | .agingVisit _ => true
  | .mbxRead => true
  | .mbxWrite => true
  | .mbxInsert => true
  | .mbxDelete => true
  | .mbxLookup => true
  | .mbxBadOp => true
  | .ctFlush => true
  | .flushDone => true
  | .bar2TableWrite _ _ _ _ => true
  | .periodicCreate _ _ => true
  | .announceTimeout _ => true
  | .prefRenew _ msg => msg == 0 || msg == 9 || msg == 0xB
  | .prefDelayReq _ => true
  | .smearStart _ => true
  | .smearEnd _ => true
  | .proCommit => true
  | .ptpCommit _ => true
  | .prefCommit _ => true
  | .keyLoad _ => true
  | .keyDestroy _ => true
  | .keyDestroyAll => true
  | .lcCmd _ _ => true
  | .secCommit => true
  | .rngHealthFail => true
  | .smpCommit _ => true
  | .smpStart _ => true
  | .smpStop _ => true
  | .csCommit _ => true
  | .grpStart _ => true
  | .grpStop _ => true
  | .smpFrameEdge _ _ => true
  | .smpEdgeTimeout _ => true
  | .hatFrame _ => true
  | .hatLineTimeout => true
  | .reclaim => true
  | .renounce => true
  | .yield => true
  | .yieldApply => true
  | .healthNow => true
  | .redCommit => true
  | .helloTx => true
  | .helloRx _ => true
  | .hatLinkAligned => true
  | .hatLinkTimeout => true
  | .emberTx => true
  | .emberRx _ => true
  | .emberPairTimeout => true
  | .healthTx => true
  | .healthRx _ => true
  | .seeding _ => true
  | .loserRelease => true
  | .winnerRelease => true
  | .selftestMbist _ _ _ => true
  | .selftestSynSweep n _ => n != 0
  | .selftestSerdes _ _ _ => true
  | .powerOn _ => true
  | .resetPin _ => true
  | .jtagReset _ => true
  | .reload _ => true
  | .chipReset _ _ => true
  | .headerRead _ => true
  | .earlySectionsRead ref => decide (ref.classes.length ≤ 8) && distinct (ref.pma.map (fun e => e.1.val))
  | .lateSectionsRead c => decide (c.gnss.scripts.length ≤ 4) && distinct (c.gloves.map (fun g => g.slot.val))
  | .emberScan => true
  | .startupComplete _ _ => true
  | .profileSet => true
  | .standbyEmber => true
  | .emberNow => true
  | .emberProgramDone _ _ => true
  | .sectorEraseDone _ => true
  | .emberDeadline => true
  | .flRead => true
  | .flProgram => true
  | .flErase => true
  | .flDone _ => true
  | .registerWrite addr _ _ _ _ => addr.toNat % 4 == 0
  | .rcRead addr _ _ => addr.toNat % 4 == 0
  | .windowRead addr len _ => decide (0 < len.val) && decide (addr.toNat + len.val ≤ 0x10000000)
  | .windowWrite addr data => decide (0 < data.length) && decide (data.length ≤ 256) && decide (addr.toNat + data.length ≤ 0x10000000)
  | .hspiFrame _ => true
  | .accessWatchdog _ => true
  | .clkStop _ => true
  | .clkReturn _ => true
  | .resetHandshakeDone _ => true
  | .pcieReset _ => true
  | .dumpNow tally _ _ => distinct (tally.map (fun e => e.1.toNat))
  | .counterDump tally _ _ => distinct (tally.map (fun e => e.1.toNat))
  | .cntLoRead _ tally => distinct (tally.map (fun e => e.1.toNat))
  | .sampleTrigger obs => distinct (obs.map (fun o => o.stoker.val))
  | .telemetrySample die supply => die.length == 4 && supply.length == 12
  | .extSensorRead _ _ _ _ => true
  | .memTrainDone _ => true
  | .sweepPassDone _ _ => true
  | .sweepSlow _ => true
  | .brownout rail => decide (rail.toNat < 12)
  | .srefObservation _ _ _ => true
  | .ringInterrupt _ => true
  | .wakeBurstOnMs _ => true
  | .pcieConfigWrite _ _ => true
  | .pmcSelCommit => true
  | .cntHiRead => true
  | .memCommit => true
  | .bgStarved => true
  | .fltLogWrite => true
  | .fltRingWrite => true
  | .clearDeg => true
  | .clearSurr => true
  | .logClear => true
  | .loopDeadline => true
  | .aonLoss => true
  | .resetNAsserted => true

end Sys2Proof
end

