-- ==== Sys2Proof/Certificates/Slice0/Obligations.lean ====
section
/-! DEFINITION. The statements, for the rules of the manual file by file. -/

open Sys2Proof Sys2Proof.Machine

/-! ### The whole machine -/

/-- A step with a command at the front of the queue is that command's effect on the state with the queue's rest. -/
def Obligations.StepRunsFrontCommand : Prop :=
  ∀ (c : Instr) (rest : List Instr) (s : State), step { s with pending := c :: rest } = exec c { s with pending := rest }

/-- Every command completes in every state; it leaves the queue alone, takes back nothing that was sent, draws no open value
twice, and keeps the storage canonical. -/
def Obligations.EveryCommandFollows : Prop := ∀ (c : Instr) (s : State), Answers c s fun t => s.Follows t

/-- Whatever the state, a step keeps the storage canonical, takes one command from the queue at most, and takes back nothing
that was sent. -/
def Obligations.StepKeepsCanonical : Prop :=
  ∀ s t : State, s.Canonical → step s = .next t → t.Canonical ∧ t.pending = s.pending.tail ∧ s.emitted <:+ t.emitted

/-- Right after reset the storage is canonical, every register field reads its reset value, no command waits and nothing has
been sent; the Hearth is held in reset with every lane at zero, and CK_HOST and CK_AON alone have edges. -/
def Obligations.ResetState : Prop :=
  State.reset.Canonical ∧ (∀ f : Field, State.reset.get f = f.rst) ∧ State.reset.pending = [] ∧ State.reset.emitted = [] ∧
    State.reset.hearth.running = false ∧
    (∀ n : Fin 3, State.reset.hearth.lane n.val = { time := 0, acc := 0, phase := 0, rate := 0, integ := 0, prop := 0, eb := 0 }) ∧
    (∀ d : Fin 24, State.reset.clock d.val = (d.val == 12 || d.val == 23)) ∧
    State.reset.dram = [] ∧ State.reset.dramBad = [] ∧ State.reset.nvc.flash = []

/-! ### Waiting for a boundary -/

/-- The commands that commit a group, with the group and the command's bit. -/
def commitOf : Instr → Option (Group × Field)
  | .leapCommit => some (.tscLeap, R.TSC.LEAP_CTL.COMMIT)
  | .bankCommit => some (.ebdBank, R.EBD.CTL.BANK_COMMIT)
  | .ccCommit => some (.ebdCct, R.EBD.CTL.CC_COMMIT)
  | .slotCommit n => some (.refSlot n, R.REF.SLOT.CTL.COMMIT n)
  | .prioCommit => some (.selPrio, R.SEL.CTL.PRIO_COMMIT)
  | .loopCommit => some (.selLoop, R.SEL.CTL.LOOP_COMMIT)
  | .oscCommit => some (.osc, R.OSC.CTL.COMMIT)
  | .synCommit n => some (.syn n, R.SYN.CH.CTL.COMMIT n)
  | .bandCommit => some (.synBand, R.SYN.CTL_G.BAND_COMMIT)
  | .outCommit n => some (.out n, R.OUT.CH_CTL.COMMIT n)
  | .tbCommit => some (.tdcTb, R.TDC.CTL.TB_COMMIT)
  | .tdcChCommit n => some (.tdcCh n, R.TDC.CH.CTL.COMMIT n)
  | .feCommit n => some (.gnaFe n, R.GNA.FE.CTL.COMMIT n)
  | .chCommit c => some (.gntCh c.toNat, R.GNT.CH.CTL.COMMIT c.toNat)
  | .solCommit => some (.gnsSol, R.GNS.CTL.SOL_COMMIT)
  | .posCommit => some (.gnsPos, R.GNS.CTL.POS_COMMIT)
  | .portCommit p => some (.ethPort p, R.ETH.CTL.COMMIT p)
  | .filtCommit p => some (.ethFilt p, R.ETH.CTL.FILT_COMMIT p)
  | .pcalCommit p => some (.ltsPcal p, R.LTS.PORT.CTL.COMMIT p)
  | .clsCommit => some (.ltsCls, R.LTS.CTL.CLS_COMMIT)
  | .rtabCommit => some (.rseRtab, R.RSE.CTL.RTAB_COMMIT)
  | .engCommit => some (.rseEng, R.RSE.CTL.ENG_COMMIT)
  | .addrCommit => some (.rseAddr, R.RSE.CTL.ADDR_COMMIT)
  | .proCommit => some (.proGlb, R.PRO.CTL.COMMIT)
  | .ptpCommit p => some (.proPtp p, R.PRO.PORT.CTL.COMMIT p)
  | .prefCommit p => some (.proPref p, R.PRO.PREF.CTL.COMMIT p)
  | .secCommit => some (.glvSec, R.GLV.CTL.SEC_COMMIT)
  | .smpCommit n => some (.smpPort n, R.SMP.PORT.CTL.COMMIT n)
  | .csCommit n => some (.smpCstx n, R.SMP.PORT.CTL.CS_COMMIT n)
  | .redCommit => some (.red, R.RED.CTL.COMMIT)
  | .pmcSelCommit => some (.pmcSel, R.PMC.CTL.SEL_COMMIT)
  | .memCommit => some (.memCfg, R.MEM.CTL.COMMIT)
  | _ => none

/-- A commit takes a copy of its group's shadows as they stand, which replaces an earlier copy; its command bit reads one;
copies of other groups, and all the rest, stay. -/
def Obligations.CommitCopiesShadows : Prop :=
  ∀ (c : Instr) (g : Group) (bit : Field) (s : State), s.Canonical → commitOf c = some (g, bit) →
    Answers c s fun t =>
      t.get bit = 1 ∧ t.committed g = some ⟨g, s.now, s.shadowOf g⟩ ∧ (∀ h, h ≠ g → t.committed h = s.committed h) ∧
      ({ s with commits := t.commits }).OnlyFields (among [bit]) t

/-- At its boundary a group whose rule accepts its copy is put into force whole: every field of the copy reads the value
copied, the command bit reads zero, and the copy no longer waits. -/
def Obligations.AcceptedGroupTakesEffect : Prop :=
  ∀ (g : Group) (bit reject : Field) (ok : State → State → Bool) (s : State) (c : Commit),
    s.Canonical → s.committed g = some c → ok ((s.uncommit g).set bit 0) (((s.uncommit g).set bit 0).load c.copy) = true →
    (∀ w ∈ c.copy, w.field.key ≠ bit.key ∧ w.value < 2 ^ w.field.width) →
    c.copy.Pairwise (fun a b => a.field.key ≠ b.field.key) →
    let t := s.takeGroup g bit reject ok (fun _ new => new)
    (∀ w ∈ c.copy, t.get w.field = w.value) ∧ t.get bit = 0 ∧ t.committed g = none ∧
      (∀ h, h ≠ g → t.committed h = s.committed h) ∧
      s.KeepsBut (either (among [bit]) (among (c.copy.map Waiting.field))) t ∧
      t = { s with regs := t.regs, commits := t.commits, nvc := { s.nvc with switching := t.nvc.switching } }

/-- A group that its rule rejects leaves every value in force, but for the command bit and the block's event. -/
def Obligations.RejectedGroupChangesNothing : Prop :=
  ∀ (g : Group) (bit reject : Field) (ok : State → State → Bool) (after : State → State → State) (s : State) (c : Commit),
    s.Canonical → reject.key ≠ R.GLB.INT_STAT.BLOCK.key → bit.key ≠ reject.key →
    bit.key ≠ R.GLB.INT_STAT.BLOCK.key → s.committed g = some c → s.nvc.switching.contains g = false →
    ok ((s.uncommit g).set bit 0) (((s.uncommit g).set bit 0).load c.copy) = false →
    let t := s.takeGroup g bit reject ok after
    t.get reject = 2 ^ reject.width - 1 ∧ t.get bit = 0 ∧ t.committed g = none ∧
      ({ s with commits := t.commits }).OnlySignals (among [bit, reject]) t

/-- Commands that only wait: their bit reads one until the boundary, and nothing else changes. UNFENCE has no effect on an unfenced
lane. -/
def Obligations.CommandBitWaits : Prop :=
  ∀ s : State, s.Canonical →
    (∀ n : Fin 3, (s.fenced n.val = true → Answers (.unfence n) s fun t =>
        t.get (unfenceField n.val) = 1 ∧ s.OnlyFields (among [unfenceField n.val]) t) ∧
      (s.fenced n.val = false → Answers (.unfence n) s fun t => t = s)) ∧
    (Answers .bankRelease s fun t => t.get R.EBD.CTL.BANK_RELEASE = 1 ∧ s.OnlyFields (among [R.EBD.CTL.BANK_RELEASE]) t) ∧
    (∀ n : Fin 16, Answers (.slotRestart n) s fun t =>
      t.get (R.REF.SLOT.CTL.RESTART n) = 1 ∧ s.OnlyFields (among [R.REF.SLOT.CTL.RESTART n]) t) ∧
    (Answers .clearWtr s fun t => t.get R.SEL.CTL.CLEAR_WTR = 1 ∧ s.OnlyFields (among [R.SEL.CTL.CLEAR_WTR]) t) ∧
    (Answers .modelReset s fun t => t.get R.SEL.CTL.MODEL_RESET = 1 ∧ s.OnlyFields (among [R.SEL.CTL.MODEL_RESET]) t) ∧
    (∀ n : Fin 4, Answers (.synRelock n) s fun t =>
      t.get (R.SYN.CH.CTL.RELOCK n) = 1 ∧ s.OnlyFields (among [R.SYN.CH.CTL.RELOCK n]) t) ∧
    (Answers .surveyStart s fun t => t.get R.GNS.CTL.SURVEY_START = 1 ∧ s.OnlyFields (among [R.GNS.CTL.SURVEY_START]) t) ∧
    (Answers .emberNow s fun t => t.get R.NVC.CTL.EMBER_NOW = 1 ∧ s.OnlyFields (among [R.NVC.CTL.EMBER_NOW]) t) ∧
    (∀ bits : BitVec 16, Answers (.realign bits) s fun t =>
      t.get R.OUT.CTL.REALIGN = (s.get R.OUT.CTL.REALIGN ||| bits.toNat) % 65536 ∧ s.OnlyFields (among [R.OUT.CTL.REALIGN]) t) ∧
    (∀ k : Fin 4, Answers (.grpStop k) s fun t =>
      bitOf (t.get R.SMP.CTL.GRP_STOP) k = true ∧ s.OnlyFields (among [R.SMP.CTL.GRP_STOP]) t) ∧
    (Answers .snap s fun t => t.get R.TSC.STAT.SNAP_BUSY ≠ 0 ∧
      (s.flag R.TSC.STAT.SNAP_BUSY = false → t.get R.TSC.CTL.SNAP = 1) ∧
      s.OnlyFields (among [R.TSC.STAT.SNAP_BUSY, R.TSC.CTL.SNAP]) t)

/-! ### The Hearth -/

/-- One tick of a regular lane: the cadence table, the carry out of ACC with its remainder on phase 4, the phase 0 to 4 and
back to 0, and the nanoseconds carried into the seconds at 10^9. -/
def Obligations.TickFollowsCadence : Prop :=
  ∀ l : Lane, l.Regular →
    let ph := l.phase.toNat
    let sum : Int := l.acc.toNat + 16 * l.rate.toInt
    let advance : Int := [104858, 104857, 104858, 104857, 104858].getD ph 0 + (if ph = 4 then sum / 30517578125 else 0)
    let low : Int := t96Ns l.time * 65536 + t96Frac l.time + advance
    let m := l.tick
    (m.phase.toNat = if ph = 4 then 0 else ph + 1) ∧
      ((m.acc.toNat : Int) = if ph = 4 then sum % 30517578125 else l.acc.toNat) ∧
      (if 1000000000 * 65536 ≤ low then
        (t96Ns m.time * 65536 + t96Frac m.time : Int) = low - 1000000000 * 65536 ∧ t96Sec m.time = (t96Sec l.time + 1) % 2 ^ 48
       else (t96Ns m.time * 65536 + t96Frac m.time : Int) = low ∧ t96Sec m.time = t96Sec l.time) ∧
      m.rate = l.rate ∧ m.integ = l.integ ∧ m.prop = l.prop ∧ m.eb = l.eb ∧ m.Regular

/-- With a steering value of zero, a tick advances the time by the amount of the table for its cadence phase, and five ticks add
exactly 524,288 units of 2^-16 ns, which is 8 ns. -/
def Obligations.FiveTicksAddEightNanoseconds : Prop :=
  ∀ l : Lane, l.Regular → l.rate = 0 →
    t96Lin l.tick.time = (t96Lin l.time + [104858, 104857, 104858, 104857, 104858].getD l.phase.toNat 0) % (2 ^ 48 * secU) ∧
    t96Lin (Nat.repeat Lane.tick 5 l).time = (t96Lin l.time + 524288) % (2 ^ 48 * secU) ∧ (Nat.repeat Lane.tick 5 l).acc = l.acc ∧
      (Nat.repeat Lane.tick 5 l).phase = l.phase

/-- Any number of ticks at once come to as many single ticks. -/
def Obligations.ManyTicksAtOnce : Prop :=
  ∀ (l : Lane) (n : Nat), l.Regular → l.advance n = Nat.repeat Lane.tick n l

/-- HEARTH_TICK with the lanes in step: every lane takes its tick, the tick number counts, a wrap of the nanoseconds makes the
tick a second boundary. An upset in one lane leaves the vote and the other lanes as they would have been, and only the counters
of disagreement can differ. -/
def Obligations.HearthTick : Prop :=
  ∀ (s : State) (l : Lane), s.Canonical → s.Runs l → l.Regular →
    (Answers (.hearthTick none) s fun t =>
      t.hearth.laneA = l.tick ∧ t.hearth.laneB = l.tick ∧ t.hearth.laneC = l.tick ∧ t.hearth.tick = s.hearth.tick + 1 ∧
      t.hearth.secondDue = (s.hearth.secondDue || decide (t96Sec l.time < t96Sec l.tick.time)) ∧
      t = { s with hearth := { s.hearth with
        laneA := l.tick, laneB := l.tick, laneC := l.tick, tick := s.hearth.tick + 1, stepTick := none,
        secondDue := t.hearth.secondDue, updateDue := t.hearth.updateDue, disagreed := t.hearth.disagreed } }) ∧
    (∀ u : LaneUpset, Answers (.hearthTick (some u)) s fun t =>
      t.voted = l.tick ∧ (∀ n : Fin 3, n ≠ u.lane → t.hearth.lane n.val = l.tick) ∧ t.hearth.tick = s.hearth.tick + 1 ∧
      (t.get (R.TSC.LANE_DIS.TICKS u.lane) = s.get (R.TSC.LANE_DIS.TICKS u.lane) ∨
        t.get (R.TSC.LANE_DIS.TICKS u.lane) = min 0xFFFFFFFF (s.get (R.TSC.LANE_DIS.TICKS u.lane) + 1)) ∧
      ({ s with hearth := t.hearth }).OnlyCounts (among [R.TSC.LANE_DIS.TICKS u.lane]) t)

/-- SECOND_BOUNDARY where the present tick is not one: the fewest ticks pass that carry the nanoseconds into the seconds; then
the boundary's work is done, and so it is at once where the tick is one already. -/
def Obligations.SecondBoundary : Prop :=
  ∀ (s : State) (l : Lane), s.Runs l → l.Regular → t96Sec l.time + 1 < 2 ^ 48 →
    (s.hearth.secondDue = true → Answers .secondBoundary s fun t => t = s.secondWork) ∧
    (s.hearth.secondDue = false → ∃ n : Nat, 1 ≤ n ∧
      (Answers .secondBoundary s fun t => t = (s.passTicks n).secondWork) ∧
      (s.passTicks n).second = s.second + 1 ∧ (s.passTicks n).hearth.secondDue = true ∧
      ∀ m, m < n → (s.passTicks m).second = s.second)

/-- LOOP_UPDATE likewise: the fewest ticks pass until the nanoseconds reach or pass a multiple of 10^9 / 2^LOOP_RATE.

CHANGE_ANNOUNCEMENT: where 64 ticks or more are left to the coming update, as many pass that 64 are left, and then the change
is announced: where the update leaves more than the ticks alone, the replicas whose domains have a clock receive the record of the
update's tick. -/
def Obligations.UpdateAndAnnouncement : Prop :=
  (∀ (s : State) (l : Lane), s.Runs l → l.Regular → t96Sec l.time + 1 < 2 ^ 48 → s.get R.TSC.CFG.LOOP_RATE ≤ 4 →
     let n := 2 ^ s.get R.TSC.CFG.LOOP_RATE
     let multiples (t : Int) : Int := t * n / secU
     (s.hearth.updateDue = true → Answers .loopUpdate s fun t => t = s.loopWork) ∧
     (s.hearth.updateDue = false → ∃ k : Nat, 1 ≤ k ∧
       (Answers .loopUpdate s fun t => t = (s.passTicks k).loopWork) ∧
       multiples (s.passTicks k).now = multiples s.now + 1 ∧ ∀ m, m < k → multiples (s.passTicks m).now = multiples s.now)) ∧
  (∀ (s : State) (l : Lane) (n : Nat), s.Runs l → l.Regular → s.hearth.announced = false → s.hearth.updateDue = false →
     n = l.ticksTo s.toUpdate → 64 < n → (∀ p : Fin 4, (s.flue p.val).resv = []) →
     let u := s.passTicks (n - 64)
     Answers .changeAnnouncement s fun t =>
       t.hearth.announced = true ∧ t.hearth.tick = s.hearth.tick + BitVec.ofNat 32 (n - 64) ∧ t.voted = l.advance (n - 64) ∧
       (u.coming.record ≠ (u.passTicks u.ticksToUpdate).record → ∀ d ∈ [0, 2, 3, 4, 5, 11, 12, 22], s.clock d = true →
         ∃ r, Map.get? t.hearth.replicas d = some r ∧ r.records.head? = some u.coming.record))

/-- HEARTH_RECORD at a tick whose number is a multiple of 1,024: every replica whose domain has a clock takes the record of the tick,
and is valid from its second record on; the others keep what they hold. A tie of a present time base is kept with the record unless
its ratio departs too far. Where a boundary of the tick still has its work to do, the record waits for it. From another tick the
ticks up to such a one pass first, unless a boundary lies before it. -/
def Obligations.HearthRecord : Prop :=
  ∀ s : State, s.Canonical → s.ticking = true →
    let now_ := s.hearth.tick.toNat % 1024 = 0 ∧ s.hearth.recordTick ≠ some s.hearth.tick
    let record (t : State) : Prop := ∀ d ∈ [0, 2, 3, 4, 5, 11, 12, 22],
      if s.clock d = true then ∃ r, Map.get? t.hearth.replicas d = some r ∧ r.records.head? = some s.record ∧
        r.received = (s.replica d).received + 1 ∧ r.valid = ((s.replica d).valid || decide (1 ≤ (s.replica d).received))
      else Map.get? t.hearth.replicas d = Map.get? s.hearth.replicas d
    (now_ → s.hearth.updateDue = false → s.hearth.secondDue = false →
      (∀ tie : Option Int, tie = none ∨ s.get R.TDC.STAT.STATE = 0 → Answers (.hearthRecord tie) s fun t =>
        record t ∧ t = { s with hearth := { s.hearth with
          replicas := t.hearth.replicas, recordTick := some s.hearth.tick } }) ∧
      (∀ u : Int, s.get R.TDC.STAT.STATE ≠ 0 → ratioBad (tieRatio ((⟨s.record, u⟩ :: s.tdc.ties).take 16)) = false →
        Answers (.hearthRecord (some u)) s fun t =>
          record t ∧ t.tdc.ties = (⟨s.record, u⟩ :: s.tdc.ties).take 16 ∧ t.get R.TDC.STAT.RATIO_FAIL = 0 ∧
          ({ s with hearth := { s.hearth with replicas := t.hearth.replicas, recordTick := some s.hearth.tick },
                    tdc := { s.tdc with ties := t.tdc.ties } }).OnlyFields (among [R.TDC.STAT.RATIO_FAIL]) t)) ∧
    (∀ tie : Option Int, now_ → s.hearth.updateDue = true ∨ s.hearth.secondDue = true → Answers (.hearthRecord tie) s fun t =>
      t = { s with hearth := { s.hearth with recordTick := some s.hearth.tick, recordDue := some tie } }) ∧
    (∀ tie : Option Int, ¬now_ →
      let n := 1024 - s.hearth.tick.toNat % 1024
      (s.hearth.updateDue = false → s.hearth.secondDue = false → n ≤ s.ticksToUpdate → Answers (.hearthRecord tie) s fun t =>
        t = (s.passTicks n).recordNow tie) ∧
      (s.hearth.updateDue = true ∨ s.hearth.secondDue = true ∨ s.ticksToUpdate < n → Answers (.hearthRecord tie) s fun t => t = s))

/-- STEER_COMMIT and INTEG_COMMIT: both words are committed, word 0 as its shadow stands, or the last committed; both read as
committed from then on, and no shadow of theirs is left. The value replaces one that waits for the same update; with fewer than 128
ticks left it is deferred by an update, with LATE_COMMIT, and one that came in time stays. -/
def Obligations.SoftwareRateCommits : Prop :=
  ∀ (s : State) (hi : BitVec 8), s.Canonical →
    let word (f : Field) : Nat := match Map.get? s.shadow f.key with | some w => w.value | none => s.get f
    let steer := word R.TSC.STEER0.VALUE + hi.toNat * 2 ^ 32
    let integ := word R.TSC.INTEG0.VALUE + hi.toNat * 2 ^ 32
    let late := decide (s.leadTicks < 128)
    let joined (v : Nat) (cs : List SoftCommit) : List SoftCommit :=
      cs.filter (fun x => x.deferred != late) ++ [⟨toSigned 40 v, late⟩]
    let rest (lo hi : Field) (h : Hearth) (t : State) : Prop :=
      (∀ e ∈ t.shadow, e ∈ s.shadow ∧ e.2.field.key ≠ lo.key ∧ e.2.field.key ≠ hi.key) ∧
      (late = true → t.get R.TSC.EVT.LATE_COMMIT = 1) ∧
      ({ s with hearth := h, shadow := t.shadow }).OnlySignals
        (among (lo :: hi :: (if late then [R.TSC.EVT.LATE_COMMIT] else []))) t
    (s.ticking = true → s.hearth.updateDue = true → late = true) ∧
    (Answers (.steerCommit hi) s fun t =>
      t.hearth.steerPend = joined steer s.hearth.steerPend ∧
      t.get2 R.TSC.STEER0.VALUE R.TSC.STEER1.VALUE = steer % 2 ^ 40 ∧
      rest R.TSC.STEER0.VALUE R.TSC.STEER1.VALUE { s.hearth with steerPend := t.hearth.steerPend } t) ∧
    (Answers (.integCommit hi) s fun t =>
      t.hearth.integPend = joined integ s.hearth.integPend ∧
      t.get2 R.TSC.INTEG0.VALUE R.TSC.INTEG1.VALUE = integ % 2 ^ 40 ∧
      rest R.TSC.INTEG0.VALUE R.TSC.INTEG1.VALUE { s.hearth with integPend := t.hearth.integPend } t)

/-- The rate an update applies, in every state but UNSET: P within min(SLEW.MAX, 500,000) ppt, INTEG no further from its value
than SLEW.INTEG_STEP ppt, S their sum saturated at 40 bits; requests within the limits are applied as they are, and whatever
was cut is flagged. In UNSET neither limit applies; in every state an S that is not as requested is flagged. -/
def Obligations.RateLimits : Prop :=
  ∀ (s : State) (integ p : Int),
    let r := s.planRate integ (fun _ => p)
    let lim : Int := min (s.get R.TSC.SLEW.MAX) 500000 * 1000
    let step : Int := s.get R.TSC.SLEW.INTEG_STEP * 1000
    (-(2 ^ 39) ≤ r.rate ∧ r.rate ≤ 2 ^ 39 - 1) ∧
    (-(2 ^ 39) ≤ r.integ + r.prop → r.integ + r.prop ≤ 2 ^ 39 - 1 → r.rate = r.integ + r.prop) ∧
    (s.get R.TSC.STAT.STATE ≠ 0 →
      (-lim ≤ r.prop ∧ r.prop ≤ lim) ∧ (-lim ≤ p → p ≤ lim → r.prop = p) ∧ (r.prop ≠ p → r.steerClamped = true) ∧
      ((r.integ - s.voted.integ.toInt).natAbs ≤ s.get R.TSC.SLEW.INTEG_STEP * 1000) ∧
      (-(2 ^ 39) ≤ integ → integ ≤ 2 ^ 39 - 1 → -step ≤ integ - s.voted.integ.toInt → integ - s.voted.integ.toInt ≤ step →
        r.integ = integ ∧ r.integClamped = false) ∧
      (s.voted.integ.toInt - step ≤ integ → integ ≤ s.voted.integ.toInt + step → r.integClamped = false) ∧
      (integ < s.voted.integ.toInt - step ∨ s.voted.integ.toInt + step < integ → r.integClamped = true)) ∧
    (r.integClamped = false → r.rate ≠ integ + p → r.steerClamped = true) ∧
    (s.get R.TSC.STAT.STATE = 0 → r.prop = p ∧ r.integClamped = false ∧
      (-(2 ^ 39) ≤ integ → integ ≤ 2 ^ 39 - 1 → r.integ = integ))

/-- STEP_ARM: STEPPED becomes ARMED, UNSET and ARMED stay; in the tick of a step the step absorbs it, and the state stays
STEPPED. In the tick of a loop update whose work is still to be done it waits for what that work brings. -/
def Obligations.StepArm : Prop :=
  ∀ s : State, s.Canonical →
    (s.hearth.stepTick = some s.hearth.tick → Answers .stepArm s fun t =>
      t.get R.TSC.EVT.ARM_ABSORBED = 1 ∧ (s.get R.TSC.STAT.STATE = 2 → t.get R.TSC.STAT.STATE = 2) ∧
      s.OnlySignals (among [R.TSC.EVT.ARM_ABSORBED]) t) ∧
    (s.hearth.stepTick ≠ some s.hearth.tick → s.hearth.updateDue = true → Answers .stepArm s fun t =>
      t = { s with hearth := { s.hearth with armDue := true } }) ∧
    (s.hearth.stepTick ≠ some s.hearth.tick → s.hearth.updateDue = false →
      (s.get R.TSC.STAT.STATE = 2 → Answers .stepArm s fun t =>
        t.get R.TSC.STAT.STATE = 1 ∧ s.OnlyFields (among [R.TSC.STAT.STATE]) t) ∧
      (s.get R.TSC.STAT.STATE ≠ 2 → Answers .stepArm s fun t => t = s))

/-- SNAP_LATCH with a snapshot pending: the snapshot registers hold the voted TIME96 and the tick number of one tick, SNAP_BUSY
clears and SNAP_DONE is set. In the tick of a loop update it waits for that update's work. -/
def Obligations.SnapshotLatches : Prop :=
  ∀ s : State, s.Canonical → s.ticking = true → s.flag R.TSC.STAT.SNAP_BUSY = true → t96Ns s.voted.time < 1000000000 →
    (s.hearth.updateDue = true → Answers .snapLatch s fun t => t = { s with hearth := { s.hearth with snapDue := true } }) ∧
    (s.hearth.updateDue = false → Answers .snapLatch s fun t =>
      t.get R.TSC.SNAP_FRAC.FRAC = t96Frac s.voted.time ∧ t.get R.TSC.SNAP_NS.NS = t96Ns s.voted.time ∧
      t.get R.TSC.SNAP_SEC_LO.SEC + t.get R.TSC.SNAP_SEC_HI.SEC * 2 ^ 32 = t96Sec s.voted.time ∧
      t.get R.TSC.SNAP_TICK.TICK = s.hearth.tick.toNat ∧ t.flag R.TSC.STAT.SNAP_BUSY = false ∧ t.get R.TSC.EVT.SNAP_DONE = 1 ∧
      s.OnlySignals (among [R.TSC.SNAP_FRAC.FRAC, R.TSC.SNAP_NS.NS, R.TSC.SNAP_SEC_LO.SEC, R.TSC.SNAP_SEC_HI.SEC,
        R.TSC.SNAP_TICK.TICK, R.TSC.STAT.SNAP_BUSY, R.TSC.CTL.SNAP, R.TSC.EVT.SNAP_DONE]) t)

/-- QUERY, ignored while one is busy: EB at the query instant, or saturated where the instant lies more than a second ahead or
the Hearth is held in reset; PAST and RANGE say which exception applied; an instant with an invalid nanoseconds field is
rejected and filed. -/
def Obligations.ErrorBoundQuery : Prop :=
  ∀ s : State, s.Canonical →
    let free := s.flag R.EBD.STAT.QUERY_BUSY = false
    let t0 : Int := (s.get R.EBD.QUERY_SEC_LO.SEC + s.get R.EBD.QUERY_SEC_HI.SEC * 2 ^ 32) * (1000000000 * 65536) +
      s.get R.EBD.QUERY_NS.NS * 65536 + s.get R.EBD.QUERY_FRAC.FRAC
    let results := [R.EBD.QUERY_EB.EB, R.EBD.QUERY_STAT.PAST, R.EBD.QUERY_STAT.RANGE, R.EBD.STAT.QUERY_BUSY, R.EBD.EVT.QUERY_DONE]
    (¬free → Answers .query s fun t => t = s) ∧
    (free → s.get R.EBD.QUERY_NS.NS < 1000000000 → Answers .query s fun t =>
      (s.hearth.running = false → t.get R.EBD.QUERY_EB.EB = 0xFFFFFFFF ∧ t.flag R.EBD.QUERY_STAT.PAST = false ∧
        t.flag R.EBD.QUERY_STAT.RANGE = false) ∧
      (s.hearth.running = true →
        t.flag R.EBD.QUERY_STAT.PAST = decide (t0 < s.now) ∧
        t.flag R.EBD.QUERY_STAT.RANGE = decide (s.now + 1000000000 * 65536 < t0) ∧
        (s.now + 1000000000 * 65536 < t0 → t.get R.EBD.QUERY_EB.EB = 0xFFFFFFFF) ∧
        (t0 < s.now → t.get R.EBD.QUERY_EB.EB = ebReport (s.ebExtend s.now)) ∧
        (s.now ≤ t0 → t0 ≤ s.now + 1000000000 * 65536 → t.get R.EBD.QUERY_EB.EB = ebReport (s.ebExtend t0))) ∧
      t.flag R.EBD.STAT.QUERY_BUSY = false ∧ t.get R.EBD.EVT.QUERY_DONE = 1 ∧ s.OnlySignals (among results) t) ∧
    (free → 1000000000 ≤ s.get R.EBD.QUERY_NS.NS → Answers .query s fun t =>
      State.Filed F.ebdBadTime 0 s t ∧ s.OnlyFilings (among []) t)

/-! ### References and interval measurement -/

/-- REF_GATE: a gate of a fast input shows presence; no edge, or a second gate in succession out of rate, sends an active slot
to HOLDOFF with the lowest cause. On a slow input an edge shows presence. SLOW_ABSENT ends it. -/
def Obligations.ReferencePresence : Prop :=
  ∀ (s : State) (n : Fin 8), s.Canonical →
    (∀ count : BitVec 32, 1000 ≤ s.get (R.REF.SLOT.NOM.NOM n) →
      let off : Int := count.toNat * 1000000 - s.get (R.REF.SLOT.NOM.NOM n) * 1000
      let out := s.get (R.REF.SLOT.NOM.NOM n) + 2000000 < off.natAbs
      let runs := if out then (s.slot n).outOfRate + 1 else 0
      Answers (.refGate n count) s fun t =>
        t.flag (R.REF.SLOT.STAT.PRESENT n) = decide (count ≠ 0) ∧
        bitOf (t.get R.REF.STAT_Q.PRESENT) n = decide (count ≠ 0) ∧ (t.slot n).outOfRate = runs ∧
        (s.slotActive n = true → count = 0 → t.HeldOff n 1) ∧
        (s.slotActive n = true → count ≠ 0 → 2 ≤ runs → t.HeldOff n 2) ∧
        ((s.slotActive n = false ∨ count ≠ 0 ∧ runs < 2) → t.slotState n = s.slotState n) ∧ s.OnlySlot n t) ∧
    (∀ count : BitVec 32, s.get (R.REF.SLOT.NOM.NOM n) < 1000 →
      Answers (.refGate n count) s fun t =>
        (count ≠ 0 → t.flag (R.REF.SLOT.STAT.PRESENT n) = true) ∧ (count = 0 → t = s) ∧
        s.OnlyFields (among [R.REF.SLOT.STAT.PRESENT n, R.REF.STAT_Q.PRESENT]) t) ∧
    (s.get (R.REF.SLOT.NOM.NOM n) < 1000 → Answers (.slowAbsent n) s fun t =>
      t.flag (R.REF.SLOT.STAT.PRESENT n) = false ∧ (s.slotActive n = true → t.HeldOff n 1) ∧
      (s.slotActive n = false → t.slotState n = s.slotState n) ∧ s.OnlySlot n t)

/-- A miss of an active slot, by MISS_WINDOW_CLOSE half a second or more after the last edge, or by OBS_MISS once twice the
interval in force has passed without an observation, is counted and flagged; MISS_N in succession send the slot to HOLDOFF with
cause 3. HOLDOFF_EXPIRE ends a holdoff whose time has passed and whose source check holds. -/
def Obligations.MissesAndHoldoff : Prop :=
  ∀ s : State, s.Canonical → s.slotsDiscard = false →
    let missed (n : Nat) (t : State) : Prop :=
      (t.slot n).misses = (s.slot n).misses + 1 ∧
      t.get (R.REF.SLOT.MISS_CNT.COUNT n) = (s.get (R.REF.SLOT.MISS_CNT.COUNT n) + 1) % 2 ^ 32 ∧
      t.get (R.REF.SLOT.EVT.MISS n) = 1 ∧
      (s.get (R.REF.SLOT.TIMING.MISS_N n) ≤ (s.slot n).misses + 1 → t.HeldOff n 3) ∧
      ((s.slot n).misses + 1 < s.get (R.REF.SLOT.TIMING.MISS_N n) → t.slotState n = s.slotState n) ∧ s.OnlySlot n t
    (∀ (n : Fin 8) (e : Int), s.ticking = true → s.slotActive n = true → s.slotKind n ≠ 0 → (s.slot n).lastEdge = some e →
      1000000000 * 65536 / 2 ≤ s.now - e → Answers (.missWindowClose n) s (missed n)) ∧
    (∀ k : Fin 8, s.slotActive (8 + k.val) = true →
      (2 * s.obsInterval (8 + k.val) ≤ s.now - (s.slot (8 + k.val)).lastObs → Answers (.obsMiss k) s fun t =>
        missed (8 + k.val) t ∧ (t.slotState (8 + k.val) = 4 → t.flag (R.REF.SLOT.STAT.PRESENT (8 + k.val)) = false)) ∧
      (s.now - (s.slot (8 + k.val)).lastObs < 2 * s.obsInterval (8 + k.val) → Answers (.obsMiss k) s fun t => t = s)) ∧
    (∀ n : Fin 16, s.slotState n = 4 → (s.hearth.running = true → (s.slot n).holdEnd ≤ s.now) →
      (n = 8 → (s.slot 8).sourceBad = false) →
      Answers (.holdoffExpire n) s fun t => t.slotState n = 1 ∧ s.OnlySlot n t) ∧
    (∀ n : Fin 16, s.hearth.running = true → s.now < (s.slot n).holdEnd → Answers (.holdoffExpire n) s fun t => t = s)

/-- TOD_MESSAGE on a TIME slot that takes messages: one that stays out or fails its checks is an error, which clears TOD_OK, is
counted, and at ERR_N in succession sends an active slot to HOLDOFF with cause 6; with ALIGN = 0 a good one that continues the
labels and whose pulse came 20 ms to 980 ms before counts, and CONFIRM of them set TOD_OK; one that does not is an error too, and
leaves the pulse to a message that may yet come. -/
def Obligations.TimeOfDayMessages : Prop :=
  ∀ (s : State) (n : Fin 8), s.Canonical → s.ticking = true → s.slotState n ≠ 0 → s.slotKind n = 2 →
    s.flag (R.REF.SLOT.TOD.EN n) = true →
    (∀ msg : Option (List Byte), (∀ m, msg = some m → s.todLabel n m = none) → Answers (.todMessage n msg) s fun t =>
      t.flag (R.REF.SLOT.STAT.TOD_OK n) = false ∧ (t.slot n).todErr = (s.slot n).todErr + 1 ∧ (t.slot n).todGood = 0 ∧
      t.get (R.REF.SLOT.TOD_ERR_CNT.COUNT n) = (s.get (R.REF.SLOT.TOD_ERR_CNT.COUNT n) + 1) % 2 ^ 32 ∧
      t.get (R.REF.SLOT.EVT.TOD_ERR n) = 1 ∧
      (s.slotActive n = true → s.get (R.REF.SLOT.TOD.ERR_N n) ≤ (s.slot n).todErr + 1 → t.HeldOff n 6) ∧ s.OnlySlot n t) ∧
    (∀ (m : List Byte) (label : Nat) (e : Int), s.todLabel n m = some label → (∀ l, (s.slot n).lastLabel = some l → label = l + 1) →
      s.flag (R.REF.SLOT.TOD.ALIGN n) = false → (s.slot n).edgeWait = some e →
      20000000 * 65536 ≤ s.now - e → s.now - e ≤ 980000000 * 65536 → Answers (.todMessage n (some m)) s fun t =>
        (s.get (R.REF.SLOT.TOD.CONFIRM n) ≤ (s.slot n).todGood + 1 → t.flag (R.REF.SLOT.STAT.TOD_OK n) = true) ∧
        (t.slot n).todErr = 0 ∧ (t.slot n).lastLabel = some label ∧ (t.slot n).edgeWait = none ∧
        (∀ k, k ≠ n.val → Map.get? t.ref k = Map.get? s.ref k) ∧ s.KeepsBut (either (slotField n) signalField) t) ∧
    (∀ (m : List Byte) (label : Nat) (e : Int), s.todLabel n m = some label → s.flag (R.REF.SLOT.TOD.ALIGN n) = false →
      (s.slot n).edgeWait = some e →
      (∃ l, (s.slot n).lastLabel = some l ∧ label ≠ l + 1) ∨ s.now - e < 20000000 * 65536 ∨ 980000000 * 65536 < s.now - e →
      Answers (.todMessage n (some m)) s fun t =>
        t.flag (R.REF.SLOT.STAT.TOD_OK n) = false ∧ (t.slot n).todErr = (s.slot n).todErr + 1 ∧
        (t.slot n).lastLabel = some label ∧
        ((s.slot n).todErr + 1 < s.get (R.REF.SLOT.TOD.ERR_N n) → (t.slot n).edgeWait = some e) ∧ s.OnlySlot n t)

/-- An edge that is not of a channel's active polarity changes nothing. Active edges of a channel that stamps pass its divider,
those in the dead time are counted as dead; the divided edge, 8 ns or more after the last, is counted and stamped with the channel's
compensation; one sooner, or without a stamp, counts as dead. On HOST's channel in timestamp mode, which no interval names as its
stop, the record of the stamp enters the queue, and is shown in ENTRIES; while the Hearth is held in reset the record is that of the
TDC base, with NOTIME.

TDC_FLUSH empties a queue. TDC_RES_POP answers the host with RES0 and shows the head record, which leaves the queue; an empty queue
shows VALID 0 with the other words as they stand. INTERVAL_TIMEOUT closes the open interval with a TIMEOUT record and a result of
zero. -/
def Obligations.TdcRecords : Prop :=
  (∀ (s : State) (n : Fin 32) (x : ActiveEdge), s.edgeActive n x.at_.rises = false → Answers (.tdcEdge n x) s fun t => t = s) ∧
  (∀ (s : State) (n : Fin 32) (x : ActiveEdge), s.Canonical → s.edgeActive n x.at_.rises = true → s.tdcOn n = true →
     8 ≤ n.val ∨ 1000 ≤ s.get (R.REF.SLOT.NOM.NOM n) →
     let k := ((s.tdcCh n).divided + x.edges) % max 1 (s.tdcDiv n)
     let raw := s.tdcRaw n x.at_
     let soon := ∃ e, (s.tdcCh n).lastEdge = some e ∧ raw - e < 8000
     let u := if n.val < 24 then raw - 3200 + s.sget (R.TDC.CH.SKEW.PS n) else raw
     let dead (by_ : Nat) (t : State) : Prop :=
       t.get (R.TDC.CH.DEAD_CNT.COUNT n) = (s.get (R.TDC.CH.DEAD_CNT.COUNT n) + by_) % 2 ^ 32
     let only (t : State) : Prop := ({ s with freeCtr := t.freeCtr }).OnlyChannel n (among []) t
     (k ≠ 0 → Answers (.tdcEdge n x) s fun t =>
       (t.tdcCh n).divided = k ∧ dead x.dead t ∧ (t.tdcCh n).queue = (s.tdcCh n).queue ∧ only t) ∧
     (k = 0 → soon ∨ s.hearth.running = true ∧ s.tdcStamp u = none → Answers (.tdcEdge n x) s fun t =>
       (t.tdcCh n).divided = 0 ∧ dead (x.dead + 1) t ∧ (t.tdcCh n).queue = (s.tdcCh n).queue ∧ only t) ∧
     (k = 0 → ¬soon → s.tdcOwner n = 0 → n.val < 24 → s.get (R.TDC.CH.CFG.MODE n) = 0 → (s.tdcCh n).queue.length < 16 →
       (∀ m : Fin 32, s.tdcMode m = 1 → s.get (R.TDC.CH.CFG.STOP_CH m) ≠ n) →
       let queued (r : TdcRec) (t : State) : Prop :=
         t.get (R.TDC.CH.EDGE_CNT.COUNT n) = (s.get (R.TDC.CH.EDGE_CNT.COUNT n) + 1) % 2 ^ 32 ∧ dead x.dead t ∧
         (t.tdcCh n).queue = (s.tdcCh n).queue ++ [{ r with lost := (s.tdcCh n).lostNext }] ∧
         t.get (R.TDC.CH.STAT.ENTRIES n) = (s.tdcCh n).queue.length + 1 ∧ (t.tdcCh n).lastEdge = some raw ∧ only t
       (∀ (stamp : Int) (r : Machine.HearthRecord), s.hearth.running = true → s.tdcStamp u = some (stamp, r) →
         Answers (.tdcEdge n x) s (queued { s.tdcRec n with data := stamp.toNat })) ∧
       (s.hearth.running = false →
         Answers (.tdcEdge n x) s (queued { s.tdcRec n with noTime := true, data := u.toNat })))) ∧
  (∀ (s : State) (n : Fin 32), s.Canonical →
     (Answers (.tdcFlush n) s fun t =>
       (t.tdcCh n).queue = [] ∧ t.get (R.TDC.CH.STAT.ENTRIES n) = 0 ∧ (t.tdcCh n).opened = (s.tdcCh n).opened ∧
       s.OnlyChannel n (among []) t) ∧
     ((s.tdcCh n).queue = [] → Answers (.tdcResPop n) s fun t =>
       t.flag (R.TDC.CH.RES0.VALID n) = false ∧ (∃ w, t.emitted = .hostData w :: s.emitted ∧ w.toNat % 2 = 0) ∧
       ({ s with emitted := t.emitted }).OnlyFields (among [R.TDC.CH.RES0.VALID n]) t) ∧
     (∀ (r : TdcRec) (rest : List TdcRec), (s.tdcCh n).queue = r :: rest → Answers (.tdcResPop n) s fun t =>
       (t.tdcCh n).queue = rest ∧ t.get (R.TDC.CH.RES0.VALID n) = 1 ∧
       t.flag (R.TDC.CH.RES0.KIND n) = r.interval ∧ t.flag (R.TDC.CH.RES0.TIMEOUT n) = r.timeout ∧
       t.flag (R.TDC.CH.RES0.STALE n) = r.stale ∧ t.flag (R.TDC.CH.RES0.LOST n) = r.lost ∧
       t.flag (R.TDC.CH.RES0.ABORT n) = r.abort ∧ t.flag (R.TDC.CH.RES0.STEPPED n) = r.stepped ∧
       t.flag (R.TDC.CH.RES0.NOTIME n) = r.noTime ∧
       (r.interval = true → t.get (R.TDC.CH.RES1.DATA n) + t.get (R.TDC.CH.RES2.DATA n) * 2 ^ 32 = r.data % 2 ^ 64) ∧
       (∃ w, t.emitted = .hostData w :: s.emitted) ∧
       ({ s with emitted := t.emitted, tdc := { s.tdc with chans := t.tdc.chans } }).OnlyFields
         (inside (R.TDC.CH.CFG.EN n).addr 0x40) t ∧
       (∀ m, m ≠ n.val → Map.get? t.tdc.chans m = Map.get? s.tdc.chans m)) ∧
     (∀ o, (s.tdcCh n).opened = some o → s.tdcOwner n = 0 → (s.tdcCh n).queue.length < 16 →
       Answers (.intervalTimeout n) s fun t =>
         (t.tdcCh n).opened = none ∧
         (t.tdcCh n).queue = (s.tdcCh n).queue ++
           [{ s.tdcRec n with interval := true, timeout := true, data := 0, lost := (s.tdcCh n).lostNext }] ∧
         t.get (R.TDC.CH.TIMEOUT_CNT.COUNT n) = (s.get (R.TDC.CH.TIMEOUT_CNT.COUNT n) + 1) % 2 ^ 32 ∧
         t.get R.TDC.EVT.TIMEOUT = 1 ∧ s.OnlyChannel n (among [R.TDC.EVT.TIMEOUT]) t))

/-- An edge of a PHASE slot that is qualifying or qualified and has fewer than four entries, inside its window: the observation
D = nearest second + delay − stamp enters the history, is counted, and the edge is the last one; other slots stay. A stamp before a
step that has been executed since is taken as that step has moved it. POL selects the active edge: the other changes nothing. -/
def Obligations.ReferenceEdge : Prop :=
  (∀ (s : State) (n : Fin 8) (c : Capture), c.rises = s.flag (R.REF.SLOT.CFG.POL n) → Answers (.refEdge n c) s fun t => t = s) ∧
  ∀ (s : State) (n : Fin 8) (c : Capture) (at_ : Int) (r : Machine.HearthRecord), s.Canonical →
    c.rises = !s.flag (R.REF.SLOT.CFG.POL n) → s.tdcOn n = true → s.tdcOwner n = 1 →
    s.hearth.running = true → (∀ e, (s.tdcCh n).lastEdge = some e → 8000 ≤ s.tdcRaw n c - e) →
    s.tdcStamp (s.tdcRaw n c - 3200 + s.sget (R.TDC.CH.SKEW.PS n)) = some (at_, r) →
    s.slotActive n = true → s.slotKind n = 1 → s.slotsDiscard = false → (s.slot n).hist.length < 4 →
    let stamp := at_ + (s.hearth.stepSum - r.stepSum)
    s.inWindow n stamp = true →
    let d := (stamp - s.slotDelay n + secI / 2) / secI * secI + s.slotDelay n - stamp
    Answers (.refEdge n c) s fun t =>
      ((t.slot n).hist.map fun o => (o.t, o.d)) =
        ((stamp, d) :: (s.slot n).hist.map fun o => (o.t, o.d)).take (s.get (R.REF.SLOT.JUMP.HIST n)) ∧
      t.get (R.REF.SLOT.OBS_CNT.COUNT n) = (s.get (R.REF.SLOT.OBS_CNT.COUNT n) + 1) % 2 ^ 32 ∧
      t.get (R.TDC.CH.EDGE_CNT.COUNT n) = (s.get (R.TDC.CH.EDGE_CNT.COUNT n) + 1) % 2 ^ 32 ∧
      (∀ m, m ≠ n.val → Map.get? t.ref m = Map.get? s.ref m) ∧ t.hearth = s.hearth

/-- The time base: two windows of 64 CK_AON cycles in range, in succession, make it present, and the block starts LOCKING; two
out of range, or eight absent edges (TBASE_LOSS), lose it, which gates CK_TDC, drops the ties, is flagged, counted and filed,
and disqualifies S0 to S7. TDC_READY, once two ties have been taken, ends LOCKING in READY with every channel stale,
TDC_LOCK_TIMEOUT in NOTBASE with its fault. -/
def Obligations.TimeBase : Prop :=
  ∀ s : State, s.Canonical →
    let ok (count : BitVec 32) : Prop := 9 * (s.get R.TDC.TBASE.NOM * 1953125) ≤ 10 * count.toNat * 10 ^ 9 ∧
      10 * count.toNat * 10 ^ 9 ≤ 11 * (s.get R.TDC.TBASE.NOM * 1953125)
    let lost (t : State) : Prop :=
      t.get R.TDC.STAT.STATE = 0 ∧ t.flag R.TDC.STAT.TBASE_PRESENT = false ∧ t.clock 11 = false ∧ t.tdc.ties = [] ∧
      t.get R.TDC.EVT.TBASE_LOSS = 1 ∧ t.get R.TDC.LOSS_CNT.COUNT = (s.get R.TDC.LOSS_CNT.COUNT + 1) % 2 ^ 16 ∧
      State.Filed F.tdcTbaseLoss 0 s t ∧ (∀ n : Fin 8, s.slotActive n = true → t.slotState n = 4) ∧
      (∀ n : Fin 16, 8 ≤ n.val → t.slotState n = s.slotState n) ∧ t.hearth = s.hearth ∧ t.dram = s.dram
    (∀ count, s.get R.TDC.STAT.STATE = 0 → s.flag R.TDC.STAT.TBASE_PRESENT = false ∨ ok count ∨ s.tdc.bad = 0 →
      Answers (.tbaseWindow count) s fun t =>
      t.get R.TDC.TBASE_MEAS.HZ = count.toNat * 512 % 2 ^ 32 ∧
      (ok count → 1 ≤ s.tdc.good → t.get R.TDC.STAT.STATE = 1 ∧ t.flag R.TDC.STAT.TBASE_PRESENT = true) ∧
      (ok count → s.tdc.good = 0 → t.get R.TDC.STAT.STATE = 0 ∧ t.tdc.good = 1) ∧ (¬ok count → t.tdc.good = 0) ∧
      t.tdc.bad = (if ok count then 0 else s.tdc.bad + 1) ∧
      ({ s with tdc := { s.tdc with good := t.tdc.good, bad := t.tdc.bad } }).OnlyFields
        (among [R.TDC.TBASE_MEAS.HZ, R.TDC.STAT.STATE, R.TDC.STAT.TBASE_PRESENT]) t) ∧
    (∀ count, s.get R.TDC.STAT.STATE ≠ 0 → ok count ∨ s.tdc.bad = 0 → Answers (.tbaseWindow count) s fun t =>
      t.tdc.bad = (if ok count then 0 else 1) ∧ t.get R.TDC.TBASE_MEAS.HZ = count.toNat * 512 % 2 ^ 32 ∧
      ({ s with tdc := { s.tdc with bad := t.tdc.bad } }).OnlyFields (among [R.TDC.TBASE_MEAS.HZ]) t) ∧
    (∀ count, s.get R.TDC.STAT.STATE ≠ 0 ∨ s.flag R.TDC.STAT.TBASE_PRESENT = true → ¬ok count → 1 ≤ s.tdc.bad →
      Answers (.tbaseWindow count) s lost) ∧
    (s.flag R.TDC.STAT.TBASE_PRESENT = true → Answers .tbaseLoss s lost) ∧
    (s.get R.TDC.STAT.STATE = 1 → s.tdc.ties.length < 2 → Answers .tdcReady s fun t => t = s) ∧
    (s.get R.TDC.STAT.STATE = 1 → 2 ≤ s.tdc.ties.length → Answers .tdcReady s fun t =>
      t.get R.TDC.STAT.STATE = 2 ∧ t.clock 11 = true ∧ (∀ n : Fin 32, t.flag (R.TDC.CH.STAT.STALE n) = true) ∧
      t.flag R.TDC.STAT.CAL_COMPLETE = false ∧ t.get R.TDC.EVT.READY = 1 ∧
      (s.tdc.lossSince = true → s.tdc.readyOnce = true → t.get R.TDC.EVT.TBASE_RETURN = 1) ∧
      (s.tdc.readyOnce = false → t.get R.TDC.EVT.TBASE_RETURN = s.get R.TDC.EVT.TBASE_RETURN) ∧
      (∀ n : Fin 16, t.flag (R.OUT.STAT.CAL_HOLD n) = false) ∧ (t.replica 11).valid = false ∧
      ({ s with clocks := t.clocks, hearth := { s.hearth with replicas := t.hearth.replicas },
                tdc := { s.tdc with lossSince := false, readyOnce := true, exchanged := [] } }).OnlySignals
        (either (among [R.TDC.STAT.STATE, R.TDC.STAT.CAL_COMPLETE, R.TDC.EVT.READY, R.TDC.EVT.TBASE_RETURN])
          (either (among ((List.range 32).map R.TDC.CH.STAT.STALE)) (among ((List.range 16).map R.OUT.STAT.CAL_HOLD)))) t) ∧
    (s.get R.TDC.STAT.STATE = 1 → Answers .tdcLockTimeout s fun t =>
      t.get R.TDC.STAT.STATE = 0 ∧ t.clock 11 = false ∧ State.Filed F.tdcLockFail 0 s t ∧ t.hearth = s.hearth ∧ t.dram = s.dram)

/-! ### Selection and the hearth oscillator -/

/-- SW_TIMEOUT in MEASURE past its limit: SEL banks, the abort is flagged and filed; before the limit nothing changes.
WTR_EXPIRE ends a timer whose time has come. -/
def Obligations.SelectionTimers : Prop :=
  ∀ s : State, s.Canonical →
    (s.selState = 3 → s.sel.measN < s.sel.heldMeasN →
      s.sel.measStart + s.sel.heldTimeout * (1000000000 * 65536) ≤ s.now → Answers .swTimeout s fun t =>
        t.selState = 5 ∧ t.get R.SEL.EVT.SW_ABORT = 1 ∧ t.get R.SEL.EVT.BANK_ENTER = 1 ∧
        t.get R.SEL.BANK_CNT.COUNT = (s.get R.SEL.BANK_CNT.COUNT + 1) % 2 ^ R.SEL.BANK_CNT.COUNT.width ∧
        State.Filed F.selSwAbort (s.get R.SEL.STAT.TARGET) s t ∧
        ({ s with sel := { s.sel with wtrEnd := t.sel.wtrEnd, wtrRan := t.sel.wtrRan } }).OnlyFilings
          (among [R.SEL.STAT.STATE, R.SEL.BANK_CNT.COUNT, R.SEL.EVT.BANK_ENTER, R.SEL.EVT.SW_ABORT, R.SEL.WTR_RUN.RUNNING]) t) ∧
    (s.now < s.sel.measStart + s.sel.heldTimeout * (1000000000 * 65536) → Answers .swTimeout s fun t => t = s) ∧
    (∀ (n : Fin 16) (e : Int), Map.wf s.sel.wtrEnd = true → Map.get? s.sel.wtrEnd n.val = some e → e ≤ s.now →
      Answers (.wtrExpire n) s fun t =>
        Map.get? t.sel.wtrEnd n.val = none ∧ n.val ∈ t.sel.wtrRan ∧
        (∀ m, m ≠ n.val → Map.get? t.sel.wtrEnd m = Map.get? s.sel.wtrEnd m) ∧
        ({ s with sel := { s.sel with wtrEnd := t.sel.wtrEnd, wtrRan := t.sel.wtrRan } }).OnlyFields
          (among [R.SEL.WTR_RUN.RUNNING]) t)

/-- MODEL_SAMPLE, once 64 s of LOCKED have passed, ends them and begins the next. Those that met the conditions, and began 640 s or
more into LOCKED, give the model one sample, the means over them, and samples older than the window leave; any other 64 s are
dropped. Before the 64 s have passed, and outside LOCKED, nothing changes. -/
def Obligations.DriftModelSample : Prop :=
  ∀ s : State, s.Canonical →
    let fin := s.sel.accSince + 64 * (1000000000 * 65536)
    let a := s.sel.acc64.filter (fun y => decide (y.t ≤ fin))
    let rest := s.sel.acc64.filter (fun y => decide (fin < y.t))
    let good := a ≠ [] ∧ s.sel.accBad = false ∧ s.modelConditions = true ∧
      s.sel.lockedSince + 640 * (1000000000 * 65536) ≤ s.sel.accSince
    (s.selState ≠ 1 ∨ s.now < fin → Answers .modelSample s fun t => t = s) ∧
    (s.selState = 1 → fin ≤ s.now → ¬good → Answers .modelSample s fun t =>
      t = { s with sel := { s.sel with acc64 := rest, accSince := fin, accBad := false } }) ∧
    (s.selState = 1 → fin ≤ s.now → good → Answers .modelSample s fun t =>
      t.sel.acc64 = rest ∧ t.sel.accSince = fin ∧ t.sel.accBad = false ∧
      (∃ x : ModelSample, x.t = secR fin ∧ x.f * a.length = (a.map fun y => (y.f : Rat)).sum ∧
        x.th * a.length = (a.map fun y => (y.th : Rat)).sum ∧
        t.sel.model = (x :: s.sel.model).filter
          (fun y => decide (secR s.now - (s.get R.SEL.MODEL_CFG.WIN * 3600 : Nat) ≤ y.t))) ∧
      t.flag R.SEL.STAT.MODEL_LEARNED =
        decide (s.get R.SEL.MODEL_CFG.LEARN_MIN ≤ t.sel.model.length * 64 / 3600) ∧
      t.hearth = s.hearth ∧ t.ref = s.ref ∧ t.osc = s.osc)

/-- ID_POLL, POLL seconds after the last, and ID_READ start a read of the identity EEPROM. A read that succeeds shows ID_OK, and
from the ember scan on an identity that differs is a change, which is counted, flagged and filed, clears the running hours and
releases the host's banking values; one that fails is flagged, and the third failure in succession sets the identity to unknown and
files it. The spans are measured as the model chose (log entry 126). -/
def Obligations.OscillatorIdentity : Prop :=
  ∀ s : State, s.Canonical →
    let started (o : Osc) (t : State) : Prop := t = { s with
      osc := { o with idReading := true },
      emitted := .i2cRead (s.get R.OSC.I2C.ADDR) (s.get R.OSC.I2C.ID_OFF) (s.get R.OSC.I2C.ID_LEN) :: s.emitted }
    let due := s.passed s.osc.idPollAt (s.get R.OSC.I2C.POLL * (1000000000 * 65536)) = true
    (due → Answers .idPoll s (started { s.osc with idPollAt := s.mark })) ∧ (¬due → Answers .idPoll s fun t => t = s) ∧
    Answers .idRead s (started s.osc) ∧
    (∀ bs : List Byte, s.osc.idRead = true → 5 ≤ s.nvc.stage → Answers (.idReadDone (some bs)) s fun t =>
      t.flag R.OSC.STAT.ID_OK = true ∧ t.get R.OSC.ID.ID = crc32c bs % 2 ^ 32 ∧ t.osc.idReading = false ∧ t.osc.idFails = 0 ∧
      (crc32c bs = s.get R.OSC.ID.ID → crc32c bs ≠ 0 →
        ({ s with osc := t.osc }).OnlyFields (among [R.OSC.STAT.ID_OK, R.OSC.ID.ID]) t) ∧
      (crc32c bs ≠ s.get R.OSC.ID.ID → t.get R.OSC.ID_PREV.ID = s.get R.OSC.ID.ID % 2 ^ 32 ∧
        t.get R.OSC.ID_CHG_CNT.COUNT = (s.get R.OSC.ID_CHG_CNT.COUNT + 1) % 2 ^ R.OSC.ID_CHG_CNT.COUNT.width ∧
        t.get R.OSC.EVT.ID_CHANGE = 1 ∧ t.get R.OSC.RUN_HOURS.HOURS = 0 ∧ t.ebd.identPending = true ∧ t.ebd.hostSet = none ∧
        State.Filed F.oscIdChange 0 s t)) ∧
    (s.osc.idFails ≠ 2 → Answers (.idReadDone none) s fun t =>
      t.flag R.OSC.STAT.ID_OK = false ∧ t.get R.OSC.EVT.ID_FAIL = 1 ∧ t.osc.idFails = s.osc.idFails + 1 ∧
      ({ s with osc := { s.osc with idReading := false, idFails := s.osc.idFails + 1 } }).OnlySignals
        (among [R.OSC.STAT.ID_OK, R.OSC.EVT.ID_FAIL]) t) ∧
    (s.osc.idFails = 2 → Answers (.idReadDone none) s fun t =>
      t.flag R.OSC.STAT.ID_OK = false ∧ t.get R.OSC.EVT.ID_FAIL = 1 ∧ t.get R.OSC.ID.ID = 0 ∧
      (s.get R.OSC.ID.ID = 0 → s.osc.idRead = true → State.Filed F.oscIdFail 0 s t))

/-- STATUS_POLL sends the class's status request, STAT_POLL seconds after the last. STATUS_REPLY shows what the class exposes; a
current outside its limits in two polls in succession is wear, flagged and filed. RUN_HOUR counts an hour of CK_HRT since the last,
and files the crossing of LIFE_HOURS. OSC_LOCK_CHANGE shows the level, and the loss of lock is flagged and filed, and spoils the
drift model's running 64 s. The spans are measured as the model chose (log entry 126). -/
def Obligations.OscillatorStatus : Prop :=
  ∀ s : State, s.Canonical →
    (s.flag R.RED.STAT.HOLDING = true → s.oscClass.hasCurrent = true ∨ s.oscClass.hasTemp = true →
      let due := s.passed s.osc.statPollAt (s.get R.OSC.UART.STAT_POLL * (1000000000 * 65536)) = true
      (due → Answers .statusPoll s fun t => t = { s with
        osc := { s.osc with statPollAt := s.mark },
        emitted := .oscStatus (s.get R.OSC.UART.BAUD) s.oscClass.statTpl :: s.emitted }) ∧
      (¬due → Answers .statusPoll s fun t => t = s)) ∧
    (∀ cur temp : BitVec 16, s.oscClass.hasCurrent = true →
      let bad := cur.toNat < s.get R.OSC.LIFE.CUR_MIN ∨ s.get R.OSC.LIFE.CUR_MAX < cur.toNat
      Answers (.statusReply cur temp) s fun t =>
        t.get R.OSC.CURRENT.CUR = cur.toNat ∧ (s.oscClass.hasTemp = true → t.get R.OSC.TEMP.TEMP = temp.toNat) ∧
        t.osc.wearPolls = (if bad then s.osc.wearPolls + 1 else 0) ∧
        (bad → s.osc.wearPolls = 1 → t.get R.OSC.EVT.WEAR = 1 ∧ State.Filed F.oscWear 0 s t) ∧
        ({ s with osc := { s.osc with wearPolls := t.osc.wearPolls }, pmc := { s.pmc with oscAge := t.pmc.oscAge } }).OnlyFilings
          (among [R.OSC.CURRENT.CUR, R.OSC.TEMP.TEMP, R.OSC.EVT.WEAR]) t) ∧
    (s.hrtRuns = true → s.passed s.osc.hourAt (3600 * (1000000000 * 65536)) = true →
        s.get R.OSC.RUN_HOURS.HOURS + 1 < 2 ^ R.OSC.RUN_HOURS.HOURS.width → Answers .runHour s fun t =>
      let s := { s with osc := { s.osc with hourAt := s.mark } }
      t.get R.OSC.RUN_HOURS.HOURS = s.get R.OSC.RUN_HOURS.HOURS + 1 ∧
      (s.get R.OSC.RUN_HOURS.HOURS = s.get R.OSC.LIFE_HOURS.HOURS →
        t.get R.OSC.EVT.LIFE = 1 ∧ State.Filed F.oscLife 0 s t) ∧
      (s.get R.OSC.RUN_HOURS.HOURS ≠ s.get R.OSC.LIFE_HOURS.HOURS → s.OnlyFields (among [R.OSC.RUN_HOURS.HOURS]) t) ∧
      s.OnlyFilings (among [R.OSC.RUN_HOURS.HOURS, R.OSC.EVT.LIFE]) t) ∧
    (s.hrtRuns = false ∨ s.passed s.osc.hourAt (3600 * (1000000000 * 65536)) = false → Answers .runHour s fun t => t = s) ∧
    (∀ locked : Bool, Answers (.oscLockChange locked) s fun t =>
      t.flag R.OSC.STAT.MOD_LOCK = locked ∧
      (s.flag R.OSC.STAT.MOD_LOCK = true → locked = false → t.get R.OSC.EVT.UNLOCK = 1 ∧ State.Filed F.oscUnlock 0 s t) ∧
      (s.flag R.OSC.STAT.MOD_LOCK = false ∨ locked = true → s.OnlyFields (among [R.OSC.STAT.MOD_LOCK]) t) ∧
      ({ s with sel := { s.sel with accBad := s.sel.accBad || (s.flag R.OSC.STAT.MOD_LOCK && !locked) } }).OnlyFilings
        (among [R.OSC.STAT.MOD_LOCK, R.OSC.EVT.UNLOCK]) t)

/-- SWCMD_SEND waits while software owns the loop and a steering path exists, and is rejected otherwise. COMMAND_ACK completes the
oldest command sent by UART, if it comes within ACK_TO, and DAC_FRAME_DONE the oldest DAC frame: C takes its value, CMD_PEND stays
while another is in flight, a transfer's compensation waits for its latency while the loop or BUILD-OUT runs, and the rails follow
C. ACK_TIMEOUT, once ACK_TO has passed, drops the oldest UART command; the second failure in succession ends steering with its
fault. The spans are measured as the model chose (log entry 126). -/
def Obligations.OscillatorCommands : Prop :=
  ∀ (s : State), s.Canonical →
    (s.damperOpen = true → s.oscMode ≠ 0 → Answers .swcmdSend s fun t =>
      t.flag R.OSC.CTL.SWCMD_SEND = true ∧ s.OnlyFields (among [R.OSC.CTL.SWCMD_SEND]) t) ∧
    (s.damperOpen = false ∨ s.oscMode = 0 → Answers .swcmdSend s fun t =>
      t.get R.OSC.EVT.CFG_REJECTED = 1 ∧ s.OnlySignals (among [R.OSC.EVT.CFG_REJECTED]) t) ∧
    ((∀ f ∈ s.osc.flight, f.uart = false) → (Answers .commandAck s fun t => t = s) ∧ Answers .ackTimeout s fun t => t = s) ∧
    (∀ (before after_ : List OscCommand) (f : OscCommand), s.osc.flight = before ++ f :: after_ →
      (∀ g ∈ before, g.uart ≠ f.uart) →
      let rest := before ++ after_
      let dc := f.c - s.sget R.OSC.CMD_NOW.C
      let df := s.sget R.OSC.GAIN.G * dc
      let at_ := s.now + s.get R.OSC.LATENCY.MS * (1000000 * 65536)
      let waits := f.transfer = true ∧ (s.selState = 1 ∨ s.selState = 4)
      let pend (t : State) : Prop := t.osc.flight = rest ∧ t.flag R.OSC.STAT.CMD_PEND = !rest.isEmpty
      let done (t : State) : Prop :=
        t.sget R.OSC.CMD_NOW.C = toSigned R.OSC.CMD_NOW.C.width (ofSigned R.OSC.CMD_NOW.C.width f.c) ∧
        pend t ∧ t.osc.ackFails = 0 ∧
        (waits → t.osc.comp = s.osc.comp ++ [(at_, df)]) ∧ (¬waits → t.osc.comp = s.osc.comp) ∧
        t.flag R.OSC.STAT.RAIL_HI = decide (s.sget R.OSC.CMD_MAX.MAX ≤ t.sget R.OSC.CMD_NOW.C) ∧
        t.flag R.OSC.STAT.RAIL_LO = decide (t.sget R.OSC.CMD_NOW.C ≤ s.sget R.OSC.CMD_MIN.MIN) ∧
        t.hearth.phiOsc = (if dc = 0 then s.hearth.phiOsc else (at_, df) :: s.hearth.phiOsc)
      let fields := among [R.OSC.CMD_NOW.C, R.OSC.STAT.CMD_PEND, R.OSC.STAT.RAIL_HI, R.OSC.STAT.RAIL_LO, R.OSC.EVT.RAIL]
      let ackTo := s.get R.OSC.UART.ACK_TO * (10000000 * 65536)
      (f.uart = true → s.within f.sentAt ackTo = false → Answers .commandAck s fun t => t = s) ∧
      (f.uart = true → s.passed f.sentAt ackTo = false → Answers .ackTimeout s fun t => t = s) ∧
      (f.uart = true → s.within f.sentAt ackTo = true → Answers .commandAck s fun t =>
        done t ∧ ({ s with osc := t.osc, hearth := { s.hearth with phiOsc := t.hearth.phiOsc } }).OnlyFilings fields t) ∧
      (f.uart = false → s.spi.current = some .dac → s.spi.dac = none → (∀ n : Fin 4, s.scriptHead n = none) → s.spi.host = none →
        Answers .dacFrameDone s fun t => done t ∧ t.spi.current = none ∧
          ({ s with osc := t.osc, spi := t.spi, hearth := { s.hearth with phiOsc := t.hearth.phiOsc } }).OnlyFilings fields t) ∧
      (f.uart = true → s.passed f.sentAt ackTo = true → Answers .ackTimeout s fun t =>
        pend t ∧ t.osc.ackFails = s.osc.ackFails + 1 ∧
        t.get R.OSC.CMD_FAIL_CNT.COUNT = (s.get R.OSC.CMD_FAIL_CNT.COUNT + 1) % 2 ^ R.OSC.CMD_FAIL_CNT.COUNT.width ∧
        t.get R.OSC.EVT.CMD_FAIL = 1 ∧ t.sget R.OSC.CMD_NOW.C = s.sget R.OSC.CMD_NOW.C ∧
        (1 ≤ s.osc.ackFails → s.flag R.OSC.STAT.STEER_DIS = false →
          t.flag R.OSC.STAT.STEER_DIS = true ∧ State.Filed F.oscCmdFail 0 s t) ∧
        (s.osc.ackFails = 0 → t.get R.OSC.STAT.STEER_DIS = s.get R.OSC.STAT.STEER_DIS) ∧
        ({ s with osc := { s.osc with flight := rest, ackFails := s.osc.ackFails + 1 } }).OnlyFilings
          (among [R.OSC.STAT.CMD_PEND, R.OSC.CMD_FAIL_CNT.COUNT, R.OSC.EVT.CMD_FAIL, R.OSC.STAT.STEER_DIS]) t))

/-! ### Synthesizers -/

/-- SYN0_FIRST_SEARCH once the profile has been applied starts SYN0's search in the first band that holds its VCO frequency.
BAND_TRIAL_DONE: a band that holds the VCO with its guard on both sides goes on to ACQUIRE; one too high or too low is followed
by its neighbour, if trials are left and it is enabled; else the search has failed. FINE stands at its minimum as a trial begins and
at its maximum as it ends. -/
def Obligations.BandSearch : Prop :=
  ∀ s : State, s.Canonical →
    (s.synState 0 = 0 → 3 ≤ s.nvc.stage → (s.synCh 0).locked = false → s.flag (R.SYN.CH.BAND_CFG.FORCE_EN 0) = false →
      ∀ b, firstBand s.bandTable (s.synVco 0) = some b → Answers .syn0FirstSearch s fun t =>
        t.synState 0 = 1 ∧ t.flag (R.SYN.CH.STAT.REF_PRESENT 0) = true ∧ (t.synCh 0).band = b ∧ (t.synCh 0).trials = 5 ∧
        t.get (R.SYN.CH.STAT.BAND 0) = b % 64 ∧ t.get (R.SYN.CH.FINE.FINE 0) = 0 ∧ (t.synCh 0).copy = s.bandTable ∧
            t.hearth = s.hearth ∧ t.clocks = s.clocks) ∧
    (∀ (n : Fin 4) (lo hi : BitVec 32), s.synState n = 1 → s.flag (R.SYN.CH.STAT.REF_PRESENT n) = true →
      let f := s.synVco n
      let guard_ : Rat := (s.get (R.SYN.CH.BAND_CFG.GUARD n) * 250000 : Nat)
      let fLo := (lo.toNat : Rat) * s.synPfd n / 4096
      let fHi := (hi.toNat : Rat) * s.synPfd n / 4096
      let b := (s.synCh n).band
      let next : Nat := if f < fLo + guard_ then b - 1 else b + 1
      let can := ¬(f < fLo + guard_ ∧ b = 0) ∧ ¬(fLo + guard_ ≤ f ∧ b = 63) ∧ 2 ≤ (s.synCh n).trials ∧
        bandOn ((s.synCh n).copy.getD next (0, 0)) = true
      (fLo + guard_ ≤ f → f ≤ fHi - guard_ → Answers (.bandTrialDone n lo hi) s fun t =>
        t.synState n = 2 ∧ (t.synCh n).windows = 0 ∧ (t.synCh n).passes = 0 ∧ t.get (R.SYN.CH.FINE.FINE n) = 0xFFFFF ∧
        (∀ m, m ≠ n.val → Map.get? t.syn.chans m = Map.get? s.syn.chans m) ∧
        ({ s with syn := t.syn, freeCtr := t.freeCtr }).OnlySignals (synField n) t) ∧
      (¬(fLo + guard_ ≤ f ∧ f ≤ fHi - guard_) → can → Answers (.bandTrialDone n lo hi) s fun t =>
        t.synState n = 1 ∧ (t.synCh n).band = next ∧ (t.synCh n).trials = (s.synCh n).trials - 1 ∧
        t.get (R.SYN.CH.STAT.BAND n) = next % 64 ∧ t.get (R.SYN.CH.FINE.FINE n) = 0 ∧ (∀ m, m ≠ n.val →
            Map.get? t.syn.chans m = Map.get? s.syn.chans m) ∧
        ({ s with syn := t.syn, freeCtr := t.freeCtr }).OnlyFields (synField n) t) ∧
      (¬(fLo + guard_ ≤ f ∧ f ≤ fHi - guard_) → ¬can → Answers (.bandTrialDone n lo hi) s fun t =>
        t.synState n = 5 ∧ t.get (R.SYN.CH.EVT.BAND_FAIL n) = 1 ∧
        State.Filed (F.synBandFail (n.val == 0 && !(s.synCh 0).locked)) n s t ∧
        ({ s with syn := t.syn }).OnlyFilings (synField n) t))

/-- LOCK_WINDOW: a window of ACQUIRE within the tolerance passes, and LOCK_CNT of them in succession are a lock; one of LOCKED
beyond the unlock tolerance is the start of a coast, which with AUTO_RELOCK goes on to ACQUIRE; what lies between changes no
state. -/
def Obligations.LockWindow : Prop :=
  ∀ (s : State) (n : Fin 4) (count : BitVec 64) (fine : BitVec 20), s.Canonical →
    s.flag (R.SYN.CH.STAT.REF_PRESENT n) = true →
    let want : Rat := s.synNeff n * (2 ^ (10 + s.get (R.SYN.CH.LOCKDET.WIN n)) : Nat)
    let e : Rat := if want = 0 then 0 else ((count.toNat : Rat) - want) / want * (10 ^ 9 : Nat)
    let tol : Rat := (s.get (R.SYN.CH.LOCKDET.LOCK_TOL n) : Nat)
    let untol : Rat := (s.get (R.SYN.CH.LOCKDET.UNLOCK_TOL n) * 10 : Nat)
    let pass := -tol ≤ e ∧ e ≤ tol
    let passes := if pass then (s.synCh n).passes + 1 else 0
    (s.synState n = 2 → s.get (R.SYN.CH.LOCKDET.LOCK_CNT n) ≤ passes → Answers (.lockWindow n count fine) s fun t =>
      t.synState n = 3 ∧ (t.synCh n).locked = true ∧ t.get (R.SYN.CH.EVT.LOCK n) = 1 ∧
      t.get (R.SYN.CH.ACQ_CNT.COUNT n) = (s.get (R.SYN.CH.ACQ_CNT.COUNT n) + 1) % 2 ^ 32 ∧ (n = 0 → t.clock 1 = true) ∧
      (∀ m, m ≠ n.val → Map.get? t.syn.chans m = Map.get? s.syn.chans m) ∧
      ({ s with syn := t.syn, clocks := t.clocks, out := t.out, lts := { s.lts with ports := t.lts.ports } }).OnlyFilings
        (synField n) t) ∧
    (s.synState n = 2 → passes < s.get (R.SYN.CH.LOCKDET.LOCK_CNT n) → (s.synCh n).windows + 1 < 64 →
      Answers (.lockWindow n count fine) s fun t =>
        t.synState n = 2 ∧ (t.synCh n).passes = passes ∧ (t.synCh n).windows = (s.synCh n).windows + 1 ∧
        t.get (R.SYN.CH.FINE.FINE n) = fine.toNat ∧
        ({ s with syn := t.syn, freeCtr := t.freeCtr }).OnlyFields (synField n) t) ∧
    (s.synState n = 3 → e < -untol ∨ untol < e → Answers (.lockWindow n count fine) s fun t =>
      t.synState n = (if s.flag (R.SYN.CH.CFG.AUTO_RELOCK n) then 2 else 4) ∧
      (s.flag (R.SYN.CH.CFG.AUTO_RELOCK n) = true → (t.synCh n).windows = 0) ∧ (t.synCh n).justCoast = true ∧
      t.get (R.SYN.CH.STAT.CAUSE n) = 2 ∧ t.get (R.SYN.CH.EVT.COAST n) = 1 ∧
      t.flag (R.SYN.CH.STAT.PHASE_LOST n) = true ∧
      t.get (R.SYN.CH.COAST_CNT.COUNT n) = (s.get (R.SYN.CH.COAST_CNT.COUNT n) + 1) % 2 ^ 32 ∧
      (n = 0 → t.syn.coastDue = true)) ∧
    (s.synState n = 3 → -untol ≤ e → e ≤ untol → Answers (.lockWindow n count fine) s fun t =>
      t.synState n = 3 ∧ t.get (R.SYN.CH.FINE.FINE n) = fine.toNat ∧
      ({ s with syn := t.syn }).OnlyFilings (either (synField n) (among [R.SYN.CH.FINE.FINE n])) t)

/-- SYN_REF_LOSS is shown and flagged, and a locked synthesizer coasts with cause 1, as does one that the same window has made coast
for its frequency. SYN_REF_RETURN is shown and flagged, and begins SEARCH or ACQUIRE anew, from COAST with AUTO_RELOCK too.
SYN0_COAST_TICK files SYN0's coast, and launches wait. -/
def Obligations.SynthesizerReference : Prop :=
  ∀ (s : State) (n : Fin 4), s.Canonical →
    (s.flag (R.SYN.CH.STAT.REF_PRESENT n) = true → Answers (.synRefLoss n) s fun t =>
      t.flag (R.SYN.CH.STAT.REF_PRESENT n) = false ∧ t.get (R.SYN.CH.EVT.REF_LOSS n) = 1 ∧
      (s.synState n = 3 → t.synState n = 4 ∧ t.get (R.SYN.CH.STAT.CAUSE n) = 1 ∧ t.get (R.SYN.CH.EVT.COAST n) = 1) ∧
      (s.synState n ≠ 3 → (s.synCh n).justCoast = true → t.synState n = 4 ∧ t.get (R.SYN.CH.STAT.CAUSE n) = 1) ∧
      (s.synState n ≠ 3 → (s.synCh n).justCoast = false → t.synState n = s.synState n ∧
        s.OnlySignals (either (among [R.NVC.STAT.WAIT_HOSC]) (synField n)) t)) ∧
    (s.flag (R.SYN.CH.STAT.REF_PRESENT n) = false → Answers (.synRefReturn n) s fun t =>
      t.flag (R.SYN.CH.STAT.REF_PRESENT n) = true ∧ t.get (R.SYN.CH.EVT.REF_RETURN n) = 1 ∧
      (s.synState n = 2 ∨ s.synState n = 4 ∧ s.flag (R.SYN.CH.CFG.AUTO_RELOCK n) = true →
        t.synState n = 2 ∧ (t.synCh n).windows = 0) ∧
      (s.synState n = 0 ∨ s.synState n = 3 ∨ s.synState n = 5 ∨
          s.synState n = 4 ∧ s.flag (R.SYN.CH.CFG.AUTO_RELOCK n) = false → t.synState n = s.synState n) ∧
      (∀ b, s.synState n = 1 → s.flag (R.SYN.CH.BAND_CFG.FORCE_EN n) = false → firstBand s.bandTable (s.synVco n) = some b →
        t.synState n = 1 ∧ (t.synCh n).band = b ∧ (t.synCh n).trials = 5 ∧ t.get (R.SYN.CH.STAT.BAND n) = b % 64 ∧
        t.get (R.SYN.CH.FINE.FINE n) = 0) ∧
      (s.synState n ≠ 1 → ({ s with syn := t.syn }).OnlySignals (either (among [R.NVC.STAT.WAIT_HOSC]) (synField n)) t)) ∧
    (s.syn.coastDue = true → (∀ p : Fin 4, (s.flue p.val).resv = []) → Answers .syn0CoastTick s fun t =>
      t.syn = { s.syn with coastDue := false, coasting := true, coastTick := s.hearth.tick } ∧ t.lts.coastHold = true ∧
      State.Filed F.syn0Coast 0 s t ∧
      ({ s with syn := t.syn, lts := { s.lts with coastHold := true }, sel := { s.sel with accBad := true } }).OnlyFilings
        (among []) t)

/-! ### Outputs -/

/-- OUT_MUTE and OUT_UNMUTE set and clear cause SOFT alone. ALIGN_COMPLETE at A + TRIM makes an output of a locked synthesizer
ALIGNED, and its first edge leaves, of its polarity, if no cause mutes it. At OUTPUT_PERIOD_END mutes take effect, the trim slews
one step, and an active driver drives the next active edge, on the output's grid once it has been aligned.

CAL_UPDATE of the output that the calibration serves, once 2^AVG of its edges have been measured, shows their mean error, and moves
CALADJ against it by at most STEP_MAX, or beyond the limit asks for alignment; the turn passes on. CAL_LOOPBACK_TIMEOUT of that
output files its fault and leaves CALADJ. Of any other output neither does anything. -/
def Obligations.OutputsAndCalibration : Prop :=
  (∀ (s : State) (n : Fin 16), s.Canonical →
     (Answers (.outMute n) s fun t => bitOf (t.get (R.OUT.STAT.MUTE n)) 0 = true ∧
       (∀ b, b ≠ 0 → bitOf (t.get (R.OUT.STAT.MUTE n)) b = bitOf (s.get (R.OUT.STAT.MUTE n)) b) ∧
       s.OnlyFields (among [R.OUT.STAT.MUTE n]) t) ∧
     (Answers (.outUnmute n) s fun t => bitOf (t.get (R.OUT.STAT.MUTE n)) 0 = false ∧
       (∀ b, b ≠ 0 → bitOf (t.get (R.OUT.STAT.MUTE n)) b = bitOf (s.get (R.OUT.STAT.MUTE n)) b) ∧
       s.OnlyFields (among [R.OUT.STAT.MUTE n]) t) ∧
     (∀ a : Int, (s.outCh n).alignAt = some a → s.alignState n = 1 → a + psU (s.sget (R.OUT.TRIM.PS n)) ≤ s.now →
       s.srcLocked n = true → Answers (.alignComplete n) s fun t =>
         t.alignState n = 2 ∧ t.flag (R.OUT.STAT.NEED_ALIGN n) = false ∧ t.get R.OUT.EVT.ALIGNED = 1 ∧
         t.get (R.OUT.ALIGN_CNT.COUNT n) = (s.get (R.OUT.ALIGN_CNT.COUNT n) + 1) % 2 ^ (R.OUT.ALIGN_CNT.COUNT n).width ∧
         (t.outCh n).origin = a ∧ (t.outCh n).alignAt = none ∧ (t.outCh n).trim = s.sget (R.OUT.TRIM.PS n) ∧
         t.flag (R.OUT.STAT.DRIVING n) = t.outActive n ∧
         (t.outActive n = true → t.emitted.head? = some (.outEdge n.val (a + psU (s.sget (R.OUT.TRIM.PS n)))
           (s.flag (R.OUT.CFG.POL n)))) ∧
         (∀ m, m ≠ n.val → Map.get? t.out.chans m = Map.get? s.out.chans m) ∧
         ({ s with out := { s.out with chans := t.out.chans }, emitted := t.emitted }).OnlySignals
           (either (inside 0x80000 0x10000) (among [R.SYN.CH.STAT.PHASE_LOST (s.get (R.OUT.CFG.SRC n))])) t) ∧
     (Answers (.outputPeriodEnd n) s fun t =>
       let goal := s.sget (R.OUT.TRIM.PS n)
       let trim := (s.outCh n).trim + clampAbs (s.get (R.OUT.TRIM.SLEW n)) (goal - (s.outCh n).trim)
       let period : Rat := s.outPeriod n * (1000000000 * 65536)
       (t.outActive n = false → t.emitted = s.emitted) ∧
       (t.outActive n = true → ∃ e : Int, t.emitted = .outEdge n.val e (s.flag (R.OUT.CFG.POL n)) :: s.emitted ∧
         ((s.outCh n).since = false → e = s.now) ∧
         ((s.outCh n).since = true → 0 < s.outPeriod n → ∃ k : Int,
           let x : Rat := ((t.outCh n).origin : Rat) + ((t.outCh n).trim : Rat) * 65536 / 1000 + period * k
           x - 1 < e ∧ (e : Rat) < x + 1 ∧ 2 * (x - s.now) ≤ period ∧ -period ≤ 2 * (x - s.now))) ∧
       t.flag (R.OUT.STAT.DRIVING n) = t.outActive n ∧
       (s.flag (R.OUT.STAT.TRIM_SLEWING n) = true →
         (t.outCh n).trim = trim ∧ t.flag (R.OUT.STAT.TRIM_SLEWING n) = (trim != goal)) ∧
       (s.flag (R.OUT.STAT.TRIM_SLEWING n) = false → t.out = s.out) ∧
       (∀ m, m ≠ n.val → Map.get? t.out.chans m = Map.get? s.out.chans m) ∧
       ({ s with out := { s.out with chans := t.out.chans }, emitted := t.emitted, freeCtr := s.freeCtr + 1 }).OnlyFields
         (among [R.OUT.STAT.MUTE n, R.OUT.STAT.TRIM_SLEWING n, R.OUT.STAT.DRIVING n, R.OUT.SUM.DRIVING]) t)) ∧
  (∀ (s : State) (n : Fin 16), s.Canonical →
     let measured := s.calServed = some n.val ∧ s.out.calOut = some n.val ∧
       s.out.calErrs.length = 2 ^ s.get (R.OUT.CAL.AVG n)
     let err := s.roundFree (s.out.calErrs.sum / (s.out.calErrs.length : Nat))
     let over_ : State := { s with out := { s.out with calTurn := (n.val + 1) % 16, calOut := none, calErrs := [] } }
     let shown (t : State) : Prop := t.sget (R.OUT.OFFSET.PS n) = max (-(2 ^ 31)) (min (2 ^ 31 - 1) err)
     (¬measured → Answers (.calUpdate n) s fun t => t = s) ∧
     (measured → err.natAbs ≤ s.get (R.OUT.CAL.LIMIT n) → Answers (.calUpdate n) s fun t =>
       shown t ∧ t.sget (R.OUT.CALADJ.PS n) = max (-(2 ^ 19)) (min (2 ^ 19 - 1)
         (s.sget (R.OUT.CALADJ.PS n) - clampAbs (s.get (R.OUT.CAL.STEP_MAX n)) err)) ∧
       ({ over_ with freeCtr := s.freeCtr + 1 }).OnlyFields (among [R.OUT.OFFSET.PS n, R.OUT.CALADJ.PS n]) t) ∧
     (measured → s.get (R.OUT.CAL.LIMIT n) < err.natAbs → Answers (.calUpdate n) s fun t =>
       shown t ∧ t.get R.OUT.EVT.CAL_LIMIT = 1 ∧ t.flag (R.OUT.STAT.NEED_ALIGN n) = true ∧
       ({ over_ with freeCtr := s.freeCtr + 1 }).OnlySignals (among [R.OUT.OFFSET.PS n, R.OUT.EVT.CAL_LIMIT,
         R.OUT.STAT.NEED_ALIGN n, R.OUT.SUM.NEED_ALIGN, R.OUT.EVT.NEED_ALIGN]) t) ∧
     (s.calServed = some n.val → Answers (.calLoopbackTimeout n) s fun t =>
       State.Filed F.outCalFail n s t ∧ over_.OnlyFilings (among []) t) ∧
     (s.calServed ≠ some n.val → Answers (.calLoopbackTimeout n) s fun t => t = s))

/-- TOD_OUT_START, within 100 ns of START_MS after the second and once in it, sends the message of its format for the labelled second;
at any other instant nothing. TEV_ARM arms an idle line whose start is far enough
ahead, and is rejected otherwise; TEV_DISARM disarms; TEV_EDGE drives the edge of t_k, and after the last the line disarms. -/
def Obligations.MessagesAndEventLines : Prop :=
  ∀ s : State, s.Canonical →
    (∀ j : Fin 2,
      let off : Int := (inSecond s.now : Int) - s.get (R.OUT.TOD.CFG.START_MS j) * (1000000 * 65536)
      (off < -(100 * 65536) ∨ 100 * 65536 < off ∨ Map.get? s.out.todLast j.val = some s.second →
        Answers (.todOutStart j) s fun t => t = s) ∧
      (-(100 * 65536) ≤ off → off ≤ 100 * 65536 → Map.get? s.out.todLast j.val ≠ some s.second →
       s.ticking = true → s.flag (R.OUT.TOD.CFG.EN j) = true → s.driven = true →
           s.get R.TSC.STAT.STATE ≠ 0 ∨ s.flag (R.OUT.TOD.CFG.UNSET_EN j) = true → Answers (.todOutStart j) s fun t =>
        let sec := s.second + s.get (R.OUT.TOD.CFG.ALIGN j)
        let f := s.get (R.OUT.TOD.CFG.FORMAT j)
        t.emitted = .todMessage j.val (if f = 2 then s.binaryOf j.val sec
          else if f = 1 then s.zdaOf sec ++ s.pskweOf sec else s.zdaOf sec) :: s.emitted ∧
        t.get (R.OUT.TOD.MSG_CNT.COUNT j) = (s.get (R.OUT.TOD.MSG_CNT.COUNT j) + 1) % 2 ^ (R.OUT.TOD.MSG_CNT.COUNT j).width ∧
        Map.get? t.out.todLast j.val = some s.second ∧
        ({ s with emitted := t.emitted, out := { s.out with
            todBusy := t.out.todBusy, todSeq := t.out.todSeq, todLast := t.out.todLast } }).OnlyFields
          (among [R.OUT.TOD.MSG_CNT.COUNT j]) t)) ∧
    (∀ m : Fin 16,
      let ns := s.get (R.OUT.TEV.START_NS.NS m)
      let count := s.get (R.OUT.TEV.CFG.COUNT m)
      let period := s.get (R.OUT.TEV.PERIOD_NS.NS m) * 65536 + s.get (R.OUT.TEV.PERIOD_FRAC.FRAC m)
      let width := s.get (R.OUT.TEV.CFG.WIDTH m)
      let start : Int := (s.getTime (R.OUT.TEV.START_FRAC.FRAC m) (R.OUT.TEV.START_NS.NS m) (R.OUT.TEV.START_SEC_LO.SEC m)
        (R.OUT.TEV.START_SEC_HI.SEC m) : Nat)
      let early := start < s.now + 1200 * 65536 ∨ (count ≠ 1 ∧ (period < 1000 * 65536 ∨ period ≤ width * 8 * 65536))
      (s.hearth.running = false ∨ (Map.get? s.out.tev m.val).isSome = true → Answers (.tevArm m) s fun t =>
        t.get R.OUT.EVT.CFG_REJECTED = 1 ∧ s.OnlySignals (among [R.OUT.EVT.CFG_REJECTED]) t) ∧
      (s.hearth.running = true → Map.get? s.out.tev m.val = none → 1000000000 ≤ ns → Answers (.tevArm m) s fun t =>
        t.get R.OUT.EVT.CFG_REJECTED = 1 ∧ State.Filed F.outBadTime m s t ∧ s.OnlyFilings (among [R.OUT.EVT.CFG_REJECTED]) t) ∧
      (s.hearth.running = true → Map.get? s.out.tev m.val = none → ns < 1000000000 → early → Answers (.tevArm m) s fun t =>
        t.get R.OUT.EVT.TEV_LATE = 1 ∧ s.OnlySignals (among [R.OUT.EVT.TEV_LATE]) t) ∧
      (s.hearth.running = true → Map.get? s.out.tev m.val = none → ns < 1000000000 → ¬early → Answers (.tevArm m) s fun t =>
        Map.get? t.out.tev m.val = some ⟨start, period, count, s.flag (R.OUT.TEV.CFG.POL m), width, 0⟩ ∧
        bitOf (t.get R.OUT.TEV_STAT.ARMED) m = true ∧ (∀ k, k ≠ m.val → Map.get? t.out.tev k = Map.get? s.out.tev k) ∧
        ({ s with out := { s.out with tev := t.out.tev } }).OnlyFields (among [R.OUT.TEV_STAT.ARMED]) t) ∧
      (Map.wf s.out.tev = true →
        let off (t : State) : Prop := Map.get? t.out.tev m.val = none ∧ bitOf (t.get R.OUT.TEV_STAT.ARMED) m = false
        (Answers (.tevDisarm m) s fun t => off t ∧ (∀ k, k ≠ m.val → Map.get? t.out.tev k = Map.get? s.out.tev k) ∧
          ({ s with out := { s.out with tev := t.out.tev } }).OnlyFields (among [R.OUT.TEV_STAT.ARMED]) t) ∧
        (∀ l : TevLine, Map.get? s.out.tev m.val = some l → l.start + l.next * l.period ≤ s.now →
          Answers (.tevEdge m) s fun t =>
            (s.driven = true → t.emitted = .tevEdge m.val (l.start + l.next * l.period) (l.width * 8) l.falling :: s.emitted ∧
              t.get (R.OUT.TEV.FIRED.COUNT m) = (s.get (R.OUT.TEV.FIRED.COUNT m) + 1) % 2 ^ (R.OUT.TEV.FIRED.COUNT m).width) ∧
            (s.driven = false → t.emitted = s.emitted) ∧
            (l.count ≠ 0 ∧ l.count ≤ l.next + 1 → off t) ∧
            (¬(l.count ≠ 0 ∧ l.count ≤ l.next + 1) → Map.get? t.out.tev m.val = some { l with next := l.next + 1 }) ∧
            (∀ k, k ≠ m.val → Map.get? t.out.tev k = Map.get? s.out.tev k) ∧
            ({ s with emitted := t.emitted, out := { s.out with tev := t.out.tev } }).OnlyFields
              (among [R.OUT.TEV.FIRED.COUNT m, R.OUT.TEV_STAT.ARMED]) t)))

/-! ### Calibration of the spare interpolator and self-tests -/

/-- SPARE_CAL_DONE in READY, with none retired, gives the hits of each bin: a bin is as wide as its share of 4,000 ps. A spare with a
tap outside 4 ps to 40 ps is retired and filed; a sound one takes the table of its bins' centres and is exchanged with the next
channel, whose results are stale no more. Once each of the 33 has been calibrated a rotation is counted.

The self-tests of the standby keep each result and show the report; a worst result of FAIL is filed once. HEALTH_NOW starts
with no results. Out of its turn a test does nothing, as the model reads it (log entry 88). -/
def Obligations.SpareAndSelfTests : Prop :=
  (∀ (s : State) (hist : List Nat) (diff : Nat), s.Canonical → s.get R.TDC.STAT.STATE = 2 → s.flag R.TDC.CAL.EN = true →
     s.get R.TDC.STAT.RETIRED = 0x3F → s.tdc.nextCh < 32 →
     let spare := s.get R.TDC.STAT.SPARE
     let n := s.tdc.nextCh
     let widths : List Rat := hist.map fun h => (4000 * h : Nat) / (2 ^ s.tdc.hits : Nat)
     let turn := (spare :: s.tdc.rotated).eraseDups
     let frame (t : State) : Prop := ({ s with tdc := t.tdc, red := { s.red with failed := t.red.failed } }).OnlyFilings
       (either (inside 0x90000 0x10000) (among [R.RED.HEALTH.REPORT])) t
     ((∃ w ∈ tapWidths widths, w < 4 ∨ 40 < w) → Answers (.spareCalDone hist diff) s fun t =>
       t.get R.TDC.STAT.RETIRED = spare % 64 ∧ t.get R.TDC.EVT.CAL_BAD = 1 ∧
       t.tdc = { s.tdc with hits := s.get R.TDC.CAL.HITS } ∧
       (s.get R.RED.STAT.ROLE ≠ 2 → State.Filed F.tdcCalBad spare s t) ∧ frame t) ∧
     ((∀ w ∈ tapWidths widths, 4 ≤ w ∧ w ≤ 40) → Answers (.spareCalDone hist diff) s fun t =>
       t.get R.TDC.STAT.RETIRED = 0x3F ∧ t.get R.TDC.CAL_STAT.LAST = spare % 64 ∧
       Map.get? t.tdc.interp n = some spare ∧ t.get R.TDC.STAT.SPARE = s.tdcInterp n % 64 ∧ t.tdc.nextCh = (n + 1) % 32 ∧
       (∀ m, m ≠ n → Map.get? t.tdc.interp m = Map.get? s.tdc.interp m) ∧ t.tdc.chans = s.tdc.chans ∧
       Map.get? t.tdc.tables spare = some (binCentres 0 widths) ∧
       (∀ m, m ≠ spare → Map.get? t.tdc.tables m = Map.get? s.tdc.tables m) ∧
       (turn.length = 33 → t.tdc.rotated = [] ∧
         t.get R.TDC.CAL_ROT_CNT.COUNT = (s.get R.TDC.CAL_ROT_CNT.COUNT + 1) % 2 ^ R.TDC.CAL_ROT_CNT.COUNT.width) ∧
       (turn.length ≠ 33 → t.tdc.rotated = turn ∧ t.get R.TDC.CAL_ROT_CNT.COUNT = s.get R.TDC.CAL_ROT_CNT.COUNT) ∧
       t.flag (R.TDC.CH.STAT.STALE n) = false ∧ t.get (R.TDC.CH.CAL_AGE.SECS n) = 0 ∧
       (10 < diff → t.get R.TDC.EVT.CAL_MISMATCH = 1 ∧
         (s.get R.RED.STAT.ROLE ≠ 2 → State.Filed F.tdcCalMismatch n s t)) ∧ frame t)) ∧
  (∀ s : State, s.Canonical → s.get R.RED.STAT.ROLE = 2 →
     let judged (failed : Bool) (t : State) : Prop :=
       t.get R.RED.HEALTH.REPORT = ofLe (leBytes 1 1 ++ leBytes 1 2 ++ leBytes 1 t.healthTests ++ leBytes 1 t.healthAll) ∧
       (t.healthAll = 3 → failed = false → t.red.failed = true ∧ State.Filed F.redStbyHealth t.healthTests s t) ∧
       (t.healthAll ≠ 3 → ({ s with red := t.red }).OnlyFields (among [R.RED.HEALTH.REPORT]) t) ∧
       ({ s with red := t.red }).OnlyFilings (among [R.RED.HEALTH.REPORT]) t
     (Answers .healthNow s fun t =>
       judged false t ∧ t.red.mbist = [] ∧ t.red.synTest = [] ∧ t.red.serdes = [] ∧ t.red.synTurn = 0 ∧ t.red.serdesTurn = 0) ∧
     (s.flag R.RED.TEST_CFG.EN = true →
       (∀ (a : BitVec 8) (ce ue : Bool), Answers (.selftestMbist a ce ue) s fun t =>
         judged s.red.failed t ∧ Map.get? t.red.mbist a.toNat = some (if ue then 3 else if ce then 2 else 1) ∧
         (∀ b, b ≠ a.toNat → Map.get? t.red.mbist b = Map.get? s.red.mbist b) ∧
         t.red.synTest = s.red.synTest ∧ t.red.serdes = s.red.serdes) ∧
       (∀ (n : Fin 4) (u : BandSweep), n.val ≠ s.red.synTurn + 1 → Answers (.selftestSynSweep n u) s fun t => t = s) ∧
       (∀ (n : Fin 4) (u : BandSweep), n.val = s.red.synTurn + 1 → Answers (.selftestSynSweep n u) s fun t =>
         judged s.red.failed t ∧ t.red.synTurn = n.val % 3 ∧ Map.get? t.red.synTest n.val = some (s.sweepResult n u) ∧
         (u.relocked = false → s.sweepResult n u = 3) ∧
         (∀ m, m ≠ n.val → Map.get? t.red.synTest m = Map.get? s.red.synTest m) ∧
         t.red.mbist = s.red.mbist ∧ t.red.serdes = s.red.serdes) ∧
       (∀ (p : Fin 4) (errors : Nat) (locked : Bool), p.val ≠ s.red.serdesTurn →
         Answers (.selftestSerdes p errors locked) s fun t => t = s) ∧
       (∀ (p : Fin 4) (errors : Nat) (locked : Bool), p.val = s.red.serdesTurn → Answers (.selftestSerdes p errors locked) s fun t =>
         judged s.red.failed t ∧ t.red.serdesTurn = (p.val + 1) % 4 ∧
         Map.get? t.red.serdes p.val = some (if locked = false ∨ 10 < errors then 3 else if 0 < errors then 2 else 1) ∧
         (∀ m, m ≠ p.val → Map.get? t.red.serdes m = Map.get? s.red.serdes m) ∧
         t.red.mbist = s.red.mbist ∧ t.red.synTest = s.red.synTest)))

/-! ### GNSS: front ends, acquisition, tracking -/

/-- A sample of b bits stands for an odd number by its FORMAT: sign and magnitude, two's complement, offset binary. EDGE takes I from
the falling edge, SWAP_IQ exchanges the two, INVERT conjugates.

FE_INIT begins the image's script. FE_GATE shows the clock: lost, it is flagged, counted and filed, once until edges return, and a
running front end waits; a second gate out of rate is a FAULT. JAM_LEARN and JAM_WINDOW follow the monitor, which shows the power and
the saturation of the window's samples. SPI transfers and delays carry the script on, a mismatch stops it; SPI_GO begins a host
transfer, or is rejected. -/
def Obligations.FrontEnds : Prop :=
  (∀ b w : Nat, 1 ≤ b → w < 2 ^ b →
    sampleValue 0 b w = (if w < 2 ^ (b - 1) then (2 * w + 1 : Int) else -(2 * ((w : Int) - (2 ^ (b - 1) : Nat)) + 1)) ∧
    sampleValue 1 b w = (if w < 2 ^ (b - 1) then (2 * w + 1 : Int) else 2 * ((w : Int) - (2 ^ b : Nat)) + 1) ∧
    sampleValue 2 b w = 2 * (w : Int) - ((2 ^ b : Nat) - 1)) ∧
  (∀ (s : State) (n : Fin 4) (x : LaneSample),
    let v (y : BitVec 4) : Int := sampleValue (s.get (R.GNA.FE.CFG.FORMAT n)) (s.get (R.GNA.FE.CFG.BITS n)) y.toNat
    let i := v (if s.flag (R.GNA.FE.CFG.EDGE n) then x.fall else x.rise)
    let q := v (if s.flag (R.GNA.FE.CFG.EDGE n) then x.rise else x.fall)
    let swap := s.flag (R.GNA.FE.CFG.SWAP_IQ n)
    s.sampleOf n x = ⟨if swap then q else i, (if s.flag (R.GNA.FE.CFG.INVERT n) then -1 else 1) * (if swap then i else q)⟩) ∧
  ∀ (s : State) (n : Fin 4), s.Canonical →
    let others (t : State) : Prop := ∀ m, m ≠ n.val → Map.get? t.gna.fes m = Map.get? s.gna.fes m
    let advanced (rest : List ScriptEntry) (t : State) : Prop :=
      (t.gnaFe n).script = (if rest = [] then none else some rest) ∧ (rest = [] → t.flag (R.GNA.FE.STAT.INIT_DONE n) = true)
    (∀ (e : ScriptEntry) (rest : List ScriptEntry), Map.getD s.gna.scripts n.val [] = e :: rest →
      Answers (.feInit n) s fun t =>
        t.feState n = (if s.feState n = 0 then 0 else 1) ∧ (t.gnaFe n).script = some (e :: rest) ∧
            t.flag (R.GNA.FE.STAT.INIT_DONE n) = false ∧
        t.flag (R.GNA.FE.STAT.INIT_FAIL n) = false ∧ (∀ us, e = .delay us → (t.gnaFe n).delaying = true) ∧ others t ∧
        (s.feState n ≠ 2 → ({ s with gna := { s.gna with fes := t.gna.fes }, spi := t.spi, emitted := t.emitted }).OnlyFields
          (among [R.GNA.FE.STAT.STATE n, R.GNA.FE.STAT.INIT_DONE n, R.GNA.FE.STAT.INIT_FAIL n]) t)) ∧
    (∀ (count : BitVec 32) (tie : Option SampleTie),
      let c := count.toNat
      let st := s.feState n
      let off := (((c * 1000000000 : Nat) : Int) - ((s.get (R.GNA.FE.SR.HZ n) * 1000000 : Nat) : Int)).natAbs
      let out := s.get (R.GNA.FE.SR.HZ n) * s.get (R.GNA.FE.CFG.TOL n) + 2000000000 < off
      let shown (t : State) : Prop := t.flag (R.GNA.FE.STAT.CLK_PRESENT n) = (c != 0) ∧
        t.get (R.GNA.FE.SR_MEAS.HZ n) = c * 1000 % 2 ^ 32 ∧ others t
      (st = 0 → Answers (.feGate n count tie) s fun t =>
        shown t ∧ s.OnlyFields (among [R.GNA.FE.STAT.CLK_PRESENT n, R.GNA.FE.SR_MEAS.HZ n]) t) ∧
      (st ≠ 0 → c = 0 → Answers (.feGate n count tie) s fun t =>
        shown t ∧ t.feState n = (if st = 3 then 3 else 1) ∧ (t.gnaFe n).lost = true ∧ (t.gnaFe n).goodGates = 0 ∧
        (st = 2 → t.flag (R.GNS.FE_TIE.RMS.MAP_VALID n) = false) ∧
        ((s.gnaFe n).lost = false → t.get (R.GNA.FE.EVT.CLK_LOSS n) = 1 ∧
          t.get (R.GNA.FE.LOSS_CNT.COUNT n) = (s.get (R.GNA.FE.LOSS_CNT.COUNT n) + 1) % 2 ^ 16 ∧ State.Filed F.gnaFeClk n s t) ∧
        ((s.gnaFe n).lost = true → t.get (R.GNA.FE.LOSS_CNT.COUNT n) = s.get (R.GNA.FE.LOSS_CNT.COUNT n))) ∧
      (st = 3 → c ≠ 0 → Answers (.feGate n count tie) s fun t =>
        shown t ∧ (t.gnaFe n).lost = false ∧ ({ s with gna := { s.gna with fes := t.gna.fes } }).OnlyFields
          (among [R.GNA.FE.STAT.CLK_PRESENT n, R.GNA.FE.SR_MEAS.HZ n]) t) ∧
      (st = 1 ∨ st = 2 → c ≠ 0 → ¬out → Answers (.feGate n count tie) s fun t =>
        shown t ∧ (t.gnaFe n).goodGates = (s.gnaFe n).goodGates + 1 ∧ (t.gnaFe n).badGates = 0 ∧ (t.gnaFe n).lost = false ∧
        (st = 2 → (t.gnaFe n).samples = (s.gnaFe n).samples + c) ∧
        t.feState n = (if st = 2 ∨ 1 ≤ (s.gnaFe n).goodGates ∧ s.flag (R.GNA.FE.STAT.INIT_DONE n) = true ∧
          s.flag (R.GNA.FE.STAT.INIT_FAIL n) = false then 2 else 1) ∧
        (st = 1 → ({ s with gna := { s.gna with fes := t.gna.fes } }).OnlyFields
          (among [R.GNA.FE.STAT.STATE n, R.GNA.FE.STAT.CLK_PRESENT n, R.GNA.FE.SR_MEAS.HZ n]) t)) ∧
      (st = 1 ∨ st = 2 → c ≠ 0 → out → (s.gnaFe n).badGates = 0 → Answers (.feGate n count tie) s fun t =>
        shown t ∧ t.feState n = st ∧ (t.gnaFe n).goodGates = 0 ∧ (t.gnaFe n).badGates = 1) ∧
      (st = 1 ∨ st = 2 → c ≠ 0 → out → 1 ≤ (s.gnaFe n).badGates → Answers (.feGate n count tie) s fun t =>
        shown t ∧ t.feState n = 3 ∧ t.get (R.GNA.FE.EVT.FAULT n) = 1 ∧ State.Filed F.gnaFeFault n s t)) ∧
    (Answers (.jamLearn n) s fun t =>
      (t.gnaFe n).learn = some (0, 0) ∧ others t ∧ t = { s with gna := { s.gna with fes := t.gna.fes } }) ∧
    (∀ (samples : List LaneSample) (noise : BitVec 16), s.feState n = 2 → Answers (.jamWindow n samples noise) s fun t =>
      let bits := s.get (R.GNA.FE.CFG.BITS n)
      let two := 2 ≤ bits
      let zs := samples.map (s.sampleOf n)
      let sat := if two then s.bump.windowSat bits zs else 0
      let loud := s.get (R.GNA.FE.JAM.JAM_DB n) * 10 < noise.toInt - s.sget (R.GNA.FE.BASE.DB n) ∨
        (two ∧ s.get (R.GNA.FE.JAM.SAT_MAX n) < sat)
      let up := if loud then (s.gnaFe n).jamUp + 1 else 0
      let down := if loud then 0 else (s.gnaFe n).jamDown + 1
      let was := s.flag (R.GNA.FE.STAT.JAM n)
      let need := s.get (R.GNA.FE.JAM.JAM_N n)
      t.sget (R.GNA.FE.POWER.DB n) = toSigned 16 (ofSigned 16 (s.windowPower bits zs)) ∧ t.get (R.GNA.FE.SAT.FRAC n) = sat ∧
      (zs ≠ [] → (∀ z ∈ zs, z.re.natAbs = fullScale bits ∨ z.im.natAbs = fullScale bits) → two → sat = 0xFFFF) ∧
      ((∀ z ∈ zs, z.re.natAbs ≠ fullScale bits ∧ z.im.natAbs ≠ fullScale bits) → sat = 0) ∧
      t.get (R.GNA.FE.NOISE.DB n) = noise.toNat ∧ (t.gnaFe n).jamUp = up ∧ (t.gnaFe n).jamDown = down ∧
      (was = false → t.flag (R.GNA.FE.STAT.JAM n) = decide (need ≤ up)) ∧
      (was = true → t.flag (R.GNA.FE.STAT.JAM n) = decide (down < need)) ∧
      (was = false → need ≤ up → t.get (R.GNA.FE.EVT.JAM n) = 1 ∧
        t.get (R.GNA.FE.JAM_CNT.COUNT n) = (s.get (R.GNA.FE.JAM_CNT.COUNT n) + 1) % 2 ^ 16) ∧
      (∀ k sum, (s.gnaFe n).learn = some (k, sum) →
        (k + 1 < 600 → (t.gnaFe n).learn = some (k + 1, sum + noise.toInt)) ∧
        (600 ≤ k + 1 → (t.gnaFe n).learn = none)) ∧ others t ∧
      ({ s with gna := { s.gna with fes := t.gna.fes }, freeCtr := t.freeCtr }).OnlySignals
        (among [R.GNA.FE.POWER.DB n, R.GNA.FE.SAT.FRAC n, R.GNA.FE.NOISE.DB n, R.GNA.FE.STAT.JAM n, R.GNA.FE.EVT.JAM n,
          R.GNA.FE.JAM_CNT.COUNT n, R.GNA.FE.BASE.DB n, R.GNS.STAT.JAM, R.GNS.EVT.JAM]) t) ∧
    (∀ rx : Word,
      (∀ read : Bool, s.spi.current = some (.host read) → Answers (.spiTransferDone rx) s fun t =>
        t.flag R.GNA.STAT.SPI_BUSY = false ∧ t.get R.GNA.EVT.SPI_DONE = 1 ∧
        t.get R.GNA.SPI_RX.DATA = (if read then rx.toNat else s.get R.GNA.SPI_RX.DATA) ∧
        ({ s with spi := t.spi, emitted := t.emitted }).OnlySignals
          (among [R.GNA.SPI_RX.DATA, R.GNA.STAT.SPI_BUSY, R.GNA.EVT.SPI_DONE]) t) ∧
      (∀ (cs len data : Nat) (rest : List ScriptEntry), s.spi.current = some (.script n.val) →
        (s.gnaFe n).script = some (.write cs len data :: rest) → Answers (.spiTransferDone rx) s fun t =>
          advanced rest t ∧ others t) ∧
      (∀ (cs len expect mask : Nat) (rest : List ScriptEntry), s.spi.current = some (.script n.val) →
        (s.gnaFe n).script = some (.read cs len expect mask :: rest) → Answers (.spiTransferDone rx) s fun t =>
          others t ∧ (rx.toNat &&& mask = expect &&& mask → advanced rest t) ∧
          (rx.toNat &&& mask ≠ expect &&& mask → (t.gnaFe n).script = none ∧ t.feState n = 3 ∧
            t.flag (R.GNA.FE.STAT.INIT_FAIL n) = true ∧ (s.feState n ≠ 3 → State.Filed F.gnaFeFault n s t)))) ∧
    (∀ (e : ScriptEntry) (rest : List ScriptEntry), (s.gnaFe n).delaying = true → (s.gnaFe n).script = some (e :: rest) →
      Answers (.scriptDelayDone n) s fun t => advanced rest t ∧ others t) ∧
    (s.flag R.GNA.STAT.SPI_BUSY = true ∨ s.get R.GNA.SPI_CMD.LEN = 0 ∨ 4 < s.get R.GNA.SPI_CMD.LEN → Answers .spiGo s fun t =>
      t.get R.GNA.EVT.CFG_REJECTED = 1 ∧ s.OnlySignals (among [R.GNA.EVT.CFG_REJECTED]) t) ∧
    (s.flag R.GNA.STAT.SPI_BUSY = false → 1 ≤ s.get R.GNA.SPI_CMD.LEN → s.get R.GNA.SPI_CMD.LEN ≤ 4 → Answers .spiGo s fun t =>
      t.flag R.GNA.STAT.SPI_BUSY = true ∧
      (s.spi.current = none → s.spi.dac = none → (∀ m : Fin 4, s.scriptHead m = none) →
        t.spi.current = some (.host (s.flag R.GNA.SPI_CMD.READ)) ∧ t.emitted = .spi (s.get R.GNA.SPI_CMD.CS) (s.get R.GNA.SPI_CMD.LEN)
          (s.flag R.GNA.SPI_CMD.READ) (s.get R.GNA.SPI_TX.DATA) (s.get R.GNA.SPI_CFG.MODE) (s.get R.GNA.SPI_CFG.DIV) :: s.emitted) ∧
      ({ s with spi := t.spi, emitted := t.emitted }).OnlyFields (among [R.GNA.STAT.SPI_BUSY]) t)

/-- SUBMIT queues the job its words spell, or rejects it; JOB_FLUSH removes host jobs; JOB_START gives a free engine the next job, or
ends it REJECTED where its front end or its aid no longer serves; DWELL_DONE carries the search on by what its samples come to, and
after a verified detection a free channel pulls in with the code phase projected to the sample of the handoff. A firmware job's result
goes to the solution core. -/
def Obligations.AcquisitionJobs : Prop :=
  ∀ s : State, s.Canonical →
    let ok := s.jobValid s.jobWords = true ∧ s.gna.jobs.length < 64 ∧ s.hostJobs < 16 ∧
      ¬(s.jobWords.chAuto = false ∧ s.fwOwns s.jobWords.ch = true)
    (ok → Answers .submit s fun t =>
      t.gna.jobs = s.gna.jobs ++ [⟨s.jobWords, true, false⟩] ∧ t.get R.GNA.STAT.JOBS = (s.gna.jobs.length + 1) % 128 ∧
      ({ s with gna := { s.gna with jobs := t.gna.jobs } }).OnlyFields (among [R.GNA.STAT.JOBS]) t) ∧
    (¬ok → Answers .submit s fun t =>
      t.gna.jobs = s.gna.jobs ∧ t.get R.GNA.EVT.CFG_REJECTED = 1 ∧
      t.get R.GNA.JOB_REJ_CNT.COUNT = (s.get R.GNA.JOB_REJ_CNT.COUNT + 1) % 2 ^ 32 ∧
      (s.gna.results.length < 16 → t.gna.results = s.gna.results ++ [⟨2, s.jobWords.prn, 0, s.jobWords.tag, 0, 0, 0, 0⟩] ∧
        t.get R.GNA.EVT.JOB_DONE = 1) ∧
      (16 ≤ s.gna.results.length → t.gna.results = s.gna.results ∧ t.get R.GNA.EVT.RES_LOST = 1) ∧
      ({ s with gna := { s.gna with results := t.gna.results } }).OnlySignals
        (among [R.GNA.EVT.CFG_REJECTED, R.GNA.JOB_REJ_CNT.COUNT, R.GNA.EVT.JOB_DONE, R.GNA.EVT.RES_LOST]) t) ∧
    (Answers .jobFlush s fun t =>
      (∀ j, j ∈ t.gna.jobs ↔ j ∈ s.gna.jobs ∧ j.host = false) ∧ t.get R.GNA.STAT.JOBS = t.gna.jobs.length % 128 ∧
      ({ s with gna := { s.gna with jobs := t.gna.jobs } }).OnlyFields (among [R.GNA.STAT.JOBS]) t) ∧
    (∀ e : Fin 8,
      let alone (t : State) : Prop := ∀ m, m ≠ e.val → Map.get? t.gna.engines m = Map.get? s.gna.engines m
      (∀ (j : GnaJob) (before after : List GnaJob), (s.engine e).job = none → s.gna.jobs = before ++ j :: after →
        (∀ b ∈ before, s.jobReady b = false) → s.jobReady j = true →
        let fit := s.jobValid j.req = true ∧ (j.req.aided = false ∨ s.chState j.req.aidCh = 3 ∧
            s.get (R.GNT.CH.STAT.PRN j.req.aidCh) = j.req.prn ∧
          systemOf (s.get (R.GNT.CH.STAT.SIG j.req.aidCh)) = systemOf j.req.sig)
        (¬fit → Answers (.jobStart e) s fun t =>
          t.gna.jobs = before ++ after ∧ t.gna.engines = s.gna.engines ∧
          t.get R.GNA.JOB_REJ_CNT.COUNT = (s.get R.GNA.JOB_REJ_CNT.COUNT + 1) % 2 ^ 32 ∧
          (j.host = true → s.gna.results.length < 16 →
            t.gna.results = s.gna.results ++ [⟨2, j.req.prn, 0, j.req.tag, 0, 0, 0, 0⟩]) ∧
          (j.host = false → t.emitted = .coreResult 2 j.req.prn 0 j.req.tag 0 0 0 0 :: s.emitted)) ∧
        (fit → Answers (.jobStart e) s fun t =>
          t.engine e = ⟨some j, 0, 0, j.req.aided, 0, 0, if j.req.aided then some (s.aidFix j.req.aidCh) else none⟩ ∧
              t.gna.jobs = before ++ after ∧ alone t ∧
          t.flag (R.GNA.ENG.STAT.BUSY e) = true ∧ t.flag (R.GNA.ENG.STAT.HOST e) = j.host ∧
          bitOf (t.get R.GNA.STAT.ENG_BUSY) e = true ∧
          ({ s with gna := { s.gna with jobs := t.gna.jobs, engines := t.gna.engines } }).OnlyFields
            (either (inside (R.GNA.ENG.STAT.BUSY e).addr 4) (among [R.GNA.STAT.JOBS, R.GNA.STAT.ENG_BUSY])) t)) ∧
      (∀ (j : GnaJob) (run : DwellRun), (s.engine e).job = some j →
        let res := s.dwellResult (s.engine e) j.req run
        let hit := j.req.thr ≤ res.stat
        let counted (t : State) : Prop := alone t ∧
          t.get (R.GNA.ENG.DWELL_CNT.COUNT e) = (s.get (R.GNA.ENG.DWELL_CNT.COUNT e) + 1) % 2 ^ 32 ∧ t.hearth = s.hearth
        ((s.engine e).verify = false → hit → Answers (.dwellDone e run) s fun t =>
          counted t ∧ t.engine e = { s.engine e with verify := true, peak := res.hyp }) ∧
        ((s.engine e).verify = false → ¬hit → j.req.aided = false → (s.engine e).block + 1 < (jobBlocks j.req).2 →
          Answers (.dwellDone e run) s fun t => counted t ∧ t.engine e = { s.engine e with block := (s.engine e).block + 1 }) ∧
        ((s.engine e).verify = false → ¬hit → j.req.aided = false → (jobBlocks j.req).2 ≤ (s.engine e).block + 1 →
          (s.engine e).bin + 1 < jobBins j.req → Answers (.dwellDone e run) s fun t =>
            counted t ∧ t.engine e = { s.engine e with block := 0, bin := (s.engine e).bin + 1 }) ∧
        ((s.engine e).verify = true → ¬hit → j.req.aided = false → (s.engine e).block + 1 < (jobBlocks j.req).2 →
          Answers (.dwellDone e run) s fun t => counted t ∧ t.engine e =
            { s.engine e with block := (s.engine e).block + 1, verify := false, vfail := (s.engine e).vfail + 1 }) ∧
        (∀ outcome : Nat, (s.engine e).verify = true → hit → s.handoffTo j = .inl outcome →
          Answers (.dwellDone e run) s fun t => counted t ∧ (t.engine e).job = none ∧ t.gna.chans = s.gna.chans ∧
            (j.host = true → s.gna.results.length < 16 → ∃ r, t.gna.results = s.gna.results ++ [r] ∧ r.outcome = outcome ∧
              r.prn = j.req.prn ∧ r.tag = j.req.tag ∧ r.hyp = res.hyp ∧ r.doppler = res.doppler)) ∧
        (∀ c : Nat, (s.engine e).verify = true → hit → s.handoffTo j = .inr c → c < 256 →
          Answers (.dwellDone e run) s fun t =>
            counted t ∧ (t.engine e).job = none ∧ t.chState c = 1 ∧ t.get (R.GNT.CH.STAT.SIG c) = j.req.sig % 16 ∧
            t.get (R.GNT.CH.STAT.FE c) = j.req.fe % 4 ∧ t.get (R.GNT.CH.STAT.PRN c) = j.req.prn % 256 ∧
            t.get (R.GNT.CH.SLIP_CNT.COUNT c) = 0 ∧ t.get (R.GNT.CH.DUMP_CNT.COUNT c) = 0 ∧
            (∀ m, m ≠ c → Map.get? t.gna.chans m = Map.get? s.gna.chans m) ∧
            (let g := signalOf j.req.sig
             let rho := ncoStep (g.chipRate * (1 + (res.doppler : Rat) / 1000 / carrierHz g.band)) (s.get (R.GNA.FE.SR.HZ j.req.fe))
             (t.gnt c).sample = run.handoff ∧ (t.gnt c).rho = rho ∧ (t.gnt c).code =
               ((g.hypPhase res.hyp + (run.handoff - run.first : Int) * rho) % (g.chips * 2 ^ 48 : Nat)).toNat) ∧
            (j.host = false → .coreResult 0 j.req.prn c j.req.tag res.hyp (min 255 res.stat) res.doppler
              (min 255 (s.engine e).vfail) ∈ t.emitted) ∧
            (j.host = true → s.gna.results.length < 16 → ∃ r, t.gna.results = s.gna.results ++ [r] ∧ r.outcome = 0 ∧ r.ch = c ∧
              r.prn = j.req.prn ∧ r.tag = j.req.tag ∧ r.hyp = res.hyp ∧ r.doppler = res.doppler)))) ∧
    (let sent (t : State) : Prop :=
      t.emitted = .hostData (BitVec.ofNat 32 (t.rawWord R.GNA.JOB_RES0.VALID.addr)) :: s.emitted
     (s.gna.results = [] → Answers .jobResultPop s fun t =>
        t.get R.GNA.JOB_RES0.VALID = 0 ∧ sent t ∧ ({ s with emitted := t.emitted }).OnlyFields (among [R.GNA.JOB_RES0.VALID]) t) ∧
     (∀ (r : JobResult) (rest : List JobResult), s.gna.results = r :: rest → Answers .jobResultPop s fun t =>
        t.gna.results = rest ∧ t.get R.GNA.JOB_RES0.VALID = 1 ∧ t.get R.GNA.JOB_RES0.OUTCOME = r.outcome % 8 ∧
        t.get R.GNA.JOB_RES0.PRN = r.prn % 256 ∧ t.get R.GNA.JOB_RES0.CH = r.ch % 256 ∧ t.get R.GNA.JOB_RES0.TAG = r.tag % 256 ∧
        t.get R.GNA.JOB_RES1.HYP = r.hyp % 2 ^ 18 ∧ t.get R.GNA.JOB_RES1.S = r.stat % 256 ∧
        t.get R.GNA.JOB_RES3.VFAIL = r.vfail % 256 ∧ sent t ∧
        ({ s with emitted := t.emitted, gna := { s.gna with results := rest } }).OnlyFields (inside 0xA0020 16) t))

/-- CH_RELEASE returns a channel of the host to IDLE. INTEGRATION_DUMP of a tracking channel counts the dump, and both NCOs move
by its samples; 50 in phase lock lead from PULLIN to SYNC, a pilot's secondary code in its signs to LOCKED, and a pilot that
stays inverted for a secondary code has slipped. The timeouts lead to LOSS, and so do LOSS_T seconds of low C/N0, from LOCKED
with a job to acquire anew. NAV_RECORD counts the unit, and gives its record to the solution core and the ring while there is
room; a good unit resolves the polarity, and one found inverted after that is a slip. -/
def Obligations.TrackingChannels : Prop :=
  ∀ (s : State) (c : BitVec 8), s.Canonical →
    let k := c.toNat
    let others (t : State) : Prop := ∀ m, m ≠ k → Map.get? t.gna.chans m = Map.get? s.gna.chans m
    let own : Field → Prop := either (inside (R.GNT.CH.CFG.REACQ k).addr 0x100) (among [R.GNA.ACTIVE.CH (k / 32)])
    (s.fwOwns k = true → Answers (.chRelease c) s fun t =>
      t.get R.GNA.EVT.CFG_REJECTED = 1 ∧ t.get R.GNA.JOB_REJ_CNT.COUNT = (s.get R.GNA.JOB_REJ_CNT.COUNT + 1) % 2 ^ 32 ∧
      s.OnlySignals (among [R.GNA.EVT.CFG_REJECTED, R.GNA.JOB_REJ_CNT.COUNT]) t) ∧
    (s.fwOwns k = false → Map.wf s.gna.chans = true → Answers (.chRelease c) s fun t =>
      t.chState k = 0 ∧ bitOf (t.get (R.GNA.ACTIVE.CH (k / 32))) (k % 32) = false ∧ t.get (R.GNT.CH.TC.MS k) = 0 ∧
      Map.get? t.gna.chans k = none ∧ others t ∧
      ({ s with gna := { s.gna with chans := t.gna.chans } }).OnlyFields own t) ∧
    (∀ (samples : List LaneSample) (g : Signal), signals[s.get (R.GNT.CH.STAT.SIG k)]? = some g →
      s.chState k = 1 ∨ s.chState k = 2 ∨ s.chState k = 3 → Answers (.integrationDump c samples) s fun t =>
        let d := s.dumpSums k samples
        let neg := decide ((d.main g).p.re < 0)
        let x := s.gnt k
        t.get (R.GNT.CH.DUMP_CNT.COUNT k) = (s.get (R.GNT.CH.DUMP_CNT.COUNT k) + 1) % 2 ^ 32 ∧
        (t.gnt k).phi = x.phi + samples.length * x.w ∧ (t.gnt k).sample = x.sample + samples.length ∧
        (g.boc = false → 0 < x.period → ((t.gnt k).code : Int) % (g.chips * 2 ^ 48 : Nat) =
          (x.code + samples.length * x.rho) % (x.period * 2 ^ 48 : Nat) % (g.chips * 2 ^ 48 : Nat)) ∧
        ((t.gnt k).lockRun = 0 ∨ (t.gnt k).lockRun = x.lockRun + 1) ∧
        (s.chState k = 1 → t.chState k = (if 50 ≤ (t.gnt k).lockRun then 2 else 1)) ∧
        (s.chState k = 2 → t.chState k = 2 ∨ t.chState k = 3) ∧
        (s.chState k = 2 → t.chState k = 3 → t.get (R.GNT.CH.EVT.LOCK k) = 1 ∧ t.flag (R.GNT.CH.STAT.BITSYNC k) = true ∧
          (t.gnt k).lockedAt = some s.now) ∧
        (s.chState k = 2 → g.pilot = true → t.chState k =
          (if (pilotAlign (s.pilotCode k) ((neg :: x.signs).take (2 * g.secPilot)).reverse).isSome then 3 else 2)) ∧
        (s.chState k = 3 → t.chState k = 3) ∧
        (s.chState k = 3 → g.pilot = true → neg = true → g.secPilot ≤ x.negRun + d.parts.length →
          t.get (R.GNT.CH.EVT.SLIP k) = 1 ∧
          t.get (R.GNT.CH.SLIP_CNT.COUNT k) = (s.get (R.GNT.CH.SLIP_CNT.COUNT k) + 1) % 2 ^ 16) ∧ others t ∧
        ({ s with gna := { s.gna with chans := t.gna.chans }, freeCtr := t.freeCtr }).OnlySignals own t) ∧
    (let lost (t : State) : Prop := t.chState k = 4 ∧ t.get (R.GNT.CH.EVT.LOSS k) = 1 ∧
        bitOf (t.get (R.GNA.ACTIVE.CH (k / 32))) (k % 32) = true ∧ t.gna.chans = s.gna.chans
     (s.chState k = 1 → Answers (.pullinTimeout c) s fun t => lost t ∧ s.OnlySignals own t) ∧
     (s.chState k = 2 → Answers (.syncTimeout c) s fun t => lost t ∧ s.OnlySignals own t) ∧
     (s.chState k ≠ 3 ∨ (s.gnt k).lowRun < max 1 (s.get (R.GNT.CH.THR.LOSS_T k)) → Answers (.cn0Loss c) s fun t => t = s) ∧
     (s.chState k = 3 → max 1 (s.get (R.GNT.CH.THR.LOSS_T k)) ≤ (s.gnt k).lowRun → Answers (.cn0Loss c) s fun t => lost t ∧
        (s.flag (R.GNT.CH.CFG.REACQ k) = false → s.OnlySignals own t) ∧
        (s.flag (R.GNT.CH.CFG.REACQ k) = true → s.gna.jobs.length < 64 → s.jobAdmits (s.reacqJob k).req = true →
          t.gna.jobs = s.gna.jobs ++ [s.reacqJob k] ∧
          ({ s with gna := { s.gna with jobs := t.gna.jobs } }).OnlySignals (either own (among [R.GNA.STAT.JOBS])) t) ∧
        (s.flag (R.GNT.CH.CFG.REACQ k) = true → 64 ≤ s.gna.jobs.length ∨ s.jobAdmits (s.reacqJob k).req = false →
          t.get R.GNA.JOB_REJ_CNT.COUNT = (s.get R.GNA.JOB_REJ_CNT.COUNT + 1) % 2 ^ 32 ∧
          s.OnlySignals (either own (among [R.GNA.JOB_REJ_CNT.COUNT])) t))) ∧
    (∀ u : NavUnit, s.chState k = 3 → s.flag (R.GNT.CH.CFG.NAV_EN k) = true → Answers (.navRecord c u) s fun t =>
      let ok := navGood (navKind (s.get (R.GNT.CH.STAT.SIG k)) u) u = true
      let size := s.get R.GNA.NAV_SIZE.SIZE * 4096
      let base := s.get R.GNA.NAV_BASE_LO.ADDR * 4096 + s.get R.GNA.NAV_BASE_HI.ADDR * 2 ^ 32
      let wr := s.get R.GNA.NAV_WR.PTR
      let used := (wr + size - s.get R.GNA.NAV_RD.PTR) % size
      t.get (R.GNT.CH.EVT.NAV k) = 1 ∧
      (ok → t.get (R.GNT.CH.NAV_OK_CNT.COUNT k) = (s.get (R.GNT.CH.NAV_OK_CNT.COUNT k) + 1) % 2 ^ 32 ∧
        t.flag (R.GNT.CH.STAT.HALF_CYC k) = false ∧ (t.gnt k).polarity = some u.polInverted) ∧
      (ok → (s.gnt k).polarity = some (!u.polInverted) → t.get (R.GNT.CH.EVT.SLIP k) = 1 ∧
        t.get (R.GNT.CH.SLIP_CNT.COUNT k) = (s.get (R.GNT.CH.SLIP_CNT.COUNT k) + 1) % 2 ^ 16) ∧
      (¬ok → t.get (R.GNT.CH.NAV_FAIL_CNT.COUNT k) = (s.get (R.GNT.CH.NAV_FAIL_CNT.COUNT k) + 1) % 2 ^ 32) ∧
      (size = 0 → t.dram = s.dram ∧ t.get R.GNA.NAV_WR.PTR = wr) ∧
      (size ≠ 0 → used + 128 < size → wr < size →
        t.get R.GNA.NAV_WR.PTR = (wr + 128) % size % 2 ^ 24 ∧
        ∀ a, a < base ∨ base + size ≤ a → Mem.byte dramBlank t.dram a = Mem.byte dramBlank s.dram a) ∧
      (size ≠ 0 → size ≤ used + 128 → t.dram = s.dram ∧ t.get R.GNA.EVT.NAV_LOST = 1 ∧
        t.get R.GNA.NAV_LOST_CNT.COUNT = (s.get R.GNA.NAV_LOST_CNT.COUNT + 1) % 2 ^ 32) ∧
      (∃ (vs ws : List Nat) (r : List Byte), r.length = 128 ∧
        t.emitted = vs.map Emission.msix ++ .coreRecord r :: (ws.map Emission.msix ++ s.emitted)) ∧ others t ∧
      s.KeepsBut (either (either own (among [R.GNA.NAV_WR.PTR, R.GNA.NAV_LOST_CNT.COUNT, R.GNA.EVT.NAV_LOST])) countField) t ∧
      t = { s with regs := t.regs, emitted := t.emitted, host := { s.host with pba := t.host.pba }, freeCtr := t.freeCtr,
                   pmc := { s.pmc with wrapped := t.pmc.wrapped }, dram := t.dram, dramBad := t.dramBad,
                   gna := { s.gna with chans := t.gna.chans, navLostNext := t.gna.navLostNext } })

/-- A broadcast week stands for the smallest week at or after the base that it is the low bits of.

At an epoch with no commit waiting GNSS_EPOCH counts the record and gives it to the solution core, idles channels in LOSS, and lists a
solution epoch as due. The firmware's acknowledgement clears the misses, and the third miss halts the core; FW_RESTART starts it.
SOLUTION_DELIVERY of a due epoch shows the solution that its record comes to; a valid one in time is counted, any other fails with its
cause. -/
def Obligations.GnssSolution : Prop :=
  (∀ base bits week : Nat,
    let w := resolveWeek base bits week
    base ≤ w ∧ w % 2 ^ bits = week % 2 ^ bits ∧ ∀ v, base ≤ v → v % 2 ^ bits = week % 2 ^ bits → w ≤ v) ∧
  ∀ s : State, s.Canonical →
    (∀ (te : Nat) (late : Bool), s.commits = [] → s.shadow = [] → s.ticking = true →
      s.epochInstant = some te → Answers (.gnssEpoch late) s fun t =>
        t.get R.GNS.EPOCH_CNT.COUNT = (s.get R.GNS.EPOCH_CNT.COUNT + 1) % 2 ^ 32 ∧
        t.gns.sequence = (s.gns.sequence + 1) % 2 ^ 32 ∧ t.gns.stepD = none ∧ t.gns.skipped = 0 ∧
        (∀ c : Fin 256, t.chState c.val = if s.chState c.val = 4 then 0 else s.chState c.val) ∧
        (s.coreRuns = true → s.solutionEpoch te = true → ⟨te, 0, s.epochEntries te⟩ ∈ t.gns.due) ∧
        .coreRecord (s.epochRecord te (s.epochEntries te) late) ∈ t.emitted ∧
        (late = true → t.get R.GNS.LATE_CNT.COUNT = (s.get R.GNS.LATE_CNT.COUNT + 1) % 2 ^ 32 ∧
          t.get R.GNS.EVT.EPOCH_LATE = 1 ∧ State.Filed F.gnsEpochLate 0 s t) ∧
        (s.get R.GNS.EPO_SIZE.SIZE = 0 → t.dram = s.dram) ∧ t.hearth = s.hearth ∧ t.ref = s.ref ∧ t.eth = s.eth ∧
        t.lts = s.lts ∧ t.rse = s.rse) ∧
    (∀ acts : FwActions, s.coreRuns = true →
      (s.flag R.GNS.CFG.AUTO_ACQ = false → Answers (.fwAck acts) s fun t => t = { s with gns := { s.gns with missed := 0 } }) ∧
      (s.flag R.GNS.CFG.AUTO_ACQ = true → Answers (.fwAck acts) s fun t =>
        t.gns = { s.gns with missed := 0 } ∧ s.gna.jobs <+: t.gna.jobs ∧
        (∀ c ∈ acts.release, s.fwOwns c.toNat = true → t.chState c.toNat = 0) ∧
        (∀ c : BitVec 8, c ∉ acts.release ∨ s.fwOwns c.toNat = false → t.chState c.toNat = s.chState c.toNat) ∧
        ({ s with gns := t.gns, gna := t.gna }).OnlyFields (either (inside 0xA0000 0x10000) (inside 0xB0000 0x10000)) t)) ∧
    (s.coreRuns = true → s.gns.missed + 1 < 3 → Answers .fwAckTimeout s fun t =>
      t = { s with gns := { s.gns with missed := s.gns.missed + 1 } }) ∧
    (s.coreRuns = true → 3 ≤ s.gns.missed + 1 → Answers .fwAckTimeout s fun t =>
      t.get R.GNS.EVT.FW_HALT = 1 ∧ t.gns.missed = 0 ∧ t.gns.due = [] ∧ t.gns.lastHalt = some s.now ∧
      (∀ h, s.gns.lastHalt = some h → s.now - h < 3600 * (1000000000 * 65536) → t.get R.GNS.STAT.FW_STATE = 2) ∧
      (s.gns.lastHalt = none ∨ (∃ h, s.gns.lastHalt = some h ∧ 3600 * (1000000000 * 65536) ≤ s.now - h) →
        t.coreRuns = true) ∧
      (s.flag R.GNS.STAT.SPOOF = true → State.Filed F.gnsFwHalt 0 s t) ∧ (∀ j ∈ t.gna.jobs, j.host = true ∨ j.reacq = true)) ∧
    (s.gns.loaded = true → s.hearth.running = true → Answers .fwRestart s fun t =>
      t.coreRuns = true ∧ t.gns.missed = 0 ∧ t.gns.due = [] ∧ t.gns.survey = ⟨s.now, 0, 0, 0, 0, 0⟩ ∧
      (∀ j ∈ t.gna.jobs, j.host = true ∨ j.reacq = true)) ∧
    (∀ (m : NavModel) (e : EpochDue), s.coreRuns = true → s.gns.due.find? (fun e => e.te == m.te) = some e →
      let sol := s.solve m e.entries
      let late := (m.te : Int) + e.corr + s.get R.GNS.TB.SOL_DEADLINE * (1000000 * 65536) < s.now
      let cause := s.failCause sol
      Answers (.solutionDelivery m) s fun t =>
        (∀ e ∈ t.gns.due, e.te ≠ m.te) ∧ t.get R.GNS.SOL_INFO.USED = sol.used % 2 ^ R.GNS.SOL_INFO.USED.width ∧
        t.get R.GNS.SOL_INFO.EXCL = sol.excl % 2 ^ R.GNS.SOL_INFO.EXCL.width ∧
        t.get R.GNS.SOL_INFO.TDOP = min 0xFFFF sol.tdop % 2 ^ R.GNS.SOL_INFO.TDOP.width ∧ t.gns.survey = sol.survey ∧
        (cause = 0 → ¬late → t.flag R.GNS.STAT.SOL_VALID = true ∧ t.get R.GNS.STAT.FAIL_CAUSE = 0 ∧
          t.get R.GNS.SOL_CNT.COUNT = (s.get R.GNS.SOL_CNT.COUNT + 1) % 2 ^ 32 ∧ t.get R.GNS.EVT.SOL = 1 ∧
          t.get R.GNS.SOL_TB.TB = min 0xFFFFFFFF (s.timeBound sol) ∧ t.flag (R.REF.SLOT.STAT.PRESENT 8) = true) ∧
        (cause ≠ 0 ∨ late → t.flag R.GNS.STAT.SOL_VALID = false ∧
          t.get R.GNS.STAT.FAIL_CAUSE = (if cause ≠ 0 then cause else 7) ∧ t.get R.GNS.EVT.SOL_FAIL = 1 ∧
          t.get R.GNS.SOL_FAIL_CNT.COUNT = (s.get R.GNS.SOL_FAIL_CNT.COUNT + 1) % 2 ^ 32 ∧
          t.ref = s.ref ∧ t.hearth = s.hearth))

/-! ### Ethernet ports -/

/-- WAKE_ARM arms the detector and PRBS_CLR clears its count. A calibrated lane leads from OFF to DOWN; a report of the PCS moves
the link as the conditions say; PENDING held, and FAULT cleared, lead to UP. The spans are measured as the model chose (log entry
126). -/
def Obligations.LinkStates : Prop :=
  ∀ (s : State) (p : Fin 4), s.Canonical →
    let link (t : State) : Nat := t.get (R.ETH.STAT.LINK p)
    let ptp : Field → Prop := among [R.PRO.PORT.STAT.STATE 0, R.PRO.PORT.STAT.STATE 1, R.PRO.PORT.STAT.STATE 2,
        R.PRO.PORT.STAT.STATE 3]
    (s.get (R.ETH.STAT.PWR_STATE p) = 1 → Answers (.wakeArm p) s fun t =>
      (t.port p).armed = true ∧ (t.port p).bursts = 0 ∧ (∀ m, m ≠ p.val → Map.get? t.eth.ports m = Map.get? s.eth.ports m) ∧
      t = { s with eth := { s.eth with ports := t.eth.ports } }) ∧
    (Answers (.prbsClr p) s fun t => t.get (R.ETH.PRBS_ERR.COUNT p) = 0 ∧ s.OnlyFields (among [R.ETH.PRBS_ERR.COUNT p]) t) ∧
    (s.get (R.ETH.STAT.PWR_STATE p) = 2 → link s = 0 → Answers (.serdesCalDone p) s fun t =>
      link t = 1 ∧ t.flag (R.LTS.PORT.STAT.MAP_VALID p) = false ∧
      ({ s with lts := { s.lts with ports := t.lts.ports } }).OnlyFields
        (either ptp (among [R.ETH.STAT.LINK p, R.LTS.PORT.STAT.MAP_VALID p])) t) ∧
    (∀ u : LinkStatus, s.get (R.ETH.STAT.PWR_STATE p) = 2 → Answers (.linkConditionChange p u) s fun t =>
      let good := u.blockLock = true ∧ (s.get (R.ETH.CFG.FEC p) = 0 ∨ u.fecLock = true) ∧ u.hiBer = false ∧ s.laneTest p = false
      let fault := u.localFault = true ∨ u.remoteFault = true
      t.flag (R.ETH.STAT.BLOCK_LOCK p) = u.blockLock ∧ t.flag (R.ETH.STAT.FEC_LOCK p) = u.fecLock ∧
      t.flag (R.ETH.STAT.HI_BER p) = u.hiBer ∧ t.flag (R.ETH.STAT.LOCAL_FAULT p) = u.localFault ∧
      t.flag (R.ETH.STAT.REMOTE_FAULT p) = u.remoteFault ∧ t.flag (R.ETH.STAT.RX_ADAPT p) = u.rxAdapt ∧
      (link s = 0 → link t = 0) ∧ (link s = 1 → good → link t = 2) ∧ (link s = 2 → good → ¬fault → link t = 2) ∧
      (link s = 2 → good → fault → link t = 1) ∧ (link s = 3 → good → ¬fault → link t = 3) ∧
      (link s = 3 → good → fault → link t = 4) ∧ (link s = 4 → good → link t = 4) ∧ (link s ≠ 0 → ¬good → link t = 1) ∧
      (link s = 3 → ¬good ∨ fault → t.get (R.ETH.EVT.LINK_DOWN p) = 1 ∧ t.flag (R.ETH.STAT.PAUSED p) = false ∧
        t.flag (R.ETH.STAT.RCLK_SQUELCHED p) = true) ∧ t.hearth = s.hearth ∧ t.ref = s.ref) ∧
    (s.get (R.ETH.STAT.PWR_STATE p) = 2 → s.flag (R.ETH.CFG.PRBS p) = false →
      s.lineSignal p = if s.flag (R.ETH.STAT.LOCAL_FAULT p) = true ∨ link s ≤ 2 then .remoteFault else .idle) ∧
    (s.linkGood p = true → s.linkFault p = false → s.passed (s.port p).linkAt (10000000 * 65536) = true →
      let up (t : State) : Prop := link t = 3 ∧ t.get (R.ETH.EVT.LINK_UP p) = 1 ∧
        (p.val < 3 → s.flag (R.ETH.RCLK.SQ_QL p) = true → s.qlAccepted p = false → t.flag (R.ETH.STAT.RCLK_SQUELCHED p) = true) ∧
        (∀ m, m ≠ p.val → Map.get? t.eth.ports m = Map.get? s.eth.ports m) ∧
        ({ s with eth := { s.eth with ports := t.eth.ports } }).OnlySignals
          (either ptp (among [R.ETH.STAT.LINK p, R.ETH.EVT.LINK_UP p, R.ETH.STAT.RCLK_SQUELCHED p])) t
      (link s = 2 → Answers (.linkPendingDone p) s up) ∧ (link s = 4 → Answers (.faultClearDone p) s up))

/-- RX_FRAME brings the packet boundary, and on a link that is UP counts a frame once under the first check it fails; one that
the filter or the hat holds back counts there, and one for a host ring is stamped and advances the ring. PAUSE_END ends a pause.
A read of a counter's LO word latches the bits above, which a read of its HI word returns. -/
def Obligations.FramesAndStatistics : Prop :=
  ∀ (s : State) (p : Fin 4), s.Canonical →
    (∀ r : RxFrame,
      let u := s.packetBoundary
      let f := r.bytes
      let stats : Field → Prop := either (inside (R.ETH.STATS.LO.COUNT p 0).addr 0x180)
        (among [R.ETH.HALF0.HALF p, R.ETH.HALF1.HALF p, R.ETH.EVT.STATS_HALF p])
      let only (i : Nat) (t : State) : Prop := t.stat p i = (u.stat p i + 1) % 2 ^ 48 ∧
        (∀ j, j < 48 → j ≠ i → t.stat p j = u.stat p j) ∧ u.OnlySignals stats t
      let plain := be f 12 2 ≠ 0x8808 ∧ be f 12 2 ≠ 0x8809 ∧ be f 12 2 ≠ 0x88B5
      (u.linkUp p = false → Answers (.rxFrame p r) s fun t => t = u) ∧
      (u.linkUp p = true → u.rxBroken p r = true → Answers (.rxFrame p r) s (only 20)) ∧
      (u.linkUp p = true → u.rxBroken p r = false →
        (f.length < 64 → Answers (.rxFrame p r) s (only (if fcsGood f then 15 else 16))) ∧
        (64 ≤ f.length → u.maxLen p f < f.length → Answers (.rxFrame p r) s (only (if fcsGood f then 17 else 18))) ∧
        (64 ≤ f.length → f.length ≤ u.maxLen p f → fcsGood f = false → Answers (.rxFrame p r) s (only 19)) ∧
        (64 ≤ f.length → f.length ≤ u.maxLen p f → fcsGood f = true → plain → u.rse.slotWait = [] → u.rse.respWait = [] →
          let held (i : Nat) (t : State) : Prop := t.stat p i = (u.stat p i + 1) % 2 ^ 48 ∧
            t.stat p 0 = (u.stat p 0 + f.length) % 2 ^ 48 ∧ t.stat p 1 = (u.stat p 1 + 1) % 2 ^ 48 ∧ u.OnlySignals stats t
          (u.admits p (slice f 0 6) = false → Answers (.rxFrame p r) s (held 22)) ∧
          (u.admits p (slice f 0 6) = true → u.flag (R.ETH.STAT.HAT_GATED p) = true → Answers (.rxFrame p r) s (held 24)) ∧
          (∀ (k : Nat) (ring : Ring), u.admits p (slice f 0 6) = true → u.flag (R.ETH.STAT.HAT_GATED p) = false →
            r.backlog + f.length ≤ 65536 → u.kindOf p f = some k → 5 ≤ k → u.hostRing p k < 128 →
            Map.get? u.rse.rings (p.val * 256 + u.hostRing p k) = some ring → ring.role = 2 → ring.held ≠ 2 ^ ring.logN →
            f.length ≤ slotBytes ring.slot → Answers (.rxFrame p r) s fun t =>
              Map.get? t.rse.rings (p.val * 256 + u.hostRing p k) = some { ring with wr := (ring.wr + 1) % 65536, moved := true, raise := true } ∧
              (∀ m, m ≠ p.val * 256 + u.hostRing p k → Map.get? t.rse.rings m = Map.get? u.rse.rings m) ∧
              t.get (R.LTS.PORT.RX_STAMPED.COUNT p) = (u.get (R.LTS.PORT.RX_STAMPED.COUNT p) + 1) % 2 ^ 32 ∧
              t.stat p 1 = (u.stat p 1 + 1) % 2 ^ 48 ∧
              ∀ a, (a < ring.descAt ring.wr ∨ ring.descAt ring.wr + 32 ≤ a) →
                (a < ring.slotAt ring.wr ∨ ring.slotAt ring.wr + f.length ≤ a) →
                Mem.byte dramBlank t.dram a = Mem.byte dramBlank u.dram a)))) ∧
    (∀ e : Int, (s.port p).pauseEnd = some e → e ≤ s.now ∨ s.ticking = false → Answers (.pauseEnd p) s fun t =>
      (t.port p).pauseEnd = none ∧ t.flag (R.ETH.STAT.PAUSED p) = false ∧
      (∀ m, m ≠ p.val → Map.get? t.eth.ports m = Map.get? s.eth.ports m) ∧
      ({ s with eth := { s.eth with ports := t.eth.ports } }).OnlyFields (among [R.ETH.STAT.PAUSED p]) t) ∧
    (∀ i : Fin 48,
      (Answers (.statsLoRead p i) s fun t =>
        t.emitted = .hostData (BitVec.ofNat 32 (s.stat p i)) :: s.emitted ∧ (t.port p).shadow = some (i.val, s.stat p i / 2 ^ 32) ∧
        (s.flag (R.ETH.STAT.STATS_COR p) = true → t.stat p i = 0) ∧
        (s.flag (R.ETH.STAT.STATS_COR p) = false → t.stat p i = s.stat p i) ∧
        ({ s with emitted := t.emitted, eth := { s.eth with ports := t.eth.ports } }).OnlyFields
          (among [R.ETH.STATS.LO.COUNT p i, R.ETH.STATS.HI.COUNT p i]) t) ∧
      (Answers (.statsHiRead p i) s fun t =>
        (∀ h, (s.port p).shadow = some (i.val, h) → t.emitted = .hostData (BitVec.ofNat 32 h) :: s.emitted) ∧
        ((∀ h, (s.port p).shadow ≠ some (i.val, h)) → t.emitted = .hostData (BitVec.ofNat 32 (s.stat p i / 2 ^ 32)) :: s.emitted) ∧
        (∀ h, (t.port p).shadow ≠ some (i.val, h)) ∧
        (∀ j h, j ≠ i.val → (s.port p).shadow = some (j, h) → (t.port p).shadow = some (j, h)) ∧
        t = { s with emitted := t.emitted, eth := { s.eth with ports := t.eth.ports } }))

/-- The wake detector counts bursts of the right length and wakes at the last; with one pulse it wakes at its length. A lost QL is
flagged and filed, and takes an active slot of the port to HOLDOFF; an event PDU joins the port's frames, the recovered clock is let
through, and it gives the slot of the port its observation. The spans are measured as the model chose (log entry 126). -/
def Obligations.WakeAndSyncE : Prop :=
  ∀ s : State, s.Canonical →
    (∀ p : Fin 4,
      let others (t : State) : Prop := ∀ m, m ≠ p.val → Map.get? t.eth.ports m = Map.get? s.eth.ports m
      let woken (t : State) : Prop := t.get (R.ETH.EVT.WAKE p) = 1 ∧ (t.port p).armed = false ∧
        t.get (R.ETH.STAT.PWR_STATE p) = (if s.flag (R.ETH.CFG.WAKE_AUTO p) = true ∧ s.eth.released = true then 2 else 1)
      (∀ (on : Bool) (lasted : Nat),
        (s.detecting p = false ∨ s.flag (R.ETH.STAT.SIGNAL p) = on → Answers (.signalChange p on lasted) s fun t =>
          t.flag (R.ETH.STAT.SIGNAL p) = on ∧ s.OnlyFields (among [R.ETH.STAT.SIGNAL p]) t) ∧
        (s.detecting p = true → s.flag (R.ETH.STAT.SIGNAL p) = true → on = false → s.get (R.ETH.WAKE.PULSES p) ≠ 1 →
          nearMs lasted (s.get (R.ETH.WAKE.ON_MS p)) = true →
          ((s.port p).bursts + 1 = s.get (R.ETH.WAKE.PULSES p) → Answers (.signalChange p on lasted) s woken) ∧
          ((s.port p).bursts + 1 ≠ s.get (R.ETH.WAKE.PULSES p) → Answers (.signalChange p on lasted) s fun t =>
            t.flag (R.ETH.STAT.SIGNAL p) = false ∧ (t.port p).bursts = (s.port p).bursts + 1 ∧ others t ∧
            ({ s with eth := { s.eth with ports := t.eth.ports } }).OnlyFields (among [R.ETH.STAT.SIGNAL p]) t))) ∧
      (s.detecting p = true → s.flag (R.ETH.STAT.SIGNAL p) = true → s.get (R.ETH.WAKE.PULSES p) = 1 →
        Answers (.wakeBurstOnMs p) s woken) ∧
      (s.flag (R.ETH.ESMC_CFG.TX_EN p) = true → s.portServes p = true → (s.port p).qlDue = true → (s.port p).esmcSent < 10 →
        Answers (.esmcEventTx p) s fun t =>
          (t.port p).unsched = (s.port p).unsched ++ [.own (s.esmcPdu p true)] ∧ (t.port p).esmcSent = (s.port p).esmcSent + 1 ∧
          (t.port p).qlDue = false ∧ ((s.port p).unsched = [] → (t.port p).headAt = s.mark) ∧ others t ∧
          t = { s with eth := { s.eth with ports := t.eth.ports } })) ∧
    (∀ p : Fin 3,
      (s.passed (s.port p).esmcAt (s.get (R.ETH.ESMC_CFG.TO p) * (1000000000 * 65536)) = false →
        Answers (.esmcTimeout p) s fun t => t = s) ∧
      (s.flag (R.ETH.ESMC_CFG.RX_EN p) = true → s.passed (s.port p).esmcAt (s.get (R.ETH.ESMC_CFG.TO p) * (1000000000 * 65536)) = true →
        Answers (.esmcTimeout p) s fun t =>
        t.flag (R.ETH.ESMC_RX.VALID p) = false ∧ t.get (R.ETH.EVT.ESMC_TO p) = 1 ∧ State.Filed F.ethEsmcTo p s t ∧
        (s.flag (R.ETH.RCLK.SQ_QL p) = true → t.flag (R.ETH.STAT.RCLK_SQUELCHED p) = true) ∧
        (s.slotActive (13 + p.val) = true → t.HeldOff (13 + p.val) 10) ∧
        (∀ m, m ≠ 13 + p.val → Map.get? t.ref m = Map.get? s.ref m) ∧
        (∀ m, m ≠ p.val → Map.get? t.eth.ports m = Map.get? s.eth.ports m) ∧
        ({ s with ref := t.ref, sel := { s.sel with wtrEnd := t.sel.wtrEnd, wtrRan := t.sel.wtrRan },
                  eth := { s.eth with ports := t.eth.ports } }).OnlyFilings
          (either (slotField (13 + p.val)) (among [R.ETH.ESMC_RX.VALID p, R.ETH.EVT.ESMC_TO p, R.ETH.STAT.RCLK_SQUELCHED p])) t) ∧
      (s.linkUp p = true → (s.flag (R.ETH.RCLK.SQ_QL p) = true → s.qlAccepted p = true) →
        s.passed (s.port p).rclkAt (s.get (R.ETH.RCLK.HOLD_MS p) * (1000000 * 65536)) = true → Answers (.rclkRelease p) s fun t =>
        (s.flag (R.ETH.RCLK.EN p) = true → t.rclkBall p = some (s.get (R.ETH.RCLK.DIV p))) ∧
        t.flag (R.ETH.STAT.RCLK_SQUELCHED p) = false ∧ s.OnlyFields (among [R.ETH.STAT.RCLK_SQUELCHED p]) t) ∧
      (∀ (cycles : Nat) (rel : Int), s.linkUp p = true → s.ticking = true → s.slotActive (13 + p.val) = true →
        Answers (.srefObservation p cycles rel) s fun t =>
          t.flag (R.REF.SLOT.STAT.PRESENT (13 + p.val)) = true ∧ bitOf (t.get R.REF.STAT_Q.PRESENT) (13 + p.val) = true ∧
          (t.slot (13 + p.val)).freqT0.isSome = true ∧
          (t.slot (13 + p.val)).freqK = (if (s.slot (13 + p.val)).freqT0.isSome then (s.slot (13 + p.val)).freqK + cycles else 0) ∧
          ({ s with freeCtr := t.freeCtr }).OnlySlot (13 + p.val) t))

/-! ### The flue -/

/-- TXPH_MEAS and TXPH_PERIODIC start a measurement on a port that is ON; TXPH_DONE shows the phase, and a shift beyond 10 ps is
flagged and filed. CAL_RUN starts a calibration or is rejected; LTS_CAL_DONE shows its result and ends it. -/
def Obligations.PhaseAndCalibration : Prop :=
  ∀ (s : State) (p : Fin 4), s.Canonical →
    let others (t : State) : Prop := ∀ m, m ≠ p.val → Map.get? t.lts.ports m = Map.get? s.lts.ports m
    let started (t : State) : Prop := (t.flue p).txphRun = true ∧ (t.flue p).resv = (s.flue p).resv ∧ others t ∧
      t = { s with lts := { s.lts with ports := t.lts.ports } }
    (s.get (R.ETH.STAT.PWR_STATE p) = 2 → Answers (.txphMeas p) s started ∧ Answers (.txphPeriodic p) s started) ∧
    (∀ delays : List Nat, (s.flue p).txphRun = true → s.get R.TDC.STAT.STATE = 2 → Answers (.txphDone p delays) s fun t =>
      let ps := s.txphOf delays
      let d : Int := (ps : Int) - s.get (R.LTS.PORT.TXPH.PS p)
      let first := s.flag (R.LTS.PORT.STAT.TXPH_VALID p) = false
      t.get (R.LTS.PORT.TXPH.PS p) = ps ∧ t.flag (R.LTS.PORT.STAT.TXPH_VALID p) = true ∧
      t.flag (R.LTS.PORT.STAT.COARSE p) = false ∧ (t.flue p).txphRun = false ∧
      (¬first → 10 < d.natAbs → t.get (R.LTS.PORT.EVT.TXPH_SHIFT p) = 1) ∧
      ((s.flue p).resv = [] →
        (¬first → 10 < d.natAbs → State.Filed F.ltsTxphShift p s t) ∧ others t ∧
        ({ s with lts := { s.lts with ports := t.lts.ports } }).OnlyFilings
          (among [R.LTS.PORT.TXPH.PS p, R.LTS.PORT.STAT.TXPH_VALID p, R.LTS.PORT.STAT.COARSE p, R.LTS.PORT.EVT.TXPH_SHIFT p,
            R.LTS.PORT.STAT.RESV p]) t)) ∧
    (s.portServes p = true → s.flag (R.LTS.PORT.STAT.CAL_BUSY p) = false → Answers (.calRun p) s fun t =>
      t.flag (R.LTS.PORT.STAT.CAL_BUSY p) = true ∧ s.OnlyFields (among [R.LTS.PORT.STAT.CAL_BUSY p]) t) ∧
    (s.portServes p = false ∨ s.flag (R.LTS.PORT.STAT.CAL_BUSY p) = true → Answers (.calRun p) s fun t =>
      t.get (R.LTS.PORT.EVT.CFG_REJECTED p) = 1 ∧ s.OnlySignals (among [R.LTS.PORT.EVT.CFG_REJECTED p]) t) ∧
    (∀ launches diffs : List Int, s.flag (R.LTS.PORT.STAT.CAL_BUSY p) = true → Answers (.ltsCalDone p launches diffs) s fun t =>
      let sent := min 1024 launches.length
      t.flag (R.LTS.PORT.STAT.CAL_BUSY p) = false ∧ t.get (R.LTS.PORT.EVT.CAL_DONE p) = 1 ∧
      t.get (R.LTS.PORT.CAL_RES.N p) = min sent diffs.length ∧
      t.get (R.LTS.PORT.GRANTS.COUNT p) = (s.get (R.LTS.PORT.GRANTS.COUNT p) + 1024) % 2 ^ 32 ∧
      t.get (R.LTS.PORT.LAUNCHED.COUNT p) = (s.get (R.LTS.PORT.LAUNCHED.COUNT p) + sent) % 2 ^ 32 ∧
      t.get (R.LTS.PORT.DROPPED.COUNT p) = (s.get (R.LTS.PORT.DROPPED.COUNT p) + (1024 - sent)) % 2 ^ 32 ∧
      (∀ m : Int, sent ≠ 0 → diffs ≠ [] → (∀ d ∈ diffs, d = m) → -(2 ^ 31) ≤ m → m < 2 ^ 31 →
        t.sget (R.LTS.PORT.CAL_MEAN.PS p) = m ∧ t.get (R.LTS.PORT.CAL_RES.RMS p) = 0) ∧ t.hearth = s.hearth ∧ t.rse = s.rse)

/-- GRANT_REQUEST serves the oldest request: refused where the port does not serve or no instant of the launch grid fits, granted
the first fit of the search; while requests are held (before a step, while SYN0 coasts, while the CK_CORE replica gives no time: the
last is the model's choice, log entry 115) nothing happens. What the search finds is an instant of the grid, not before what was
asked, within a second, whose occupancy meets no reservation, no known pause and no frame on the line. HELD_GRANTS_RELEASE serves
one request held as GRANT_REQUEST does. UNSCHED_RESERVE reserves the first gap; LAUNCH_RELEASE passes a queued frame to the line,
misses one that is not, and drops one whose frame DRAM delivers poisoned. How long a word stays poisoned is the model's choice (log
entry 128). The spans are measured as the model chose (log entry 126). -/
def Obligations.Flue : Prop :=
  ∀ s : State, s.Canonical →
    (s.lts.stepHold = true ∨ s.lts.coastHold = true ∨ s.replicaTime 0 = none →
      (∀ b, Answers (.grantRequest b) s fun t => t = s) ∧ ∀ bs, Answers (.heldGrantsRelease bs) s fun t => t = s) ∧
    (∀ (p len : Nat) (b : TxBlock) (now least t : Int), s.firstFit p len b now least = some t →
      let o := s.occupancy p len t
      least ≤ t ∧ t ≤ now + secI ∧ (∃ n, t = s.gridInstant p b n) ∧ (s.port p).lineEnd ≤ o.1 ∧
      (∀ e, (s.port p).pauseEnd = some e → (e : Rat) ≤ o.1) ∧
      ∀ r ∈ (s.flue p).resv, (s.occupancy p r.len r.tL).2 ≤ o.1 ∨ o.2 ≤ (s.occupancy p r.len r.tL).1) ∧
    (∀ now : Int, s.lts.stepHold = false → s.lts.coastHold = false → s.replicaTime 0 = some now →
      (∀ (c : Nat) (b : TxBlock) (bs : List TxBlock), s.lts.requests = [c] →
        ∃ t, exec (.heldGrantsRelease (b :: bs)) s = .next t ∧ exec (.grantRequest b) s = .next t) ∧
      (∀ (c : Nat) (rest : List Nat) (x : Txn) (b : TxBlock), s.lts.requests = c :: rest → s.txn? c = some x → x.port < 4 →
        Map.wf s.rse.txns = true →
        let least := max x.tReq (max (now + 78644) (if x.frame ≠ [] then x.start + 98304 else x.tReq))
        let fit := s.firstFit x.port x.len b now least
        let refused (cause : Nat) (t : State) : Prop := c ∉ t.lts.requests ∧
          t.get (R.LTS.PORT.REFUSED.COUNT x.port) = (s.get (R.LTS.PORT.REFUSED.COUNT x.port) + 1) % 2 ^ 32 ∧
          t.get (R.LTS.PORT.STAT.REFUSE_CAUSE x.port) = cause ∧ t.get (R.LTS.PORT.EVT.REFUSED x.port) = 1
        (s.portServes x.port = false → Answers (.grantRequest b) s (refused 3)) ∧
        (s.portServes x.port = true → 1024 ≤ (s.flue x.port).resv.length → Answers (.grantRequest b) s (refused 2)) ∧
        (s.portServes x.port = true → (s.flue x.port).resv.length < 1024 → fit = none → Answers (.grantRequest b) s (refused 1)) ∧
        (∀ tL, s.portServes x.port = true → (s.flue x.port).resv.length < 1024 → fit = some tL → x.tOrig = none →
          Answers (.grantRequest b) s fun t =>
            c ∉ t.lts.requests ∧ t.get (R.LTS.PORT.GRANTS.COUNT x.port) = (s.get (R.LTS.PORT.GRANTS.COUNT x.port) + 1) % 2 ^ 32 ∧
            (∀ y, t.txn? c = some y → y.tL = some tL ∧ y.tOrig = some tL) ∧ t.hearth = s.hearth ∧ t.eth.released = s.eth.released))) ∧
    (∀ (p : Fin 4) (len : BitVec 14) (b : TxBlock) (now tL : Int), s.portServes p = true → (s.port p).unsched ≠ [] →
      (∀ r ∈ (s.flue p).resv, r.ctx ≠ none) → (s.flue p).resv.length < 1024 →
      s.lts.stepHold = false → s.lts.coastHold = false → s.replicaTime 0 = some now →
      s.passed (s.port p).headAt (s.get R.LTS.CFG.UNSCHED_WAIT * (1000 * 65536)) = true →
      s.firstFit p len.toNat b now now = some tL → Answers (.unschedReserve p len b) s fun t =>
        (∀ r, r ∈ (t.flue p).resv ↔ r = ⟨none, tL, len.toNat, 0⟩ ∨ r ∈ (s.flue p).resv) ∧
        t.get (R.LTS.PORT.STAT.RESV p) = (s.flue p).resv.length + 1 ∧
        (∀ m, m ≠ p.val → Map.get? t.lts.ports m = Map.get? s.lts.ports m) ∧
        ({ s with lts := { s.lts with ports := t.lts.ports } }).OnlyFields (among [R.LTS.PORT.STAT.RESV p]) t) ∧
    (∀ (p : Fin 4) (r : Resv) (c : Nat) (x : Txn), (s.flue p).resv.find? (fun y => y.ctx.isSome) = some r → r.ctx = some c →
      s.txn? c = some x → r.tL - 64 * 65536 ≤ s.now →
      (x.step = .queued → s.slotBad x ≠ [] → Answers (.launchRelease p) s fun t => t.txn? c = none ∧
        t.get R.RSE.EVT.RING_DROP = 1 ∧ t.get R.MEM.EVT.UE = 1 ∧ t.hearth = s.hearth) ∧
      (x.step = .queued → s.slotBad x = [] → Answers (.launchRelease p) s fun t =>
        .frame p.val (some r.tL) x.out ∈ t.emitted ∧
        t.get (R.LTS.PORT.LAUNCHED.COUNT p) = (s.get (R.LTS.PORT.LAUNCHED.COUNT p) + 1) % 2 ^ 32 ∧ t.hearth = s.hearth) ∧
      (x.step ≠ .queued → Answers (.launchRelease p) s fun t =>
        t.get (R.LTS.PORT.MISS_LATE.COUNT p) = (s.get (R.LTS.PORT.MISS_LATE.COUNT p) + 1) % 2 ^ 32 ∧
        t.get (R.LTS.PORT.STAT.MISS_CAUSE p) = 3 ∧ t.get (R.LTS.PORT.EVT.MISS p) = 1 ∧ t.hearth = s.hearth))

/-! ### The response engine -/

/-- DISPATCH takes a ready frame off its ring; LOOKUP of a denied client ends the transaction, and an NTP request of an unknown one
asks for its launch; GLOVEBOX_DONE frees a sealed frame for its release; FULL_RETRY asks again, or drops where the share is spent;
an overrun and a deadline end the transaction. A frame that DRAM delivers poisoned is dropped and counted in its ring, and a
transaction that needs a poisoned client line drops in DROP_PARSE. How long a word stays poisoned is the model's choice (log entry
128). The spans are measured as the model chose (log entry 126). -/
def Obligations.Transactions : Prop :=
  ∀ s : State, s.Canonical → s.rse.slotWait = [] → s.rse.respWait = [] → Map.wf s.rse.txns = true →
    (Map.wf s.rse.rings = true → (∀ e ∈ s.rse.rings, e.2.pri < 8) →
      (∃ p, p < 4 ∧ s.readyRings p ≠ [] ∧ (s.freeCtx p).isSome = true) →
      let bad (r : Ring) : Prop := s.ringBad r r.rd (s.fetchFrame r).1.length ≠ []
      let same (n : Nat) (t : State) : Prop := (∀ m, m ≠ n → Map.get? t.rse.rings m = Map.get? s.rse.rings m) ∧ t.lts = s.lts ∧
        t.hearth = s.hearth ∧ t.dram = s.dram
      ((∀ p, p < 4 → ∀ e ∈ s.readyRings p, ¬bad e.2) → Answers .dispatch s fun t =>
        t.get R.RSE.DISPATCHED.COUNT = (s.get R.RSE.DISPATCHED.COUNT + 1) % 2 ^ 32 ∧
        ∃ p n r, (n, r) ∈ s.readyRings p ∧ t.rse.lastPort = p ∧
          Map.get? t.rse.rings n = some { r with rd := (r.rd + 1) % 65536 } ∧ same n t) ∧
      ((∀ p, p < 4 → ∀ e ∈ s.readyRings p, bad e.2) → Answers .dispatch s fun t =>
        t.get R.RSE.EVT.RING_DROP = 1 ∧ t.get R.MEM.EVT.UE = 1 ∧ t.rse.txns = s.rse.txns ∧
        ∃ p n r, (n, r) ∈ s.readyRings p ∧
          Map.get? t.rse.rings n = some { r with rd := (r.rd + 1) % 65536, drops := r.drops + 1 } ∧ same n t)) ∧
    (∀ (ctx : BitVec 12) (x : Txn), s.txn? ctx.toNat = some x →
      let gone (t : State) : Prop := t.txn? ctx.toNat = none ∧ (∀ m, m ≠ ctx.toNat → t.txn? m = s.txn? m) ∧ t.hearth = s.hearth
      (∀ n, x.step = .lookup → x.handler ≠ 6 → s.findEntry x.key = some n → eState (s.entry n) = 3 →
        Answers (.lookup ctx []) s fun t => gone t ∧
          t.get R.RSE.DROP_DENY.COUNT = (s.get R.RSE.DROP_DENY.COUNT + 1) % 2 ^ 32) ∧
      (x.step = .lookup → x.handler ≠ 6 → s.poisonedFor x.key ≠ none → Answers (.lookup ctx []) s fun t => gone t ∧
        t.get R.RSE.DROP_PARSE.COUNT = (s.get R.RSE.DROP_PARSE.COUNT + 1) % 2 ^ 32 ∧ t.get R.MEM.EVT.UE = 1 ∧ t.dram = s.dram) ∧
      (x.step = .lookup → x.handler = 1 → s.findEntry x.key = none → s.poisonedFor x.key = none →
        s.flag R.RSE.CT_CFG.NTP_TRACK = false → s.replyPath x ≠ none → Answers (.lookup ctx []) s fun t =>
          t.lts.requests = s.lts.requests ++ [ctx.toNat] ∧
          (∃ y, t.txn? ctx.toNat = some y ∧ y.step = .request ∧ y.reply = .ntp ∧ y.entry = none ∧ y.start = x.start ∧
            y.frame = x.frame) ∧ (∀ m, m ≠ ctx.toNat → t.txn? m = s.txn? m) ∧ t.dram = s.dram ∧ t.hearth = s.hearth) ∧
      (∀ (op : GlvOp) (rest : List GlvOp), x.ops = op :: rest → op ≠ .mint → x.step = .auth → x.reply.scheduled = true →
        x.out.length ≤ x.len → Answers (.gloveboxDone ctx) s fun t =>
          t.txn? ctx.toNat = some { x with ops := [], step := .queued } ∧ (∀ m, m ≠ ctx.toNat → t.txn? m = s.txn? m) ∧
          t = { s with rse := { s.rse with txns := t.rse.txns }, dram := t.dram, dramBad := t.dramBad }) ∧
      (Answers (.stepOverrun ctx) s fun t => gone t ∧ t.get R.RSE.EVT.STEP_OVERRUN = 1 ∧
        t.get R.RSE.STEP_OVERRUN.COUNT = (s.get R.RSE.STEP_OVERRUN.COUNT + 1) % 2 ^ 32 ∧
        State.Filed F.rseStepOverrun (s.fresh % 16) s t) ∧
      (x.step = .retry → s.passed x.tried (s.get R.RSE.RESP.FULL_RETRY * (10 * 65536)) = false →
        Answers (.fullRetry ctx) s fun t => t = s) ∧
      (x.step = .retry → s.passed x.tried (s.get R.RSE.RESP.FULL_RETRY * (10 * 65536)) = true →
        s.shareSpent x s.now = false → Answers (.fullRetry ctx) s fun t =>
        t.lts.requests = s.lts.requests ++ [ctx.toNat] ∧ t.txn? ctx.toNat = some { x with step := .request } ∧
        (∀ m, m ≠ ctx.toNat → t.txn? m = s.txn? m) ∧
        t = { s with rse := { s.rse with txns := t.rse.txns }, lts := { s.lts with requests := t.lts.requests } }) ∧
      (x.step = .retry → s.passed x.tried (s.get R.RSE.RESP.FULL_RETRY * (10 * 65536)) = true →
        s.shareSpent x s.now = true → Answers (.fullRetry ctx) s fun t => gone t ∧
        t.get R.RSE.DROP_REFUSED.COUNT = (s.get R.RSE.DROP_REFUSED.COUNT + 1) % 2 ^ 32) ∧
      (x.start + s.get R.RSE.RESP.DL_US * (1000 * 65536) ≤ s.now → Answers (.responseDeadline ctx) s fun t => gone t ∧
        t.get R.RSE.DROP_DEADLINE.COUNT = (s.get R.RSE.DROP_DEADLINE.COUNT + 1) % 2 ^ 32 ∧ t.get R.RSE.EVT.DEADLINE = 1) ∧
      (s.now < x.start + s.get R.RSE.RESP.DL_US * (1000 * 65536) → Answers (.responseDeadline ctx) s fun t => t = s))

/-- DOORBELL moves the host's pointer of a HOST ring forward, or is rejected. UNSCHED_TX_DONE sends the port's own frame, and drops
a descriptor of wrong length with its status. RING_INTERRUPT writes the ring's record, once WB_US have passed since the last, and
requests a HOST ring's vector. A BAR2 write is applied to a FREE entry only. AGING_VISIT leaves a FREE entry. CT_FLUSH cleans every
line, and FLUSH_DONE ends it. A poisoned descriptor drops its frame, and a poisoned line takes no write and no visit. What a
poisoned line does to a BAR2 write is the model's choice (log entry 128). The spans are measured as the model chose (log entry 126). -/
def Obligations.RingsAndTable : Prop :=
  ∀ s : State, s.Canonical →
    (∀ (ring : BitVec 10) (ptr : BitVec 16),
      let n := ring.toNat
      let reg : Field → Prop := among [R.RSE.DOORBELL.RING, R.RSE.DOORBELL.PTR]
      let others (t : State) : Prop := ∀ m, m ≠ n → Map.get? t.rse.rings m = Map.get? s.rse.rings m
      let rejected (t : State) : Prop := t.get R.RSE.EVT.CFG_REJECTED = 1 ∧
          s.OnlySignals (either reg (among [R.RSE.EVT.CFG_REJECTED])) t
      (Map.get? s.rse.rings n = none → Answers (.doorbell ring ptr) s rejected) ∧
      (∀ r : Ring, Map.get? s.rse.rings n = some r →
        let move := (ptr.toNat + 65536 - r.rd) % 65536
        let add := (ptr.toNat + 65536 - r.wr) % 65536
        (r.role ≠ 2 ∨ r.logN = 0 → Answers (.doorbell ring ptr) s rejected) ∧
        (r.role = 2 → r.logN ≠ 0 → n / 128 % 2 = 0 →
          (r.held < move → Answers (.doorbell ring ptr) s rejected) ∧
          (move ≤ r.held → Answers (.doorbell ring ptr) s fun t =>
            Map.get? t.rse.rings n = some { r with rd := ptr.toNat } ∧ others t ∧
            ({ s with rse := { s.rse with rings := t.rse.rings } }).OnlyFields reg t)) ∧
        (r.role = 2 → r.logN ≠ 0 → n / 128 % 2 = 1 →
          (2 ^ r.logN < r.held + add → Answers (.doorbell ring ptr) s rejected) ∧
          (r.held + add ≤ 2 ^ r.logN → Answers (.doorbell ring ptr) s fun t =>
            Map.get? t.rse.rings n = some { r with wr := ptr.toNat } ∧ others t ∧
            (t.port (n / 256)).unsched = (s.port (n / 256)).unsched ++
              (List.range add).map (fun i => Unsched.ring n ((r.wr + i) % 65536)) ∧
            ({ s with rse := { s.rse with rings := t.rse.rings }, eth := { s.eth with ports := t.eth.ports } }).OnlyFields reg t)))) ∧
    (∀ p : Fin 4,
      (∀ (f : List Byte) (rest : List Unsched), (s.port p).unsched = .own f :: rest → s.portServes p = true →
        s.mayStart p f.length = true → Answers (.unschedTxDone p) s fun t =>
          .frame p.val none f ∈ t.emitted ∧ (t.port p).unsched = rest ∧ (∀ r ∈ (t.flue p).resv, r.ctx ≠ none) ∧
          t.stat p 33 = (s.stat p 33 + 1) % 2 ^ 48 ∧ t.rse = s.rse ∧ t.hearth = s.hearth) ∧
      (∀ (n idx : Nat) (rest : List Unsched) (r : Ring), (s.port p).unsched = .ring n idx :: rest →
        Map.get? s.rse.rings n = some r → s.badWords (r.descAt idx) 32 ≠ [] → Answers (.unschedTxDone p) s fun t =>
          (t.port p).unsched = rest ∧ t.get R.RSE.EVT.RING_DROP = 1 ∧ t.get R.MEM.EVT.UE = 1 ∧ t.dram = s.dram ∧
          Map.get? t.rse.rings n =
            some { r with rd := (r.rd + 1) % 65536, moved := true, raise := true, drops := r.drops + 1 }) ∧
      (∀ (n idx : Nat) (rest : List Unsched) (r : Ring), (s.port p).unsched = .ring n idx :: rest →
        Map.get? s.rse.rings n = some r → s.badWords (r.descAt idx) 32 = [] → le (s.dramRead (r.descAt idx) 2) 0 2 < 60 →
        Answers (.unschedTxDone p) s fun t =>
          (t.port p).unsched = rest ∧ Map.get? t.rse.rings n = some { r with rd := (r.rd + 1) % 65536, moved := true, raise := true } ∧
          Mem.byte dramBlank t.dram (r.descAt idx + 3) = 2 ∧
          (∀ a, a ≠ r.descAt idx + 3 → Mem.byte dramBlank t.dram a = Mem.byte dramBlank s.dram a) ∧ t.emitted = s.emitted)) ∧
    (∀ (ring : BitVec 10) (r : Ring), Map.get? s.rse.rings ring.toNat = some r → r.moved = true →
      s.passed r.wbAt (s.get R.RSE.WB_CFG.WB_US * (1000 * 65536)) = false → Answers (.ringInterrupt ring) s fun t => t = s) ∧
    (∀ (ring : BitVec 10) (r : Ring), Map.get? s.rse.rings ring.toNat = some r → r.moved = true →
      s.passed r.wbAt (s.get R.RSE.WB_CFG.WB_US * (1000 * 65536)) = true → Answers (.ringInterrupt ring) s fun t =>
        let at_ := s.wbBase + 8 * ring.toNat
        let raised := r.role = 2 ∧ r.raise = true ∧ s.passed r.intAt (r.modUs * (1000 * 65536)) = true
        (raised → Map.get? t.rse.rings ring.toNat = some { r with moved := false, wbAt := s.mark, raise := false, intAt := s.mark }) ∧
        (¬raised → Map.get? t.rse.rings ring.toNat = some { r with moved := false, wbAt := s.mark } ∧ t.emitted = s.emitted) ∧
        (∀ m, m ≠ ring.toNat → Map.get? t.rse.rings m = Map.get? s.rse.rings m) ∧
        t.dramRead at_ 8 = leBytes 2 (if ring.toNat / 128 % 2 = 0 then r.wr else r.rd) ++ [0, 0] ++ leBytes 4 r.drops ∧
        (∀ a, a < at_ ∨ at_ + 8 ≤ a → Mem.byte dramBlank t.dram a = Mem.byte dramBlank s.dram a) ∧ s.SentVectors t ∧
        t.regs = s.regs ∧ t.hearth = s.hearth) ∧
    (∀ (entry : BitVec 20) (word : Fin 32) (data : Word) (be : BitVec 4),
      let n := entry.toNat
      let a := s.ctBase + 128 * n + 4 * word.val
      (s.ctCount ≤ n → Answers (.bar2TableWrite entry word data be) s fun t => t = s) ∧
      (n < s.ctCount → s.lineBad n = true → Answers (.bar2TableWrite entry word data be) s fun t =>
        t.get R.RSE.EVT.DIRECT_REJECT = 1 ∧ t.get R.RSE.CT_REJ_IDX.INDEX = n ∧ t.get R.MEM.EVT.UE = 1 ∧ t.dram = s.dram ∧
        t.dramBad = s.dramBad) ∧
      (n < s.ctCount → s.lineBad n = false → eState (s.entry n) = 0 → Answers (.bar2TableWrite entry word data be) s fun t =>
        (∀ i : Fin 4, Mem.byte dramBlank t.dram (a + i.val) =
          if bitOf be.toNat i then BitVec.ofNat 8 (data.toNat / 256 ^ i.val) else Mem.byte dramBlank s.dram (a + i.val)) ∧
        (∀ b, b < a ∨ a + 4 ≤ b → Mem.byte dramBlank t.dram b = Mem.byte dramBlank s.dram b) ∧
        t = { s with dram := t.dram, rse := { s.rse with cache := t.rse.cache } }) ∧
      (n < s.ctCount → s.lineBad n = false → eState (s.entry n) ≠ 0 → Answers (.bar2TableWrite entry word data be) s fun t =>
        t.get R.RSE.EVT.DIRECT_REJECT = 1 ∧ t.get R.RSE.CT_REJ_IDX.INDEX = n ∧
        t.get R.RSE.CT_DIRECT_REJ.COUNT = (s.get R.RSE.CT_DIRECT_REJ.COUNT + 1) % 2 ^ 32 ∧
        s.OnlySignals (among [R.RSE.EVT.DIRECT_REJECT, R.RSE.CT_REJ_IDX.INDEX, R.RSE.CT_DIRECT_REJ.COUNT]) t)) ∧
    (∀ entry : BitVec 20, s.ticking = true → entry.toNat < s.ctCount →
      (s.lineBad entry.toNat = true → Answers (.agingVisit entry) s fun t => t.rse = s.rse ∧ t.dram = s.dram ∧
        t.get R.MEM.EVT.UE = 1) ∧
      (s.lineBad entry.toNat = false → eState (s.entry entry.toNat) = 0 →
        Answers (.agingVisit entry) s fun t => t = { s with rse := { s.rse with cache := t.rse.cache } })) ∧
    (Answers .ctFlush s fun t => t.flag R.RSE.STAT.FLUSH_BUSY = true ∧ (∀ e ∈ t.rse.cache, ∀ l ∈ e.2, l.2 = false) ∧
      ({ s with rse := { s.rse with cache := t.rse.cache } }).OnlyFields (among [R.RSE.STAT.FLUSH_BUSY]) t) ∧
    (s.flag R.RSE.STAT.FLUSH_BUSY = true → Answers .flushDone s fun t => t.flag R.RSE.STAT.FLUSH_BUSY = false ∧
      t.get R.RSE.EVT.FLUSH_DONE = 1 ∧ s.OnlySignals (among [R.RSE.STAT.FLUSH_BUSY, R.RSE.EVT.FLUSH_DONE]) t)

/-- Each mailbox command ends with its result: an INDEX beyond the table that READ, WRITE or DELETE
names and an unknown OP are BAD_FORMAT, and so is a command on a line that DRAM delivers poisoned; READ and LOOKUP show an entry and
write none; WRITE, INSERT and DELETE write one entry, or none where a check fails. How long a word stays poisoned is the model's
choice (log entry 128). -/
def Obligations.Mailbox : Prop :=
  ∀ s : State, s.Canonical →
    let n := s.get R.RSE.MBX_CMD.INDEX
    let d := s.mbxData
    let ended (result index : Nat) (t : State) : Prop := t.get R.RSE.MBX_STAT.RESULT = result ∧
      t.get R.RSE.MBX_STAT.INDEX = index % 2 ^ 20 ∧ t.flag R.RSE.STAT.MBX_BUSY = false ∧ t.get R.RSE.EVT.MBX_DONE = 1 ∧
      ({ s with dram := t.dram, dramBad := t.dramBad, rse := { s.rse with cache := t.rse.cache },
                pro := { s.pro with grants := t.pro.grants } }).OnlyCounts
        (either (inside 0x180100 0x88) (among [R.RSE.STAT.MBX_BUSY, R.RSE.EVT.MBX_DONE, R.PRO.PORT.STAT.SYNC_GRANTED 0,
          R.PRO.PORT.STAT.SYNC_GRANTED 1, R.PRO.PORT.STAT.SYNC_GRANTED 2, R.PRO.PORT.STAT.SYNC_GRANTED 3])) t
    let shown (result index : Nat) (t : State) : Prop := ended result index t ∧ t.mbxData = t.entry index ∧ t.dram = s.dram ∧
      t.dramBad = s.dramBad
    let wrote (index : Nat) (bs : List Byte) (t : State) : Prop := ended 1 index t ∧ t.mbxData = t.entry index ∧
      t.dram = Mem.write dramBlank s.dram (s.ctBase + 128 * index) bs
    let failed (result : Nat) (t : State) : Prop := ended result n t ∧ t.dram = s.dram ∧ t.dramBad = s.dramBad ∧ t.mbxData = d
    let poisoned (t : State) : Prop := t.get R.RSE.MBX_STAT.RESULT = 8 ∧ t.get R.RSE.MBX_STAT.INDEX = n % 2 ^ 20 ∧
      t.flag R.RSE.STAT.MBX_BUSY = false ∧ t.get R.RSE.EVT.MBX_DONE = 1 ∧ t.get R.MEM.EVT.UE = 1 ∧ t.dram = s.dram ∧
      t.rse = s.rse ∧ t.mbxData = d
    let key := mbxKey d
    (Answers .mbxBadOp s (failed 8)) ∧
    (s.ctCount ≤ n → Answers .mbxRead s (failed 8) ∧ Answers .mbxWrite s (failed 8) ∧ Answers .mbxDelete s (failed 8)) ∧
    (s.poisonedFor key ≠ none → Answers .mbxLookup s poisoned) ∧
    (s.poisonedFor key = none → s.mbxFind d = none → Answers .mbxLookup s (failed 2)) ∧ (∀ k, s.mbxFind d = some k → Answers .mbxLookup s (shown 1 k)) ∧
    (eVersion d ≠ 1 → eVersion d ≠ 2 → Answers .mbxInsert s (failed 8)) ∧
    (eVersion d = 1 ∨ eVersion d = 2 → ¬(1 ≤ eState d ∧ eState d ≤ 3) → Answers .mbxInsert s (failed 6)) ∧
    (eVersion d = 1 ∨ eVersion d = 2 → 1 ≤ eState d → eState d ≤ 3 →
      (s.poisonedFor key ≠ none → Answers .mbxInsert s poisoned) ∧
      (∀ k, s.mbxFind d = some k → Answers .mbxInsert s (shown 3 k)) ∧
      (s.poisonedFor key = none → s.mbxFind d = none →
        let free := (s.bucketSlots (mbxKey d)).find? (fun k => eState (s.entry k) == 0)
        (free = none → Answers .mbxInsert s (failed 4)) ∧
        (∀ k, free = some k → Answers .mbxInsert s (wrote k (mbxInsertEntry d))))) ∧
    (n < s.ctCount → s.lineBad n = true →
      Answers .mbxRead s poisoned ∧ Answers .mbxWrite s poisoned ∧ Answers .mbxDelete s poisoned) ∧
    (n < s.ctCount → s.lineBad n = false →
      (Answers .mbxRead s (shown 1 n)) ∧
      (∀ r, s.mbxWriteCheck d (s.entry n) = some r → Answers .mbxWrite s (shown r n)) ∧
      (s.mbxWriteCheck d (s.entry n) = none →
        Answers .mbxWrite s (wrote n (eWrite (mbxCopy (s.get R.RSE.MBX_CMD.MASK) d) (s.entry n)))) ∧
      (eState (s.entry n) = 0 → Answers .mbxDelete s (shown 6 n)) ∧
      (eState (s.entry n) ≠ 0 → s.flag R.RSE.MBX_CMD.CMP = true → eGen (s.entry n) ≠ eGen d → Answers .mbxDelete s (shown 5 n)) ∧
      (eState (s.entry n) ≠ 0 → s.flag R.RSE.MBX_CMD.CMP = false ∨ eGen (s.entry n) = eGen d → Answers .mbxDelete s fun t =>
        wrote n (eWrite (fun x => splice x 1 [0]) (s.entry n)) t ∧ ∀ g, g ∈ t.pro.grants ↔ g ∈ s.pro.grants ∧ g.entry ≠ n))

/-! ### Protocols -/

/-- PERIODIC_CREATE of a port that is MASTER with multicast advances its instant and sequence number and asks for the launch of its
message. ANNOUNCE_TIMEOUT is counted and flagged, and a port without another master loses its active slot to HOLDOFF. PREF_RENEW and
PREF_DELAY_REQ use a number each. A smear window opens and closes with its events. The spans are measured as the model chose (log
entry 126). -/
def Obligations.Protocols : Prop :=
  ∀ s : State, s.Canonical →
    (∀ (p : Fin 4) (msg : PeriodicMsg) (m : Nat) (r : Reply) (log due : Int),
      (msg = .sync ∧ m = 0 ∧ r = .sync ∧ log = s.sget (R.PRO.PORT.INTV.LOG_SYNC p)) ∨
        (msg = .announce ∧ m = 0xB ∧ r = .announce ∧ log = s.sget (R.PRO.PORT.INTV.LOG_ANN p)) →
      s.ticking = true → s.get (R.PRO.PORT.STAT.STATE p) = 2 → s.flag (R.PRO.PORT.CFG.MCAST p) = true →
      s.dueNow p m log = some due → s.ownSource p (s.get (R.PRO.PORT.CFG.TRANSPORT p)) ≠ none →
      Answers (.periodicCreate p msg) s fun t =>
        let n := Map.getD s.pro.seqs (p.val * 16 + m) 0
        Map.get? t.pro.due (p.val * 16 + m) = some due ∧ Map.get? t.pro.seqs (p.val * 16 + m) = some ((n + 1) % 65536) ∧
        (∀ c, s.freeCtx p = some c → t.lts.requests = s.lts.requests ++ [c] ∧
          ∃ x, t.txn? c = some x ∧ x.reply = r ∧ x.tReq = due ∧ x.seq = n ∧ x.port = p.val ∧ x.log = log) ∧
        (s.freeCtx p = none → t.lts = s.lts ∧ t.rse = s.rse) ∧ t.hearth = s.hearth ∧ t.dram = s.dram) ∧
    (∀ (p : Fin 4) (m : Master), (s.pref p).master = some m → (s.pref p).annExpired = false →
      s.get (R.PRO.PREF.CFG.ANN_TO p) * interval m.log ≤ s.now - m.heard.headD s.now → Answers (.announceTimeout p) s fun t =>
        t.get (R.PRO.PREF.ANN_TO_CNT.COUNT p) = (s.get (R.PRO.PREF.ANN_TO_CNT.COUNT p) + 1) % 2 ^ 32 ∧
        t.get R.PRO.EVT.ANN_TIMEOUT = 1 ∧ ((t.pref p).annExpired = true ∨ t.get R.PRO.EVT.PREF_UPSTREAM = 1) ∧
        (s.slotActive (9 + p.val) = true → (t.pref p).annExpired = true → t.HeldOff (9 + p.val) 9) ∧
        (∀ n, n ≠ 9 + p.val → Map.get? t.ref n = Map.get? s.ref n) ∧ t.hearth = s.hearth) ∧
    (∀ p : Fin 4, s.ticking = true → s.portServes p = true → s.flag (R.PRO.PREF.CFG.EN p) = true →
      (∀ msg : BitVec 4, msg = 0 ∨ msg = 9 ∨ msg = 0xB → s.flag (R.PRO.PREF.CFG.UNICAST p) = true →
        (∀ g ∈ (s.pref p).grants, g.1 = msg.toNat → g.2.2.1 * (1000000000 * 65536) ≤ 2 * (s.now - g.2.1)) →
        Answers (.prefRenew p msg) s fun t =>
          Map.get? t.pro.seqs (p.val * 16 + 12) = some ((Map.getD s.pro.seqs (p.val * 16 + 12) 0 + 1) % 65536) ∧
          t.hearth = s.hearth ∧ t.ref = s.ref) ∧
      (s.passed (s.pref p).reqAt (interval (s.sget (R.PRO.PREF.INTV.LOG_DREQ p))).toNat = false →
        Answers (.prefDelayReq p) s fun t => t = s) ∧
      (s.passed (s.pref p).reqAt (interval (s.sget (R.PRO.PREF.INTV.LOG_DREQ p))).toNat = true →
        (s.flag (R.PRO.PREF.CFG.DELAY p) = true ∨ (s.pref p).selected ≠ none ∧ (s.flag (R.PRO.PREF.CFG.UNICAST p) = false ∨
          (s.pref p).holds s.now 9 = true)) → Answers (.prefDelayReq p) s fun t => (t.pref p).reqAt = s.mark ∧
        (t.pref p).seq = ((s.pref p).seq + 1) % 65536 ∧ (t.pref p).exch = some ⟨(s.pref p).seq, none, none⟩ ∧
        t.hearth = s.hearth ∧ t.ref = s.ref)) ∧
    (∀ (k : Fin 8) (m : Smear), Map.get? s.pro.smears k.val = none → s.smearFor k s.now = some m → Answers (.smearStart k) s fun t =>
      Map.get? t.pro.smears k.val = some m ∧ t.get R.PRO.EVT.SMEAR_START = 1 ∧
      (∀ j, j ≠ k.val → Map.get? t.pro.smears j = Map.get? s.pro.smears j) ∧
      ({ s with pro := { s.pro with smears := t.pro.smears } }).OnlySignals
        (among [R.PRO.EVT.SMEAR_START, R.PRO.STAT.SMEARING]) t) ∧
    (∀ (k : Fin 8) (m : Smear), Map.wf s.pro.smears = true → Map.get? s.pro.smears k.val = some m →
      m.start + s.get (R.PRO.SMEAR.W k) * (1000000000 * 65536) ≤ s.now ∨ s.smearWithdrawn m = true →
      Answers (.smearEnd k) s fun t =>
        Map.get? t.pro.smears k.val = none ∧ k.val ∈ t.pro.smeared ∧ t.get R.PRO.EVT.SMEAR_END = 1 ∧
        (∀ j, j ≠ k.val → Map.get? t.pro.smears j = Map.get? s.pro.smears j) ∧
        ({ s with pro := { s.pro with smears := t.pro.smears, smeared := t.pro.smeared } }).OnlySignals
          (among [R.PRO.EVT.SMEAR_END, R.PRO.STAT.SMEARING]) t)

/-! ### The glovebox -/

/-- LOAD and DESTROY take KEY_DATA away and end with their result: a LOAD that passes every check writes the glove with its key,
DESTROY empties it. DESTROY_ALL empties every glove. A generator that fails its test withdraws RNG_OK. A life-cycle command needs
its confirmation and a target that the mask permits, and a change empties every glove. -/
def Obligations.Glovebox : Prop :=
  ∀ s : State, s.Canonical → Map.wf s.glv.keys = true →
    let cls := s.get R.GLV.KEY_ATTR.CLASS
    let life := s.get R.GLV.KEY_ATTR.LIFE
    let id := s.get R.GLV.KEY_ID.ID
    let uses := s.get2 R.GLV.KEY_COUNT_LO.COUNT R.GLV.KEY_COUNT_HI.COUNT
    let keyField : Field → Prop := either (inside (R.GLV.KEY_DATA.KEY 0).addr 32)
      (among [R.GLV.KEY_CMD.INDEX, R.GLV.KEY_STAT.RESULT, R.GLV.KEY_STAT.WORDS, R.GLV.STAT.MINT_OK, R.GLV.EVT.NO_MINT,
          R.GLV.EVT.KEY_DONE])
    let ended (result : Nat) (t : State) : Prop := t.get R.GLV.KEY_STAT.RESULT = result ∧ t.get R.GLV.KEY_STAT.WORDS = 0 ∧
      (∀ i : Fin 8, t.get (R.GLV.KEY_DATA.KEY i) = 0) ∧ t.get R.GLV.EVT.KEY_DONE = 1
    let onlyGlove (g : Nat) (t : State) : Prop :=
      (∀ m, m ≠ g → Map.get? t.glv.keys m = Map.get? s.glv.keys m) ∧
      ({ s with glv := { s.glv with keys := t.glv.keys } }).OnlySignals
        (either keyField (either (inside (R.GLV.GLOVE.ATTR.CLASS g).addr 16) (among [R.GLV.KEY_DESTROYED.COUNT]))) t
    (∀ g : Fin 64,
      let refused (result : Nat) : Prop := Answers (.keyLoad g) s fun t => ended result t ∧ s.OnlySignals keyField t
      let complete := s.get R.GLV.KEY_STAT.WORDS = 0xFF
      let attr := 1 ≤ cls ∧ cls ≤ 3 ∧ (life = 0 → uses ≠ 0)
      let other := ∃ m : Fin 64, s.gloveState m = 1 ∧ s.get (R.GLV.GLOVE.ATTR.CLASS m) = cls ∧ s.get (R.GLV.GLOVE.KEY_ID.ID m) = id
      (¬complete → refused 4) ∧ (complete → ¬attr → refused 5) ∧ (complete → attr → s.gloveState g = 1 → refused 2) ∧
      (complete → attr → s.gloveState g ≠ 1 → other → refused 3) ∧
      (complete → attr → s.gloveState g ≠ 1 → ¬other → Answers (.keyLoad g) s fun t => ended 1 t ∧ t.gloveState g = 1 ∧
        t.get (R.GLV.GLOVE.ATTR.CLASS g) = cls ∧ t.get (R.GLV.GLOVE.ATTR.LIFE g) = life % 2 ∧ t.get (R.GLV.GLOVE.ATTR.SRC g) = 0 ∧
        t.get (R.GLV.GLOVE.KEY_ID.ID g) = id % 2 ^ 32 ∧
        t.get2 (R.GLV.GLOVE.COUNT_LO.COUNT g) (R.GLV.GLOVE.COUNT_HI.COUNT g) = (if life = 0 then uses % 2 ^ 40 else 0) ∧
        Map.get? t.glv.keys g = some (((List.range 8).map fun i => s.get (R.GLV.KEY_DATA.KEY i) * 2 ^ (32 * i)).sum) ∧
        onlyGlove g t) ∧
      (s.gloveState g = 0 → Answers (.keyDestroy g) s fun t => ended 6 t ∧ s.OnlySignals keyField t) ∧
      (s.gloveState g ≠ 0 → Answers (.keyDestroy g) s fun t => ended 1 t ∧ t.gloveState g = 0 ∧ Map.get? t.glv.keys g = none ∧
        t.get R.GLV.KEY_DESTROYED.COUNT = (s.get R.GLV.KEY_DESTROYED.COUNT + 1) % 2 ^ 32 ∧ onlyGlove g t)) ∧
    (Answers .keyDestroyAll s fun t => ended 1 t ∧ (∀ g : Fin 64, t.gloveState g = 0) ∧
      ({ s with glv := { s.glv with keys := t.glv.keys } }).OnlySignals
        (either keyField (either (inside (R.GLV.GLOVE.ATTR.CLASS 0).addr 1024) (among [R.GLV.KEY_DESTROYED.COUNT]))) t) ∧
    (Answers .rngHealthFail s fun t => t.flag R.GLV.STAT.RNG_OK = false ∧ t.get R.GLV.EVT.RNG_FAIL = 1 ∧
      State.Filed F.glvRngFail 0 s t ∧ s.OnlyFilings (among [R.GLV.STAT.RNG_OK, R.GLV.EVT.RNG_FAIL]) t) ∧
    (∀ (target : BitVec 2) (confirm : BitVec 16),
      let permitted := confirm = 0x4C43 ∧ target.toNat ≠ 3 ∧ bitOf (s.get R.GLV.LC.LC_MASK) target.toNat = true
      (¬permitted → Answers (.lcCmd target confirm) s fun t =>
        t.get R.GLV.EVT.CFG_REJECTED = 1 ∧ s.OnlySignals (among [R.GLV.EVT.CFG_REJECTED]) t) ∧
      (permitted → target.toNat = s.get R.GLV.LC.STATE → Answers (.lcCmd target confirm) s fun t => t = s) ∧
      (permitted → target.toNat ≠ s.get R.GLV.LC.STATE → s.rse.slotWait = [] → s.rse.respWait = [] →
        Answers (.lcCmd target confirm) s fun t => t.get R.GLV.LC.STATE = target.toNat ∧ (∀ g : Fin 64, t.gloveState g = 0) ∧
          t.get R.GLV.EVT.LC_CHANGE = 1 ∧ t.flag R.GLV.STAT.RNG_OK = true ∧ State.Filed F.glvLcChange target.toNat s t ∧
          t.hearth = s.hearth))

/-! ### Sample ports -/

/-- SMP_START takes an IDLE port outside a group to PREROLL; SMP_STOP waits for the next frame edge, and ends a stalled port at
once. GRP_START judges its instant and its master, and takes every member in IDLE to PREROLL. At each good frame edge the pre-roll
counts, RUN begins with frame 0 and counts on, and STOP ends it; frames out of rate and missing edges stall a port, once 2 × P have
passed since the last edge. Of a two-channel port the edge of WS that JUST and WS_INV do not select begins no frame. A poisoned word
of its transmit ring is sent as zero. How long a word stays poisoned is the model's choice (log entry 128). The spans are measured
as the model chose (log entry 126). -/
def Obligations.SamplePorts : Prop :=
  ∀ s : State, s.Canonical →
    let others (n : Nat) (t : State) : Prop := ∀ m, m ≠ n → t.spk m = s.spk m
    (∀ n : Fin 8,
      let own (fs : List Field) (t : State) : Prop :=
        others n t ∧ ({ s with smp := { s.smp with ports := t.smp.ports } }).OnlyFields (among fs) t
      (s.spkState n = 1 → s.flag (R.SMP.PORT.CFG.GROUP_EN n) = false → Answers (.smpStart n) s fun t =>
        t.spkState n = 2 ∧ t.get (R.SMP.PORT.STAT.STALL_CAUSE n) = 0 ∧ t.flag (R.SMP.PORT.STAT.SWAP_RISK n) = false ∧
        (t.spk n).count = 0 ∧
        own [R.SMP.PORT.STAT.STATE n, R.SMP.PORT.STAT.STALL_CAUSE n, R.SMP.PORT.STAT.SWAP_RISK n] t) ∧
      (s.spkState n ≠ 1 ∨ s.flag (R.SMP.PORT.CFG.GROUP_EN n) = true → Answers (.smpStart n) s fun t =>
        t.get (R.SMP.PORT.EVT.CFG_REJECTED n) = 1 ∧ s.OnlySignals (among [R.SMP.PORT.EVT.CFG_REJECTED n]) t) ∧
      (s.spkState n = 2 ∨ s.spkState n = 3 → Answers (.smpStop n) s fun t =>
        t.flag (R.SMP.PORT.CTL.STOP n) = true ∧ s.OnlyFields (among [R.SMP.PORT.CTL.STOP n]) t) ∧
      (s.spkState n = 5 → (s.spk n).armed = none → (s.spk n).sending = [] → Answers (.smpStop n) s fun t =>
        t.spkState n = 1 ∧ t.flag (R.SMP.PORT.STAT.SDO_DRIVEN n) = false ∧ t.flag (R.SMP.PORT.CTL.STOP n) = false ∧
        own [R.SMP.PORT.STAT.STATE n, R.SMP.PORT.STAT.SDO_DRIVEN n, R.SMP.PORT.CTL.STOP n] t)) ∧
    (∀ (n : Fin 8) (slot : Nat), bitOf (s.get (R.SMP.PORT.MASK.SLOT_MASK n)) slot = true →
      let size := s.get (R.SMP.PORT.TX_SIZE.SIZE n) * 4096
      let rd := s.get (R.SMP.PORT.TX_RD.PTR n)
      4 ≤ ringUsed (s.get (R.SMP.PORT.TX_WR.PTR n)) rd size →
      s.badWords ((s.smpTxRing n).1 + rd % size) 4 ≠ [] →
        let t := (s.smpTxSlot n slot).2
        (s.smpTxSlot n slot).1 = 0 ∧ t.get (R.SMP.PORT.UNDERRUN_CNT.COUNT n) =
          (s.get (R.SMP.PORT.UNDERRUN_CNT.COUNT n) + 1) % 2 ^ 32 ∧ t.get (R.SMP.PORT.TX_RD.PTR n) = (rd + 4) % size % 2 ^ 24 ∧
        t.get (R.SMP.PORT.STAT.SWAP_RISK n) = s.get (R.SMP.PORT.STAT.SWAP_RISK n) ∧ t.get R.MEM.EVT.UE = 1) ∧
    (∀ k : Fin 4,
      let ns := s.get (R.SMP.GRP.START_NS.NS k)
      let ts := s.getTime (R.SMP.GRP.START_FRAC.FRAC k) (R.SMP.GRP.START_NS.NS k) (R.SMP.GRP.START_SEC_LO.SEC k)
        (R.SMP.GRP.START_SEC_HI.SEC k)
      let master := s.get (R.SMP.GRP.CFG.MASTER k)
      let member (n : Nat) := s.flag (R.SMP.PORT.CFG.EN n) = true ∧ s.flag (R.SMP.PORT.CFG.GROUP_EN n) = true ∧
        s.get (R.SMP.PORT.CFG.GROUP n) = k.val ∧ s.spkState n = 1
      let refused (cause : Nat) : Prop := Answers (.grpStart k) s fun t => t.get R.SMP.STAT.FAIL_CAUSE = cause ∧
        t.get R.SMP.EVT.GRP_FAIL = 1 ∧ s.OnlySignals (among [R.SMP.STAT.FAIL_CAUSE, R.SMP.EVT.GRP_FAIL]) t
      (1000000000 ≤ ns → Answers (.grpStart k) s fun t => State.Filed F.smpBadTime k s t ∧ s.OnlyFilings (among []) t) ∧
      (ns < 1000000000 → s.hearth.running = false → refused 5) ∧
      (ns < 1000000000 → s.hearth.running = true → (ts : Int) < s.now + 1200 * 65536 → refused 1) ∧
      (ns < 1000000000 → s.hearth.running = true → s.now + 1200 * 65536 ≤ (ts : Int) →
        (¬member master → refused 4) ∧
        (member master → Answers (.grpStart k) s fun t =>
          Map.get? t.smp.groups k = some ⟨ts, master⟩ ∧ bitOf (t.get R.SMP.STAT.ARMED) k = true ∧
          (∀ j : Fin 4, j ≠ k → bitOf (t.get R.SMP.STAT.ARMED) j = bitOf (s.get R.SMP.STAT.ARMED) j ∧
            Map.get? t.smp.groups j = Map.get? s.smp.groups j) ∧
          (∀ n : Fin 8, (member n → t.spkState n = 2 ∧ (t.spk n).armed = some k.val) ∧
            (¬member n → t.spkState n = s.spkState n ∧ t.spk n = s.spk n)) ∧
          ({ s with smp := { s.smp with ports := t.smp.ports, groups := t.smp.groups } }).OnlyFields
            (fun f => among [R.SMP.STAT.ARMED] f ∨ ∃ n : Fin 8, among [R.SMP.PORT.STAT.STATE n, R.SMP.PORT.STAT.STALL_CAUSE n,
              R.SMP.PORT.STAT.SWAP_RISK n] f) t))) ∧
    (∀ (n : Fin 8) (u : SampleFrame),
      let begins := u.rises = (s.flag (R.SMP.PORT.CFG.JUST n) != s.flag (R.SMP.PORT.CFG.WS_INV n))
      (s.spkState n = 0 → (Answers (.smpFrameEdge n u) s fun t => t = s) ∧ Answers (.smpEdgeTimeout n) s fun t => t = s) ∧
      (s.aes n = false → ¬begins → Answers (.smpFrameEdge n u) s fun t => t = s) ∧
      (s.edgeOverdue n = false → Answers (.smpEdgeTimeout n) s fun t => t = s) ∧
      (s.smp.groups = [] → s.get R.SMP.CTL.GRP_STOP = 0 → s.aes n = false → begins → s.flag (R.SMP.PORT.CFG.RX_EN n) = false →
        s.flag (R.SMP.PORT.CFG.TX_EN n) = false → u.bclk = 2 * s.get (R.SMP.PORT.FMT.SLOT n) →
        s.get (R.SMP.PORT.RATE.RATE_N n) ≠ 0 → (s.spk n).startAt = none → (s.spk n).stopAt = none → (s.spk n).armed = none →
        let stop := s.flag (R.SMP.PORT.CTL.STOP n) = true
        let pre := s.get (R.SMP.PORT.ROLL.PREROLL n)
        let same (t : State) : Prop := others n t ∧ t.hearth = s.hearth ∧ t.dram = s.dram ∧ t.tdc = s.tdc
        (∀ i, u.interval = some i → s.smpInRate n i = true →
          (s.spkState n = 1 → Answers (.smpFrameEdge n u) s fun t => t.spkState n = 1 ∧ same t) ∧
          (s.spkState n = 2 → stop → Answers (.smpFrameEdge n u) s fun t =>
            t.spkState n = 1 ∧ t.flag (R.SMP.PORT.CTL.STOP n) = false ∧ same t) ∧
          (s.spkState n = 2 → ¬stop → (s.spk n).count < pre → Answers (.smpFrameEdge n u) s fun t =>
            t.spkState n = 2 ∧ (t.spk n).count = (s.spk n).count + 1 ∧ same t) ∧
          (s.spkState n = 2 → ¬stop → pre ≤ (s.spk n).count → (s.spk n).resume = false → Answers (.smpFrameEdge n u) s fun t =>
            t.spkState n = 3 ∧ t.smpFrames n = 0 ∧ t.get (R.SMP.PORT.EVT.STARTED n) = 1 ∧ same t) ∧
          (s.spkState n = 3 → ¬stop → Answers (.smpFrameEdge n u) s fun t =>
            t.spkState n = 3 ∧ t.smpFrames n = (s.smpFrames n + 1) % 2 ^ 64 ∧ same t) ∧
          (s.spkState n = 3 → stop → s.get (R.SMP.PORT.ROLL.POSTROLL n) ≠ 0 → Answers (.smpFrameEdge n u) s fun t =>
            t.spkState n = 4 ∧ (t.spk n).post = s.get (R.SMP.PORT.ROLL.POSTROLL n) ∧ t.flag (R.SMP.PORT.CTL.STOP n) = false ∧
            same t)) ∧
        (∀ i, u.interval = some i → s.smpInRate n i = false → s.get (R.SMP.PORT.RATE.RATE_N n) ≤ (s.spk n).badRun + 1 →
          s.spkState n = 2 ∨ s.spkState n = 3 → ¬stop → Answers (.smpFrameEdge n u) s fun t =>
            t.spkState n = 5 ∧ t.get (R.SMP.PORT.STAT.STALL_CAUSE n) = 2 ∧ t.get (R.SMP.PORT.EVT.STALL n) = 1 ∧
            t.get (R.SMP.PORT.STALL_CNT.COUNT n) = (s.get (R.SMP.PORT.STALL_CNT.COUNT n) + 1) % 2 ^ 32 ∧
            State.Filed F.smpStall n s t ∧ same t)) ∧
      (s.spkState n = 2 ∨ s.spkState n = 3 → s.edgeOverdue n = true → s.flag (R.SMP.PORT.CTL.STOP n) = false →
        Answers (.smpEdgeTimeout n) s fun t =>
        t.spkState n = 5 ∧ t.get (R.SMP.PORT.STAT.STALL_CAUSE n) = 1 ∧ t.flag (R.SMP.PORT.STAT.CLK_PRESENT n) = false ∧
        t.get (R.SMP.PORT.EVT.STALL n) = 1 ∧
        t.get (R.SMP.PORT.STALL_CNT.COUNT n) = (s.get (R.SMP.PORT.STALL_CNT.COUNT n) + 1) % 2 ^ 32 ∧
        State.Filed F.smpStall n s t ∧ others n t ∧ t.hearth = s.hearth))

/-! ### Redundancy -/

/-- At the end of a valid HAT frame the holder keeps the hat only if it sent a claim and lost no bit; a chip without it gains it
by winning, with TAKEOVER where a pair and a rate source are there, else with a normal start; a frame that is not valid decides
nothing. The host's commands set and clear the renounce latch under their conditions. A takeover seeds all lanes alike. -/
def Obligations.HatAndRoles : Prop :=
  ∀ s : State, s.Canonical →
    let rejected (t : State) : Prop := t.get R.RED.EVT.CFG_REJECTED = 1 ∧ s.OnlySignals (among [R.RED.EVT.CFG_REJECTED]) t
    let latched (t : State) : Prop := t.flag R.RED.STAT.RENOUNCED = true ∧
      (s.flag R.RED.STAT.RENOUNCED = false →
        t.get R.RED.RENOUNCE_CNT.COUNT = (s.get R.RED.RENOUNCE_CNT.COUNT + 1) % 2 ^ 32 ∧
        (s.holding = false → s.role = 1 ∨ s.role = 2 ∨ s.role = 4 → t.role = 3) ∧ (s.holding = true → t.role = s.role)) ∧
      s.KeepsBut (among [R.RED.STAT.RENOUNCED, R.RED.RENOUNCE_CNT.COUNT, R.RED.STAT.ROLE, R.RED.CTL.YIELD]) t
    (∀ u : HatFrame,
      let claim := s.claimNow
      let sampled := sampledBits u.bits.toNat
      let lost := (lostAt (frameBits claim) sampled).isSome
      let seen (t : State) : Prop := t.get R.RED.FRAMES.COUNT = (s.get R.RED.FRAMES.COUNT + 1) % 2 ^ 32 ∧
        t.get R.RED.LAST_FRAME.BITS = u.bits.toNat ∧ t.get R.RED.STAT.CLAIM = claim % 512 ∧ t.red.claim = claim ∧ t.hearth = s.hearth
      (s.soloInForce = true ∨ s.svc = 3 → Answers (.hatFrame u) s fun t => t = s) ∧
      (s.soloInForce = false → s.svc ≠ 3 → u.changed = false → s.red.reclaim = false → s.healthAll ≠ 3 →
        (frameValid sampled = false → Answers (.hatFrame u) s fun t => seen t ∧ t.holding = s.holding ∧ t.role = s.role ∧
          t.get R.RED.FRAME_ERR.COUNT = (s.get R.RED.FRAME_ERR.COUNT + 1) % 2 ^ 32) ∧
        (frameValid sampled = true → s.holding = true → lost = false → claim % 256 ≠ 0 → Answers (.hatFrame u) s fun t => seen t ∧
          t.holding = true ∧ t.role = s.role ∧ t.flag R.RED.STAT.LINE_FAULT = false ∧
          t.get R.RED.WON.COUNT = (s.get R.RED.WON.COUNT + 1) % 2 ^ 32) ∧
        (frameValid sampled = true → s.holding = true → lost = true ∨ claim % 256 = 0 → Answers (.hatFrame u) s fun t =>
          t.holding = false ∧ t.role = 3 ∧ t.get R.RED.EVT.HAT_LOST = 1 ∧ t.red.loseDue = true ∧
          (∀ p : Fin 4, t.flag (R.ETH.STAT.HAT_GATED p) = true) ∧ t.hearth = s.hearth) ∧
        (frameValid sampled = true → s.holding = false → lost = false → claim % 256 ≠ 0 →
          (s.pairValid u.pairAge = true → s.rateSource = true → Answers (.hatFrame u) s fun t => seen t ∧ t.holding = true ∧
            t.role = 4 ∧ t.get R.RED.EVT.HAT_GAINED = 1 ∧ t.red.winDue = some true ∧ t.red.pair = s.red.pair) ∧
          (s.pairValid u.pairAge = false ∨ s.rateSource = false → Answers (.hatFrame u) s fun t => seen t ∧ t.holding = true ∧
            t.role = 1 ∧ t.get R.RED.EVT.HAT_GAINED = 1 ∧ t.red.winDue = some false ∧ t.red.startDue = true ∧
            t.get R.RED.TAKE_COLD.COUNT = (s.get R.RED.TAKE_COLD.COUNT + 1) % 2 ^ 32)) ∧
        (frameValid sampled = true → s.holding = false → s.red.arbitrating = true → lost = true →
            s.flag R.RED.STAT.RENOUNCED = false →
          Answers (.hatFrame u) s fun t => seen t ∧ t.holding = false ∧ t.role = 2 ∧ t.red.arbitrating = false))) ∧
    (s.holding = true → s.soloInForce = false → s.flag R.RED.STAT.LINE_FAULT = false → Answers .hatLineTimeout s fun t =>
      t.flag R.RED.STAT.LINE_FAULT = true ∧ State.Filed F.redHatLine 0 s t ∧ s.OnlyFilings (among [R.RED.STAT.LINE_FAULT]) t) ∧
    (let bad := s.role ≠ 3 ∨ s.synState 0 ≠ 3 ∨ s.get R.GLV.LC.STATE = 0 ∨ s.get R.RED.HAT.HAT_NUM = 0;
      (bad → Answers .reclaim s rejected) ∧
      (¬bad → Answers .reclaim s fun t => t.flag R.RED.STAT.RENOUNCED = false ∧ t.red = { s.red with reclaim := true } ∧
        ({ s with red := t.red }).OnlyFields (among [R.RED.STAT.RENOUNCED]) t)) ∧
    (s.soloInForce = true → Answers .renounce s rejected) ∧
    (s.soloInForce = false → Answers .renounce s fun t => latched t ∧ t.flag R.RED.CTL.YIELD = false ∧
        t.red = { s.red with yieldAt := none, reclaim := false } ∧
      t = { s with regs := t.regs, red := t.red }) ∧
    (s.soloInForce = true ∨ s.role ≠ 1 → Answers .yield s rejected) ∧
    (s.soloInForce = false → s.role = 1 → Answers .yield s fun t => t.flag R.RED.CTL.YIELD = true ∧
      t.red = { s.red with yieldAt := some (midSecond s.now) } ∧ ({ s with red := t.red }).OnlyFields (among [R.RED.CTL.YIELD]) t) ∧
    (∀ at_ : Int, s.red.yieldAt = some at_ →
      (s.now < at_ → Answers .yieldApply s fun t => t = s) ∧
      (at_ ≤ s.now → s.role = 1 → Answers .yieldApply s fun t => latched t ∧ t.flag R.RED.CTL.YIELD = false ∧
        t.red = { s.red with yieldAt := none } ∧ t = { s with regs := t.regs, red := t.red })) ∧
    (∀ (since : Int) (p : SeedPair), s.role = 4 → s.hearth.running = false → s.hrtRuns = true → s.red.pair = some p →
      s.nvc.kept = [] → Answers (.seeding since) s fun t =>
        let rate : BitVec 40 := BitVec.ofInt 40 (s.seedRate p.ember)
        t.hearth.running = true ∧ t.role = 1 ∧ t.get R.RED.EVT.TAKEOVER = 1 ∧
        t.get R.RED.TAKEOVERS.COUNT = (s.get R.RED.TAKEOVERS.COUNT + 1) % 2 ^ 32 ∧
        (t.hearth.laneA.rate = rate ∧ t.hearth.laneA.integ = rate ∧ t.hearth.laneA.prop = 0 ∧ t.hearth.laneA.acc = 0) ∧
        t.hearth.laneB = t.hearth.laneA ∧ t.hearth.laneC = t.hearth.laneA) ∧
    (s.red.loseDue = true → Answers .loserRelease s fun t => t.red.loseDue = false ∧ t.out.drive = false ∧
      t.out.irigBusy = [] ∧ t.out.todBusy = [] ∧ (∀ n : Fin 16, t.flag (R.OUT.STAT.DRIVING n) = false) ∧ t.hearth = s.hearth ∧
      t.eth = s.eth ∧ t.rse = s.rse) ∧
    (∀ seeded : Bool, s.red.winDue = some seeded → Answers .winnerRelease s fun t => t.red.winDue = none ∧ t.out.drive = true ∧
      t.eth.released = true ∧ (∀ p : Fin 4, t.flag (R.ETH.STAT.HAT_GATED p) = false) ∧ t.hearth = s.hearth)

/-- HELLO, EMBER and HEALTH are sent under the link's conditions, with their bodies. A HELLO received negotiates the version and
shows the peer. An EMBER and a marker make a pair; either without the other is a miss. A link without messages goes down. -/
def Obligations.HatLink : Prop :=
  ∀ s : State, s.Canonical →
    let up := s.get R.RED.LINK_STAT.STATE = 3
    let crc (t : State) : Prop := t.get R.RED.LINK_CRC_ERR.COUNT = (s.get R.RED.LINK_CRC_ERR.COUNT + 1) % 2 ^ 32 ∧
      s.OnlyFields (among [R.RED.LINK_CRC_ERR.COUNT]) t
    let missed (t : State) : Prop := t.red = { s.red with marker := none, lastSecond := none } ∧
      t.get R.RED.EMBER_MISS.COUNT = (s.get R.RED.EMBER_MISS.COUNT + 1) % 2 ^ 32 ∧ t.get R.RED.EVT.EMBER_MISS = 1 ∧
      State.Filed F.redEmberMiss 0 s t ∧
      ({ s with red := t.red }).OnlyFilings (among [R.RED.EMBER_MISS.COUNT, R.RED.EVT.EMBER_MISS]) t
    (s.linkTalks = false → (Answers .helloTx s fun t => t = s) ∧ (∀ m, Answers (.helloRx m) s fun t => t = s) ∧
      (Answers .hatLinkTimeout s fun t => t = s) ∧ ∀ m, Answers (.healthRx m) s fun t => t = s) ∧
    (s.linkTalks = true →
      (Answers .helloTx s fun t => t.emitted = .hatMessage 1 s.helloBody :: s.emitted ∧ t = { s with emitted := t.emitted }) ∧
      (Answers (.helloRx none) s crc) ∧
      (∀ b : List Byte,
        let shown (t : State) : Prop := t.get R.RED.LINK_STAT.PEER_HAT = le b 2 1 % 256 ∧
          t.get R.RED.LINK_STAT.PEER_ROLE = le b 3 1 % 8 ∧ t.flag R.RED.LINK_STAT.PEER_HOLDING = bitOf (le b 4 1) 0 ∧
          t.red = { s.red with peerVers := some (le b 0 1, le b 1 1) } ∧ t.hearth = s.hearth
        let conflict := bitOf (le b 4 1) 0 = true ∧ s.holding = true ∧ s.get R.RED.HAT.HAT_NUM ≤ le b 2 1
        (∀ v, s.commonVersion (le b 0 1) (le b 1 1) = some v → Answers (.helloRx (some b)) s fun t => shown t ∧
          t.get R.RED.LINK_STAT.STATE = 3 ∧ t.get R.RED.LINK_STAT.VER = v % 4 ∧ (¬up → t.get R.RED.EVT.LINK_UP = 1) ∧
          (conflict → State.Filed F.redHatConflict (le b 2 1) s t)) ∧
        (s.commonVersion (le b 0 1) (le b 1 1) = none → Answers (.helloRx (some b)) s fun t => shown t ∧
          t.get R.RED.LINK_STAT.STATE = 2 ∧ t.get R.RED.LINK_STAT.VER = 0)) ∧
      (Answers .hatLinkTimeout s fun t => t.get R.RED.LINK_STAT.STATE = 1 ∧ t.get R.RED.LINK_STAT.VER = 0 ∧
        t.red = { s.red with peerVers := none } ∧
        t.get R.RED.LINK_DOWN_CNT.COUNT = (s.get R.RED.LINK_DOWN_CNT.COUNT + 1) % 2 ^ 32 ∧ State.Filed F.redLinkDown 0 s t ∧
        ({ s with red := t.red }).OnlyFilings
          (among [R.RED.LINK_STAT.STATE, R.RED.LINK_STAT.VER, R.RED.LINK_DOWN_CNT.COUNT]) t)) ∧
    (s.get R.RED.LINK_STAT.STATE = 1 → Answers .hatLinkAligned s fun t => t.get R.RED.LINK_STAT.STATE = 2 ∧
      t.red = { s.red with peerVers := none } ∧ ({ s with red := t.red }).OnlyFields (among [R.RED.LINK_STAT.STATE]) t) ∧
    (s.get R.RED.LINK_STAT.STATE ≠ 1 → Answers .hatLinkAligned s fun t => t = s) ∧
    (∀ e : List Byte, s.nvc.latest = some e →
      (s.holding = true → up → emRun e = true → s.red.sent ≠ some (emSecond e) → Answers .emberTx s fun t =>
        t.emitted = .hatMessage 2 e :: s.emitted ∧ t.red = { s.red with sent := some (emSecond e) } ∧
        t.get R.RED.EMBER_TX.COUNT = (s.get R.RED.EMBER_TX.COUNT + 1) % 2 ^ 32 ∧
        ({ s with red := t.red, emitted := t.emitted }).OnlyFields (among [R.RED.EMBER_TX.COUNT]) t) ∧
      (s.holding = false ∨ ¬up ∨ emRun e = false ∨ s.red.sent = some (emSecond e) → Answers .emberTx s fun t => t = s)) ∧
    (up → (Answers (.emberRx none) s crc) ∧
      ∀ e : List Byte, (s.hearth.running = true → Answers (.emberRx (some e)) s fun t => t = s) ∧
        (s.hearth.running = false →
          let fits := (∀ l, s.red.lastSecond = some l → emSecond e = l + 1) ∧ emberOk e = true ∧ emRun e = true
          (s.red.marker = none ∨ ¬fits → Answers (.emberRx (some e)) s missed) ∧
          (∀ u, s.red.marker = some u → fits → Answers (.emberRx (some e)) s fun t =>
            t.red = { s.red with marker := none, lastSecond := some (emSecond e), pair := some ⟨emSecond e, u, e⟩ } ∧
            t.get R.RED.EMBER_RX.COUNT = (s.get R.RED.EMBER_RX.COUNT + 1) % 2 ^ 32 ∧
            t.flag R.RED.STAT.SEED_VALID = t.pairValid 0 ∧
            ({ s with red := t.red }).OnlyFields (among [R.RED.EMBER_RX.COUNT, R.RED.STAT.SEED_VALID]) t))) ∧
    (¬up → ∀ m, (s.linkTalks = false → Answers (.emberRx m) s fun t => t = s) ∧
      (s.linkTalks = true → Answers (.emberRx m) s crc)) ∧
    (s.red.marker ≠ none → Answers .emberPairTimeout s missed) ∧
    (s.red.marker = none → Answers .emberPairTimeout s fun t => t = s) ∧
    (let v2 := up ∧ s.get R.RED.LINK_STAT.VER = 2;
      (v2 → ¬(s.role = 2 ∧ s.healthAll = 3 ∧ s.red.failed = false) → Answers .healthTx s fun t =>
        t.emitted = .hatMessage 3 s.healthReport :: s.emitted ∧
        t.red = { s.red with healthSeq := (s.red.healthSeq + 1) % 65536 } ∧
        t.get R.RED.HEALTH.REPORT = ofLe (s.healthReport.take 4) % 2 ^ 32 ∧
        ({ s with red := t.red, emitted := t.emitted }).OnlyFields (among [R.RED.HEALTH.REPORT]) t) ∧
      (¬v2 → Answers .healthTx s fun t => t = s) ∧
      (s.linkTalks = true → ¬v2 → ∀ m, Answers (.healthRx m) s crc) ∧
      (v2 → Answers (.healthRx none) s crc) ∧
      (v2 → ∀ b : List Byte,
        let was := bitsOf (s.get R.RED.PEER_HEALTH.REPORT) 24 8
        Answers (.healthRx (some b)) s fun t => t.get R.RED.PEER_HEALTH.REPORT = le b 0 4 % 2 ^ 32 ∧
          (was ≠ le b 3 1 → t.get R.RED.EVT.PEER_HEALTH = 1) ∧
          (s.holding = true → le b 3 1 = 3 → State.Filed F.redPeerFail 0 s t) ∧
          s.OnlyFilings (among [R.RED.PEER_HEALTH.REPORT, R.RED.EVT.PEER_HEALTH]) t))

/-! ### Resets and start-up -/

/-- A reset of the chip takes the majority of three samples of the straps, records its cause and counts; the Hearth and every block outside the always-on domain
are as at reset, but for what a host reset or a RELOAD keeps; a glove that expires at reset is gone; DRAM, the flash and the
commands waiting stay. Power-on clears the always-on domain too. RESET_N low, a brownout and the loss of the always-on supply hold
the chip in reset. -/
def Obligations.Resets : Prop :=
  ∀ s : State, s.Canonical → Map.wf s.glv.keys = true →
    let straps : Field → Prop := among [R.NVC.STAT.STRAP_PROF, R.NVC.STAT.STRAP_BOOT, R.NVC.STAT.STRAP_NVMSEL, R.HST.STAT.HOSTSEL,
      R.NVC.RST_CAUSE.CAUSE]
    let still (t : State) : Prop := t.hearth = State.reset.hearth ∧ t.clocks = State.reset.clocks ∧ t.shadow = [] ∧ t.commits = [] ∧
      t.dram = s.dram ∧ t.pending = s.pending ∧ t.freeCtr = s.freeCtr ∧ (s.nvc.write = [] → s.nvc.hostOp = none →
        t.nvc.flash = s.nvc.flash)
    let came (cause : Nat) (p : Straps) (t : State) : Prop := still t ∧ t.power = .on ∧ t.get R.NVC.RST_CAUSE.CAUSE = 2 ^ cause ∧
      t.get R.NVC.STAT.STRAP_PROF = p.prof.toNat ∧ t.get R.NVC.STAT.STRAP_BOOT = p.boot.toNat ∧
      t.flag R.NVC.STAT.STRAP_NVMSEL = p.nvmsel
    let glove (f : Field) : Prop := inside (R.GLV.GLOVE.ATTR.CLASS 0).addr 1024 f
    let always (t : State) : Prop :=
      (∀ f : Field, alwaysOn f.key = true → ¬glove f → f.key ≠ R.FLT.RESET_CNT.COUNT.key → t.get f = s.get f) ∧
      t.get R.FLT.RESET_CNT.COUNT = (s.get R.FLT.RESET_CNT.COUNT + 1) % 2 ^ 32 ∧
      ∀ g : Fin 64,
        (s.flag (R.GLV.GLOVE.ATTR.LIFE g) = false → Map.get? t.glv.keys g = Map.get? s.glv.keys g ∧
          ∀ f : Field, inside (R.GLV.GLOVE.ATTR.CLASS g).addr 16 f → t.get f = s.get f) ∧
        (s.flag (R.GLV.GLOVE.ATTR.LIFE g) = true → t.gloveState g = 0)
    (∀ p q : Straps, strapsOf ⟨p, p, q⟩ = p ∧ strapsOf ⟨p, q, p⟩ = p ∧ strapsOf ⟨q, p, p⟩ = p) ∧
    (∀ x : StrapSamples, Answers (.powerOn x) s fun t => came 0 (strapsOf x) t ∧
      t.flag R.HST.STAT.HOSTSEL = (strapsOf x).hostsel ∧ t.glv.keys = [] ∧
      ∀ f : Field, ¬straps f → t.get f = f.rst) ∧
    (∀ (x : StrapSamples) (cause : Nat) (c : Instr),
      (cause = 1 ∧ c = .resetPin x ∧ s.power ≠ .lost) ∨ (cause = 3 ∧ c = .jtagReset x ∧ s.power = .on) →
      Answers c s fun t => came cause (strapsOf x) t ∧ t.flag R.HST.STAT.HOSTSEL = (strapsOf x).hostsel ∧ always t ∧
        ∀ f : Field, alwaysOn f.key = false → ¬straps f → t.get f = f.rst) ∧
    (∀ (x : StrapSamples) (cause : Nat) (c : Instr) (r : ResetCause), s.power = .on →
      (cause = 2 ∧ c = .chipReset 0x4852 x ∧ r = .host) ∨ (cause = 4 ∧ c = .reload x ∧ r = .reload ∧ s.flashBusy = false) →
      Answers c s fun t => came cause (strapsOf x) t ∧ always t ∧ t.host.msix = s.host.msix ∧
        (∀ f : Field, alwaysOn f.key = false → hostKept r f.key = true → ¬straps f → f.key ≠ R.GLB.INT_STAT.BLOCK.key →
          t.get f = s.get f) ∧
        ∀ f : Field, alwaysOn f.key = false → hostKept r f.key = false → ¬straps f → t.get f = f.rst) ∧
    (∀ p : StrapSamples, s.power = .on → s.flashBusy = true → Answers (.reload p) s fun t =>
      t = { s with nvc := { s.nvc with reload := true } }) ∧
    (∀ (confirm : BitVec 16) (p : StrapSamples), confirm ≠ 0x4852 → Answers (.chipReset confirm p) s fun t => t = s) ∧
    (s.power ≠ .lost → Answers .resetNAsserted s fun t => still t ∧ t.power = .held ∧
      ∀ f : Field, t.get f = if alwaysOn f.key then s.get f else f.rst) ∧
    (s.power = .lost → (∀ p, Answers (.resetPin p) s fun t => t = s) ∧ Answers .resetNAsserted s fun t => t = s) ∧
    (∀ rail : BitVec 8, s.power = .on → Answers (.brownout rail) s fun t => t.power = .held ∧ t.hearth = State.reset.hearth ∧
      t.dram = s.dram ∧ t.pending = s.pending ∧ t.get R.FLT.LOG_HEAD.INDEX = (s.get R.FLT.LOG_HEAD.INDEX + 1) % 64 ∧
      t.flt.seq = s.flt.seq + 1 ∧ ∀ f : Field, alwaysOn f.key = false → t.get f = f.rst) ∧
    (Answers .aonLoss s fun t => still t ∧ t.power = .lost ∧ t.glv.keys = [] ∧ ∀ f : Field, t.get f = f.rst)

/-- A section that is listed, with its bytes, and whose CRC holds (R517). -/
def sectionOk (s : State) (n : Nat) (bs : List Byte) : Prop :=
  ∃ a len crc, Map.get? s.nvc.sections n = some (a, len, crc) ∧ bs = s.flashRead a len ∧ crc32c bs = crc

/-- Each stage of start-up runs only after the one before. The header decides between the image and RECOVERY; without the band
table, or a valid profile, the chip enters RECOVERY; the ember scan restores the newest record; the end of start-up decides the
service state and the role. PROFILE_SET stages a valid profile. -/
def Obligations.StartUp : Prop :=
  ∀ s : State, s.Canonical → s.svc = 0 → s.power = .on →
    let recovery (cause : Nat) (t : State) : Prop := t.svc = 3 ∧ t.get R.NVC.STAT.RECOVERY_CAUSE = cause ∧ t.hearth = s.hearth
    (∀ sector64 : Bool, (s.nvc.stage ≠ 0 → Answers (.headerRead sector64) s fun t => t = s) ∧ (s.nvc.stage = 0 →
      let h := s.flashRead 0 256
      let strapped := s.get R.NVC.STAT.STRAP_BOOT % 2 = 1
      let ok := headerMagic h = true ∧ headerOk h 0 = true
      (strapped → Answers (.headerRead sector64) s (recovery 1)) ∧
      (¬strapped → headerMagic h = false → Answers (.headerRead sector64) s fun t => recovery 2 t ∧ t.get R.GLV.LC.STATE = 0) ∧
      (¬strapped → headerMagic h = true → headerOk h 0 = false → Answers (.headerRead sector64) s fun t =>
        recovery 3 t ∧ t.get R.GLV.LC.STATE = 0) ∧
      (¬strapped → ok → Answers (.headerRead sector64) s fun t => t.svc = 0 ∧ t.nvc.stage = 1 ∧ t.nvc.sector64 = sector64 ∧
        t.get R.RED.HAT.HAT_NUM = le h 7 1 ∧ t.get R.PRO.CLKID_HI.ID = be h 8 4 ∧ t.get R.PRO.CLKID_LO.ID = be h 12 4 ∧
        t.get R.NVC.IMG_REV.REV = le h 24 4 ∧ t.get R.EBD.TLV_ORG.ORG_ID = le h 16 3 ∧
            t.get R.GLV.LC.STATE = (if le h 6 1 % 4 = 3 then 0 else le h 6 1 % 4) ∧
        t.hearth = s.hearth))) ∧
    (∀ ref : ReferenceSection, s.nvc.stage = 1 → s.get R.NVC.STAT.STRAP_PROF < 4 →
      ((∀ bs, sectionOk s 5 bs → bs.length ≠ 256) → Answers (.earlySectionsRead ref) s (recovery 4)) ∧
      (∀ bands, sectionOk s 5 bands → bands.length = 256 →
        ((∃ k bs, k < 4 ∧ sectionOk s (k + 1) bs) → Answers (.earlySectionsRead ref) s fun t =>
          t.svc = 0 ∧ t.nvc.stage = 3 ∧ t.flag R.NVC.STAT.WAIT_HOSC = true) ∧
        ((∀ k bs, k < 4 → ¬sectionOk s (k + 1) bs) → Answers (.earlySectionsRead ref) s (recovery 5)))) ∧
    (∀ c : LateSections, s.nvc.stage = 3 → Answers (.lateSectionsRead c) s fun t => t.nvc.stage = 4 ∧ t.svc = 0 ∧
        t.hearth = s.hearth ∧
      (∀ bs, sectionOk s 7 bs → c.handlers.toNat / 2 ^ 24 = 2 →
        t.flag R.RSE.STAT.HSET_OK = true ∧ t.get R.RSE.HSET_VER.VERSION = c.handlers.toNat) ∧
      (∀ bs, sectionOk s 8 bs → t.gna.e1Codes = c.gnss.e1Codes ∧ t.gna.e5aCodes = c.gnss.e5aCodes ∧
        t.flag R.GNA.STAT.E1_CODES = !c.gnss.e1Codes.isEmpty ∧ t.get R.GNS.FW_VER.VERSION = c.gnss.version.toNat) ∧
      (∀ bs, sectionOk s 9 bs → t.nvc.gloves = c.gloves.take 64)) ∧
    (s.nvc.stage = 4 →
      (s.nvc.ring.on = false → s.osc.idRead = false → Answers .emberScan s fun t => t = { s with nvc := { s.nvc with stage := 5 } }) ∧
      (s.nvc.ring.on = true →
        ∀ e, newestRecord (((s.validSectors.take 2).map Prod.fst).flatMap fun k => s.sectorRecords k) = some e →
          Answers .emberScan s fun t => t.nvc.stage = 5 ∧ t.nvc.restored = some e ∧ t.nvc.seq = emSeq e + 1 ∧
            t.flag R.NVC.STAT.EMBER_RESTORED = true)) ∧
    (∀ (aes : BitVec 8) (sha : BitVec 4), s.nvc.stage = 5 → s.synState 0 = 3 →
      s.flag R.MEM.STAT.READY = true ∨ s.flag R.MEM.STAT.TRAIN_FAIL = true → s.role = 0 → s.flag R.RED.STAT.HOLDING = false →
      Answers (.startupComplete aes sha) s fun t =>
        let test := s.get R.NVC.STAT.STRAP_BOOT = 2
        let solo := s.flag R.RED.CFG.SOLO = true ∨ test
        let out := s.flag R.RED.STAT.RENOUNCED = true ∨ s.get R.RED.HAT.HAT_NUM = 0
        t.nvc.stage = 7 ∧ t.svc = (if test then 2 else 1) ∧ t.flag R.NVC.STAT.WAIT_HOSC = false ∧
        t.get R.GLV.STAT.AES_OK = 0xFF - aes.toNat ∧ t.get R.GLV.STAT.SHA_OK = 0xF - sha.toNat ∧
        (solo → t.holding = true ∧ t.role = 1 ∧ t.red.startDue = true) ∧
        (¬solo → t.holding = false ∧ (out → t.role = 3) ∧ (¬out → t.role = 0 ∧ t.red.arbitrating = true)) ∧ t.hearth = s.hearth) ∧
    (let k := s.get R.NVC.PROF_REQ.PROFILE;
      (s.flag R.NVC.STAT.PROF_PEND = true → Answers .profileSet s fun t => t.get R.NVC.EVT.CFG_REJECTED = 1 ∧
        s.OnlySignals (among [R.NVC.EVT.CFG_REJECTED]) t) ∧
      (s.flag R.NVC.STAT.PROF_PEND = false →
        ((∀ bs, ¬sectionOk s (k + 1) bs) → Answers .profileSet s fun t => t.get R.NVC.EVT.PROFILE_FAIL = 1 ∧
          s.OnlySignals (among [R.NVC.EVT.PROFILE_FAIL, R.NVC.EVT.SECTION_BAD, R.NVC.SEC_STAT.VALID]) t) ∧
        (∀ bs, sectionOk s (k + 1) bs → Answers .profileSet s fun t => t.flag R.NVC.STAT.PROF_PEND = true ∧
          (∃ p, t.nvc.staged = some p ∧ p.profile = k ∧ p.from_ = s.now + 1000000 * 65536) ∧
          s.KeepsBut (among [R.NVC.STAT.PROF_PEND, R.NVC.SEC_STAT.VALID, R.NVC.REC_SKIP_CNT.COUNT]) t ∧ t.hearth = s.hearth)))

/-! ### Flash and embers -/

/-- FL_GO is rejected while an operation runs, ends at once with BAD_ARG or DENIED, or is under way; its end shows DONE with the
effect, or FAILED with none. A record programmed is counted and leaves the queue; a third failure drops it; the deadline files. An
erased sector is next, and one that fails or is spent is retired. A standby forms its ember on its own grid. -/
def Obligations.Flash : Prop :=
  ∀ s : State, s.Canonical →
    let a := s.get R.NVC.FL_ADDR.ADDR
    let n := s.get R.NVC.FL_CMD.LEN
    let ended (result : Nat) (t : State) : Prop := t.get R.NVC.FL_STAT.RESULT = result ∧ t.flag R.NVC.FL_STAT.BUSY = false ∧
      t.get R.NVC.EVT.FL_DONE = 1
    let flashField : Field → Prop := among [R.NVC.FL_STAT.RESULT, R.NVC.FL_STAT.BUSY, R.NVC.EVT.FL_DONE]
    (∀ (op : Nat) (c : Instr), (op = 1 ∧ c = .flRead) ∨ (op = 2 ∧ c = .flProgram) ∨ (op = 3 ∧ c = .flErase) →
      let bad := (op ≠ 3 ∧ (n = 0 ∨ 256 < n)) ∨ (op = 2 ∧ 256 < a % 256 + n)
      (s.flag R.NVC.FL_STAT.BUSY = true → Answers c s fun t => t.get R.NVC.EVT.CFG_REJECTED = 1 ∧
        s.OnlySignals (among [R.NVC.EVT.CFG_REJECTED]) t) ∧
      (s.flag R.NVC.FL_STAT.BUSY = false →
        (bad → Answers c s fun t => ended 4 t ∧ s.OnlySignals flashField t) ∧
        (¬bad → s.flDenied op a n = true → Answers c s fun t => ended 2 t ∧ s.OnlySignals flashField t) ∧
        (¬bad → s.flDenied op a n = false → Answers c s fun t => t.get R.NVC.FL_STAT.RESULT = 0 ∧
          t.flag R.NVC.FL_STAT.BUSY = true ∧ t.nvc = { s.nvc with hostOp := some (op, a, n), hostData := if op = 2 then s.flBytes n else [] } ∧
          (∃ e, t.emitted = e :: s.emitted) ∧ ({ s with nvc := t.nvc, emitted := t.emitted }).OnlyFields flashField t))) ∧
    (s.nvc.hostOp = none → ∀ ok, Answers (.flDone ok) s fun t => t = s) ∧
    (∀ op b m : Nat, s.nvc.hostOp = some (op, b, m) → s.nvc.write = [] → s.nvc.reload = false → m ≤ 256 →
      let free := { s with nvc := { s.nvc with hostOp := none } }
      let byte (x : State) (k : Nat) : Byte := Mem.byte flashBlank x.nvc.flash k
      (Answers (.flDone false) s fun t => ended 3 t ∧ free.OnlySignals flashField t) ∧
      (op = 1 → Answers (.flDone true) s fun t => ended 1 t ∧ t.flBytes m = s.flashRead b m ∧
        free.OnlySignals (either flashField (inside (R.NVC.FL_DATA.DATA 0).addr 256)) t) ∧
      (op = 2 → s.nvc.hostData.length = m → Answers (.flDone true) s fun t => ended 1 t ∧
        (∀ i, i < m → byte t (b + i) = byte s (b + i) &&& s.nvc.hostData.getD i 0) ∧
        (∀ k, k < b ∨ b + m ≤ k → byte t k = byte s k) ∧
        ({ free with nvc := { free.nvc with flash := t.nvc.flash } }).OnlySignals flashField t) ∧
      (op = 3 → Answers (.flDone true) s fun t => ended 1 t ∧
        (∀ k, byte t k = if k / s.sectorSize = b / s.sectorSize then flashBlank else byte s k) ∧
        ({ free with nvc := { free.nvc with flash := t.nvc.flash } }).OnlySignals flashField t)) ∧
    (∀ (w : EmberWrite) (at_ : Nat), s.nvc.write = [w] → w.flying = some at_ → w.judged = false → s.nvc.reload = false →
      (∀ told, Answers (.emberProgramDone true told) s fun t => t.nvc.write = [] ∧
        t.get R.NVC.EMBER_CNT.COUNT = (s.get R.NVC.EMBER_CNT.COUNT + 1) % 2 ^ 32 ∧
        t.get2 R.NVC.EMBER_SEQ_LO.SEQ R.NVC.EMBER_SEQ_HI.SEQ = emSeq w.bytes ∧ t.nvc.ring.slot = s.nvc.ring.slot + 1 ∧
        t.nvc.flash = (s.flashProgram at_ w.bytes).nvc.flash ∧ t.hearth = s.hearth) ∧
      (∀ told, w.fails = 2 → Answers (.emberProgramDone false told) s fun t => t.nvc.write = [] ∧ t.get R.NVC.EVT.EMBER_FAIL = 1 ∧
        t.get R.NVC.EMBER_FAIL_CNT.COUNT = (s.get R.NVC.EMBER_FAIL_CNT.COUNT + 1) % 2 ^ 32 ∧ t.hearth = s.hearth)) ∧
    (∀ w : EmberWrite, s.nvc.write = [w] → w.judged = false →
      let falls := w.at_ + s.get R.NVC.CFG.EMBER_DL * (1000000 * 65536)
      (s.hearth.running = true → s.now < falls → Answers .emberDeadline s fun t => t = s) ∧
      (s.hearth.running = false ∨ falls ≤ s.now → Answers .emberDeadline s fun t =>
        t.nvc = { s.nvc with write := if w.flying = none then [] else [{ w with judged := true }] } ∧
        t.get R.NVC.EVT.EMBER_LATE = 1 ∧ State.Filed F.nvcEmberLate 0 s t ∧
        t.get R.NVC.EMBER_LATE_CNT.COUNT =
          (if w.abandoned then s.get R.NVC.EMBER_LATE_CNT.COUNT else (s.get R.NVC.EMBER_LATE_CNT.COUNT + 1) % 2 ^ 32) ∧
        ({ s with nvc := t.nvc }).OnlyFilings (among [R.NVC.EVT.EMBER_LATE, R.NVC.EMBER_LATE_CNT.COUNT]) t)) ∧
    (∀ k : Nat, s.nvc.ring.erasing = some k → s.nvc.write = [] → s.nvc.reload = false →
      let count := Map.getD s.nvc.ring.counts k 0 + 1
      let spent := s.get R.NVC.ERASE_LIMIT.LIMIT ≤ count
      (¬spent → Answers (.sectorEraseDone true) s fun t => t.nvc.ring.erasing = none ∧ t.nvc.ring.next = some k ∧
        Map.get? t.nvc.ring.counts k = some count ∧
        (∀ i, i < s.sectorSize → Mem.byte flashBlank t.nvc.flash (s.sectorAt k + i) = flashBlank) ∧ t.hearth = s.hearth) ∧
      (∀ ok, ok = false ∨ spent → bitOf s.nvc.ring.retired k = false → Answers (.sectorEraseDone ok) s fun t =>
        bitOf t.nvc.ring.retired k = true ∧ t.get R.NVC.EVT.SECTOR_RETIRED = 1 ∧
        t.get R.NVC.RETIRED_CNT.COUNT = (s.get R.NVC.RETIRED_CNT.COUNT + 1) % 2 ^ 32 ∧ t.hearth = s.hearth)) ∧
    (s.hearth.running = true ∨ s.hrtRuns = false → Answers .standbyEmber s fun t => t = s) ∧
    (s.hearth.running = false → s.hrtRuns = true → Answers .standbyEmber s fun t => t.flag R.NVC.CTL.EMBER_NOW = false ∧
      t.nvc.latest = some (s.emberBody ++ leBytes 4 (crc32c s.emberBody)) ∧ t.nvc.seq = s.nvc.seq + 1 ∧
      t.nvc.page = (s.nvc.page + 1) % 21 ∧ t.hearth = s.hearth ∧
      (s.svc = 1 → s.flag R.NVC.CFG.EMBER_EN = true → s.ringWrites = true →
        t.nvc.write.length = s.nvc.write.length + 1) ∧
      (s.svc ≠ 1 ∨ s.flag R.NVC.CFG.EMBER_EN = false ∨ s.ringWrites = false → t.nvc.write = s.nvc.write))

/-! ### The host -/

/-- A host access is unsupported, refused, stalled or carried out by where it goes and what state its domain is in. A write puts a
LIVE field in force and a CFG field of a group in its shadow, and leaves STAT and RC fields; a read answers the word and clears what
is read-to-clear. INT_N is low while an enabled bit of INT_STAT is set. The window reads and writes DRAM, and a read that meets a
word with an uncorrectable error answers so (how long it stays one: log entry 128). Stopped clocks, crossings
and the PCIe interface follow their own rules. The spans are measured as the model chose (log entry 126). -/
def Obligations.HostInterface : Prop :=
  ∀ s : State, s.Canonical →
    let untouched (t : State) : Prop := t = { s with regs := t.regs, emitted := t.emitted, host := { s.host with pba := t.host.pba } }
    let refused (a : Nat) (window : Bool) (t : State) : Prop :=
      t.get R.HST.ERR_CNT.CA = (s.get R.HST.ERR_CNT.CA + 1) % 2 ^ 16 ∧ t.get R.HST.ERR_ADDR.ADDR = a ∧
      t.flag R.HST.ERR_ADDR.WINDOW = window ∧ t.get R.HST.STAT.REFUSED = 1 ∧ .hostRefused ∈ t.emitted ∧ untouched t ∧
      s.KeepsBut (either (among [R.HST.ERR_CNT.CA, R.HST.ERR_ADDR.ADDR, R.HST.ERR_ADDR.WINDOW, R.HST.STAT.REFUSED]) signalField) t
    let unsupported (a : Nat) (window : Bool) (t : State) : Prop :=
      t.get R.HST.ERR_CNT.UR = (s.get R.HST.ERR_CNT.UR + 1) % 2 ^ 16 ∧ t.get R.HST.ERR_ADDR.ADDR = a ∧
      t.flag R.HST.ERR_ADDR.WINDOW = window ∧ .hostUnsupported ∈ t.emitted ∧ untouched t ∧
      s.KeepsBut (either (among [R.HST.ERR_CNT.UR, R.HST.ERR_ADDR.ADDR, R.HST.ERR_ADDR.WINDOW, R.HST.STAT.UNSUPPORTED]) signalField) t
    (s.pcieUp = false →
      (∀ a d be l h, Answers (.registerWrite a d be l h) s fun t => t = s) ∧ (∀ a be l, Answers (.rcRead a be l) s fun t => t = s) ∧
      (∀ a n bad, Answers (.windowRead a n bad) s fun t => t = s) ∧ (∀ a d, Answers (.windowWrite a d) s fun t => t = s) ∧
      ∀ m d, Answers (.pcieConfigWrite m d) s fun t => t = s) ∧
    (s.pcieUp = true → s.host.d3hot = true →
      (∀ a d be l h, Answers (.registerWrite a d be l h) s (unsupported a.toNat false)) ∧
      (∀ a be l, Answers (.rcRead a be l) s (unsupported a.toNat false)) ∧
      (∀ a n bad, Answers (.windowRead a n bad) s (unsupported a.toNat true)) ∧
      ∀ a d, Answers (.windowWrite a d) s (unsupported a.toNat true)) ∧
    (s.pcieUp = true → s.host.d3hot = false →
      (∀ (addr : BitVec 24) (data : Word) (be : BitVec 4) (long hw : Bool),
        let a := addr.toNat
        let w := Instr.registerWrite addr data be long hw
        let r := Instr.rcRead addr be long
        let plain := inMsixTable a = false ∧ inPba a = false
        (long = true ∨ a % 4 ≠ 0 → Answers w s (refused a false) ∧ Answers r s (refused a false)) ∧
        (long = false → a % 4 = 0 → be ≠ 0 →
          (s.gate a = .unsupported → Answers w s (fun t => unsupported a false t ∧ t.get R.HST.STAT.UNSUPPORTED = 1) ∧
            Answers r s (fun t => unsupported a false t ∧ t.get R.HST.STAT.UNSUPPORTED = 1)) ∧
          (s.gate a = .refused → Answers w s (refused a false) ∧ Answers r s (refused a false)) ∧
          (s.gate a = .stalls →
            Answers w s (fun t => t = { s with host := { s.host with
              stalled := s.host.stalled ++ [(regDomain a, ⟨true, a, data.toNat, be.toNat, s.mark⟩)] } }) ∧
            Answers r s (fun t => t = { s with host := { s.host with
              stalled := s.host.stalled ++ [(regDomain a, ⟨false, a, 0, be.toNat, s.mark⟩)] } })) ∧
          (∀ f : Field, s.gate a = .passes → plain → fieldsAt a = [f] → a ≠ R.RSE.DOORBELL.RING.addr →
            a ≠ R.GLV.LC_CMD.TARGET.addr → f.key / 32 = a → 0 < f.width → f.lo + f.width ≤ 32 → f.key ≠ R.TSC.STEER1.VALUE.key →
            f.key ≠ R.TSC.INTEG1.VALUE.key → f.key ≠ R.GLB.INT_STAT.BLOCK.key → f.key ≠ R.FLT.STAT.ALARM.key →
            (be = 15 → hw = false → s.written f < 2 ^ f.width → f.acc = .live →
              s.refuses f (bitsOf data.toNat f.lo f.width) = none → Answers w s fun t =>
                t.get f = bitsOf data.toNat f.lo f.width ∧ t.hearth = s.hearth ∧ t.dram = s.dram ∧
                s.KeepsBut (among [f, R.GLB.INT_STAT.BLOCK, R.FLT.STAT.ALARM]) t) ∧
            (be = 15 → hw = false → s.written f < 2 ^ f.width → f.acc = .cfg → f.grp ≠ none → Answers w s fun t =>
                Map.get? t.shadow f.key = some ⟨f, bitsOf data.toNat f.lo f.width⟩ ∧ t.hearth = s.hearth ∧ t.dram = s.dram ∧
                (∀ k, k ≠ f.key → Map.get? t.shadow k = Map.get? s.shadow k) ∧
                s.KeepsBut (among [R.GLB.INT_STAT.BLOCK, R.FLT.STAT.ALARM]) t) ∧
            (hw = false → f.acc = .stat ∨ f.acc = .rc → Answers w s fun t => t.hearth = s.hearth ∧ t.shadow = s.shadow ∧
              s.KeepsBut (among [R.GLB.INT_STAT.BLOCK, R.FLT.STAT.ALARM]) t) ∧
            (s.ownRead a = none → Answers r s fun t => .hostData (BitVec.ofNat 32 (s.readWord a)) ∈ t.emitted ∧ untouched t ∧
              (f.acc = .rc → f.key ≠ R.RSE.TXN_PEAK.COUNT.key → t.get f = 0) ∧
              s.KeepsBut (either signalField (fun g => f.acc = .rc ∧ g.key = f.key)) t)))) ∧
      (∀ (addr : BitVec 28) (len : Fin 4097) (data : List Byte),
        let w := addr.toNat
        let n := (data.take 256).length
        (s.windowGate w len.val = .refused → Answers (.windowRead addr len []) s (refused w true)) ∧
        (s.windowGate w len.val = .unsupported → Answers (.windowRead addr len []) s (unsupported w true)) ∧
        (s.windowGate w len.val = .passes → s.windowBad (s.windowBase + w) len.val ≠ [] →
            Answers (.windowRead addr len []) s fun t =>
          .hostDataError (State.windowData (s.windowBase + w) (s.dramRead (s.windowBase + w) len.val)
            (badDwords (s.windowBase + w) len.val (s.windowBad (s.windowBase + w) len.val))) ∈ t.emitted ∧
          t.get R.HST.STAT.DATA_ERR = 1 ∧ t.get R.MEM.EVT.UE = 1 ∧ t.dram = s.dram ∧ t.dramBad = s.dramBad) ∧
        (s.windowGate w len.val = .passes → s.windowBad (s.windowBase + w) len.val = [] →
            Answers (.windowRead addr len []) s fun t =>
          t = { s with emitted := .hostBytes (s.dramRead (s.windowBase + w) len.val) :: s.emitted }) ∧
        (s.windowGate w n = .refused → Answers (.windowWrite addr data) s (refused w true)) ∧
        (s.windowGate w n = .unsupported → Answers (.windowWrite addr data) s (unsupported w true)) ∧
        (s.windowGate w n = .passes → (∀ i, i < n → s.ctIndex (s.windowBase + w + i) = none) →
            Answers (.windowWrite addr data) s fun t =>
          t = { s with dram := Mem.write dramBlank s.dram (s.windowBase + w) (data.take 256), dramBad := t.dramBad } ∧
          ∀ x ∈ t.dramBad, x ∈ s.dramBad))) ∧
    (∀ u : SpiHostFrame,
      (u.header = none ∨ s.power ≠ .on ∨ s.flag R.HST.STAT.HOSTSEL = false → Answers (.hspiFrame u) s fun t => t = s) ∧
      (∀ h : Word, u.header = some h → s.power = .on → s.flag R.HST.STAT.HOSTSEL = true → u.toEnd = true →
        let a := h.toNat % 2 ^ 28
        (bitsOf h.toNat 28 2 ≠ 0 ∨ h.toNat % 4 ≠ 0 → Answers (.hspiFrame u) s fun t =>
          t.get R.HST.ERR_CNT.UR = (s.get R.HST.ERR_CNT.UR + 1) % 2 ^ 16 ∧ .spiFrame 0xE1 ∈ t.emitted ∧ untouched t) ∧
        (bitsOf h.toNat 28 2 = 0 → h.toNat % 4 = 0 → bitOf h.toNat 30 = true → bitOf h.toNat 31 = true → u.errs = [] →
          s.windowGate a 4 = .passes → s.windowBad (s.windowBase + a) 4 = [] → Answers (.hspiFrame u) s fun t =>
            t = { s with emitted := .hostBytes (s.dramRead (s.windowBase + a) 4) :: .spiFrame 0xA5 :: s.emitted }))) ∧
    (s.intN = true ↔ ∃ b : Nat, bitOf (s.get R.GLB.INT_STAT.BLOCK) b = true ∧ bitOf (s.get R.GLB.INT_EN.BLOCK) b = true) ∧
    (∀ d : Fin 24,
      ((∀ e ∈ s.host.stalled, e.1 ≠ d.val) → Answers (.accessWatchdog d) s fun t => t = s) ∧
      (∀ h : HostAccess, s.host.stalled.find? (fun e => e.1 == d.val) = some (d.val, h) →
        s.passed h.since s.watchdogSpan = false → Answers (.accessWatchdog d) s fun t => t = s) ∧
      (∀ h : HostAccess, s.host.stalled.find? (fun e => e.1 == d.val) = some (d.val, h) →
        s.passed h.since s.watchdogSpan = true → Answers (.accessWatchdog d) s fun t =>
        t.host.stalled = s.host.stalled.erase (d.val, h) ∧ t.get R.HST.STAT.ABANDONED = 1 ∧
        t.get R.HST.ERR_CNT.CA = (s.get R.HST.ERR_CNT.CA + 1) % 2 ^ 16 ∧ t.get R.HST.ERR_ADDR.ADDR = h.addr % 2 ^ 28 ∧
        (h.write = true → Map.get? t.host.abandoned d.val = some (Map.getD s.host.abandoned d.val [] ++ [h]) ∧
          t.get R.HST.STAT.PEND_DOM = d.val) ∧
        (h.write = false → t.host.abandoned = s.host.abandoned) ∧ State.Filed F.hstAccessAbandoned d.val s t ∧
        t.hearth = s.hearth ∧ t.dram = s.dram) ∧
      (let stops := alwaysRuns d = false ∧ ¬(followsRule d = true ∧ s.clock d = true) ∧ bitOf (s.get R.GLB.CLK_RUN.RUN) d = true;
        (¬stops → Answers (.clkStop d) s fun t => t = s) ∧
        (stops → Answers (.clkStop d) s fun t => t.clock d = false ∧ bitOf (t.get R.GLB.CLK_RUN.RUN) d = false ∧
          t.get R.GLB.EVT.CLK_STOP = 1 ∧ (∀ e : Fin 24, e ≠ d → t.clock e = s.clock e) ∧
          ({ s with clocks := t.clocks }).OnlySignals (among [R.GLB.CLK_RUN.RUN, R.GLB.EVT.CLK_STOP]) t)) ∧
      (let returns := s.power = .on ∧ alwaysRuns d = false ∧ (followsRule d = true → s.clock d = true) ∧
          bitOf (s.get R.GLB.CLK_RUN.RUN) d = false;
        (¬returns → Answers (.clkReturn d) s fun t => t = s) ∧
        (returns → Map.getD s.host.abandoned d.val [] = [] → (∀ e ∈ s.host.stalled, e.1 ≠ d.val) → Answers (.clkReturn d) s fun t =>
          t.clock d = true ∧ bitOf (t.get R.GLB.CLK_RUN.RUN) d = true ∧ t.get R.GLB.EVT.CLK_RETURN = 1 ∧
          (∀ e : Fin 24, e ≠ d → t.clock e = s.clock e) ∧
          (d.val ≠ 1 → s.svc ≠ 3 → bitOf (t.get R.GLB.IN_RESET.RESET) d = false) ∧ t.dram = s.dram ∧
          s.KeepsBut (either (among [R.GLB.CLK_RUN.RUN, R.GLB.IN_RESET.RESET, R.GLB.EVT.CLK_RETURN]) signalField) t)) ∧
      (Map.getD s.host.abandoned d.val [] = [] → (∀ e ∈ s.host.stalled, e.1 ≠ d.val) → Answers (.resetHandshakeDone d) s fun t =>
        t = { s with host := { s.host with handshakes := s.host.handshakes.filter fun y => y != d.val } })) ∧
    (∀ e : PcieEvent, s.power ≠ .on ∨ s.flag R.HST.STAT.HOSTSEL = true → Answers (.pcieReset e) s fun t => t = s) ∧
    (s.power = .on → s.flag R.HST.STAT.HOSTSEL = false →
      let cleared (perst : Bool) (t : State) : Prop := t.get R.HST.WIN_BASE.MIB = R.HST.WIN_BASE.MIB.rst ∧
        t.host = { s.host with busMaster := false, d3hot := false, msix := [], pba := 0, perst := perst } ∧
        ({ s with host := t.host }).OnlyFields
          (among [R.HST.WIN_BASE.MIB, R.HST.STAT.LINK_UP, R.HST.STAT.SPEED, R.HST.STAT.WIDTH]) t
      (Answers (.pcieReset (.perst true)) s fun t => cleared true t ∧ t.flag R.HST.STAT.LINK_UP = false) ∧
      (Answers (.pcieReset (.perst false)) s fun t => t = { s with host := { s.host with perst := false } }) ∧
      (Answers (.pcieReset .hotReset) s fun t => cleared s.host.perst t ∧ t.flag R.HST.STAT.LINK_UP = s.flag R.HST.STAT.LINK_UP) ∧
      (Answers (.pcieReset .linkDown) s fun t => cleared s.host.perst t ∧ t.flag R.HST.STAT.LINK_UP = false) ∧
      ∀ speed width : BitVec 2, s.host.perst = false → Answers (.pcieReset (.linkUp speed width)) s fun t =>
        t.flag R.HST.STAT.LINK_UP = true ∧ t.get R.HST.STAT.SPEED = speed.toNat ∧ t.get R.HST.STAT.WIDTH = width.toNat ∧
        s.OnlyFields (among [R.HST.STAT.LINK_UP, R.HST.STAT.SPEED, R.HST.STAT.WIDTH]) t) ∧
    (∀ m d : Bool, s.pcieUp = true → Answers (.pcieConfigWrite m d) s fun t => t.host.busMaster = m ∧ t.host.d3hot = d ∧
      t.regs = s.regs ∧ t.hearth = s.hearth ∧
      (m = false → t = { s with host := { s.host with busMaster := m, d3hot := d } }) ∧
      (m = true → ∀ v : Fin 64, bitOf t.host.pba v = (bitOf s.host.pba v && (s.host.entry v).masked)))

/-! ### Monitoring -/

/-- A dump writes its record into the ring, or is lost where the ring is full, and takes a sequence number either way; a grid dump
happens at a due instant only. The time is the CK_CORE replica's (a record without it is the model's choice, log entry 115). A read
of a counter's low word latches its high word. Telemetry and external readings are shown. The spans are measured as the model chose
(log entry 126). -/
def Obligations.Monitoring : Prop :=
  ∀ s : State, s.Canonical →
    let size := s.get R.PMC.DUMP_SIZE.SIZE * 4096
    let base := s.get R.PMC.DUMP_BASE_LO.ADDR * 4096 + s.get R.PMC.DUMP_BASE_HI.ADDR * 2 ^ 32
    let wr := s.get R.PMC.DUMP_WR.PTR
    let used := (wr + size - s.get R.PMC.DUMP_RD.PTR) % size
    let ready := s.flag R.MEM.STAT.READY = true
    let taken (t : State) : Prop := t.pmc.seq = (s.pmc.seq + 1) % 2 ^ 32 ∧ t.pmc.changed = [] ∧ t.pmc.wrapped = [] ∧
        t.hearth = s.hearth
    let stored (r : List Byte) (t : State) : Prop := t.get R.PMC.DUMP_WR.PTR = (wr + r.length) % size ∧
      (∀ i, i < r.length → Mem.byte dramBlank t.dram (base + (wr + i) % size) = r.getD i 0) ∧
      (∀ a, a < base ∨ base + size ≤ a → Mem.byte dramBlank t.dram a = Mem.byte dramBlank s.dram a)
    let lost (t : State) : Prop := t.get R.PMC.DUMP_LOST_CNT.COUNT = (s.get R.PMC.DUMP_LOST_CNT.COUNT + 1) % 2 ^ 32 ∧
      t.get R.PMC.EVT.DUMP_LOST = 1 ∧ t.pmc.lostNext = true ∧ t.dram = s.dram
    (∀ tick : Word,
      let r := s.dumpRecord (if s.ticking then (s.replicaTime 0).map Int.toNat else none) tick.toNat false true
      (¬ready → Answers (.dumpNow [] tick false) s fun t => t = s) ∧
      (ready → size ≠ 0 → wr < size → size ≤ 2 ^ 24 → used + r.length < size → Answers (.dumpNow [] tick false) s fun t =>
        taken t ∧ stored r t ∧ t.pmc.lastDump = s.pmc.lastDump) ∧
      (ready → size ≠ 0 → size ≤ used + r.length → ∀ late, Answers (.dumpNow [] tick late) s fun t => taken t ∧ lost t)) ∧
    (∀ tick : Word, s.hearth.running = true →
      (s.dumpDue = none → ∀ late, Answers (.counterDump [] tick late) s fun t => t = s) ∧
      (∀ g, s.dumpDue = some g →
        let r := s.dumpRecord (some g) tick.toNat false false
        (size ≠ 0 → wr < size → size ≤ 2 ^ 24 → used + r.length < size → Answers (.counterDump [] tick false) s fun t =>
          taken t ∧ stored r t ∧ t.pmc.lastDump = some (g : Int)) ∧
        (size ≠ 0 → size ≤ used + r.length → Answers (.counterDump [] tick false) s fun t =>
          taken t ∧ lost t ∧ t.pmc.lastDump = some (g : Int)))) ∧
    (∀ i : Fin 1024,
      (Answers (.cntLoRead i []) s fun t => t.pmc.shadow = s.get (R.PMC.CNT.HI.COUNT i) ∧
        t = { s with pmc := { s.pmc with shadow := t.pmc.shadow },
                     emitted := .hostData (BitVec.ofNat 32 (s.get (R.PMC.CNT.LO.COUNT i))) :: s.emitted }) ∧
      (∀ (e : BitVec 12) (n : Nat), e ≠ 0 → e ≠ 0xFFF → eventOwn e.toNat = false → eventListed e.toNat = true →
        s.counters e.toNat = [i.val] → Answers (.cntLoRead i [(e, n)]) s fun t =>
          t.counter i = (s.counter i + n) % 2 ^ 48 ∧ t.pmc.shadow = t.get (R.PMC.CNT.HI.COUNT i) ∧ t.hearth = s.hearth)) ∧
    (Answers .cntHiRead s fun t => t = { s with emitted := .hostData (BitVec.ofNat 32 s.pmc.shadow) :: s.emitted }) ∧
    (s.flag R.PMC.SAMP_CFG.EN = false ∨ ¬ready ∨ s.triggerDue = false → ∀ obs, Answers (.sampleTrigger obs) s fun t => t = s) ∧
    (s.flag R.PMC.SAMP_CFG.EN = true → ready → s.triggerDue = true → ∀ o : SampleObs,
      (bitOf (s.get R.PMC.SAMP_CFG.STOKERS) o.stoker = false → Answers (.sampleTrigger [o]) s fun t =>
        t = { s with pmc := { s.pmc with sampAt := some s.hearth.tick } }) ∧
      (bitOf (s.get R.PMC.SAMP_CFG.STOKERS) o.stoker = true →
        let thread := Map.getD s.pmc.turn o.stoker 0
        let turned (t : State) : Prop := Map.get? t.pmc.turn o.stoker = some ((thread + 1) % 16) ∧
          t.pmc.sampAt = some s.hearth.tick ∧ t.hearth = s.hearth
        (o.pending = true ∨ o.wait = 0 ∧ 6 < o.skid → Answers (.sampleTrigger [o]) s fun t => turned t ∧ t.dram = s.dram ∧
          t.get R.PMC.SAMP_DROP_CNT.COUNT = (s.get R.PMC.SAMP_DROP_CNT.COUNT + 1) % 2 ^ 32) ∧
        (o.pending = false → (o.wait = 0 → o.skid ≤ 6) → Answers (.sampleTrigger [o]) s fun t => turned t ∧
          t.pmc.sampSeq = (s.pmc.sampSeq + 1) % 2 ^ 32))) ∧
    (∀ die supply : List (BitVec 16), Answers (.telemetrySample die supply) s fun t =>
      (∀ (k : Fin 4) (v : BitVec 16), die[k.val]? = some v → t.get (R.PMC.DIE.TEMP k) = v.toNat) ∧
      (∀ (r : Fin 12) (v : BitVec 16), supply[r.val]? = some v → t.get (R.PMC.SUPPLY.MV r) = v.toNat) ∧
      (∀ r : Fin 12, r.val ∈ t.pmc.supplyOut ↔
        s.railNominal r * 5 < 100 * ((t.get (R.PMC.SUPPLY.MV r) : Int) - s.railNominal r).natAbs) ∧
      (∀ r : Fin 12, r.val ∈ t.pmc.supplyOut → r.val ∈ s.pmc.supplyOut → r.val ∉ s.pmc.supplyBad → t.get R.PMC.EVT.SUPPLY = 1) ∧
      t.hearth = s.hearth ∧ t.dram = s.dram) ∧
    (∀ v0 v1 v2 v3 : Option (BitVec 16), Answers (.extSensorRead v0 v1 v2 v3) s fun t =>
      let v (k : Fin 4) : Option (BitVec 16) := [v0, v1, v2, v3].getD k none
      (∀ k : Fin 4, s.get (R.PMC.TEL_EXT.ADDR k) = 0 → t.get (R.PMC.TEL_EXT.TEMP k) = s.get (R.PMC.TEL_EXT.TEMP k)) ∧
      (∀ k : Fin 4, s.get (R.PMC.TEL_EXT.ADDR k) ≠ 0 → v k = none → t.get (R.PMC.TEL_EXT.TEMP k) = 0x8000) ∧
      (∀ (k : Fin 4) (x : BitVec 16), s.get (R.PMC.TEL_EXT.ADDR k) ≠ 0 → v k = some x →
        (t.sget (R.PMC.TEL_EXT.TEMP k) = x.toInt / 16 ∨ t.sget (R.PMC.TEL_EXT.TEMP k) = -(-x.toInt / 16)) ∧
        Map.get? t.pmc.extAge k = some 0) ∧ t.hearth = s.hearth ∧ t.dram = s.dram)

/-! ### Memory and faults -/

/-- Training ends READY, with nothing written, or fails. A sweep's errors are counted, located and filed, and its pass counted; a
word with an uncorrectable error stays so until it is written whole, which is the model's choice (log entry 128). Every filing
counts in its class and enters the queue; the head of the queue goes to the log, and from there to the ring. The clears act on the
states they name. The spans are measured as the model chose (log entry 126). -/
def Obligations.MemoryAndFaults : Prop :=
  ∀ s : State, s.Canonical →
    (∀ (a : Nat) (bs : List Byte) (x : Nat), x ∈ (s.dramWrite a bs).dramBad ↔
      x ∈ s.dramBad ∧ ¬(a ≤ 8 * x ∧ 8 * x + 8 ≤ a + bs.length)) ∧
    (∀ (k : FaultKind) (element cause : Nat), State.Filed k element s (s.file k element cause) ∧
      s.OnlyFilings (among []) (s.file k element cause)) ∧
    (∀ ok : Bool,
      let open_ := s.flag R.MEM.STAT.READY = false ∧ s.flag R.MEM.STAT.TRAIN_FAIL = false ∧ s.synState 0 = 3;
      (¬open_ → Answers (.memTrainDone ok) s fun t => t = s) ∧
      (open_ → ok = true → Answers (.memTrainDone ok) s fun t => t.flag R.MEM.STAT.READY = true ∧ t.dram = [] ∧ t.dramBad = [] ∧
        t.get R.MEM.SIZE_MIB.MIB = s.memMib % 2 ^ 15 ∧ t.hearth = s.hearth ∧
        s.KeepsBut (among [R.MEM.STAT.READY, R.MEM.SIZE_MIB.MIB, R.MEM.STAT.REF_2X, R.PMC.STAT.DUMP_ACTIVE]) t) ∧
      (open_ → ok = false → Answers (.memTrainDone ok) s fun t => t.flag R.MEM.STAT.TRAIN_FAIL = true ∧
        State.Filed F.memTrainFail 0 s t ∧ s.OnlyFilings (among [R.MEM.STAT.TRAIN_FAIL]) t)) ∧
    (∀ dram : Bool,
      let pass := if dram then R.MEM.DRAM_PASS_CNT.COUNT else R.MEM.SRAM_PASS_CNT.COUNT
      let counted (t : State) : Prop := t.get pass = (s.get pass + 1) % 2 ^ 32
      (s.swept dram = false → (∀ found, Answers (.sweepPassDone dram found) s fun t => t = s) ∧
        Answers (.sweepSlow dram) s fun t => t = s) ∧
      (s.swept dram = true →
      (Answers (.sweepPassDone dram []) s fun t => counted t ∧ t.sweep dram = ⟨s.mark, false⟩ ∧
        t.sweep (!dram) = s.sweep (!dram) ∧ ({ s with pmc := t.pmc }).OnlyFields (among [pass]) t) ∧
      (Answers (.sweepPassDone dram [.dramCorrected]) s fun t => counted t ∧
        t.get R.MEM.CE_CNT.COUNT = (s.get R.MEM.CE_CNT.COUNT + 1) % 2 ^ 32 ∧ t.get R.MEM.EVT.CE = 1 ∧ t.dram = s.dram) ∧
      (∀ a, Answers (.sweepPassDone dram [.dramUncorrectable a]) s fun t => counted t ∧
        t.get R.MEM.UE_CNT.COUNT = (s.get R.MEM.UE_CNT.COUNT + 1) % 2 ^ 32 ∧ t.get R.MEM.EVT.UE = 1 ∧
        t.get2 R.MEM.UE_ADDR_LO.ADDR R.MEM.UE_ADDR_HI.ADDR = a.toNat % 2 ^ 34 ∧ State.Filed F.memDramUe 0 s t ∧ t.dram = s.dram ∧
        ∀ x, x ∈ t.dramBad ↔ x = a.toNat / 8 ∨ x ∈ s.dramBad) ∧
      (∀ a, s.coreRuns = true → Answers (.sweepPassDone dram [.coreMemory a]) s fun t => counted t ∧
        t.get R.MEM.UE_CNT.COUNT = (s.get R.MEM.UE_CNT.COUNT + 1) % 2 ^ 32 ∧ t.get R.GNS.EVT.FW_HALT = 1 ∧ t.dram = s.dram) ∧
      (Answers (.sweepPassDone dram [.sramCorrected]) s fun t => counted t ∧
        t.get R.MEM.SRAM_CE_CNT.COUNT = (s.get R.MEM.SRAM_CE_CNT.COUNT + 1) % 2 ^ 32 ∧ t.get R.MEM.EVT.SRAM_CE = 1) ∧
      (∀ inst w, Answers (.sweepPassDone dram [.sramUncorrectable inst w .other]) s fun t => counted t ∧
        t.get R.MEM.SRAM_UE_CNT.COUNT = (s.get R.MEM.SRAM_UE_CNT.COUNT + 1) % 2 ^ 32 ∧ t.get R.MEM.EVT.SRAM_UE = 1 ∧
        t.get R.MEM.SRAM_UE_LOC.LOC = (inst.toNat * 2 ^ 24 + w.toNat) % 2 ^ 32 ∧ State.Filed F.memSramUe inst.toNat s t) ∧
      ((s.sweep dram).slow = true ∨ s.passed (s.sweep dram).since (2 * s.sweepPeriod dram) = false →
        Answers (.sweepSlow dram) s fun t => t = s) ∧
      ((s.sweep dram).slow = false → s.passed (s.sweep dram).since (2 * s.sweepPeriod dram) = true →
        Answers (.sweepSlow dram) s fun t => t.get R.MEM.EVT.SWEEP_SLOW = 1 ∧ t.sweep dram = ⟨(s.sweep dram).since, true⟩ ∧
          State.Filed F.memSweepSlow (if dram then 1 else 0) s t ∧
          ({ s with pmc := t.pmc }).OnlyFilings (among [R.MEM.EVT.SWEEP_SLOW]) t))) ∧
    (Answers .bgStarved s fun t => t.get R.MEM.EVT.BG_STARVED = 1 ∧ State.Filed F.memBgStarved 0 s t ∧
      s.OnlyFilings (among [R.MEM.EVT.BG_STARVED]) t) ∧
    (s.flt.queue = [] → Answers .fltLogWrite s fun t => t = s) ∧
    (∀ (r : FaultRec) (rest : List FaultRec), s.flt.queue = r :: rest → s.flt.discarded = 0 → s.flt.logged < 64 →
      let k := (s.get R.FLT.LOG_HEAD.INDEX + 1) % 64
      Answers .fltLogWrite s fun t => t.flt.queue = rest ∧ t.get R.FLT.STAT.QUEUE = rest.length % 32 ∧
        t.get R.FLT.LOG_HEAD.INDEX = k ∧ t.flag R.FLT.LOG_HEAD.EMPTY = false ∧ t.flt.seq = s.flt.seq + 1 ∧
        t.flt.logged = s.flt.logged + 1 ∧ (∀ j : Fin 8, t.get (R.FLT.LOG.RECORD k j) = le (r.bytes s.flt.seq false) (4 * j) 4) ∧
        t.flt.ringDue.getLast? = some (s.flt.seq, r.bytes s.flt.seq false) ∧ (r.kind.cls = .note → t.get R.FLT.EVT.NOTE = 1) ∧
        (∀ m j, m < 64 → m ≠ k → j < 8 → t.get (R.FLT.LOG.RECORD m j) = s.get (R.FLT.LOG.RECORD m j)) ∧
        t.hearth = s.hearth ∧ t.dram = s.dram) ∧
    (∀ (q : Nat) (bs : List Byte) (rest : List (Nat × List Byte)), s.flt.ringDue = (q, bs) :: rest →
      let size := s.get R.FLT.RING_SIZE.SIZE * 4096
      let wr := s.get R.FLT.RING_WR.PTR
      let used := (wr + size - s.get R.FLT.RING_RD.PTR) % size
      let off := size = 0 ∨ s.flag R.MEM.STAT.READY = false;
      (off → Answers .fltRingWrite s fun t => t = s) ∧
      (¬off → bs.length = 32 → used + 32 < size → size ≤ 2 ^ 24 → Answers .fltRingWrite s fun t => t.flt.ringDue = rest ∧
        t.flt.ringLost = false ∧ t.get R.FLT.RING_WR.PTR = (wr + 32) % size ∧ t.hearth = s.hearth ∧
        s.KeepsBut (among [R.FLT.RING_WR.PTR]) t) ∧
      (¬off → bs.length = 32 → size ≤ used + 32 → Answers .fltRingWrite s fun t => t.flt.ringDue = rest ∧ t.flt.ringLost = true ∧
        t.get R.FLT.RING_LOST_CNT.COUNT = (s.get R.FLT.RING_LOST_CNT.COUNT + 1) % 2 ^ 32 ∧ t.get R.FLT.EVT.RING_LOST = 1 ∧
        t.dram = s.dram)) ∧
    (Answers .clearDeg s fun t => t.flag R.FLT.STAT.DEGRADED = false ∧ t.flag R.FLT.STAT.ALARM = s.flag R.FLT.STAT.SURRENDERED ∧
      s.OnlyFields (among [R.FLT.STAT.DEGRADED, R.FLT.STAT.ALARM]) t) ∧
    (Answers .clearSurr s fun t => t.flag R.FLT.STAT.SURRENDERED = false ∧
      t.flag R.FLT.STAT.ALARM = (s.flag R.FLT.STAT.DEGRADED && s.flag R.FLT.CFG.ALARM_DEG) ∧
      s.OnlyFields (among [R.FLT.STAT.SURRENDERED, R.FLT.STAT.ALARM]) t) ∧
    (Answers .logClear s fun t => (∀ (m : Fin 64) (j : Fin 8), t.get (R.FLT.LOG.RECORD m j) = 0) ∧
      t.get R.FLT.LOG_HEAD.INDEX = 0x3F ∧ t.flag R.FLT.LOG_HEAD.EMPTY = true ∧ t.flt = { s.flt with logged := 0, ringDue := [] } ∧
      ({ s with flt := t.flt }).OnlyFields (either (inside (R.FLT.LOG.RECORD 0 0).addr 2048)
        (among [R.FLT.LOG_HEAD.INDEX, R.FLT.LOG_HEAD.EMPTY])) t) ∧
    (s.hearth.running = true → s.damperOpen = false →
      Answers .loopDeadline s fun t => t.hearth = { s.hearth with loopLate := true } ∧ t.get R.TSC.EVT.LATE_COMMIT = 1 ∧
        t.dram = s.dram ∧
        ((∀ x ∈ s.flt.firsts, x ≠ (F.selLoopLate.code, s.sourceSlot, s.second)) → State.Filed F.selLoopLate s.sourceSlot s t)) ∧
    (s.hearth.running = false ∨ s.damperOpen = true → Answers .loopDeadline s fun t => t = s)
end

