-- ==== Sys2Proof/Laws/Memory.lean ====
section
/-! SUPPORT. Sparse storage: reads after writes, and that every operation keeps the canonical form. -/

namespace Sys2Proof.Machine

/-- Every key of `m` is above `k`. -/
def Map.above {α : Type} (k : Nat) (m : Map α) : Prop := ∀ e ∈ m, k < e.1

theorem Map.wf_cons {α : Type} (k : Nat) (x : α) (m : Map α) :
    Map.wf ((k, x) :: m) = true ↔ Map.above k m ∧ Map.wf m = true := by
  induction m generalizing k x with
  | nil => simp [Map.wf, Map.above]
  | cons e m ih =>
    obtain ⟨a, y⟩ := e
    simp only [Map.wf, Bool.and_eq_true, decide_eq_true_eq]
    constructor
    · rintro ⟨h, hw⟩
      refine ⟨?_, hw⟩
      intro e he
      rcases List.mem_cons.1 he with rfl | he
      · exact h
      · exact Nat.lt_trans h (((ih a y).1 hw).1 e he)
    · rintro ⟨h, hw⟩
      exact ⟨h (a, y) (List.mem_cons_self), hw⟩

theorem Map.above_put {α : Type} {j k : Nat} {x : α} {m : Map α} (h : Map.above j m) (hk : j < k) :
    Map.above j (Map.put m k x) := by
  induction m with
  | nil => simpa [Map.put, Map.above] using hk
  | cons e m ih =>
    obtain ⟨a, y⟩ := e
    have ha : j < a := h (a, y) List.mem_cons_self
    have hm : Map.above j m := fun e he => h e (List.mem_cons_of_mem _ he)
    unfold Map.put
    split
    · intro e he; rcases List.mem_cons.1 he with rfl | he
      · exact hk
      · exact hm e he
    · split
      · intro e he; rcases List.mem_cons.1 he with rfl | he
        · exact hk
        · exact h e he
      · intro e he; rcases List.mem_cons.1 he with rfl | he
        · exact ha
        · exact ih hm e he

theorem Map.wf_put {α : Type} {m : Map α} (h : Map.wf m = true) (k : Nat) (x : α) : Map.wf (Map.put m k x) = true := by
  induction m with
  | nil => rfl
  | cons e m ih =>
    obtain ⟨a, y⟩ := e
    obtain ⟨ha, hm⟩ := (Map.wf_cons a y m).1 h
    unfold Map.put
    split
    · rename_i hk; subst hk; exact (Map.wf_cons k x m).2 ⟨ha, hm⟩
    · split
      · rename_i hk
        exact (Map.wf_cons k x _).2 ⟨fun e he => by
          rcases List.mem_cons.1 he with rfl | he
          · exact hk
          · exact Nat.lt_trans hk (ha e he), h⟩
      · rename_i h1 h2
        exact (Map.wf_cons a y _).2 ⟨Map.above_put ha (by omega), ih hm⟩

theorem Map.mem_del {α : Type} {m : Map α} {k : Nat} {e : Nat × α} (h : e ∈ Map.del m k) : e ∈ m := by
  induction m with
  | nil => simp [Map.del] at h
  | cons b m ih =>
    obtain ⟨a, y⟩ := b
    unfold Map.del at h
    split at h
    · exact List.mem_cons_of_mem _ h
    · split at h
      · exact h
      · rcases List.mem_cons.1 h with rfl | h
        · exact List.mem_cons_self
        · exact List.mem_cons_of_mem _ (ih h)

theorem Map.wf_del {α : Type} {m : Map α} (h : Map.wf m = true) (k : Nat) : Map.wf (Map.del m k) = true := by
  induction m with
  | nil => rfl
  | cons e m ih =>
    obtain ⟨a, y⟩ := e
    obtain ⟨ha, hm⟩ := (Map.wf_cons a y m).1 h
    unfold Map.del
    split
    · exact hm
    · split
      · exact h
      · exact (Map.wf_cons a y _).2 ⟨fun e he => ha e (Map.mem_del he), ih hm⟩

theorem Map.wf_filter {α : Type} {m : Map α} (h : Map.wf m = true) (p : Nat × α → Bool) : Map.wf (m.filter p) = true := by
  induction m with
  | nil => rfl
  | cons e m ih =>
    obtain ⟨a, y⟩ := e
    obtain ⟨ha, hm⟩ := (Map.wf_cons a y m).1 h
    rw [List.filter_cons]
    split
    · exact (Map.wf_cons a y _).2 ⟨fun e he => ha e ((List.mem_filter.1 he).1), ih hm⟩
    · exact ih hm

theorem Map.get?_above {α : Type} {m : Map α} {k : Nat} (h : Map.above k m) : Map.get? m k = none := by
  cases m with
  | nil => rfl
  | cons e m =>
    obtain ⟨a, y⟩ := e
    have ha : k < a := h (a, y) List.mem_cons_self
    simp [Map.get?, ha, Nat.ne_of_lt ha]

@[simp] theorem Map.get?_put_same {α : Type} (m : Map α) (k : Nat) (x : α) : Map.get? (Map.put m k x) k = some x := by
  induction m with
  | nil => simp [Map.put, Map.get?]
  | cons e m ih =>
    obtain ⟨a, y⟩ := e
    unfold Map.put
    split
    · simp [Map.get?]
    · split
      · simp [Map.get?]
      · rename_i h1 h2; simpa [Map.get?, h1, h2] using ih

theorem Map.get?_put_other {α : Type} (m : Map α) {k j : Nat} (x : α) (h : j ≠ k) :
    Map.get? (Map.put m k x) j = Map.get? m j := by
  induction m with
  | nil => simp [Map.put, Map.get?, h]
  | cons e m ih =>
    obtain ⟨a, y⟩ := e
    unfold Map.put
    split
    · rename_i hk; subst hk; simp [Map.get?, h]
    · split
      · rename_i h1 h2
        rw [Map.get?]
        simp only [h, if_false]
        split
        · rename_i hj
          have : j ≠ a := by omega
          have h' : j < a := by omega
          simp [Map.get?, this, h']
        · rfl
      · simp only [Map.get?]; rw [ih]

@[simp] theorem Map.get?_del_same {α : Type} {m : Map α} (h : Map.wf m = true) (k : Nat) :
    Map.get? (Map.del m k) k = none := by
  induction m with
  | nil => rfl
  | cons e m ih =>
    obtain ⟨a, y⟩ := e
    obtain ⟨ha, hm⟩ := (Map.wf_cons a y m).1 h
    unfold Map.del
    split
    · rename_i hk; subst hk; exact Map.get?_above ha
    · split
      · rename_i h1 h2; simp [Map.get?, h1, h2]
      · rename_i h1 h2; simpa [Map.get?, h1, h2] using ih hm

theorem Map.get?_del_other {α : Type} {m : Map α} (hw : Map.wf m = true) {k j : Nat} (h : j ≠ k) :
    Map.get? (Map.del m k) j = Map.get? m j := by
  induction m with
  | nil => rfl
  | cons e m ih =>
    obtain ⟨a, y⟩ := e
    obtain ⟨ha, hm⟩ := (Map.wf_cons a y m).1 hw
    unfold Map.del
    split
    · rename_i hk; subst hk
      by_cases hj : j < k
      · rw [Map.get?_above (fun e he => Nat.lt_trans hj (ha e he))]
        simp [Map.get?, h, hj]
      · simp [Map.get?, h, hj]
    · split
      · rfl
      · simp only [Map.get?]; rw [ih hm]

/-! ### Memories -/

theorem Mem.wf_store {d : Byte} {m : Mem} (h : Mem.wf d m = true) (a : Nat) (b : Byte) :
    Mem.wf d (Mem.store d m a b) = true := by
  simp only [Mem.wf, Bool.and_eq_true, List.all_eq_true, bne_iff_ne, ne_eq] at h ⊢
  obtain ⟨hw, hd⟩ := h
  unfold Mem.store
  split
  · exact ⟨Map.wf_del hw a, fun e he => hd e (Map.mem_del he)⟩
  · rename_i hb
    refine ⟨Map.wf_put hw a b, ?_⟩
    clear hw
    induction m with
    | nil => intro e he; simp [Map.put] at he; subst he; exact hb
    | cons c m ih =>
      obtain ⟨x, y⟩ := c
      have hm := ih (fun e he => hd e (List.mem_cons_of_mem _ he))
      intro e he
      unfold Map.put at he
      split at he
      · rcases List.mem_cons.1 he with rfl | he
        · exact hb
        · exact hd e (List.mem_cons_of_mem _ he)
      · split at he
        · rcases List.mem_cons.1 he with rfl | he
          · exact hb
          · exact hd e he
        · rcases List.mem_cons.1 he with rfl | he
          · exact hd _ List.mem_cons_self
          · exact hm e he

theorem Mem.wf_filter {d : Byte} {m : Mem} (h : Mem.wf d m = true) (p : Nat × Byte → Bool) :
    Mem.wf d (m.filter p) = true := by
  simp only [Mem.wf, Bool.and_eq_true, List.all_eq_true, bne_iff_ne, ne_eq] at h ⊢
  exact ⟨Map.wf_filter h.1 p, fun e he => h.2 e (List.mem_filter.1 he).1⟩

theorem Mem.wf_write {d : Byte} {m : Mem} (h : Mem.wf d m = true) (a : Nat) (bs : List Byte) :
    Mem.wf d (Mem.write d m a bs) = true := by
  induction bs generalizing m a with
  | nil => exact h
  | cons b bs ih => exact ih (Mem.wf_store h a b) (a + 1)

theorem Mem.byte_store_same {d : Byte} {m : Mem} (h : Mem.wf d m = true) (a : Nat) (b : Byte) :
    Mem.byte d (Mem.store d m a b) a = b := by
  have hw : Map.wf m = true := by simp only [Mem.wf, Bool.and_eq_true] at h; exact h.1
  unfold Mem.byte Map.getD Mem.store
  split
  · rename_i hb; simp [Map.get?_del_same hw, hb]
  · simp

theorem Mem.byte_store_other {d : Byte} {m : Mem} (h : Mem.wf d m = true) {a c : Nat} (b : Byte) (hc : c ≠ a) :
    Mem.byte d (Mem.store d m a b) c = Mem.byte d m c := by
  have hw : Map.wf m = true := by simp only [Mem.wf, Bool.and_eq_true] at h; exact h.1
  unfold Mem.byte Map.getD Mem.store
  split
  · rw [Map.get?_del_other hw hc]
  · rw [Map.get?_put_other _ _ hc]

/-- A byte outside the bytes written reads as before. -/
theorem Mem.byte_write_outside {d : Byte} {m : Mem} (h : Mem.wf d m = true) {a c : Nat} {bs : List Byte}
    (hc : c < a ∨ a + bs.length ≤ c) : Mem.byte d (Mem.write d m a bs) c = Mem.byte d m c := by
  induction bs generalizing m a with
  | nil => rfl
  | cons b bs ih =>
    simp only [List.length_cons] at hc
    rw [Mem.write, ih (Mem.wf_store h a b) (by omega), Mem.byte_store_other h b (by omega)]

/-- The bytes written read back. -/
theorem Mem.byte_write_inside {d : Byte} {m : Mem} (h : Mem.wf d m = true) {a : Nat} {bs : List Byte} {i : Nat}
    (hi : i < bs.length) : Mem.byte d (Mem.write d m a bs) (a + i) = bs[i] := by
  induction bs generalizing m a i with
  | nil => simp at hi
  | cons b bs ih =>
    rw [Mem.write]
    cases i with
    | zero => rw [Mem.byte_write_outside (Mem.wf_store h a b) (by omega), Nat.add_zero, Mem.byte_store_same h]; rfl
    | succ i =>
      have := ih (Mem.wf_store h a b) (a := a + 1) (i := i) (by simpa using hi)
      rw [show a + (i + 1) = a + 1 + i by omega, this]; rfl

end Sys2Proof.Machine
end

