-- ==== Sys2Proof/Laws/Follows.lean ====
section
/-! SUPPORT. What every operation keeps (`State.Follows`): its laws, and the shapes that the meanings are built of. -/

namespace Sys2Proof.Machine

theorem State.Follows.refl (s : State) : s.Follows s := ⟨rfl, List.suffix_refl _, Nat.le_refl _, id⟩

theorem State.Follows.trans {s t u : State} (h : s.Follows t) (k : t.Follows u) : s.Follows u :=
  ⟨k.queue.trans h.queue, h.sent.trans k.sent, Nat.le_trans h.drawn k.drawn, fun c => k.canonical (h.canonical c)⟩

/-- A change of parts other than the queue, what was sent, the free values and the storage. -/
theorem State.Follows.mk' {z s : State} (h : z.Follows s) {commits : List Commit} {hearth : Hearth} {ebd : Ebd}
    {ref : Map RefSlot} {sel : Sel} {osc : Osc} {syn : Syn} {out : OutSt} {tdc : Tdc} {spi : Spi} {gna : Gna} {gns : Gns}
    {eth : Eth} {lts : Lts} {rse : Rse} {pro : Pro} {glv : Glv} {smp : Smp} {red : Red} {nvc : Nvc} {pmc : Pmc} {flt : Flt}
    {host : HostIf} {power : Power} {clocks freeCtr : Nat} (hf : nvc.flash = s.nvc.flash)
    (hc : s.freeCtr ≤ freeCtr) :
    z.Follows ⟨s.pending, s.regs, s.shadow, commits, freeCtr, s.emitted, hearth, ebd, ref, sel, osc, syn, out, tdc, spi,
      gna, gns, eth, lts, rse, pro, glv, smp, red, nvc, pmc, flt, host, s.dram, s.dramBad, power, clocks⟩ :=
  ⟨h.queue, h.sent, Nat.le_trans h.drawn hc, fun c => by
    obtain ⟨r, w, d, b, f⟩ := h.canonical c
    exact ⟨r, w, d, b, by rw [← hf] at f; exact f⟩⟩

theorem State.Follows.ite {z s t : State} {p : Prop} [Decidable p] (h : z.Follows s) (k : z.Follows t) :
    z.Follows (if p then s else t) := by split <;> assumption

theorem State.Follows.foldl {α : Type} {z s : State} {f : State → α → State} (l : List α) (h : z.Follows s)
    (hf : ∀ st a, z.Follows st → z.Follows (f st a)) : z.Follows (l.foldl f s) := by
  induction l generalizing s with
  | nil => exact h
  | cons a l ih => exact ih (hf s a h)

theorem State.Follows.elim {α : Type} {z s : State} {f : α → State} (o : Option α) (h : z.Follows s)
    (hf : ∀ a, z.Follows (f a)) : z.Follows (o.elim s f) := by
  cases o
  · exact h
  · exact hf _

theorem State.Follows.foldlSnd {α β : Type} {z : State} {f : β × State → α → β × State} (l : List α) {p : β × State}
    (h : z.Follows p.2) (hf : ∀ (acc : β × State) a, z.Follows acc.2 → z.Follows (f acc a).2) :
    z.Follows (l.foldl f p).2 := by
  induction l generalizing p with
  | nil => exact h
  | cons a l ih => exact ih (hf p a h)

theorem State.Follows.foldlFst {α β : Type} {z : State} {f : State × β → α → State × β} (l : List α) {p : State × β}
    (h : z.Follows p.1) (hf : ∀ (acc : State × β) a, z.Follows acc.1 → z.Follows (f acc a).1) :
    z.Follows (l.foldl f p).1 := by
  induction l generalizing p with
  | nil => exact h
  | cons a l ih => exact ih (hf p a h)

/-- A pair whose state follows. -/
theorem State.Follows.snd {α : Type} {z s : State} {a : α} {p : α × State} (e : p = (a, s)) (h : z.Follows p.2) :
    z.Follows s := by rw [e] at h; exact h

theorem State.Follows.fst {α : Type} {z s : State} {a : α} {p : State × α} (e : p = (s, a)) (h : z.Follows p.1) :
    z.Follows s := by rw [e] at h; exact h

/-- The outcome of a command is a next state that follows. -/
def Follow (z : State) (o : Out) : Prop := ∃ t, o = .next t ∧ z.Follows t

theorem Follow.next {z t : State} (h : z.Follows t) : Follow z (.next t) := ⟨t, rfl, h⟩

theorem Follow.ite {z : State} {p : Prop} [Decidable p] {a b : Out} (h : Follow z a) (k : Follow z b) :
    Follow z (if p then a else b) := by split <;> assumption

theorem Follow.cond {z : State} {b : Bool} {x y : Out} (h : Follow z x) (k : Follow z y) : Follow z (bif b then x else y) := by
  cases b <;> assumption

theorem Follow.elim {α : Type} {z : State} {o : Out} {f : α → Out} (x : Option α) (h : Follow z o)
    (hf : ∀ a, Follow z (f a)) : Follow z (x.elim o f) := by
  cases x
  · exact h
  · exact hf _

/-- A field set. -/
theorem State.Follows.set {z s : State} (f : Field) (v : Nat) (h : z.Follows s) : z.Follows (State.set f v s) :=
  ⟨h.queue, h.sent, h.drawn, fun c => by
    obtain ⟨r, w, d, b, g⟩ := h.canonical c
    refine ⟨?_, w, d, b, g⟩
    unfold State.set
    dsimp only
    split
    · exact Map.wf_del r _
    · exact Map.wf_put r _ _⟩

/-- Something sent. -/
theorem State.Follows.emit {z s : State} (e : Emission) (h : z.Follows s) : z.Follows (State.emit e s) :=
  ⟨h.queue, h.sent.trans (List.suffix_cons _ _), h.drawn, fun c => by
    obtain ⟨r, w, d, b, g⟩ := h.canonical c
    exact ⟨r, w, d, b, g⟩⟩

/-- A free value drawn. -/
theorem State.Follows.bump {z s : State} (h : z.Follows s) : z.Follows s.bump :=
  ⟨h.queue, h.sent, Nat.le_succ_of_le h.drawn, fun c => by
    obtain ⟨r, w, d, b, g⟩ := h.canonical c
    exact ⟨r, w, d, b, g⟩⟩

/-- A shadow written. -/
theorem State.Follows.hold {z s : State} (f : Field) (v : Nat) (h : z.Follows s) : z.Follows (State.hold f v s) :=
  ⟨h.queue, h.sent, h.drawn, fun c => by
    obtain ⟨r, w, d, b, g⟩ := h.canonical c
    exact ⟨r, Map.wf_put w _ _, d, b, g⟩⟩

/-- Shadows dropped. -/
theorem State.Follows.filterShadow {z s : State} (h : z.Follows s) (p : Nat × Waiting → Bool) :
    z.Follows { s with shadow := s.shadow.filter p } :=
  ⟨h.queue, h.sent, h.drawn, fun c => by
    obtain ⟨r, w, d, b, g⟩ := h.canonical c
    exact ⟨r, Map.wf_filter w _, d, b, g⟩⟩

/-- DRAM written. -/
theorem State.Follows.dramWrite {z s : State} (a : Nat) (bs : List Byte) (h : z.Follows s) :
    z.Follows (State.dramWrite a bs s) :=
  ⟨h.queue, h.sent, h.drawn, fun c => by
    obtain ⟨r, w, d, b, g⟩ := h.canonical c
    exact ⟨r, w, Mem.wf_write d _ _, b.filter _, g⟩⟩

theorem State.Follows.load {z s : State} (ws : List Waiting) (h : z.Follows s) : z.Follows (State.load ws s) := by
  induction ws generalizing s with
  | nil => exact h
  | cons w ws ih => exact ih (h.set _ _)

theorem State.Follows.applyWaiting {z s : State} (b : Boundary) (sel : Field → Bool) (h : z.Follows s) :
    z.Follows (State.applyWaiting b sel s) := by
  obtain ⟨q, e, n, c⟩ := h.load ((s.waitingFor b).filter (fun w => sel w.field))
  exact ⟨q, e, n, fun k => ⟨(c k).regs, Map.wf_filter (h.canonical k).shadow _, (c k).dram, (c k).bad, (c k).flash⟩⟩

end Sys2Proof.Machine
end

