-- ==== Sys2Proof/Laws/KeepOps.lean ====
section
/-! SUPPORT. What the operations of Machine/Ops.lean keep. -/

namespace Sys2Proof.Machine

theorem State.Follows.setB {z : State} (f : Field) (b : Bool) (s : State) (hz : z.Follows s) :
    z.Follows (State.setB f b s) := by
  unfold State.setB
  repeat' first
    | with_reducible assumption | with_reducible apply State.Follows.set

theorem State.Follows.setI {z : State} (f : Field) (x : Int) (s : State) (hz : z.Follows s) :
    z.Follows (State.setI f x s) := by
  unfold State.setI
  repeat' first
    | with_reducible assumption | with_reducible apply State.Follows.set

theorem State.Follows.incBy {z : State} (f : Field) (n : Nat) (s : State) (hz : z.Follows s) :
    z.Follows (State.incBy f n s) := by
  unfold State.incBy
  repeat' first
    | with_reducible assumption | with_reducible apply State.Follows.set

theorem State.Follows.inc {z : State} (f : Field) (s : State) (hz : z.Follows s) : z.Follows (State.inc f s) := by
  unfold State.inc
  repeat' first
    | with_reducible assumption | with_reducible apply State.Follows.incBy

theorem State.Follows.incSat {z : State} (f : Field) (n : Nat) (s : State) (hz : z.Follows s) :
    z.Follows (State.incSat f n s) := by
  unfold State.incSat
  repeat' first
    | with_reducible assumption | with_reducible apply State.Follows.set

theorem State.Follows.set2 {z : State} (lo hi : Field) (v : Nat) (s : State) (hz : z.Follows s) :
    z.Follows (State.set2 lo hi v s) := by
  unfold State.set2
  repeat' first
    | with_reducible assumption | with_reducible apply State.Follows.set

theorem State.Follows.setI2 {z : State} (lo hi : Field) (x : Int) (s : State) (hz : z.Follows s) :
    z.Follows (State.setI2 lo hi x s) := by
  unfold State.setI2
  repeat' first
    | with_reducible assumption | with_reducible apply State.Follows.set2

theorem State.Follows.setTime {z : State} (fr ns lo hi : Field) (u : Nat) (s : State) (hz : z.Follows s) :
    z.Follows (State.setTime fr ns lo hi u s) := by
  unfold State.setTime
  repeat' first
    | with_reducible assumption | with_reducible apply State.Follows.set
    | with_reducible apply State.Follows.set2

theorem State.Follows.setSpan {z : State} (fr ns lo hi : Field) (x : Int) (s : State) (hz : z.Follows s) :
    z.Follows (State.setSpan fr ns lo hi x s) := by
  unfold State.setSpan
  repeat' first
    | with_reducible assumption | with_reducible apply State.Follows.set
    | with_reducible apply State.Follows.setI2

theorem State.Follows.dropShadow {z : State} (p : Waiting → Bool) (s : State) (h : z.Follows s) :
    z.Follows (State.dropShadow p s) := h.filterShadow _

theorem State.Follows.uncommit {z : State} (g : Group) (s : State) (hz : z.Follows s) : z.Follows (State.uncommit g s) := by
  unfold State.uncommit
  repeat' first
    | with_reducible assumption | with_reducible apply State.Follows.mk' | exact Nat.le_refl _ | rfl

theorem State.Follows.commit {z : State} (g : Group) (cmd : Field) (s : State) (hz : z.Follows s) :
    z.Follows (State.commit g cmd s) := by
  unfold State.commit
  repeat' first
    | with_reducible assumption | with_reducible apply State.Follows.set
    | with_reducible apply State.Follows.mk' | exact Nat.le_refl _ | rfl

theorem State.Follows.setClock {z : State} (d : Nat) (b : Bool) (s : State) (hz : z.Follows s) :
    z.Follows (State.setClock d b s) := by
  unfold State.setClock
  repeat' first
    | with_reducible assumption | with_reducible apply State.Follows.mk' | exact Nat.le_refl _ | rfl

theorem State.Follows.requestVector {z : State} (v : Nat) (s : State) (hz : z.Follows s) :
    z.Follows (State.requestVector v s) := by
  unfold State.requestVector
  repeat' first
    | with_reducible assumption | with_reducible apply State.Follows.emit
    | with_reducible apply State.Follows.ite | with_reducible apply State.Follows.mk' | exact Nat.le_refl _ | rfl

theorem State.Follows.raiseBlock {z : State} (b : Nat) (s : State) (hz : z.Follows s) :
    z.Follows (State.raiseBlock b s) := by
  unfold State.raiseBlock
  repeat' first
    | with_reducible assumption | with_reducible apply State.Follows.requestVector
    | with_reducible apply State.Follows.set | with_reducible apply State.Follows.ite

theorem State.Follows.evt {z : State} (f : Field) (s : State) (hz : z.Follows s) : z.Follows (State.evt f s) := by
  unfold State.evt
  repeat' first
    | with_reducible assumption | with_reducible apply State.Follows.raiseBlock
    | with_reducible apply State.Follows.set | with_reducible apply State.Follows.ite

theorem State.Follows.evtBit {z : State} (f : Field) (i : Nat) (s : State) (hz : z.Follows s) :
    z.Follows (State.evtBit f i s) := by
  unfold State.evtBit
  repeat' first
    | with_reducible assumption | with_reducible apply State.Follows.raiseBlock
    | with_reducible apply State.Follows.set | with_reducible apply State.Follows.ite

theorem State.Follows.answer {z : State} (status : Nat) (pcie : Emission) (s : State) (hz : z.Follows s) :
    z.Follows (State.answer status pcie s) := by
  unfold State.answer
  repeat' first
    | with_reducible assumption | with_reducible apply State.Follows.emit

theorem State.Follows.showPend {z : State} (s : State) (hz : z.Follows s) : z.Follows (State.showPend s) := by
  unfold State.showPend
  repeat' first
    | with_reducible assumption | with_reducible apply State.Follows.set

theorem State.Follows.crossingReset {z : State} (d : Nat) (s : State) (hz : z.Follows s) :
    z.Follows (State.crossingReset d s) := by
  unfold State.crossingReset
  repeat' first
    | with_reducible assumption | with_reducible apply State.Follows.answer
    | with_reducible apply State.Follows.showPend | with_reducible apply State.Follows.foldl | (intro _ _ _; try dsimp only)
    | with_reducible apply State.Follows.mk' | exact Nat.le_refl _ | rfl

theorem State.Follows.crossingOpen {z : State} (d : Nat) (s : State) (hz : z.Follows s) :
    z.Follows (State.crossingOpen d s) := by
  unfold State.crossingOpen
  repeat' first
    | with_reducible assumption | with_reducible apply State.Follows.mk' | exact Nat.le_refl _ | rfl

theorem State.Follows.addCounter {z : State} (fuel i n : Nat) (s : State) (h : z.Follows s) :
    z.Follows (State.addCounter fuel i n s) := by
  induction fuel generalizing i n s with
  | zero => exact h
  | succ fuel ih =>
    unfold State.addCounter
    dsimp only
    split
    · exact h.set2 _ _ _ _
    · split
      · exact ih _ _ _ (State.Follows.mk' (h.set2 _ _ _ _) rfl (Nat.le_refl _))
      · exact State.Follows.evt _ _ (State.Follows.set _ _ (State.Follows.mk' (h.set2 _ _ _ _) rfl (Nat.le_refl _)))

theorem State.Follows.count {z : State} (e n : Nat) (s : State) (hz : z.Follows s) : z.Follows (State.count e n s) := by
  unfold State.count
  repeat' first
    | with_reducible assumption | with_reducible apply State.Follows.addCounter
    | with_reducible apply State.Follows.foldl | (intro _ _ _; try dsimp only)

end Sys2Proof.Machine
end

