-- ==== Sys2Proof/Laws/KeepReplica.lean ====
section
/-! SUPPORT. What the operations of Machine/Replica.lean keep. -/

namespace Sys2Proof.Machine

theorem State.Follows.modHearth {z : State} (f : Hearth → Hearth) (s : State) (hz : z.Follows s) :
    z.Follows (State.modHearth f s) := by
  unfold State.modHearth
  repeat' first
    | with_reducible assumption | with_reducible apply State.Follows.mk' | exact Nat.le_refl _ | rfl

theorem State.Follows.setReplica {z : State} (d : Nat) (r : Replica) (s : State) (hz : z.Follows s) : z.Follows
    (Sys2Proof.Machine.State.setReplica d r s) := by
  unfold Sys2Proof.Machine.State.setReplica
  repeat' first
    | with_reducible assumption
    | with_reducible apply State.Follows.modHearth

theorem State.Follows.sendRecord {z : State} (r : HearthRecord) (s : State) (hz : z.Follows s) : z.Follows
    (Sys2Proof.Machine.State.sendRecord r s) := by
  unfold Sys2Proof.Machine.State.sendRecord
  repeat' first
    | with_reducible assumption
    | with_reducible apply State.Follows.setReplica
    | with_reducible apply State.Follows.ite
    | with_reducible apply State.Follows.foldl
    | (intro _ _ _; try dsimp only)

theorem State.Follows.amendRecord {z : State} (r : HearthRecord) (s : State) (hz : z.Follows s) : z.Follows
    (Sys2Proof.Machine.State.amendRecord r s) := by
  unfold Sys2Proof.Machine.State.amendRecord
  repeat' first
    | with_reducible assumption
    | with_reducible apply State.Follows.setReplica
    | with_reducible apply State.Follows.ite
    | with_reducible apply State.Follows.foldl
    | (intro _ _ _; try dsimp only)

end Sys2Proof.Machine
end

