-- ==== Sys2Proof/Laws/KeepFiling.lean ====
section
/-! SUPPORT. What the operations of Machine/Filing.lean keep. -/

namespace Sys2Proof.Machine

theorem State.Follows.setWords {z : State} (f : Nat → Field) (i : Nat) (bs : List Byte) (s : State) (h : z.Follows s) :
    z.Follows (State.setWords f i bs s) := by
  induction bs generalizing i s with
  | nil => exact h
  | cons b bs ih => exact ih _ _ (h.set _ _)

theorem State.Follows.renounce {z : State} (s : State) (hz : z.Follows s) : z.Follows
    (Sys2Proof.Machine.State.renounce s) := by
  unfold Sys2Proof.Machine.State.renounce
  repeat' first
    | with_reducible assumption
    | with_reducible apply State.Follows.inc
    | with_reducible apply State.Follows.set
    | with_reducible apply State.Follows.ite

theorem State.Follows.showAlarm {z : State} (s : State) (hz : z.Follows s) : z.Follows (State.showAlarm s) := by
  unfold State.showAlarm
  repeat' first
    | with_reducible assumption | with_reducible apply State.Follows.setB

theorem State.Follows.classAction {z : State} (r : FaultRec) (s : State) (hz : z.Follows s) : z.Follows
    (Sys2Proof.Machine.State.classAction r s) := by
  unfold Sys2Proof.Machine.State.classAction
  repeat' first
    | with_reducible assumption
    | with_reducible apply State.Follows.evt
    | with_reducible apply State.Follows.inc
    | with_reducible apply State.Follows.renounce
    | with_reducible apply State.Follows.set
    | with_reducible apply State.Follows.setWords
    | with_reducible apply State.Follows.showAlarm
    | split

theorem State.Follows.enqueue {z : State} (r : FaultRec) (s : State) (hz : z.Follows s) :
    z.Follows (State.enqueue r s) := by
  unfold State.enqueue
  repeat' first
    | with_reducible assumption | with_reducible apply State.Follows.evt
    | with_reducible apply State.Follows.inc | with_reducible apply State.Follows.set | split
    | with_reducible apply State.Follows.mk' | exact Nat.le_refl _ | rfl

theorem State.Follows.file {z : State} (k : FaultKind) (element cause : Nat) (s : State) (hz : z.Follows s) :
    z.Follows (Sys2Proof.Machine.State.file k element cause s) := by
  unfold Sys2Proof.Machine.State.file
  repeat' first
    | with_reducible assumption
    | with_reducible apply State.Follows.bump
    | with_reducible apply State.Follows.classAction
    | with_reducible apply State.Follows.enqueue
    | with_reducible apply State.Follows.ite

theorem State.Follows.fileFirst {z : State} (k : FaultKind) (element cause : Nat) (s : State) (hz : z.Follows s) :
    z.Follows (State.fileFirst k element cause s) := by
  unfold State.fileFirst
  repeat' first
    | with_reducible assumption | with_reducible apply State.Follows.file
    | with_reducible apply State.Follows.ite | with_reducible apply State.Follows.mk' | exact Nat.le_refl _ | rfl

end Sys2Proof.Machine
end

