-- ==== Sys2Proof/Laws/KeepTime.lean ====
section
/-! SUPPORT. What the operations of Machine/Time.lean keep. -/

namespace Sys2Proof.Machine

theorem State.Follows.writeLanes {z : State} (f : Lane → Lane) (s : State) (hz : z.Follows s) :
    z.Follows (State.writeLanes f s) := by
  unfold State.writeLanes
  repeat' first
    | with_reducible assumption | with_reducible apply State.Follows.modHearth

theorem State.Follows.judgeVote {z : State} (n : Nat) (s : State) (hz : z.Follows s) : z.Follows
    (Sys2Proof.Machine.State.judgeVote n s) := by
  unfold Sys2Proof.Machine.State.judgeVote
  repeat' first
    | with_reducible assumption
    | with_reducible apply State.Follows.count
    | with_reducible apply State.Follows.evt
    | with_reducible apply State.Follows.file
    | with_reducible apply State.Follows.incSat
    | with_reducible apply State.Follows.modHearth
    | with_reducible apply State.Follows.set
    | with_reducible apply State.Follows.ite

theorem State.Follows.markDue {z : State} (before : Int) (s : State) (hz : z.Follows s) :
    z.Follows (State.markDue before s) := by
  unfold State.markDue
  repeat' first
    | with_reducible assumption | with_reducible apply State.Follows.modHearth

theorem State.Follows.oneTick {z : State} (upset : Option LaneUpset) (s : State) (hz : z.Follows s) :
    z.Follows (State.oneTick upset s) := by
  unfold State.oneTick
  repeat' first
    | with_reducible assumption | with_reducible apply State.Follows.judgeVote
    | with_reducible apply State.Follows.markDue | with_reducible apply State.Follows.modHearth | split

theorem State.Follows.tickByTick {z : State} (n : Nat) (s : State) (hz : z.Follows s) : z.Follows (State.tickByTick n s) := by
  induction n generalizing s with
  | zero => exact hz
  | succ n ih => exact ih _ (State.Follows.oneTick none s hz)

theorem State.Follows.passTicks {z : State} (n : Nat) (s : State) (hz : z.Follows s) : z.Follows (State.passTicks n s) := by
  unfold State.passTicks
  split
  · exact State.Follows.judgeVote _ _ (State.Follows.markDue _ _ (State.Follows.modHearth _ _ hz))
  · exact State.Follows.tickByTick _ _ hz

theorem State.Follows.clearDue {z : State} (s : State) (hz : z.Follows s) : z.Follows
    (Sys2Proof.Machine.State.clearDue s) := by
  unfold Sys2Proof.Machine.State.clearDue
  repeat' first
    | with_reducible assumption
    | with_reducible apply State.Follows.modHearth

theorem State.Follows.leapLoad {z : State} (src : Nat) (next : Int) (at_ : Nat) (pending : Bool) (s : State)
    (hz : z.Follows s) :
    z.Follows (State.leapLoad src next at_ pending s) := by
  unfold State.leapLoad
  repeat' first
    | with_reducible assumption | with_reducible apply State.Follows.modHearth
    | with_reducible apply State.Follows.set | with_reducible apply State.Follows.set2
    | with_reducible apply State.Follows.setB | with_reducible apply State.Follows.setI

theorem State.Follows.leapJudge {z : State} (src : Nat) (cur next : Int) (at_ : Nat) (s : State) (hz : z.Follows s) :
    z.Follows (Sys2Proof.Machine.State.leapJudge src cur next at_ s) := by
  unfold Sys2Proof.Machine.State.leapJudge
  repeat' first
    | with_reducible assumption
    | with_reducible apply State.Follows.evt
    | with_reducible apply State.Follows.leapLoad
    | with_reducible apply State.Follows.setI
    | with_reducible apply State.Follows.ite

theorem State.Follows.leapAnnounce {z : State} (src : Nat) (cur next : Int) (at_ : Nat) (s : State)
    (hz : z.Follows s) : z.Follows (Sys2Proof.Machine.State.leapAnnounce src cur next at_ s) := by
  unfold Sys2Proof.Machine.State.leapAnnounce
  repeat' first
    | with_reducible assumption
    | with_reducible apply State.Follows.leapJudge
    | with_reducible apply State.Follows.leapLoad
    | with_reducible apply State.Follows.ite

theorem State.Follows.leapPost {z : State} (p : LeapPost) (s : State) (hz : z.Follows s) : z.Follows
    (Sys2Proof.Machine.State.leapPost p s) := by
  unfold Sys2Proof.Machine.State.leapPost
  repeat' first
    | with_reducible assumption
    | with_reducible apply State.Follows.evt
    | with_reducible apply State.Follows.leapAnnounce
    | with_reducible apply State.Follows.modHearth
    | with_reducible apply State.Follows.set
    | with_reducible apply State.Follows.ite

theorem State.Follows.leapTakePost {z : State} (s : State) (hz : z.Follows s) : z.Follows
    (Sys2Proof.Machine.State.leapTakePost s) := by
  unfold Sys2Proof.Machine.State.leapTakePost
  try dsimp only
  repeat' first
    | with_reducible assumption
    | with_reducible apply State.Follows.leapJudge
    | with_reducible apply State.Follows.modHearth
    | split

theorem State.Follows.leapHost {z : State} (s : State) (hz : z.Follows s) : z.Follows
    (Sys2Proof.Machine.State.leapHost s) := by
  unfold Sys2Proof.Machine.State.leapHost
  try dsimp only
  repeat' first
    | with_reducible assumption
    | with_reducible apply State.Follows.evt
    | with_reducible apply State.Follows.inc
    | with_reducible apply State.Follows.leapJudge
    | with_reducible apply State.Follows.set
    | with_reducible apply State.Follows.uncommit
    | split

theorem State.Follows.leapApply {z : State} (s : State) (hz : z.Follows s) : z.Follows (State.leapApply s) := by
  unfold State.leapApply
  repeat' first
    | with_reducible assumption | with_reducible apply State.Follows.evt
    | with_reducible apply State.Follows.set | with_reducible apply State.Follows.ite

theorem State.Follows.loadLane {z : State} (out : Lane) (n : Nat) (s : State) (hz : z.Follows s) : z.Follows
    (Sys2Proof.Machine.State.loadLane out n s) := by
  unfold Sys2Proof.Machine.State.loadLane
  repeat' first
    | with_reducible assumption
    | with_reducible apply State.Follows.evt
    | with_reducible apply State.Follows.file
    | with_reducible apply State.Follows.incSat
    | with_reducible apply State.Follows.modHearth

theorem State.Follows.resyncLane {z : State} (out : Lane) (n : Nat) (s : State) (hz : z.Follows s) :
    z.Follows (State.resyncLane out n s) := by
  unfold State.resyncLane
  repeat' first
    | with_reducible assumption | with_reducible apply State.Follows.evt
    | with_reducible apply State.Follows.file | with_reducible apply State.Follows.loadLane
    | with_reducible apply State.Follows.set | with_reducible apply State.Follows.ite

theorem State.Follows.unfenceLane {z : State} (out : Lane) (n : Nat) (s : State) (hz : z.Follows s) :
    z.Follows (State.unfenceLane out n s) := by
  unfold State.unfenceLane
  repeat' first
    | with_reducible assumption | with_reducible apply State.Follows.modHearth
    | with_reducible apply State.Follows.set | with_reducible apply State.Follows.ite

theorem State.Follows.voteSecond {z : State} (s : State) (hz : z.Follows s) : z.Follows
    (Sys2Proof.Machine.State.voteSecond s) := by
  unfold Sys2Proof.Machine.State.voteSecond
  repeat' first
    | with_reducible assumption
    | with_reducible apply State.Follows.evt
    | with_reducible apply State.Follows.file
    | with_reducible apply State.Follows.loadLane
    | with_reducible apply State.Follows.modHearth
    | with_reducible apply State.Follows.resyncLane
    | with_reducible apply State.Follows.unfenceLane
    | with_reducible apply State.Follows.ite
    | with_reducible apply State.Follows.foldl
    | (intro _ _ _; try dsimp only)

theorem State.Follows.applyRate {z : State} (r : RatePlan) (s : State) (hz : z.Follows s) :
    z.Follows (State.applyRate r s) := by
  unfold State.applyRate
  repeat' first
    | with_reducible assumption | with_reducible apply State.Follows.evt
    | with_reducible apply State.Follows.writeLanes | with_reducible apply State.Follows.ite

theorem State.Follows.refuseSoft {z : State} (s : State) (hz : z.Follows s) : z.Follows
    (Sys2Proof.Machine.State.refuseSoft s) := by
  unfold Sys2Proof.Machine.State.refuseSoft
  repeat' first
    | with_reducible assumption
    | with_reducible apply State.Follows.evt
    | with_reducible apply State.Follows.modHearth
    | with_reducible apply State.Follows.ite

theorem State.Follows.takeSoft {z : State} (s : State) (hz : z.Follows s) : z.Follows
    (Sys2Proof.Machine.State.takeSoft s).1 := by
  unfold Sys2Proof.Machine.State.takeSoft
  repeat' first
    | with_reducible assumption
    | with_reducible apply State.Follows.modHearth

theorem State.Follows.softCommit {z : State} (steer : Bool) (value lead : Nat) (s : State) (hz : z.Follows s) :
    z.Follows (Sys2Proof.Machine.State.softCommit steer value lead s) := by
  unfold Sys2Proof.Machine.State.softCommit
  repeat' first
    | with_reducible assumption
    | with_reducible apply State.Follows.dropShadow
    | with_reducible apply State.Follows.evt
    | with_reducible apply State.Follows.modHearth
    | with_reducible apply State.Follows.set2
    | with_reducible apply State.Follows.ite

theorem State.Follows.hearthStep {z : State} (d : Int) (s : State) (hz : z.Follows s) : z.Follows
    (Sys2Proof.Machine.State.hearthStep d s) := by
  unfold Sys2Proof.Machine.State.hearthStep
  repeat' first
    | with_reducible assumption
    | with_reducible apply State.Follows.count
    | with_reducible apply State.Follows.evt
    | with_reducible apply State.Follows.inc
    | with_reducible apply State.Follows.modHearth
    | with_reducible apply State.Follows.set
    | with_reducible apply State.Follows.setSpan
    | with_reducible apply State.Follows.writeLanes

theorem Follow.execSteerCommit {z : State} (hi : BitVec 8) (s : State) (hz : z.Follows s) : Follow z
    (Sys2Proof.Machine.execSteerCommit hi s) := by
  unfold Sys2Proof.Machine.execSteerCommit
  repeat' first
    | with_reducible assumption
    | with_reducible apply State.Follows.softCommit
    | with_reducible apply Follow.next

theorem Follow.execIntegCommit {z : State} (hi : BitVec 8) (s : State) (hz : z.Follows s) : Follow z
    (Sys2Proof.Machine.execIntegCommit hi s) := by
  unfold Sys2Proof.Machine.execIntegCommit
  repeat' first
    | with_reducible assumption
    | with_reducible apply State.Follows.softCommit
    | with_reducible apply Follow.next

theorem State.Follows.arm {z : State} (s : State) (hz : z.Follows s) : z.Follows (Sys2Proof.Machine.State.arm s) := by
  unfold Sys2Proof.Machine.State.arm
  repeat' first
    | with_reducible assumption
    | with_reducible apply State.Follows.evt
    | with_reducible apply State.Follows.set
    | with_reducible apply State.Follows.ite

theorem Follow.execStepArm {z : State} (s : State) (hz : z.Follows s) : Follow z (Sys2Proof.Machine.execStepArm s) := by
  unfold Sys2Proof.Machine.execStepArm
  repeat' first
    | with_reducible assumption
    | with_reducible apply State.Follows.arm
    | with_reducible apply State.Follows.modHearth
    | with_reducible apply Follow.ite
    | with_reducible apply Follow.next

theorem Follow.execUnfence {z : State} (lane : Fin 3) (s : State) (hz : z.Follows s) : Follow z
    (Sys2Proof.Machine.execUnfence lane s) := by
  unfold Sys2Proof.Machine.execUnfence
  repeat' first
    | with_reducible assumption
    | with_reducible apply State.Follows.set
    | with_reducible apply Follow.next
    | with_reducible apply State.Follows.ite

theorem Follow.execSnap {z : State} (s : State) (hz : z.Follows s) : Follow z (Sys2Proof.Machine.execSnap s) := by
  unfold Sys2Proof.Machine.execSnap
  repeat' first
    | with_reducible assumption | with_reducible apply State.Follows.set | with_reducible apply Follow.ite
    | with_reducible apply Follow.next

theorem State.Follows.snapTake {z : State} (s : State) (hz : z.Follows s) : z.Follows
    (Sys2Proof.Machine.State.snapTake s) := by
  unfold Sys2Proof.Machine.State.snapTake
  repeat' first
    | with_reducible assumption
    | with_reducible apply State.Follows.evt
    | with_reducible apply State.Follows.set
    | with_reducible apply State.Follows.setTime

theorem Follow.execSnapLatch {z : State} (s : State) (hz : z.Follows s) : Follow z (Sys2Proof.Machine.execSnapLatch s) := by
  unfold Sys2Proof.Machine.execSnapLatch
  repeat' first
    | with_reducible assumption
    | with_reducible apply State.Follows.modHearth
    | with_reducible apply State.Follows.snapTake
    | with_reducible apply Follow.ite
    | with_reducible apply Follow.next

theorem Follow.execLeapCommit {z : State} (s : State) (hz : z.Follows s) :
    Follow z (Sys2Proof.Machine.execLeapCommit s) := by
  unfold Sys2Proof.Machine.execLeapCommit
  repeat' first
    | with_reducible assumption | with_reducible apply State.Follows.commit | with_reducible apply Follow.next

end Sys2Proof.Machine
end

