-- ==== Sys2Proof/Laws/KeepEbd.lean ====
section
/-! SUPPORT. What the operations of Machine/Ebd.lean keep. -/

namespace Sys2Proof.Machine

theorem State.Follows.modEbd {z : State} (f : Ebd → Ebd) (s : State) (hz : z.Follows s) : z.Follows (State.modEbd f s) := by
  unfold State.modEbd
  repeat' first
    | with_reducible assumption | with_reducible apply State.Follows.mk' | exact Nat.le_refl _ | rfl

theorem State.Follows.setEb {z : State} (u : Nat) (s : State) (hz : z.Follows s) : z.Follows
    (Sys2Proof.Machine.State.setEb u s) := by
  unfold Sys2Proof.Machine.State.setEb
  repeat' first
    | with_reducible assumption
    | with_reducible apply State.Follows.writeLanes

theorem State.Follows.growEb {z : State} (u : Nat) (s : State) (hz : z.Follows s) : z.Follows
    (Sys2Proof.Machine.State.growEb u s) := by
  unfold Sys2Proof.Machine.State.growEb
  repeat' first
    | with_reducible assumption
    | with_reducible apply State.Follows.writeLanes

theorem State.Follows.ebSaturation {z : State} (s : State) (hz : z.Follows s) : z.Follows
    (Sys2Proof.Machine.State.ebSaturation s) := by
  unfold Sys2Proof.Machine.State.ebSaturation
  repeat' first
    | with_reducible assumption
    | with_reducible apply State.Follows.evt
    | with_reducible apply State.Follows.set
    | with_reducible apply State.Follows.setB
    | with_reducible apply State.Follows.ite

theorem State.Follows.classSecond {z : State} (s : State) (hz : z.Follows s) : z.Follows
    (Sys2Proof.Machine.State.classSecond s) := by
  unfold Sys2Proof.Machine.State.classSecond
  repeat' first
    | with_reducible assumption
    | with_reducible apply State.Follows.evt
    | with_reducible apply State.Follows.modEbd
    | with_reducible apply State.Follows.set
    | with_reducible apply State.Follows.ite

theorem State.Follows.showBank {z : State} (s : State) (hz : z.Follows s) : z.Follows (State.showBank s) := by
  unfold State.showBank
  repeat' first
    | with_reducible assumption | with_reducible apply State.Follows.set

theorem State.Follows.bankLatch {z : State} (s : State) (hz : z.Follows s) : z.Follows
    (Sys2Proof.Machine.State.bankLatch s) := by
  unfold Sys2Proof.Machine.State.bankLatch
  repeat' first
    | with_reducible assumption
    | with_reducible apply State.Follows.evt
    | with_reducible apply State.Follows.modEbd
    | with_reducible apply State.Follows.set
    | with_reducible apply State.Follows.setEb
    | with_reducible apply State.Follows.ite

theorem State.Follows.bankCount {z : State} (s : State) (hz : z.Follows s) : z.Follows
    (Sys2Proof.Machine.State.bankCount s) := by
  unfold Sys2Proof.Machine.State.bankCount
  repeat' first
    | with_reducible assumption
    | with_reducible apply State.Follows.incBy
    | with_reducible apply State.Follows.modEbd

theorem State.Follows.bankSecond {z : State} (s : State) (hz : z.Follows s) : z.Follows
    (Sys2Proof.Machine.State.bankSecond s) := by
  unfold Sys2Proof.Machine.State.bankSecond
  try dsimp only
  repeat' first
    | with_reducible assumption
    | with_reducible apply State.Follows.bankCount
    | with_reducible apply State.Follows.evt
    | with_reducible apply State.Follows.growEb
    | with_reducible apply State.Follows.modEbd
    | with_reducible apply State.Follows.set
    | split

theorem State.Follows.ebdSecond {z : State} (s : State) (hz : z.Follows s) : z.Follows (State.ebdSecond s) := by
  unfold State.ebdSecond
  repeat' first
    | with_reducible assumption | with_reducible apply State.Follows.bankSecond
    | with_reducible apply State.Follows.classSecond | with_reducible apply State.Follows.ebSaturation
    | with_reducible apply State.Follows.set | with_reducible apply State.Follows.showBank

theorem State.Follows.ebLockEntry {z : State} (s : State) (hz : z.Follows s) : z.Follows
    (Sys2Proof.Machine.State.ebLockEntry s) := by
  unfold Sys2Proof.Machine.State.ebLockEntry
  repeat' first
    | with_reducible assumption
    | with_reducible apply State.Follows.modEbd
    | with_reducible apply State.Follows.setEb

theorem State.Follows.ebUnknown {z : State} (s : State) (hz : z.Follows s) : z.Follows
    (Sys2Proof.Machine.State.ebUnknown s) := by
  unfold Sys2Proof.Machine.State.ebUnknown
  repeat' first
    | with_reducible assumption
    | with_reducible apply State.Follows.ebSaturation
    | with_reducible apply State.Follows.modEbd
    | with_reducible apply State.Follows.set
    | with_reducible apply State.Follows.setEb

theorem State.Follows.ebModeUpdate {z : State} (s : State) (hz : z.Follows s) : z.Follows
    (Sys2Proof.Machine.State.ebModeUpdate s) := by
  unfold Sys2Proof.Machine.State.ebModeUpdate
  repeat' first
    | with_reducible assumption
    | with_reducible apply State.Follows.bankCount
    | with_reducible apply State.Follows.bankLatch
    | with_reducible apply State.Follows.ebLockEntry
    | with_reducible apply State.Follows.ebUnknown
    | with_reducible apply State.Follows.modEbd
    | with_reducible apply State.Follows.set
    | with_reducible apply State.Follows.ite

theorem State.Follows.ebAccrue {z : State} (s : State) (hz : z.Follows s) : z.Follows
    (Sys2Proof.Machine.State.ebAccrue s) := by
  unfold Sys2Proof.Machine.State.ebAccrue
  repeat' first
    | with_reducible assumption
    | with_reducible apply State.Follows.growEb
    | with_reducible apply State.Follows.ite

theorem State.Follows.ebCandidate {z : State} (r : Report) (s : State) (hz : z.Follows s) : z.Follows
    (Sys2Proof.Machine.State.ebCandidate r s) := by
  unfold Sys2Proof.Machine.State.ebCandidate
  repeat' first
    | with_reducible assumption
    | with_reducible apply State.Follows.evt
    | with_reducible apply State.Follows.file
    | with_reducible apply State.Follows.inc
    | with_reducible apply State.Follows.modEbd
    | with_reducible apply State.Follows.set
    | with_reducible apply State.Follows.setEb
    | with_reducible apply State.Follows.ite

theorem State.Follows.ebStepAnchor {z : State} (r : Report) (d : Int) (s : State) (hz : z.Follows s) : z.Follows
    (Sys2Proof.Machine.State.ebStepAnchor r d s) := by
  unfold Sys2Proof.Machine.State.ebStepAnchor
  repeat' first
    | with_reducible assumption
    | with_reducible apply State.Follows.ebSaturation
    | with_reducible apply State.Follows.modEbd
    | with_reducible apply State.Follows.set
    | with_reducible apply State.Follows.setEb

theorem State.Follows.ebSegment {z : State} (s : State) (hz : z.Follows s) : z.Follows
    (Sys2Proof.Machine.State.ebSegment s) := by
  unfold Sys2Proof.Machine.State.ebSegment
  repeat' first
    | with_reducible assumption
    | with_reducible apply State.Follows.ebSaturation
    | with_reducible apply State.Follows.modEbd
    | with_reducible apply State.Follows.ite

theorem State.Follows.ebIdentity {z : State} (s : State) (hz : z.Follows s) : z.Follows (State.ebIdentity s) := by
  unfold State.ebIdentity
  repeat' first
    | with_reducible assumption | with_reducible apply State.Follows.ebUnknown
    | with_reducible apply State.Follows.modEbd | with_reducible apply State.Follows.ite

theorem State.Follows.bankTakeCommit {z : State} (s : State) (hz : z.Follows s) : z.Follows (State.bankTakeCommit s) := by
  unfold State.bankTakeCommit
  repeat' first
    | with_reducible assumption | with_reducible apply State.Follows.load
    | with_reducible apply State.Follows.modEbd | with_reducible apply State.Follows.set
    | with_reducible apply State.Follows.uncommit | split

theorem State.Follows.bankTakeRelease {z : State} (s : State) (hz : z.Follows s) : z.Follows (State.bankTakeRelease s) := by
  unfold State.bankTakeRelease
  repeat' first
    | with_reducible assumption | with_reducible apply State.Follows.modEbd
    | with_reducible apply State.Follows.set | with_reducible apply State.Follows.ite

theorem Follow.execBankCommit {z : State} (s : State) (hz : z.Follows s) :
    Follow z (Sys2Proof.Machine.execBankCommit s) := by
  unfold Sys2Proof.Machine.execBankCommit
  repeat' first
    | with_reducible assumption | with_reducible apply State.Follows.commit | with_reducible apply Follow.next

theorem Follow.execBankRelease {z : State} (s : State) (hz : z.Follows s) :
    Follow z (Sys2Proof.Machine.execBankRelease s) := by
  unfold Sys2Proof.Machine.execBankRelease
  repeat' first
    | with_reducible assumption | with_reducible apply State.Follows.set | with_reducible apply Follow.next

theorem Follow.execCcCommit {z : State} (s : State) (hz : z.Follows s) : Follow z (Sys2Proof.Machine.execCcCommit s) := by
  unfold Sys2Proof.Machine.execCcCommit
  repeat' first
    | with_reducible assumption | with_reducible apply State.Follows.commit | with_reducible apply Follow.next

theorem Follow.execQuery {z : State} (s : State) (hz : z.Follows s) : Follow z (Sys2Proof.Machine.execQuery s) := by
  unfold Sys2Proof.Machine.execQuery
  repeat' first
    | with_reducible assumption | with_reducible apply State.Follows.evt
    | with_reducible apply State.Follows.file | with_reducible apply State.Follows.set
    | with_reducible apply State.Follows.setB | with_reducible apply Follow.ite | with_reducible apply Follow.next

end Sys2Proof.Machine
end

