-- ==== Sys2Proof/Laws/KeepAccess.lean ====
section
/-! SUPPORT. What the operations of Machine/Access.lean keep. -/

namespace Sys2Proof.Machine

theorem State.Follows.writeField {z : State} (f : Field) (v : Nat) (s : State) (hz : z.Follows s) : z.Follows
    (Sys2Proof.Machine.State.writeField f v s) := by
  unfold Sys2Proof.Machine.State.writeField
  repeat' first
    | with_reducible assumption
    | with_reducible apply State.Follows.bankCount
    | with_reducible apply State.Follows.evt
    | with_reducible apply State.Follows.hold
    | with_reducible apply State.Follows.set
    | split

theorem State.Follows.loadFields {z : State} (l : List (Field × Nat)) (s : State) (h : z.Follows s) :
    z.Follows (State.loadFields l s) := by
  induction l generalizing s with
  | nil => exact h
  | cons e l ih =>
    obtain ⟨f, v⟩ := e
    unfold State.loadFields
    split
    · exact ih _ (h.evt _ _)
    · exact ih _ (h.set _ _)

end Sys2Proof.Machine
end

