-- ==== Sys2Proof/Laws/KeepCommit.lean ====
section
/-! SUPPORT. What the operations of Machine/Commit.lean keep. -/

namespace Sys2Proof.Machine

theorem State.Follows.takeGroup {z : State} (g : Group) (cmd reject : Field) (ok : State → State → Bool)
    (after : State → State → State) (s : State) (hz : z.Follows s) (h_after : ∀ (a0 : State)
    (a1 : State), z.Follows a0 → z.Follows a1 → z.Follows (after a0 a1)) :
    z.Follows (State.takeGroup g cmd reject ok after s) := by
  unfold State.takeGroup
  repeat' first
    | with_reducible assumption | with_reducible apply h_after | with_reducible apply State.Follows.evt
    | with_reducible apply State.Follows.inc | with_reducible apply State.Follows.load
    | with_reducible apply State.Follows.set | with_reducible apply State.Follows.uncommit | split
    | with_reducible apply State.Follows.mk' | exact Nat.le_refl _ | rfl

end Sys2Proof.Machine
end

