-- ==== Sys2Proof/Laws/KeepRing.lean ====
section
/-! SUPPORT. What the operations of Machine/Ring.lean keep. -/

namespace Sys2Proof.Machine

theorem State.Follows.ringStore {z : State} (base size off : Nat) (bs : List Byte) (s : State) (h : z.Follows s) :
    z.Follows (State.ringStore base size off bs s) := by
  unfold State.ringStore
  split
  · exact h
  · dsimp only
    split
    · exact h.dramWrite _ _
    · exact (h.dramWrite _ _).dramWrite _ _

theorem State.Follows.ringPut {z : State} (r : RingRegs) (bs : List Byte) (s : State) {t : State} (h : z.Follows s)
    (e : State.ringPut r bs s = some t) :
    z.Follows t := by
  unfold State.ringPut at e
  dsimp only at e
  split at e
  · cases e; exact h
  · split at e
    · cases e
    · cases e; exact State.Follows.set _ _ (State.Follows.ringStore _ _ _ _ _ h)

end Sys2Proof.Machine
end

