-- ==== Sys2Proof/Laws/KeepEcc.lean ====
section
/-! SUPPORT. What the operations of Machine/Ecc.lean keep. -/

namespace Sys2Proof.Machine

theorem State.Follows.dramCe {z : State} (s : State) (hz : z.Follows s) : z.Follows (State.dramCe s) := by
  unfold State.dramCe
  repeat' first
    | with_reducible assumption | with_reducible apply State.Follows.count
    | with_reducible apply State.Follows.evt | with_reducible apply State.Follows.fileFirst
    | with_reducible apply State.Follows.inc

theorem State.Follows.dramUe {z : State} (a : Nat) (s : State) (hz : z.Follows s) : z.Follows (State.dramUe a s) := by
  unfold State.dramUe
  repeat' first
    | with_reducible assumption | with_reducible apply State.Follows.count
    | with_reducible apply State.Follows.evt | with_reducible apply State.Follows.file
    | with_reducible apply State.Follows.inc | with_reducible apply State.Follows.set2

theorem State.Follows.upset {z : State} (a : Nat) (s : State) (hz : z.Follows s) : z.Follows (State.upset a s) := by
  refine ⟨hz.queue, hz.sent, hz.drawn, fun c => ?_⟩
  obtain ⟨r, w, d, b, g⟩ := hz.canonical c
  refine ⟨r, w, d, ?_, g⟩
  simp only [State.upset, List.pairwise_append, List.pairwise_cons, List.mem_cons, List.mem_filter, decide_eq_true_eq]
  refine ⟨b.filter _, ⟨fun _ h => h.2, b.filter _⟩, ?_⟩
  rintro x ⟨_, hx⟩ y (rfl | ⟨_, hy⟩)
  · exact hx
  · omega

theorem State.Follows.countBad {z : State} (ws : List Nat) (s : State) (hz : z.Follows s) : z.Follows (State.countBad ws s) := by
  unfold State.countBad
  exact State.Follows.foldl _ hz fun _ _ h => State.Follows.dramUe _ _ h

theorem State.Follows.readBad {z : State} (a n : Nat) (s : State) (hz : z.Follows s) : z.Follows (State.readBad a n s) := by
  unfold State.readBad
  repeat' first
    | with_reducible assumption | with_reducible apply State.Follows.countBad

end Sys2Proof.Machine
end

