-- ==== Sys2Proof/Laws/KeepClient.lean ====
section
/-! SUPPORT. What the operations of Machine/Client.lean keep. -/

namespace Sys2Proof.Machine

theorem State.Follows.modRse {z : State} (f : Rse → Rse) (s : State) (hz : z.Follows s) : z.Follows (State.modRse f s) := by
  unfold State.modRse
  repeat' first
    | with_reducible assumption | with_reducible apply State.Follows.mk' | exact Nat.le_refl _ | rfl

theorem State.Follows.lineError {z : State} (n : Nat) (s : State) (hz : z.Follows s) : z.Follows (Sys2Proof.Machine.State.lineError n s) := by
  unfold Sys2Proof.Machine.State.lineError
  try dsimp only
  repeat' first
    | with_reducible assumption
    | with_reducible apply State.Follows.readBad
    | with_reducible apply State.Follows.ite
    | split

theorem State.Follows.touch {z : State} (n : Nat) (dirty : Bool) (s : State) (hz : z.Follows s) :
    z.Follows (State.touch n dirty s) := by
  unfold State.touch
  repeat' first
    | with_reducible assumption | with_reducible apply State.Follows.modRse

theorem State.Follows.putEntry {z : State} (n : Nat) (bs : List Byte) (s : State) (hz : z.Follows s) :
    z.Follows (State.putEntry n bs s) := by
  unfold State.putEntry
  repeat' first
    | with_reducible assumption | with_reducible apply State.Follows.dramWrite
    | with_reducible apply State.Follows.touch

theorem State.Follows.lookupEntry {z : State} (k : ClientKey) (s : State) (hz : z.Follows s) :
    z.Follows (State.lookupEntry k s).2 := by
  unfold State.lookupEntry
  repeat' first
    | with_reducible assumption
    | with_reducible apply State.Follows.lineError
    | with_reducible apply State.Follows.foldlSnd
    | with_reducible apply State.Follows.foldlFst
    | with_reducible apply State.Follows.count
    | with_reducible apply State.Follows.inc
    | with_reducible apply State.Follows.touch
    | with_reducible apply State.Follows.ite
    | with_reducible apply State.Follows.foldl
    | (intro _ _ _; try dsimp only)

theorem State.Follows.allocEntry {z : State} (k : ClientKey) (addr : Nat) (s : State) (hz : z.Follows s) :
    z.Follows (State.allocEntry k addr s).2 := by
  unfold State.allocEntry
  repeat' first
    | with_reducible assumption | with_reducible apply State.Follows.count
    | with_reducible apply State.Follows.evt | with_reducible apply State.Follows.inc
    | with_reducible apply State.Follows.putEntry | split

theorem State.Follows.entryCount {z : State} (k : ClientKey) (n at_ : Nat) (s : State) (hz : z.Follows s) :
    z.Follows (State.entryCount k n at_ s) := by
  unfold State.entryCount
  repeat' first
    | with_reducible assumption
    | with_reducible apply State.Follows.lineError
    | with_reducible apply State.Follows.putEntry
    | with_reducible apply State.Follows.ite

theorem State.Follows.takeToken {z : State} (n : Nat) (s : State) (hz : z.Follows s) : z.Follows
    (Sys2Proof.Machine.State.takeToken n s).2 := by
  unfold Sys2Proof.Machine.State.takeToken
  repeat' first
    | with_reducible assumption
    | with_reducible apply State.Follows.putEntry

theorem State.Follows.ageEntry {z : State} (n : Nat) (s : State) (hz : z.Follows s) : z.Follows
    (Sys2Proof.Machine.State.ageEntry n s) := by
  unfold Sys2Proof.Machine.State.ageEntry
  repeat' first
    | with_reducible assumption
    | with_reducible apply State.Follows.inc
    | with_reducible apply State.Follows.incBy
    | with_reducible apply State.Follows.putEntry
    | with_reducible apply State.Follows.ite

theorem State.Follows.dropGrants {z : State} (n : Nat) (s : State) (hz : z.Follows s) :
    z.Follows (State.dropGrants n s) := by
  unfold State.dropGrants
  repeat' first
    | with_reducible assumption | with_reducible apply State.Follows.mk' | exact Nat.le_refl _ | rfl

theorem State.Follows.showSyncGranted {z : State} (s : State) (hz : z.Follows s) : z.Follows (State.showSyncGranted s) := by
  unfold State.showSyncGranted
  repeat' first
    | with_reducible assumption | with_reducible apply State.Follows.set
    | with_reducible apply State.Follows.foldl | (intro _ _ _; try dsimp only)

theorem State.Follows.setMbxData {z : State} (bs : List Byte) (s : State) (hz : z.Follows s) :
    z.Follows (State.setMbxData bs s) := by
  unfold State.setMbxData
  repeat' first
    | with_reducible assumption | with_reducible apply State.Follows.set
    | with_reducible apply State.Follows.foldl | (intro _ _ _; try dsimp only)

theorem State.Follows.mbxEnd {z : State} (result index : Nat) (s : State) (hz : z.Follows s) :
    z.Follows (State.mbxEnd result index s) := by
  unfold State.mbxEnd
  repeat' first
    | with_reducible assumption | with_reducible apply State.Follows.count
    | with_reducible apply State.Follows.evt | with_reducible apply State.Follows.set

theorem State.Follows.mbxShow {z : State} (result n : Nat) (s : State) (hz : z.Follows s) :
    z.Follows (State.mbxShow result n s) := by
  unfold State.mbxShow
  repeat' first
    | with_reducible assumption | with_reducible apply State.Follows.mbxEnd
    | with_reducible apply State.Follows.setMbxData

theorem State.Follows.mbxPoisoned {z : State} (n : Nat) (s : State) (hz : z.Follows s) : z.Follows (Sys2Proof.Machine.State.mbxPoisoned n s) := by
  unfold Sys2Proof.Machine.State.mbxPoisoned
  try dsimp only
  repeat' first
    | with_reducible assumption
    | with_reducible apply State.Follows.lineError
    | with_reducible apply State.Follows.mbxEnd
    | with_reducible apply State.Follows.ite

theorem Follow.execMbxRead {z : State} (s : State) (hz : z.Follows s) : Follow z (Sys2Proof.Machine.execMbxRead s) := by
  unfold Sys2Proof.Machine.execMbxRead
  repeat' first
    | with_reducible assumption
    | with_reducible apply State.Follows.mbxPoisoned
    | with_reducible apply State.Follows.mbxEnd
    | with_reducible apply State.Follows.mbxShow
    | with_reducible apply State.Follows.touch
    | with_reducible apply Follow.ite
    | with_reducible apply Follow.next

theorem Follow.execMbxWrite {z : State} (s : State) (hz : z.Follows s) : Follow z (Sys2Proof.Machine.execMbxWrite s) := by
  unfold Sys2Proof.Machine.execMbxWrite
  try dsimp only
  repeat' first
    | with_reducible assumption
    | with_reducible apply State.Follows.mbxPoisoned
    | with_reducible apply Follow.ite
    | with_reducible apply State.Follows.mbxEnd
    | with_reducible apply State.Follows.mbxShow
    | with_reducible apply State.Follows.putEntry
    | with_reducible apply State.Follows.touch
    | with_reducible apply Follow.next
    | split

theorem Follow.execMbxInsert {z : State} (s : State) (hz : z.Follows s) : Follow z (Sys2Proof.Machine.execMbxInsert s) := by
  unfold Sys2Proof.Machine.execMbxInsert
  try dsimp only
  repeat' first
    | with_reducible assumption
    | with_reducible apply State.Follows.mbxPoisoned
    | with_reducible apply Follow.ite
    | with_reducible apply State.Follows.mbxEnd
    | with_reducible apply State.Follows.mbxShow
    | with_reducible apply State.Follows.putEntry
    | with_reducible apply State.Follows.touch
    | with_reducible apply Follow.next
    | split

theorem Follow.execMbxDelete {z : State} (s : State) (hz : z.Follows s) : Follow z (Sys2Proof.Machine.execMbxDelete s) := by
  unfold Sys2Proof.Machine.execMbxDelete
  repeat' first
    | with_reducible assumption
    | with_reducible apply State.Follows.mbxPoisoned
    | with_reducible apply State.Follows.dropGrants
    | with_reducible apply State.Follows.mbxEnd
    | with_reducible apply State.Follows.mbxShow
    | with_reducible apply State.Follows.putEntry
    | with_reducible apply State.Follows.showSyncGranted
    | with_reducible apply State.Follows.touch
    | with_reducible apply Follow.ite
    | with_reducible apply Follow.next

theorem Follow.execMbxLookup {z : State} (s : State) (hz : z.Follows s) : Follow z (Sys2Proof.Machine.execMbxLookup s) := by
  unfold Sys2Proof.Machine.execMbxLookup
  repeat' first
    | with_reducible assumption
    | with_reducible apply State.Follows.mbxPoisoned
    | with_reducible apply Follow.ite
    | with_reducible apply State.Follows.mbxEnd
    | with_reducible apply State.Follows.mbxShow
    | with_reducible apply State.Follows.touch
    | with_reducible apply Follow.next
    | split

theorem Follow.execMbxBadOp {z : State} (s : State) (hz : z.Follows s) : Follow z (Sys2Proof.Machine.execMbxBadOp s) := by
  unfold Sys2Proof.Machine.execMbxBadOp
  repeat' first
    | with_reducible assumption | with_reducible apply State.Follows.mbxEnd | with_reducible apply Follow.next

theorem Follow.execAgingVisit {z : State} (entry : BitVec 20) (s : State) (hz : z.Follows s) :
    Follow z (Sys2Proof.Machine.execAgingVisit entry s) := by
  unfold Sys2Proof.Machine.execAgingVisit
  repeat' first
    | with_reducible assumption
    | with_reducible apply State.Follows.lineError
    | with_reducible apply State.Follows.ageEntry
    | with_reducible apply State.Follows.touch
    | with_reducible apply Follow.ite
    | with_reducible apply Follow.next

theorem Follow.execCtFlush {z : State} (s : State) (hz : z.Follows s) : Follow z (Sys2Proof.Machine.execCtFlush s) := by
  unfold Sys2Proof.Machine.execCtFlush
  repeat' first
    | with_reducible assumption | with_reducible apply State.Follows.modRse
    | with_reducible apply State.Follows.set | with_reducible apply Follow.next

theorem Follow.execFlushDone {z : State} (s : State) (hz : z.Follows s) : Follow z (Sys2Proof.Machine.execFlushDone s) := by
  unfold Sys2Proof.Machine.execFlushDone
  repeat' first
    | with_reducible assumption | with_reducible apply State.Follows.evt
    | with_reducible apply State.Follows.set | with_reducible apply Follow.ite | with_reducible apply Follow.next

theorem State.Follows.tableWrite {z : State} (a : Nat) (bs : List Byte) (s : State) (h : z.Follows s) :
    z.Follows (State.tableWrite a bs s) := by
  unfold State.tableWrite
  exact State.Follows.elim _ h fun n => State.Follows.ite (State.Follows.touch _ _ _ (h.dramWrite _ _))
    (State.Follows.evt _ _ (State.Follows.set _ _ (State.Follows.inc _ _ (State.Follows.lineError _ _ h))))

end Sys2Proof.Machine
end

