-- ==== Sys2Proof/Laws/KeepSpi.lean ====
section
/-! SUPPORT. What the operations of Machine/Spi.lean keep. -/

namespace Sys2Proof.Machine

theorem State.Follows.modGna {z : State} (f : Gna → Gna) (s : State) (hz : z.Follows s) : z.Follows (State.modGna f s) := by
  unfold State.modGna
  repeat' first
    | with_reducible assumption | with_reducible apply State.Follows.mk' | exact Nat.le_refl _ | rfl

theorem State.Follows.modFe {z : State} (n : Nat) (f : GnaFe → GnaFe) (s : State) (hz : z.Follows s) :
    z.Follows (State.modFe n f s) := by
  unfold State.modFe
  repeat' first
    | with_reducible assumption | with_reducible apply State.Follows.modGna

theorem State.Follows.spiNext {z : State} (s : State) (hz : z.Follows s) : z.Follows (Sys2Proof.Machine.State.spiNext s) := by
  unfold Sys2Proof.Machine.State.spiNext
  repeat' first
    | with_reducible assumption
    | with_reducible apply State.Follows.emit
    | split
    | with_reducible apply State.Follows.mk'
    | rfl
    | exact Nat.le_refl _

theorem State.Follows.spiKick {z : State} (s : State) (hz : z.Follows s) : z.Follows (State.spiKick s) := by
  unfold State.spiKick
  repeat' first
    | with_reducible assumption | with_reducible apply State.Follows.spiNext
    | with_reducible apply State.Follows.ite

theorem State.Follows.spiDac {z : State} (cs : Nat) (bs : List Byte) (s : State) (hz : z.Follows s) :
    z.Follows (State.spiDac cs bs s) := by
  unfold State.spiDac
  repeat' first
    | with_reducible assumption | with_reducible apply State.Follows.spiKick
    | with_reducible apply State.Follows.mk' | exact Nat.le_refl _ | rfl

end Sys2Proof.Machine
end

