-- ==== Sys2Proof/Laws/KeepTdc.lean ====
section
/-! SUPPORT. What the operations of Machine/Tdc.lean keep. -/

namespace Sys2Proof.Machine

theorem State.Follows.modTdc {z : State} (f : Tdc → Tdc) (s : State) (hz : z.Follows s) : z.Follows (State.modTdc f s) := by
  unfold State.modTdc
  repeat' first
    | with_reducible assumption | with_reducible apply State.Follows.mk' | exact Nat.le_refl _ | rfl

theorem State.Follows.setTdcCh {z : State} (n : Nat) (c : TdcCh) (s : State) (hz : z.Follows s) :
    z.Follows (State.setTdcCh n c s) := by
  unfold State.setTdcCh
  repeat' first
    | with_reducible assumption | with_reducible apply State.Follows.modTdc
    | with_reducible apply State.Follows.set | with_reducible apply State.Follows.setB

theorem State.Follows.tdcQueue {z : State} (n : Nat) (r : TdcRec) (s : State) (hz : z.Follows s) :
    z.Follows (State.tdcQueue n r s) := by
  unfold State.tdcQueue
  repeat' first
    | with_reducible assumption | with_reducible apply State.Follows.evt
    | with_reducible apply State.Follows.inc | with_reducible apply State.Follows.setTdcCh
    | with_reducible apply State.Follows.ite

theorem State.Follows.tdcAbort {z : State} (n : Nat) (s : State) (hz : z.Follows s) : z.Follows (State.tdcAbort n s) := by
  unfold State.tdcAbort
  repeat' first
    | with_reducible assumption | with_reducible apply State.Follows.setTdcCh
    | with_reducible apply State.Follows.tdcQueue | split

theorem State.Follows.tdcAbortAll {z : State} (s : State) (hz : z.Follows s) : z.Follows (State.tdcAbortAll s) := by
  unfold State.tdcAbortAll
  repeat' first
    | with_reducible assumption | with_reducible apply State.Follows.tdcAbort
    | with_reducible apply State.Follows.foldl | (intro _ _ _; try dsimp only)

theorem State.Follows.tdcNoTbase {z : State} (s : State) (hz : z.Follows s) : z.Follows
    (Sys2Proof.Machine.State.tdcNoTbase s) := by
  unfold Sys2Proof.Machine.State.tdcNoTbase
  repeat' first
    | with_reducible assumption
    | with_reducible apply State.Follows.modTdc
    | with_reducible apply State.Follows.set
    | with_reducible apply State.Follows.setClock
    | with_reducible apply State.Follows.tdcAbortAll

theorem State.Follows.tdcLoss {z : State} (s : State) (hz : z.Follows s) : z.Follows (State.tdcLoss s) := by
  unfold State.tdcLoss
  repeat' first
    | with_reducible assumption | with_reducible apply State.Follows.evt
    | with_reducible apply State.Follows.file | with_reducible apply State.Follows.inc
    | with_reducible apply State.Follows.modTdc | with_reducible apply State.Follows.set
    | with_reducible apply State.Follows.tdcNoTbase

theorem State.Follows.tdcReady {z : State} (s : State) (hz : z.Follows s) : z.Follows
    (Sys2Proof.Machine.State.tdcReady s) := by
  unfold Sys2Proof.Machine.State.tdcReady
  repeat' first
    | with_reducible assumption
    | with_reducible apply State.Follows.evt
    | with_reducible apply State.Follows.modTdc
    | with_reducible apply State.Follows.set
    | with_reducible apply State.Follows.setClock
    | with_reducible apply State.Follows.setReplica
    | with_reducible apply State.Follows.ite
    | with_reducible apply State.Follows.foldl
    | (intro _ _ _; try dsimp only)

theorem State.Follows.tdcTake {z : State} (n : Nat) (raw : Int) (s : State) (hz : z.Follows s) : z.Follows
    (Sys2Proof.Machine.State.tdcTake n raw s).2 := by
  unfold Sys2Proof.Machine.State.tdcTake
  try dsimp only
  repeat' first
    | with_reducible assumption
    | with_reducible apply State.Follows.inc
    | with_reducible apply State.Follows.setTdcCh
    | split

theorem State.Follows.tdcDivide {z : State} (n : Nat) (u : ActiveEdge) (s : State) (hz : z.Follows s) : z.Follows
    (Sys2Proof.Machine.State.tdcDivide n u s).2 := by
  unfold Sys2Proof.Machine.State.tdcDivide
  repeat' first
    | with_reducible assumption
    | with_reducible apply State.Follows.incBy
    | with_reducible apply State.Follows.setTdcCh
    | split

theorem State.Follows.tdcStop {z : State} (n : Nat) (st : Stamp) (s : State) (hz : z.Follows s) : z.Follows
    (Sys2Proof.Machine.State.tdcStop n st s) := by
  unfold Sys2Proof.Machine.State.tdcStop
  repeat' first
    | with_reducible assumption
    | with_reducible apply State.Follows.setTdcCh
    | with_reducible apply State.Follows.tdcQueue
    | split

theorem State.Follows.tdcStart {z : State} (n : Nat) (st : Stamp) (s : State) (hz : z.Follows s) : z.Follows
    (Sys2Proof.Machine.State.tdcStart n st s) := by
  unfold Sys2Proof.Machine.State.tdcStart
  repeat' first
    | with_reducible assumption
    | with_reducible apply State.Follows.inc
    | with_reducible apply State.Follows.setTdcCh
    | split

theorem State.Follows.tdcServeStops {z : State} (n : Nat) (st : Stamp) (s : State) (hz : z.Follows s) :
    z.Follows (State.tdcServeStops n st s) := by
  unfold State.tdcServeStops
  repeat' first
    | with_reducible assumption | with_reducible apply State.Follows.tdcStop
    | with_reducible apply State.Follows.ite | with_reducible apply State.Follows.foldl | (intro _ _ _; try dsimp only)

theorem State.Follows.tdcUse {z : State} (n : Nat) (st : Stamp) (s : State) (hz : z.Follows s) :
    z.Follows (State.tdcUse n st s) := by
  unfold State.tdcUse
  try dsimp only
  repeat' first
    | with_reducible assumption | with_reducible apply State.Follows.tdcQueue
    | with_reducible apply State.Follows.tdcServeStops | with_reducible apply State.Follows.tdcStart | split

theorem State.Follows.tdcChCommit {z : State} (n : Nat) (s : State) (hz : z.Follows s) :
    z.Follows (State.tdcChCommit n s) := by
  unfold State.tdcChCommit
  repeat' first
    | with_reducible assumption | with_reducible apply State.Follows.takeGroup
    | with_reducible apply State.Follows.tdcAbort | (intro _ _ _ _; try dsimp only)

theorem State.Follows.tdcAges {z : State} (s : State) (hz : z.Follows s) : z.Follows (State.tdcAges s) := by
  unfold State.tdcAges
  repeat' first
    | with_reducible assumption | with_reducible apply State.Follows.incSat
    | with_reducible apply State.Follows.foldl | (intro _ _ _; try dsimp only)

theorem State.Follows.tdcOwnerChange {z : State} (n owner : Nat) (s : State) (hz : z.Follows s) :
    z.Follows (State.tdcOwnerChange n owner s) := by
  unfold State.tdcOwnerChange
  repeat' first
    | with_reducible assumption | with_reducible apply State.Follows.evt
    | with_reducible apply State.Follows.set | with_reducible apply State.Follows.tdcAbort
    | with_reducible apply State.Follows.ite

theorem Follow.execTbCommit {z : State} (s : State) (hz : z.Follows s) : Follow z (Sys2Proof.Machine.execTbCommit s) := by
  unfold Sys2Proof.Machine.execTbCommit
  repeat' first
    | with_reducible assumption | with_reducible apply State.Follows.commit | with_reducible apply Follow.next

theorem Follow.execTdcChCommit {z : State} (n : Fin 32) (s : State) (hz : z.Follows s) :
    Follow z (Sys2Proof.Machine.execTdcChCommit n s) := by
  unfold Sys2Proof.Machine.execTdcChCommit
  repeat' first
    | with_reducible assumption | with_reducible apply State.Follows.commit | with_reducible apply Follow.next

theorem Follow.execTdcFlush {z : State} (n : Fin 32) (s : State) (hz : z.Follows s) :
    Follow z (Sys2Proof.Machine.execTdcFlush n s) := by
  unfold Sys2Proof.Machine.execTdcFlush
  repeat' first
    | with_reducible assumption | with_reducible apply State.Follows.setTdcCh | with_reducible apply Follow.next

theorem State.Follows.tdcShow {z : State} (n : Nat) (r : TdcRec) (s : State) (hz : z.Follows s) :
    z.Follows (State.tdcShow n r s) := by
  unfold State.tdcShow
  repeat' first
    | with_reducible assumption | with_reducible apply State.Follows.set
    | with_reducible apply State.Follows.setB | with_reducible apply State.Follows.ite

theorem Follow.execTdcResPop {z : State} (n : Fin 32) (s : State) (hz : z.Follows s) :
    Follow z (Sys2Proof.Machine.execTdcResPop n s) := by
  unfold Sys2Proof.Machine.execTdcResPop
  repeat' first
    | with_reducible assumption | with_reducible apply State.Follows.emit
    | with_reducible apply State.Follows.set | with_reducible apply State.Follows.setTdcCh
    | with_reducible apply State.Follows.tdcShow | with_reducible apply Follow.next | split

theorem Follow.execTdcLockTimeout {z : State} (s : State) (hz : z.Follows s) :
    Follow z (Sys2Proof.Machine.execTdcLockTimeout s) := by
  unfold Sys2Proof.Machine.execTdcLockTimeout
  repeat' first
    | with_reducible assumption | with_reducible apply State.Follows.file
    | with_reducible apply State.Follows.tdcNoTbase | with_reducible apply Follow.ite | with_reducible apply Follow.next

theorem State.Follows.spareCalDone {z : State} (hist : List Nat) (diff : Nat) (s : State) (hz : z.Follows s) :
    z.Follows (Sys2Proof.Machine.State.spareCalDone hist diff s) := by
  unfold Sys2Proof.Machine.State.spareCalDone
  repeat' first
    | with_reducible assumption
    | with_reducible apply State.Follows.bump
    | with_reducible apply State.Follows.evt
    | with_reducible apply State.Follows.file
    | with_reducible apply State.Follows.inc
    | with_reducible apply State.Follows.modTdc
    | with_reducible apply State.Follows.set
    | with_reducible apply State.Follows.ite

theorem Follow.execIntervalTimeout {z : State} (n : Fin 32) (s : State) (hz : z.Follows s) :
    Follow z (Sys2Proof.Machine.execIntervalTimeout n s) := by
  unfold Sys2Proof.Machine.execIntervalTimeout
  repeat' first
    | with_reducible assumption | with_reducible apply State.Follows.evt
    | with_reducible apply State.Follows.inc | with_reducible apply State.Follows.setTdcCh
    | with_reducible apply State.Follows.tdcQueue | with_reducible apply Follow.next | split

end Sys2Proof.Machine
end

