-- ==== Sys2Proof/Laws/KeepRef.lean ====
section
/-! SUPPORT. What the operations of Machine/Ref.lean keep. -/

namespace Sys2Proof.Machine

theorem State.Follows.modSlot {z : State} (n : Nat) (f : RefSlot → RefSlot) (s : State) (hz : z.Follows s) :
    z.Follows (State.modSlot n f s) := by
  unfold State.modSlot
  repeat' first
    | with_reducible assumption | with_reducible apply State.Follows.mk' | exact Nat.le_refl _ | rfl

theorem State.Follows.showWtr {z : State} (s : State) (hz : z.Follows s) : z.Follows (State.showWtr s) := by
  unfold State.showWtr
  repeat' first
    | with_reducible assumption | with_reducible apply State.Follows.set

theorem State.Follows.wtrDone {z : State} (n : Nat) (s : State) (hz : z.Follows s) : z.Follows (State.wtrDone n s) := by
  unfold State.wtrDone
  repeat' first
    | with_reducible assumption | with_reducible apply State.Follows.showWtr
    | with_reducible apply State.Follows.mk' | exact Nat.le_refl _ | rfl

theorem State.Follows.wtrStart {z : State} (n : Nat) (s : State) (hz : z.Follows s) : z.Follows (State.wtrStart n s) := by
  unfold State.wtrStart
  repeat' first
    | with_reducible assumption | with_reducible apply State.Follows.showWtr
    | with_reducible apply State.Follows.wtrDone | with_reducible apply State.Follows.ite
    | with_reducible apply State.Follows.mk' | exact Nat.le_refl _ | rfl

theorem State.Follows.wtrStop {z : State} (n : Nat) (s : State) (hz : z.Follows s) : z.Follows (State.wtrStop n s) := by
  unfold State.wtrStop
  repeat' first
    | with_reducible assumption | with_reducible apply State.Follows.showWtr
    | with_reducible apply State.Follows.mk' | exact Nat.le_refl _ | rfl

theorem State.Follows.setSlotState {z : State} (n st : Nat) (s : State) (hz : z.Follows s) :
    z.Follows (State.setSlotState n st s) := by
  unfold State.setSlotState
  repeat' first
    | with_reducible assumption | with_reducible apply State.Follows.evtBit
    | with_reducible apply State.Follows.set | with_reducible apply State.Follows.wtrStart
    | with_reducible apply State.Follows.wtrStop | with_reducible apply State.Follows.ite

theorem State.Follows.setPresent {z : State} (n : Nat) (b : Bool) (s : State) (hz : z.Follows s) :
    z.Follows (State.setPresent n b s) := by
  unfold State.setPresent
  repeat' first
    | with_reducible assumption | with_reducible apply State.Follows.set
    | with_reducible apply State.Follows.setB

theorem State.Follows.slotQualify {z : State} (n : Nat) (s : State) (hz : z.Follows s) : z.Follows
    (Sys2Proof.Machine.State.slotQualify n s) := by
  unfold Sys2Proof.Machine.State.slotQualify
  repeat' first
    | with_reducible assumption
    | with_reducible apply State.Follows.modSlot
    | with_reducible apply State.Follows.setSlotState

theorem State.Follows.causeEvents {z : State} (n : Nat) (causes : List Nat) (s : State) (hz : z.Follows s) :
    z.Follows (State.causeEvents n causes s) := by
  unfold State.causeEvents
  repeat' first
    | with_reducible assumption | with_reducible apply State.Follows.evt
    | with_reducible apply State.Follows.foldl | (intro _ _ _; try dsimp only) | split

theorem State.Follows.slotCauses {z : State} (n : Nat) (causes : List Nat) (s : State) (hz : z.Follows s) :
    z.Follows (State.slotCauses n causes s) := by
  unfold State.slotCauses
  repeat' first
    | with_reducible assumption | with_reducible apply State.Follows.causeEvents
    | with_reducible apply State.Follows.evt | with_reducible apply State.Follows.modSlot
    | with_reducible apply State.Follows.set | with_reducible apply State.Follows.setSlotState | split

theorem State.Follows.slotTryQualified {z : State} (n : Nat) (s : State) (hz : z.Follows s) :
    z.Follows (State.slotTryQualified n s) := by
  unfold State.slotTryQualified
  repeat' first
    | with_reducible assumption | with_reducible apply State.Follows.evt
    | with_reducible apply State.Follows.modSlot
    | with_reducible apply State.Follows.setSlotState | with_reducible apply State.Follows.ite

theorem State.Follows.slotSource {z : State} (n : Nat) (causes : List Nat) (s : State) (hz : z.Follows s) :
    z.Follows (State.slotSource n causes s) := by
  unfold State.slotSource
  repeat' first
    | with_reducible assumption | with_reducible apply State.Follows.modSlot
    | with_reducible apply State.Follows.slotCauses | with_reducible apply State.Follows.slotTryQualified
    | with_reducible apply State.Follows.ite

theorem State.Follows.sourceCheck {z : State} (n : Nat) (causes : List Nat) (s : State) (hz : z.Follows s) :
    z.Follows (State.sourceCheck n causes s) := by
  unfold State.sourceCheck
  repeat' first
    | with_reducible assumption | with_reducible apply State.Follows.modSlot
    | with_reducible apply State.Follows.slotSource | with_reducible apply State.Follows.ite

theorem State.Follows.showD {z : State} (n : Nat) (d : Int) (s : State) (hz : z.Follows s) :
    z.Follows (State.showD n d s) := by
  unfold State.showD
  repeat' first
    | with_reducible assumption | with_reducible apply State.Follows.setSpan

theorem State.Follows.showFit {z : State} (n : Nat) (s : State) (hz : z.Follows s) : z.Follows (State.showFit n s).1 := by
  unfold State.showFit
  try dsimp only
  repeat' first
    | with_reducible assumption | with_reducible apply State.Follows.bump
    | with_reducible apply State.Follows.set | with_reducible apply State.Follows.setI2 | split

theorem State.Follows.slotObserve {z : State} (n : Nat) (t d : Int) (meas refb : Nat) (s : State) (hz : z.Follows s) :
    z.Follows (Sys2Proof.Machine.State.slotObserve n t d meas refb s) := by
  unfold Sys2Proof.Machine.State.slotObserve
  try dsimp only
  repeat' first
    | with_reducible assumption
    | with_reducible apply State.Follows.evt
    | with_reducible apply State.Follows.inc
    | with_reducible apply State.Follows.incBy
    | with_reducible apply State.Follows.modSlot
    | with_reducible apply State.Follows.set
    | with_reducible apply State.Follows.showD
    | with_reducible apply State.Follows.showFit
    | with_reducible apply State.Follows.slotCauses
    | with_reducible apply State.Follows.slotQualify
    | with_reducible apply State.Follows.slotTryQualified
    | split

theorem State.Follows.slotMiss {z : State} (n : Nat) (s : State) (hz : z.Follows s) : z.Follows (State.slotMiss n s) := by
  unfold State.slotMiss
  repeat' first
    | with_reducible assumption | with_reducible apply State.Follows.evt
    | with_reducible apply State.Follows.inc | with_reducible apply State.Follows.modSlot
    | with_reducible apply State.Follows.slotCauses | with_reducible apply State.Follows.ite

theorem State.Follows.slotGlitch {z : State} (n : Nat) (t : Int) (s : State) (hz : z.Follows s) :
    z.Follows (State.slotGlitch n t s) := by
  unfold State.slotGlitch
  repeat' first
    | with_reducible assumption | with_reducible apply State.Follows.evt
    | with_reducible apply State.Follows.inc | with_reducible apply State.Follows.modSlot
    | with_reducible apply State.Follows.slotCauses | with_reducible apply State.Follows.ite

theorem State.Follows.edgeObserve {z : State} (n : Nat) (sec t : Int) (s : State) (hz : z.Follows s) :
    z.Follows (State.edgeObserve n sec t s) := by
  unfold State.edgeObserve
  repeat' first
    | with_reducible assumption | with_reducible apply State.Follows.slotObserve

theorem State.Follows.todError {z : State} (n : Nat) (s : State) (hz : z.Follows s) : z.Follows (State.todError n s) := by
  unfold State.todError
  repeat' first
    | with_reducible assumption | with_reducible apply State.Follows.evt
    | with_reducible apply State.Follows.inc | with_reducible apply State.Follows.modSlot
    | with_reducible apply State.Follows.set | with_reducible apply State.Follows.slotCauses
    | with_reducible apply State.Follows.ite

theorem State.Follows.todGood {z : State} (n : Nat) (s : State) (hz : z.Follows s) : z.Follows (State.todGood n s) := by
  unfold State.todGood
  repeat' first
    | with_reducible assumption | with_reducible apply State.Follows.modSlot
    | with_reducible apply State.Follows.set | with_reducible apply State.Follows.ite

theorem State.Follows.todMessage {z : State} (n : Nat) (m : List Byte) (s : State) (hz : z.Follows s) : z.Follows
    (Sys2Proof.Machine.State.todMessage n m s) := by
  unfold Sys2Proof.Machine.State.todMessage
  try dsimp only
  repeat' first
    | with_reducible assumption
    | with_reducible apply State.Follows.edgeObserve
    | with_reducible apply State.Follows.modSlot
    | with_reducible apply State.Follows.slotTryQualified
    | with_reducible apply State.Follows.todError
    | with_reducible apply State.Follows.todGood
    | split

theorem State.Follows.refEdge {z : State} (n : Nat) (t : Int) (s : State) (hz : z.Follows s) : z.Follows
    (Sys2Proof.Machine.State.refEdge n t s) := by
  unfold Sys2Proof.Machine.State.refEdge
  try dsimp only
  repeat' first
    | with_reducible assumption
    | with_reducible apply State.Follows.bump
    | with_reducible apply State.Follows.edgeObserve
    | with_reducible apply State.Follows.modSlot
    | with_reducible apply State.Follows.slotGlitch
    | with_reducible apply State.Follows.slotObserve
    | with_reducible apply State.Follows.slotQualify
    | with_reducible apply State.Follows.todError
    | split

theorem State.Follows.refStep {z : State} (d : Int) (s : State) (hz : z.Follows s) : z.Follows (State.refStep d s) := by
  unfold State.refStep
  repeat' first
    | with_reducible assumption | with_reducible apply State.Follows.mk' | exact Nat.le_refl _ | rfl

theorem State.Follows.refNoTdc {z : State} (s : State) (hz : z.Follows s) : z.Follows (State.refNoTdc s) := by
  unfold State.refNoTdc
  repeat' first
    | with_reducible assumption | with_reducible apply State.Follows.slotCauses
    | with_reducible apply State.Follows.foldl | (intro _ _ _; try dsimp only)

theorem State.Follows.slotReports {z : State} (s : State) (hz : z.Follows s) : z.Follows (State.slotReports s).2 := by
  unfold State.slotReports
  repeat' first
    | with_reducible assumption | with_reducible apply State.Follows.modSlot
    | with_reducible apply State.Follows.foldl | (intro _ _ _; try dsimp only)

theorem State.Follows.slotOwner {z : State} (n : Nat) (s : State) (hz : z.Follows s) : z.Follows (State.slotOwner n s) := by
  unfold State.slotOwner
  repeat' first
    | with_reducible assumption | with_reducible apply State.Follows.tdcOwnerChange
    | with_reducible apply State.Follows.ite

theorem State.Follows.slotRebase {z : State} (n : Nat) (delta : Int) (s : State) (hz : z.Follows s) :
    z.Follows (State.slotRebase n delta s) := by
  unfold State.slotRebase
  repeat' first
    | with_reducible assumption | with_reducible apply State.Follows.evt
    | with_reducible apply State.Follows.modSlot | with_reducible apply State.Follows.ite

theorem State.Follows.slotAfter {z : State} (n : Nat) (old new : State) (hz : z.Follows new) :
    z.Follows (Sys2Proof.Machine.slotAfter n old new) := by
  unfold Sys2Proof.Machine.slotAfter
  repeat' first
    | with_reducible assumption | with_reducible apply State.Follows.modSlot
    | with_reducible apply State.Follows.set | with_reducible apply State.Follows.setSlotState
    | with_reducible apply State.Follows.slotOwner | with_reducible apply State.Follows.slotRebase
    | with_reducible apply State.Follows.ite

theorem State.Follows.slotRestart {z : State} (n : Nat) (s : State) (hz : z.Follows s) : z.Follows
    (Sys2Proof.Machine.State.slotRestart n s) := by
  unfold Sys2Proof.Machine.State.slotRestart
  repeat' first
    | with_reducible assumption
    | with_reducible apply State.Follows.modSlot
    | with_reducible apply State.Follows.set
    | with_reducible apply State.Follows.slotCauses
    | with_reducible apply State.Follows.slotQualify
    | with_reducible apply State.Follows.ite

theorem State.Follows.refSecond {z : State} (s : State) (hz : z.Follows s) : z.Follows (State.refSecond s) := by
  unfold State.refSecond
  repeat' first
    | with_reducible assumption | with_reducible apply State.Follows.slotRestart
    | with_reducible apply State.Follows.slotTryQualified | with_reducible apply State.Follows.takeGroup
    | with_reducible apply State.Follows.slotAfter | with_reducible apply State.Follows.foldl
    | (intro _ _ _; try dsimp only)

theorem State.Follows.holdoffEnd {z : State} (n : Nat) (s : State) (hz : z.Follows s) :
    z.Follows (State.holdoffEnd n s) := by
  unfold State.holdoffEnd
  repeat' first
    | with_reducible assumption | with_reducible apply State.Follows.setSlotState
    | with_reducible apply State.Follows.ite

theorem State.Follows.grefFlags {z : State} (spoof jam : Bool) (s : State) (hz : z.Follows s) :
    z.Follows (State.grefFlags spoof jam s) := by
  unfold State.grefFlags
  repeat' first
    | with_reducible assumption | with_reducible apply State.Follows.holdoffEnd
    | with_reducible apply State.Follows.slotSource | with_reducible apply State.Follows.ite

theorem Follow.execRefGate {z : State} (n : Fin 8) (count : BitVec 32) (s : State) (hz : z.Follows s) :
    Follow z (Sys2Proof.Machine.execRefGate n count s) := by
  unfold Sys2Proof.Machine.execRefGate
  repeat' first
    | with_reducible assumption | with_reducible apply State.Follows.evt
    | with_reducible apply State.Follows.modSlot | with_reducible apply State.Follows.setPresent
    | with_reducible apply State.Follows.slotCauses | with_reducible apply Follow.ite | with_reducible apply Follow.next
    | with_reducible apply State.Follows.ite

theorem Follow.execSlowAbsent {z : State} (n : Fin 8) (s : State) (hz : z.Follows s) :
    Follow z (Sys2Proof.Machine.execSlowAbsent n s) := by
  unfold Sys2Proof.Machine.execSlowAbsent
  repeat' first
    | with_reducible assumption | with_reducible apply State.Follows.setPresent
    | with_reducible apply State.Follows.slotCauses | with_reducible apply Follow.ite | with_reducible apply Follow.next

theorem Follow.execMissWindowClose {z : State} (n : Fin 8) (s : State) (hz : z.Follows s) :
    Follow z (Sys2Proof.Machine.execMissWindowClose n s) := by
  unfold Sys2Proof.Machine.execMissWindowClose
  repeat' first
    | with_reducible assumption | with_reducible apply State.Follows.modSlot
    | with_reducible apply State.Follows.slotMiss | with_reducible apply Follow.ite | with_reducible apply Follow.next

theorem Follow.execTodMessage {z : State} (n : Fin 8) (msg : Option (List Byte)) (s : State) (hz : z.Follows s) :
    Follow z (Sys2Proof.Machine.execTodMessage n msg s) := by
  unfold Sys2Proof.Machine.execTodMessage
  repeat' first
    | with_reducible assumption
    | with_reducible apply State.Follows.modSlot
    | with_reducible apply State.Follows.todError
    | with_reducible apply State.Follows.todMessage
    | with_reducible apply Follow.next
    | split

theorem Follow.execHoldoffExpire {z : State} (n : Fin 16) (s : State) (hz : z.Follows s) :
    Follow z (Sys2Proof.Machine.execHoldoffExpire n s) := by
  unfold Sys2Proof.Machine.execHoldoffExpire
  repeat' first
    | with_reducible assumption | with_reducible apply State.Follows.holdoffEnd
    | with_reducible apply Follow.next

theorem Follow.execSlotCommit {z : State} (n : Fin 16) (s : State) (hz : z.Follows s) :
    Follow z (Sys2Proof.Machine.execSlotCommit n s) := by
  unfold Sys2Proof.Machine.execSlotCommit
  repeat' first
    | with_reducible assumption | with_reducible apply State.Follows.commit | with_reducible apply Follow.next

theorem Follow.execSlotRestart {z : State} (n : Fin 16) (s : State) (hz : z.Follows s) :
    Follow z (Sys2Proof.Machine.execSlotRestart n s) := by
  unfold Sys2Proof.Machine.execSlotRestart
  repeat' first
    | with_reducible assumption | with_reducible apply State.Follows.set | with_reducible apply Follow.next

end Sys2Proof.Machine
end

