-- ==== Sys2Proof/Laws/KeepSel.lean ====
section
/-! SUPPORT. What the operations of Machine/Sel.lean keep. -/

namespace Sys2Proof.Machine

theorem State.Follows.modSel {z : State} (f : Sel → Sel) (s : State) (hz : z.Follows s) : z.Follows (State.modSel f s) := by
  unfold State.modSel
  repeat' first
    | with_reducible assumption | with_reducible apply State.Follows.mk' | exact Nat.le_refl _ | rfl

theorem State.Follows.wtrSkip {z : State} (s : State) (hz : z.Follows s) : z.Follows (State.wtrSkip s) := by
  unfold State.wtrSkip
  repeat' first
    | with_reducible assumption | with_reducible apply State.Follows.wtrDone
    | with_reducible apply State.Follows.ite | with_reducible apply State.Follows.foldl | (intro _ _ _; try dsimp only)

theorem State.Follows.wtrExpire {z : State} (s : State) (hz : z.Follows s) : z.Follows (State.wtrExpire s) := by
  unfold State.wtrExpire
  repeat' first
    | with_reducible assumption | with_reducible apply State.Follows.wtrDone
    | with_reducible apply State.Follows.foldl | (intro _ _ _; try dsimp only)

theorem State.Follows.showLaw {z : State} (s : State) (hz : z.Follows s) : z.Follows (State.showLaw s) := by
  unfold State.showLaw
  repeat' first
    | with_reducible assumption | with_reducible apply State.Follows.setI

theorem State.Follows.modelReset {z : State} (s : State) (hz : z.Follows s) : z.Follows (State.modelReset s) := by
  unfold State.modelReset
  repeat' first
    | with_reducible assumption | with_reducible apply State.Follows.evt
    | with_reducible apply State.Follows.modSel | with_reducible apply State.Follows.set
    | with_reducible apply State.Follows.showLaw

theorem State.Follows.modelFitHours {z : State} (hours : Nat) (s : State) (hz : z.Follows s) : z.Follows
    (Sys2Proof.Machine.State.modelFitHours hours s) := by
  unfold Sys2Proof.Machine.State.modelFitHours
  repeat' first
    | with_reducible assumption
    | with_reducible apply State.Follows.bump
    | with_reducible apply State.Follows.evt
    | with_reducible apply State.Follows.modSel
    | with_reducible apply State.Follows.set
    | with_reducible apply State.Follows.setB
    | with_reducible apply State.Follows.showLaw
    | with_reducible apply State.Follows.ite

theorem State.Follows.modelRefit {z : State} (s : State) (hz : z.Follows s) : z.Follows
    (Sys2Proof.Machine.State.modelRefit s) := by
  unfold Sys2Proof.Machine.State.modelRefit
  repeat' first
    | with_reducible assumption
    | with_reducible apply State.Follows.modelFitHours

theorem State.Follows.modelAge {z : State} (s : State) (hz : z.Follows s) : z.Follows
    (Sys2Proof.Machine.State.modelAge s) := by
  unfold Sys2Proof.Machine.State.modelAge
  repeat' first
    | with_reducible assumption
    | with_reducible apply State.Follows.modSel
    | with_reducible apply State.Follows.set
    | with_reducible apply State.Follows.setB
    | with_reducible apply State.Follows.showLaw
    | with_reducible apply State.Follows.ite

theorem State.Follows.modelSecond {z : State} (s : State) (hz : z.Follows s) : z.Follows
    (Sys2Proof.Machine.State.modelSecond s) := by
  unfold Sys2Proof.Machine.State.modelSecond
  repeat' first
    | with_reducible assumption
    | with_reducible apply State.Follows.modSel
    | with_reducible apply State.Follows.set
    | with_reducible apply State.Follows.ite

theorem State.Follows.setBo {z : State} (bo : Rat) (s : State) (hz : z.Follows s) : z.Follows
    (Sys2Proof.Machine.State.setBo bo s) := by
  unfold Sys2Proof.Machine.State.setBo
  repeat' first
    | with_reducible assumption
    | with_reducible apply State.Follows.bump
    | with_reducible apply State.Follows.modSel
    | with_reducible apply State.Follows.setI

theorem State.Follows.selLocked {z : State} (n : Nat) (e tm bo : Rat) (s : State) (hz : z.Follows s) : z.Follows
    (Sys2Proof.Machine.State.selLocked n e tm bo s) := by
  unfold Sys2Proof.Machine.State.selLocked
  repeat' first
    | with_reducible assumption
    | with_reducible apply State.Follows.modSel
    | with_reducible apply State.Follows.set
    | with_reducible apply State.Follows.setBo
    | with_reducible apply State.Follows.showLaw

theorem State.Follows.selDirect {z : State} (n : Nat) (s : State) (hz : z.Follows s) : z.Follows (State.selDirect n s) := by
  unfold State.selDirect
  repeat' first
    | with_reducible assumption | with_reducible apply State.Follows.evt
    | with_reducible apply State.Follows.selLocked | with_reducible apply State.Follows.ite

theorem State.Follows.freezeValue {z : State} (s : State) (hz : z.Follows s) : z.Follows
    (Sys2Proof.Machine.State.freezeValue s) := by
  unfold Sys2Proof.Machine.State.freezeValue
  repeat' first
    | with_reducible assumption
    | with_reducible apply State.Follows.bump
    | with_reducible apply State.Follows.evt
    | with_reducible apply State.Follows.modSel
    | with_reducible apply State.Follows.setI
    | with_reducible apply State.Follows.setI2
    | with_reducible apply State.Follows.ite

theorem State.Follows.selFreeze {z : State} (n : Nat) (s : State) (hz : z.Follows s) : z.Follows (State.selFreeze n s) := by
  unfold State.selFreeze
  repeat' first
    | with_reducible assumption | with_reducible apply State.Follows.evt
    | with_reducible apply State.Follows.freezeValue | with_reducible apply State.Follows.modSel
    | with_reducible apply State.Follows.set | with_reducible apply State.Follows.ite

theorem State.Follows.selBank {z : State} (compute : Bool) (s : State) (hz : z.Follows s) : z.Follows
    (Sys2Proof.Machine.State.selBank compute s) := by
  unfold Sys2Proof.Machine.State.selBank
  repeat' first
    | with_reducible assumption
    | with_reducible apply State.Follows.evt
    | with_reducible apply State.Follows.freezeValue
    | with_reducible apply State.Follows.inc
    | with_reducible apply State.Follows.set
    | with_reducible apply State.Follows.wtrSkip
    | with_reducible apply State.Follows.ite

theorem State.Follows.selAbort {z : State} (s : State) (hz : z.Follows s) : z.Follows (State.selAbort s) := by
  unfold State.selAbort
  repeat' first
    | with_reducible assumption | with_reducible apply State.Follows.evt
    | with_reducible apply State.Follows.selBank

theorem State.Follows.selTimeout {z : State} (s : State) (hz : z.Follows s) : z.Follows
    (Sys2Proof.Machine.State.selTimeout s) := by
  unfold Sys2Proof.Machine.State.selTimeout
  repeat' first
    | with_reducible assumption
    | with_reducible apply State.Follows.file
    | with_reducible apply State.Follows.selAbort
    | with_reducible apply State.Follows.wtrStart

theorem State.Follows.selBuildOut {z : State} (s : State) (hz : z.Follows s) : z.Follows
    (Sys2Proof.Machine.State.selBuildOut s) := by
  unfold Sys2Proof.Machine.State.selBuildOut
  repeat' first
    | with_reducible assumption
    | with_reducible apply State.Follows.modSel
    | with_reducible apply State.Follows.set
    | with_reducible apply State.Follows.setBo

theorem State.Follows.selSwitchDone {z : State} (s : State) (hz : z.Follows s) : z.Follows
    (Sys2Proof.Machine.State.selSwitchDone s) := by
  unfold Sys2Proof.Machine.State.selSwitchDone
  repeat' first
    | with_reducible assumption
    | with_reducible apply State.Follows.evt
    | with_reducible apply State.Follows.inc
    | with_reducible apply State.Follows.selLocked
    | with_reducible apply State.Follows.ite

theorem State.Follows.selChoose {z : State} (s : State) (hz : z.Follows s) : z.Follows (State.selChoose s) := by
  unfold State.selChoose
  try dsimp only
  repeat' first
    | with_reducible assumption | with_reducible apply State.Follows.selBank
    | with_reducible apply State.Follows.selDirect | with_reducible apply State.Follows.selFreeze | split

theorem State.Follows.selUpdate {z : State} (reps : List Report) (s : State) (hz : z.Follows s) : z.Follows
    (Sys2Proof.Machine.State.selUpdate reps s) := by
  unfold Sys2Proof.Machine.State.selUpdate
  repeat' first
    | with_reducible assumption
    | with_reducible apply State.Follows.modSel
    | with_reducible apply State.Follows.selAbort
    | with_reducible apply State.Follows.selBuildOut
    | with_reducible apply State.Follows.selChoose
    | with_reducible apply State.Follows.selSwitchDone
    | with_reducible apply State.Follows.selTimeout
    | with_reducible apply State.Follows.set
    | with_reducible apply State.Follows.wtrExpire
    | with_reducible apply State.Follows.wtrSkip
    | with_reducible apply State.Follows.ite
    | split

theorem State.Follows.keepAbsD {z : State} (reps : List Report) (s : State) (hz : z.Follows s) : z.Follows
    (Sys2Proof.Machine.State.keepAbsD reps s) := by
  unfold Sys2Proof.Machine.State.keepAbsD
  repeat' first
    | with_reducible assumption
    | with_reducible apply State.Follows.modSel
    | split

theorem State.Follows.loopFilter {z : State} (reps : List Report) (entered : Bool) (s : State) (hz : z.Follows s) :
    z.Follows (Sys2Proof.Machine.State.loopFilter reps entered s).2 := by
  unfold Sys2Proof.Machine.State.loopFilter
  try dsimp only
  repeat' first
    | with_reducible assumption
    | with_reducible apply State.Follows.bump
    | with_reducible apply State.Follows.evt
    | with_reducible apply State.Follows.modSel
    | split

theorem State.Follows.loopRequest {z : State} (reps : List Report) (before : Nat) (s : State) (hz : z.Follows s) :
    z.Follows (State.loopRequest reps before s).2 := by
  unfold State.loopRequest
  repeat' first
    | with_reducible assumption | with_reducible apply State.Follows.loopFilter
    | with_reducible apply State.Follows.ite | split

theorem State.Follows.selNotional {z : State} (s : State) (hz : z.Follows s) : z.Follows
    (Sys2Proof.Machine.State.selNotional s) := by
  unfold Sys2Proof.Machine.State.selNotional
  repeat' first
    | with_reducible assumption
    | with_reducible apply State.Follows.modSel
    | with_reducible apply State.Follows.ite

theorem State.Follows.selRecord {z : State} (s : State) (hz : z.Follows s) : z.Follows
    (Sys2Proof.Machine.State.selRecord s) := by
  unfold Sys2Proof.Machine.State.selRecord
  repeat' first
    | with_reducible assumption
    | with_reducible apply State.Follows.modSel
    | with_reducible apply State.Follows.setI2
    | with_reducible apply State.Follows.ite

theorem State.Follows.selStepped {z : State} (d : Int) (tm : Rat) (first : Bool) (s : State) (hz : z.Follows s) :
    z.Follows (Sys2Proof.Machine.State.selStepped d tm first s) := by
  unfold Sys2Proof.Machine.State.selStepped
  repeat' first
    | with_reducible assumption
    | with_reducible apply State.Follows.modSel

theorem State.Follows.selSecond {z : State} (s : State) (hz : z.Follows s) : z.Follows
    (Sys2Proof.Machine.State.selSecond s) := by
  unfold Sys2Proof.Machine.State.selSecond
  repeat' first
    | with_reducible assumption
    | with_reducible apply State.Follows.modelAge
    | with_reducible apply State.Follows.modelReset
    | with_reducible apply State.Follows.modelSecond
    | with_reducible apply State.Follows.set
    | with_reducible apply State.Follows.takeGroup
    | with_reducible apply State.Follows.wtrDone
    | with_reducible apply State.Follows.ite
    | with_reducible apply State.Follows.foldl
    | (intro _ _ _ _; try dsimp only)
    | (intro _ _ _; try dsimp only)

theorem Follow.execSwTimeout {z : State} (s : State) (hz : z.Follows s) : Follow z (Sys2Proof.Machine.execSwTimeout s) := by
  unfold Sys2Proof.Machine.execSwTimeout
  repeat' first
    | with_reducible assumption | with_reducible apply State.Follows.selTimeout
    | with_reducible apply Follow.ite | with_reducible apply Follow.next

theorem Follow.execWtrExpire {z : State} (n : Fin 16) (s : State) (hz : z.Follows s) :
    Follow z (Sys2Proof.Machine.execWtrExpire n s) := by
  unfold Sys2Proof.Machine.execWtrExpire
  repeat' first
    | with_reducible assumption | with_reducible apply State.Follows.wtrDone | with_reducible apply Follow.next
    | split

theorem Follow.execPrioCommit {z : State} (s : State) (hz : z.Follows s) :
    Follow z (Sys2Proof.Machine.execPrioCommit s) := by
  unfold Sys2Proof.Machine.execPrioCommit
  repeat' first
    | with_reducible assumption | with_reducible apply State.Follows.commit | with_reducible apply Follow.next

theorem Follow.execLoopCommit {z : State} (s : State) (hz : z.Follows s) :
    Follow z (Sys2Proof.Machine.execLoopCommit s) := by
  unfold Sys2Proof.Machine.execLoopCommit
  repeat' first
    | with_reducible assumption | with_reducible apply State.Follows.commit | with_reducible apply Follow.next

theorem Follow.execClearWtr {z : State} (s : State) (hz : z.Follows s) : Follow z (Sys2Proof.Machine.execClearWtr s) := by
  unfold Sys2Proof.Machine.execClearWtr
  repeat' first
    | with_reducible assumption | with_reducible apply State.Follows.set | with_reducible apply Follow.next

theorem Follow.execModelReset {z : State} (s : State) (hz : z.Follows s) :
    Follow z (Sys2Proof.Machine.execModelReset s) := by
  unfold Sys2Proof.Machine.execModelReset
  repeat' first
    | with_reducible assumption | with_reducible apply State.Follows.set | with_reducible apply Follow.next

theorem Follow.execModelSample {z : State} (s : State) (hz : z.Follows s) : Follow z
    (Sys2Proof.Machine.execModelSample s) := by
  unfold Sys2Proof.Machine.execModelSample
  repeat' first
    | with_reducible assumption
    | with_reducible apply State.Follows.modSel
    | with_reducible apply State.Follows.modelAge
    | with_reducible apply State.Follows.modelRefit
    | with_reducible apply Follow.ite
    | with_reducible apply Follow.next

end Sys2Proof.Machine
end

