-- ==== Sys2Proof/Laws/KeepOsc.lean ====
section
/-! SUPPORT. What the operations of Machine/Osc.lean keep. -/

namespace Sys2Proof.Machine

theorem State.Follows.modOsc {z : State} (f : Osc → Osc) (s : State) (hz : z.Follows s) : z.Follows (State.modOsc f s) := by
  unfold State.modOsc
  repeat' first
    | with_reducible assumption | with_reducible apply State.Follows.mk' | exact Nat.le_refl _ | rfl

theorem State.Follows.judgeIdentity {z : State} (prev : Option Nat) (id : Nat) (s : State) (hz : z.Follows s) :
    z.Follows (Sys2Proof.Machine.State.judgeIdentity prev id s) := by
  unfold Sys2Proof.Machine.State.judgeIdentity
  repeat' first
    | with_reducible assumption
    | with_reducible apply State.Follows.evt
    | with_reducible apply State.Follows.file
    | with_reducible apply State.Follows.inc
    | with_reducible apply State.Follows.modEbd
    | with_reducible apply State.Follows.modOsc
    | with_reducible apply State.Follows.modelReset
    | with_reducible apply State.Follows.set
    | with_reducible apply State.Follows.showBank
    | with_reducible apply State.Follows.ite

theorem State.Follows.oscIdentity {z : State} (id : Nat) (s : State) (hz : z.Follows s) :
    z.Follows (State.oscIdentity id s) := by
  unfold State.oscIdentity
  repeat' first
    | with_reducible assumption | with_reducible apply State.Follows.judgeIdentity
    | with_reducible apply State.Follows.modOsc | with_reducible apply State.Follows.set
    | with_reducible apply State.Follows.ite

theorem State.Follows.oscIdStart {z : State} (s : State) (hz : z.Follows s) : z.Follows (State.oscIdStart s) := by
  unfold State.oscIdStart
  repeat' first
    | with_reducible assumption | with_reducible apply State.Follows.emit
    | with_reducible apply State.Follows.modOsc

theorem State.Follows.oscSend {z : State} (c : Int) (transfer : Bool) (s : State) (hz : z.Follows s) : z.Follows
    (Sys2Proof.Machine.State.oscSend c transfer s) := by
  unfold Sys2Proof.Machine.State.oscSend
  repeat' first
    | with_reducible assumption
    | with_reducible apply State.Follows.emit
    | with_reducible apply State.Follows.inc
    | with_reducible apply State.Follows.modOsc
    | with_reducible apply State.Follows.set
    | with_reducible apply State.Follows.spiDac
    | with_reducible apply State.Follows.ite

theorem State.Follows.oscRails {z : State} (s : State) (hz : z.Follows s) : z.Follows (State.oscRails s) := by
  unfold State.oscRails
  repeat' first
    | with_reducible assumption | with_reducible apply State.Follows.evt
    | with_reducible apply State.Follows.file | with_reducible apply State.Follows.setB
    | with_reducible apply State.Follows.ite

theorem State.Follows.takeFlight {z : State} (uart : Bool) (s : State) {f : OscCommand} {t : State} (hz : z.Follows s)
    (e : State.takeFlight uart s = some (f, t)) : z.Follows t := by
  unfold State.takeFlight at e
  split at e
  · cases e
  · cases e
    exact State.Follows.setB _ _ _ (State.Follows.modOsc _ _ hz)

theorem State.Follows.oscComplete {z : State} (uart : Bool) (s : State) (hz : z.Follows s) :
    z.Follows (State.oscComplete uart s) := by
  unfold State.oscComplete
  split
  · exact hz
  · next e =>
    have h := State.Follows.takeFlight uart s hz e
    exact State.Follows.oscRails _ (State.Follows.modHearth _ _ (State.Follows.modOsc _ _ (State.Follows.setI _ _ _ h)))

theorem State.Follows.oscFail {z : State} (s : State) (hz : z.Follows s) : z.Follows (State.oscFail s) := by
  unfold State.oscFail
  split
  · exact hz
  · next e =>
    have h := State.Follows.evt R.OSC.EVT.CMD_FAIL _ (State.Follows.inc R.OSC.CMD_FAIL_CNT.COUNT _
      (State.Follows.modOsc (fun o => { o with ackFails := s.osc.ackFails + 1 }) _ (State.Follows.takeFlight true s hz e)))
    exact State.Follows.ite (State.Follows.file _ _ _ _ (State.Follows.set _ _ h)) h

theorem State.Follows.oscTransfer {z : State} (s : State) (hz : z.Follows s) : z.Follows
    (Sys2Proof.Machine.State.oscTransfer s) := by
  unfold Sys2Proof.Machine.State.oscTransfer
  repeat' first
    | with_reducible assumption
    | with_reducible apply State.Follows.oscSend
    | with_reducible apply State.Follows.ite

theorem State.Follows.takeComp {z : State} (s : State) (hz : z.Follows s) : z.Follows
    (Sys2Proof.Machine.State.takeComp s).2 := by
  unfold Sys2Proof.Machine.State.takeComp
  try dsimp only
  repeat' first
    | with_reducible assumption
    | with_reducible apply State.Follows.modOsc
    | with_reducible apply State.Follows.modSel
    | split

theorem State.Follows.oscLoadClass {z : State} (s : State) (hz : z.Follows s) : z.Follows (State.oscLoadClass s) := by
  unfold State.oscLoadClass
  repeat' first
    | with_reducible assumption | with_reducible apply State.Follows.set
    | with_reducible apply State.Follows.setI

theorem State.Follows.oscAfter {z : State} (old new : State) (hz : z.Follows new) : z.Follows
    (Sys2Proof.Machine.oscAfter old new) := by
  unfold Sys2Proof.Machine.oscAfter
  repeat' first
    | with_reducible assumption
    | with_reducible apply State.Follows.modOsc
    | with_reducible apply State.Follows.modelReset
    | with_reducible apply State.Follows.oscLoadClass
    | with_reducible apply State.Follows.oscRails
    | with_reducible apply State.Follows.set
    | with_reducible apply State.Follows.showLaw
    | with_reducible apply State.Follows.ite

theorem State.Follows.oscDrive {z : State} (s : State) (hz : z.Follows s) : z.Follows
    (Sys2Proof.Machine.State.oscDrive s) := by
  unfold Sys2Proof.Machine.State.oscDrive
  repeat' first
    | with_reducible assumption
    | with_reducible apply State.Follows.evt
    | with_reducible apply State.Follows.modOsc
    | with_reducible apply State.Follows.oscSend
    | with_reducible apply State.Follows.oscTransfer
    | with_reducible apply State.Follows.set
    | with_reducible apply State.Follows.ite

theorem State.Follows.oscSecond {z : State} (s : State) (hz : z.Follows s) : z.Follows (State.oscSecond s) := by
  unfold State.oscSecond
  repeat' first
    | with_reducible assumption | with_reducible apply State.Follows.oscDrive
    | with_reducible apply State.Follows.takeGroup | with_reducible apply State.Follows.oscAfter
    | with_reducible apply State.Follows.ite | (intro _ _ _ _; try dsimp only)

theorem Follow.execIdPoll {z : State} (s : State) (hz : z.Follows s) : Follow z (Sys2Proof.Machine.execIdPoll s) := by
  unfold Sys2Proof.Machine.execIdPoll
  try dsimp only
  repeat' first
    | with_reducible assumption
    | with_reducible apply State.Follows.modOsc
    | with_reducible apply State.Follows.oscIdStart
    | with_reducible apply Follow.ite
    | with_reducible apply Follow.next
    | with_reducible apply State.Follows.ite
    | with_reducible apply State.Follows.mk'
    | rfl
    | exact Nat.le_refl _
    | exact Nat.le_add_right _ _
    | split

theorem Follow.execIdRead {z : State} (s : State) (hz : z.Follows s) : Follow z (Sys2Proof.Machine.execIdRead s) := by
  unfold Sys2Proof.Machine.execIdRead
  repeat' first
    | with_reducible assumption | with_reducible apply State.Follows.oscIdStart
    | with_reducible apply Follow.next

theorem Follow.execIdReadDone {z : State} (bytes : Option (List Byte)) (s : State) (hz : z.Follows s) :
    Follow z (Sys2Proof.Machine.execIdReadDone bytes s) := by
  unfold Sys2Proof.Machine.execIdReadDone
  try dsimp only
  repeat' first
    | with_reducible assumption | with_reducible apply State.Follows.evt
    | with_reducible apply State.Follows.file | with_reducible apply State.Follows.modOsc
    | with_reducible apply State.Follows.oscIdentity | with_reducible apply State.Follows.set
    | with_reducible apply Follow.next | split

theorem Follow.execStatusPoll {z : State} (s : State) (hz : z.Follows s) :
    Follow z (Sys2Proof.Machine.execStatusPoll s) := by
  unfold Sys2Proof.Machine.execStatusPoll
  try dsimp only
  repeat' first
    | with_reducible assumption
    | with_reducible apply State.Follows.emit
    | with_reducible apply State.Follows.modOsc
    | with_reducible apply Follow.ite
    | with_reducible apply Follow.next
    | with_reducible apply State.Follows.ite
    | with_reducible apply State.Follows.mk'
    | rfl
    | exact Nat.le_refl _
    | exact Nat.le_add_right _ _
    | split

theorem Follow.execStatusReply {z : State} (cur temp : BitVec 16) (s : State) (hz : z.Follows s) :
    Follow z (Sys2Proof.Machine.execStatusReply cur temp s) := by
  unfold Sys2Proof.Machine.execStatusReply
  repeat' first
    | with_reducible assumption | with_reducible apply State.Follows.evt
    | with_reducible apply State.Follows.file | with_reducible apply State.Follows.modOsc
    | with_reducible apply State.Follows.set | with_reducible apply Follow.ite | with_reducible apply Follow.next
    | with_reducible apply State.Follows.ite | with_reducible apply State.Follows.mk' | exact Nat.le_refl _ | rfl

theorem Follow.execRunHour {z : State} (s : State) (hz : z.Follows s) : Follow z (Sys2Proof.Machine.execRunHour s) := by
  unfold Sys2Proof.Machine.execRunHour
  try dsimp only
  repeat' first
    | with_reducible assumption
    | with_reducible apply State.Follows.evt
    | with_reducible apply State.Follows.file
    | with_reducible apply State.Follows.inc
    | with_reducible apply State.Follows.modOsc
    | with_reducible apply Follow.ite
    | with_reducible apply Follow.next
    | with_reducible apply State.Follows.ite
    | with_reducible apply State.Follows.mk'
    | rfl
    | exact Nat.le_refl _
    | exact Nat.le_add_right _ _
    | split

theorem Follow.execOscLockChange {z : State} (locked : Bool) (s : State) (hz : z.Follows s) : Follow z
    (Sys2Proof.Machine.execOscLockChange locked s) := by
  unfold Sys2Proof.Machine.execOscLockChange
  repeat' first
    | with_reducible assumption
    | with_reducible apply State.Follows.evt
    | with_reducible apply State.Follows.file
    | with_reducible apply State.Follows.modSel
    | with_reducible apply State.Follows.setB
    | with_reducible apply Follow.ite
    | with_reducible apply Follow.next

theorem Follow.execCommandAck {z : State} (s : State) (hz : z.Follows s) : Follow z (Sys2Proof.Machine.execCommandAck s) := by
  unfold Sys2Proof.Machine.execCommandAck
  try dsimp only
  repeat' first
    | with_reducible assumption
    | with_reducible apply State.Follows.oscComplete
    | with_reducible apply Follow.ite
    | with_reducible apply Follow.next
    | with_reducible apply State.Follows.ite
    | with_reducible apply State.Follows.mk'
    | rfl
    | exact Nat.le_refl _
    | exact Nat.le_add_right _ _
    | split

theorem Follow.execAckTimeout {z : State} (s : State) (hz : z.Follows s) : Follow z (Sys2Proof.Machine.execAckTimeout s) := by
  unfold Sys2Proof.Machine.execAckTimeout
  try dsimp only
  repeat' first
    | with_reducible assumption
    | with_reducible apply State.Follows.oscFail
    | with_reducible apply Follow.ite
    | with_reducible apply Follow.next
    | with_reducible apply State.Follows.ite
    | split

theorem Follow.execDacFrameDone {z : State} (s : State) (hz : z.Follows s) : Follow z
    (Sys2Proof.Machine.execDacFrameDone s) := by
  unfold Sys2Proof.Machine.execDacFrameDone
  repeat' first
    | with_reducible assumption
    | with_reducible apply State.Follows.oscComplete
    | with_reducible apply State.Follows.spiNext
    | with_reducible apply Follow.ite
    | with_reducible apply Follow.next

theorem Follow.execSwcmdSend {z : State} (s : State) (hz : z.Follows s) : Follow z (Sys2Proof.Machine.execSwcmdSend s) := by
  unfold Sys2Proof.Machine.execSwcmdSend
  repeat' first
    | with_reducible assumption | with_reducible apply State.Follows.evt
    | with_reducible apply State.Follows.set | with_reducible apply Follow.ite | with_reducible apply Follow.next

theorem Follow.execOscCommit {z : State} (s : State) (hz : z.Follows s) : Follow z (Sys2Proof.Machine.execOscCommit s) := by
  unfold Sys2Proof.Machine.execOscCommit
  repeat' first
    | with_reducible assumption | with_reducible apply State.Follows.commit | with_reducible apply Follow.next

end Sys2Proof.Machine
end

