-- ==== Sys2Proof/Laws/KeepGna.lean ====
section
/-! SUPPORT. What the operations of Machine/Gna.lean keep. -/

namespace Sys2Proof.Machine

theorem State.Follows.modGnt {z : State} (c : Nat) (f : GntCh → GntCh) (s : State) (hz : z.Follows s) :
    z.Follows (State.modGnt c f s) := by
  unfold State.modGnt
  repeat' first
    | with_reducible assumption | with_reducible apply State.Follows.modGna

theorem State.Follows.setChState {z : State} (c st : Nat) (s : State) (hz : z.Follows s) :
    z.Follows (State.setChState c st s) := by
  unfold State.setChState
  repeat' first
    | with_reducible assumption | with_reducible apply State.Follows.set

theorem State.Follows.chIdle {z : State} (c : Nat) (s : State) (hz : z.Follows s) : z.Follows (State.chIdle c s) := by
  unfold State.chIdle
  repeat' first
    | with_reducible assumption | with_reducible apply State.Follows.set
    | with_reducible apply State.Follows.setChState | with_reducible apply State.Follows.mk' | exact Nat.le_refl _ | rfl

theorem State.Follows.setJobs {z : State} (js : List GnaJob) (s : State) (hz : z.Follows s) :
    z.Follows (State.setJobs js s) := by
  unfold State.setJobs
  repeat' first
    | with_reducible assumption | with_reducible apply State.Follows.modGna
    | with_reducible apply State.Follows.set

theorem State.Follows.chLoss {z : State} (c : Nat) (s : State) (hz : z.Follows s) : z.Follows
    (Sys2Proof.Machine.State.chLoss c s) := by
  unfold Sys2Proof.Machine.State.chLoss
  repeat' first
    | with_reducible assumption
    | with_reducible apply State.Follows.evt
    | with_reducible apply State.Follows.inc
    | with_reducible apply State.Follows.setChState
    | with_reducible apply State.Follows.setJobs
    | with_reducible apply State.Follows.ite

theorem State.Follows.jobResult {z : State} (r : JobResult) (s : State) (hz : z.Follows s) :
    z.Follows (State.jobResult r s) := by
  unfold State.jobResult
  repeat' first
    | with_reducible assumption | with_reducible apply State.Follows.evt
    | with_reducible apply State.Follows.modGna | with_reducible apply State.Follows.ite

theorem State.Follows.jobEnd {z : State} (j : GnaJob) (outcome ch hyp stat : Nat) (doppler : Int) (vfail : Nat)
    (s : State) (hz : z.Follows s) : z.Follows
    (Sys2Proof.Machine.State.jobEnd j outcome ch hyp stat doppler vfail s) := by
  unfold Sys2Proof.Machine.State.jobEnd
  repeat' first
    | with_reducible assumption
    | with_reducible apply State.Follows.emit
    | with_reducible apply State.Follows.jobResult
    | with_reducible apply State.Follows.ite

theorem State.Follows.setEngine {z : State} (e : Nat) (g : GnaEng) (s : State) (hz : z.Follows s) :
    z.Follows (State.setEngine e g s) := by
  unfold State.setEngine
  repeat' first
    | with_reducible assumption | with_reducible apply State.Follows.modGna
    | with_reducible apply State.Follows.set | with_reducible apply State.Follows.setB

theorem State.Follows.engineDone {z : State} (e : Nat) (s : State) (hz : z.Follows s) : z.Follows
    (Sys2Proof.Machine.State.engineDone e s) := by
  unfold Sys2Proof.Machine.State.engineDone
  repeat' first
    | with_reducible assumption
    | with_reducible apply State.Follows.inc
    | with_reducible apply State.Follows.setEngine

theorem State.Follows.feCut {z : State} (n : Nat) (s : State) (hz : z.Follows s) : z.Follows
    (Sys2Proof.Machine.State.feCut n s) := by
  unfold Sys2Proof.Machine.State.feCut
  repeat' first
    | with_reducible assumption
    | with_reducible apply State.Follows.chLoss
    | with_reducible apply State.Follows.engineDone
    | with_reducible apply State.Follows.jobEnd
    | with_reducible apply State.Follows.foldl
    | (intro _ _ _; try dsimp only)
    | split

theorem State.Follows.feLeave {z : State} (n : Nat) (s : State) (hz : z.Follows s) : z.Follows
    (Sys2Proof.Machine.State.feLeave n s) := by
  unfold Sys2Proof.Machine.State.feLeave
  repeat' first
    | with_reducible assumption
    | with_reducible apply State.Follows.feCut
    | with_reducible apply State.Follows.jobEnd
    | with_reducible apply State.Follows.set
    | with_reducible apply State.Follows.setJobs
    | with_reducible apply State.Follows.foldl
    | (intro _ _ _; try dsimp only)

theorem State.Follows.setFeState {z : State} (n st : Nat) (s : State) (hz : z.Follows s) : z.Follows
    (Sys2Proof.Machine.State.setFeState n st s) := by
  unfold Sys2Proof.Machine.State.setFeState
  repeat' first
    | with_reducible assumption
    | with_reducible apply State.Follows.feLeave
    | with_reducible apply State.Follows.modFe
    | with_reducible apply State.Follows.set
    | with_reducible apply State.Follows.ite

theorem State.Follows.feFault {z : State} (n : Nat) (s : State) (hz : z.Follows s) : z.Follows (State.feFault n s) := by
  unfold State.feFault
  repeat' first
    | with_reducible assumption | with_reducible apply State.Follows.evt
    | with_reducible apply State.Follows.file | with_reducible apply State.Follows.setFeState
    | with_reducible apply State.Follows.ite

theorem State.Follows.feTryRun {z : State} (n : Nat) (s : State) (hz : z.Follows s) : z.Follows (State.feTryRun n s) := by
  unfold State.feTryRun
  repeat' first
    | with_reducible assumption | with_reducible apply State.Follows.setFeState
    | with_reducible apply State.Follows.ite

theorem State.Follows.scriptGo {z : State} (n : Nat) (s : State) (hz : z.Follows s) : z.Follows (State.scriptGo n s) := by
  unfold State.scriptGo
  repeat' first
    | with_reducible assumption | with_reducible apply State.Follows.feTryRun
    | with_reducible apply State.Follows.modFe | with_reducible apply State.Follows.set
    | with_reducible apply State.Follows.spiKick | split

theorem State.Follows.scriptStart {z : State} (n : Nat) (s : State) (hz : z.Follows s) : z.Follows
    (Sys2Proof.Machine.State.scriptStart n s) := by
  unfold Sys2Proof.Machine.State.scriptStart
  repeat' first
    | with_reducible assumption
    | with_reducible apply State.Follows.modFe
    | with_reducible apply State.Follows.scriptGo
    | with_reducible apply State.Follows.set
    | with_reducible apply State.Follows.ite
    | with_reducible apply State.Follows.mk'
    | rfl
    | exact Nat.le_refl _

theorem State.Follows.scriptStep {z : State} (n : Nat) (s : State) (hz : z.Follows s) :
    z.Follows (State.scriptStep n s) := by
  unfold State.scriptStep
  repeat' first
    | with_reducible assumption | with_reducible apply State.Follows.modFe
    | with_reducible apply State.Follows.scriptGo

theorem State.Follows.scriptFail {z : State} (n : Nat) (s : State) (hz : z.Follows s) :
    z.Follows (State.scriptFail n s) := by
  unfold State.scriptFail
  repeat' first
    | with_reducible assumption | with_reducible apply State.Follows.feFault
    | with_reducible apply State.Follows.modFe | with_reducible apply State.Follows.set

theorem State.Follows.feAfter {z : State} (n : Nat) (_old new : State) (hz : z.Follows new) : z.Follows
    (Sys2Proof.Machine.feAfter n _old new) := by
  unfold Sys2Proof.Machine.feAfter
  repeat' first
    | with_reducible assumption
    | with_reducible apply State.Follows.feCut
    | with_reducible apply State.Follows.scriptStart
    | with_reducible apply State.Follows.setFeState
    | with_reducible apply State.Follows.ite

theorem State.Follows.showTie {z : State} (n : Nat) (s : State) (hz : z.Follows s) : z.Follows (State.showTie n s) := by
  unfold State.showTie
  repeat' first
    | with_reducible assumption | with_reducible apply State.Follows.bump
    | with_reducible apply State.Follows.set | with_reducible apply State.Follows.setI

theorem State.Follows.takeTie {z : State} (n : Nat) (tie : SampleTie) (s : State) (hz : z.Follows s) : z.Follows
    (Sys2Proof.Machine.State.takeTie n tie s) := by
  unfold Sys2Proof.Machine.State.takeTie
  repeat' first
    | with_reducible assumption
    | with_reducible apply State.Follows.file
    | with_reducible apply State.Follows.modFe
    | with_reducible apply State.Follows.set
    | with_reducible apply State.Follows.setB
    | with_reducible apply State.Follows.showTie
    | with_reducible apply State.Follows.ite

theorem State.Follows.tieStep {z : State} (d : Int) (s : State) (hz : z.Follows s) : z.Follows (State.tieStep d s) := by
  unfold State.tieStep
  repeat' first
    | with_reducible assumption | with_reducible apply State.Follows.modGna

theorem State.Follows.placeJob {z : State} (r : JobRequest) (host : Bool) (s : State) (hz : z.Follows s) :
    z.Follows (State.placeJob r host s) := by
  unfold State.placeJob
  repeat' first
    | with_reducible assumption | with_reducible apply State.Follows.evt
    | with_reducible apply State.Follows.inc | with_reducible apply State.Follows.jobEnd
    | with_reducible apply State.Follows.setJobs | with_reducible apply State.Follows.ite

theorem State.Follows.chHandoff {z : State} (c : Nat) (r : JobRequest) (doppler : Int) (code first at_ : Nat)
    (s : State) (hz : z.Follows s) : z.Follows (Sys2Proof.Machine.State.chHandoff c r doppler code first at_ s) := by
  unfold Sys2Proof.Machine.State.chHandoff
  repeat' first
    | with_reducible assumption
    | with_reducible apply State.Follows.modGnt
    | with_reducible apply State.Follows.set
    | with_reducible apply State.Follows.setB
    | with_reducible apply State.Follows.setChState
    | with_reducible apply State.Follows.setI

theorem State.Follows.engineNext {z : State} (e : Nat) (g : GnaEng) (j : GnaJob) (s : State) (hz : z.Follows s) :
    z.Follows (State.engineNext e g j s) := by
  unfold State.engineNext
  repeat' first
    | with_reducible assumption | with_reducible apply State.Follows.engineDone
    | with_reducible apply State.Follows.jobEnd | with_reducible apply State.Follows.setEngine
    | with_reducible apply State.Follows.ite

theorem State.Follows.withdrawFw {z : State} (s : State) (hz : z.Follows s) : z.Follows (State.withdrawFw s) := by
  unfold State.withdrawFw
  repeat' first
    | with_reducible assumption | with_reducible apply State.Follows.setJobs

theorem Follow.execFeCommit {z : State} (n : Fin 4) (s : State) (hz : z.Follows s) :
    Follow z (Sys2Proof.Machine.execFeCommit n s) := by
  unfold Sys2Proof.Machine.execFeCommit
  repeat' first
    | with_reducible assumption | with_reducible apply State.Follows.commit | with_reducible apply Follow.next

theorem Follow.execFeInit {z : State} (n : Fin 4) (s : State) (hz : z.Follows s) : Follow z
    (Sys2Proof.Machine.execFeInit n s) := by
  unfold Sys2Proof.Machine.execFeInit
  repeat' first
    | with_reducible assumption
    | with_reducible apply State.Follows.scriptStart
    | with_reducible apply State.Follows.setFeState
    | with_reducible apply Follow.next
    | with_reducible apply State.Follows.ite

theorem Follow.execJamLearn {z : State} (n : Fin 4) (s : State) (hz : z.Follows s) : Follow z
    (Sys2Proof.Machine.execJamLearn n s) := by
  unfold Sys2Proof.Machine.execJamLearn
  repeat' first
    | with_reducible assumption
    | with_reducible apply State.Follows.modFe
    | with_reducible apply Follow.next

theorem State.Follows.feClockLoss {z : State} (n : Nat) (s : State) (hz : z.Follows s) : z.Follows
    (Sys2Proof.Machine.State.feClockLoss n s) := by
  unfold Sys2Proof.Machine.State.feClockLoss
  repeat' first
    | with_reducible assumption
    | with_reducible apply State.Follows.evt
    | with_reducible apply State.Follows.file
    | with_reducible apply State.Follows.inc
    | with_reducible apply State.Follows.modFe
    | with_reducible apply State.Follows.setFeState
    | with_reducible apply State.Follows.ite

theorem Follow.execFeGate {z : State} (n : Fin 4) (count : BitVec 32) (tie : Option SampleTie) (s : State)
    (hz : z.Follows s) : Follow z (Sys2Proof.Machine.execFeGate n count tie s) := by
  unfold Sys2Proof.Machine.execFeGate
  try dsimp only
  repeat' first
    | with_reducible assumption
    | with_reducible apply State.Follows.feClockLoss
    | with_reducible apply State.Follows.feFault
    | with_reducible apply State.Follows.feTryRun
    | with_reducible apply State.Follows.modFe
    | with_reducible apply State.Follows.set
    | with_reducible apply State.Follows.setB
    | with_reducible apply State.Follows.takeTie
    | with_reducible apply Follow.next
    | split

theorem Follow.execSpiTransferDone {z : State} (rx : Word) (s : State) (hz : z.Follows s) : Follow z
    (Sys2Proof.Machine.execSpiTransferDone rx s) := by
  unfold Sys2Proof.Machine.execSpiTransferDone
  repeat' first
    | with_reducible assumption
    | with_reducible apply State.Follows.evt
    | with_reducible apply State.Follows.scriptFail
    | with_reducible apply State.Follows.scriptStep
    | with_reducible apply State.Follows.set
    | with_reducible apply State.Follows.spiKick
    | with_reducible apply State.Follows.spiNext
    | with_reducible apply Follow.next
    | split
    | with_reducible apply State.Follows.mk'
    | rfl
    | exact Nat.le_refl _

theorem Follow.execScriptDelayDone {z : State} (n : Fin 4) (s : State) (hz : z.Follows s) :
    Follow z (Sys2Proof.Machine.execScriptDelayDone n s) := by
  unfold Sys2Proof.Machine.execScriptDelayDone
  repeat' first
    | with_reducible assumption | with_reducible apply State.Follows.scriptStep
    | with_reducible apply Follow.ite | with_reducible apply Follow.next

theorem Follow.execSpiGo {z : State} (s : State) (hz : z.Follows s) : Follow z (Sys2Proof.Machine.execSpiGo s) := by
  unfold Sys2Proof.Machine.execSpiGo
  repeat' first
    | with_reducible assumption
    | with_reducible apply State.Follows.evt
    | with_reducible apply State.Follows.set
    | with_reducible apply State.Follows.spiKick
    | with_reducible apply Follow.ite
    | with_reducible apply Follow.next
    | with_reducible apply State.Follows.mk'
    | rfl
    | exact Nat.le_refl _

theorem Follow.execSubmit {z : State} (s : State) (hz : z.Follows s) : Follow z (Sys2Proof.Machine.execSubmit s) := by
  unfold Sys2Proof.Machine.execSubmit
  repeat' first
    | with_reducible assumption | with_reducible apply State.Follows.placeJob | with_reducible apply Follow.next

theorem Follow.execJobFlush {z : State} (s : State) (hz : z.Follows s) : Follow z (Sys2Proof.Machine.execJobFlush s) := by
  unfold Sys2Proof.Machine.execJobFlush
  repeat' first
    | with_reducible assumption | with_reducible apply State.Follows.setJobs | with_reducible apply Follow.next

theorem Follow.execJobStart {z : State} (e : Fin 8) (s : State) (hz : z.Follows s) : Follow z
    (Sys2Proof.Machine.execJobStart e s) := by
  unfold Sys2Proof.Machine.execJobStart
  try dsimp only
  repeat' first
    | with_reducible assumption
    | with_reducible apply State.Follows.inc
    | with_reducible apply State.Follows.jobEnd
    | with_reducible apply State.Follows.setEngine
    | with_reducible apply State.Follows.setJobs
    | with_reducible apply Follow.next
    | split

theorem Follow.execDwellDone {z : State} (e : Fin 8) (run : DwellRun) (s : State) (hz : z.Follows s) : Follow z
    (Sys2Proof.Machine.execDwellDone e run s) := by
  unfold Sys2Proof.Machine.execDwellDone
  try dsimp only
  repeat' first
    | with_reducible assumption
    | with_reducible apply State.Follows.bump
    | with_reducible apply State.Follows.chHandoff
    | with_reducible apply State.Follows.count
    | with_reducible apply State.Follows.engineDone
    | with_reducible apply State.Follows.engineNext
    | with_reducible apply State.Follows.inc
    | with_reducible apply State.Follows.jobEnd
    | with_reducible apply State.Follows.setEngine
    | with_reducible apply Follow.next
    | split

theorem Follow.execJobResultPop {z : State} (s : State) (hz : z.Follows s) :
    Follow z (Sys2Proof.Machine.execJobResultPop s) := by
  unfold Sys2Proof.Machine.execJobResultPop
  repeat' first
    | with_reducible assumption | with_reducible apply State.Follows.emit
    | with_reducible apply State.Follows.modGna | with_reducible apply State.Follows.set
    | with_reducible apply State.Follows.setI | with_reducible apply Follow.next | split

end Sys2Proof.Machine
end

