-- ==== Sys2Proof/Laws/KeepGnt.lean ====
section
/-! SUPPORT. What the operations of Machine/Gnt.lean keep. -/

namespace Sys2Proof.Machine

theorem State.Follows.cn0Dump {z : State} (c : Nat) (parts : List Cx) (s : State) (hz : z.Follows s) : z.Follows
    (Sys2Proof.Machine.State.cn0Dump c parts s) := by
  unfold Sys2Proof.Machine.State.cn0Dump
  repeat' first
    | with_reducible assumption
    | with_reducible apply State.Follows.bump
    | with_reducible apply State.Follows.modGnt
    | with_reducible apply State.Follows.set
    | with_reducible apply State.Follows.ite

theorem Follow.execChRelease {z : State} (c : BitVec 8) (s : State) (hz : z.Follows s) :
    Follow z (Sys2Proof.Machine.execChRelease c s) := by
  unfold Sys2Proof.Machine.execChRelease
  repeat' first
    | with_reducible assumption | with_reducible apply State.Follows.chIdle
    | with_reducible apply State.Follows.evt | with_reducible apply State.Follows.inc | with_reducible apply Follow.ite
    | with_reducible apply Follow.next

theorem Follow.execChCommit {z : State} (c : BitVec 8) (s : State) (hz : z.Follows s) :
    Follow z (Sys2Proof.Machine.execChCommit c s) := by
  unfold Sys2Proof.Machine.execChCommit
  repeat' first
    | with_reducible assumption | with_reducible apply State.Follows.commit | with_reducible apply Follow.next

theorem State.Follows.gntAfter {z : State} (c : Nat) (_old new : State) (hz : z.Follows new) : z.Follows
    (Sys2Proof.Machine.gntAfter c _old new) := by
  unfold Sys2Proof.Machine.gntAfter
  repeat' first
    | with_reducible assumption
    | with_reducible apply State.Follows.set
    | with_reducible apply State.Follows.ite

theorem State.Follows.chSlip {z : State} (c : Nat) (s : State) (hz : z.Follows s) : z.Follows (State.chSlip c s) := by
  unfold State.chSlip
  repeat' first
    | with_reducible assumption | with_reducible apply State.Follows.evt
    | with_reducible apply State.Follows.inc | with_reducible apply State.Follows.modGnt

theorem State.Follows.chSync {z : State} (c : Nat) (place : Nat × Nat) (s : State) (hz : z.Follows s) : z.Follows
    (Sys2Proof.Machine.State.chSync c place s) := by
  unfold Sys2Proof.Machine.State.chSync
  repeat' first
    | with_reducible assumption
    | with_reducible apply State.Follows.evt
    | with_reducible apply State.Follows.modGnt
    | with_reducible apply State.Follows.set
    | with_reducible apply State.Follows.setChState

theorem State.Follows.takeDump {z : State} (c : Nat) (d : DumpSums) (n : Nat) (s : State) (hz : z.Follows s) :
    z.Follows (Sys2Proof.Machine.State.takeDump c d n s) := by
  unfold Sys2Proof.Machine.State.takeDump
  try dsimp only
  repeat' first
    | with_reducible assumption
    | with_reducible apply State.Follows.bump
    | with_reducible apply State.Follows.chSlip
    | with_reducible apply State.Follows.chSync
    | with_reducible apply State.Follows.cn0Dump
    | with_reducible apply State.Follows.evt
    | with_reducible apply State.Follows.inc
    | with_reducible apply State.Follows.modGnt
    | with_reducible apply State.Follows.setChState
    | with_reducible apply State.Follows.setI
    | with_reducible apply State.Follows.ite
    | split
    | with_reducible apply State.Follows.mk'
    | rfl
    | exact Nat.le_add_right _ _

theorem Follow.execIntegrationDump {z : State} (ch : BitVec 8) (samples : List LaneSample) (s : State)
    (hz : z.Follows s) : Follow z (Sys2Proof.Machine.execIntegrationDump ch samples s) := by
  unfold Sys2Proof.Machine.execIntegrationDump
  try dsimp only
  repeat' first
    | with_reducible assumption
    | with_reducible apply State.Follows.takeDump
    | with_reducible apply Follow.ite
    | with_reducible apply Follow.next

theorem Follow.execPullinTimeout {z : State} (c : BitVec 8) (s : State) (hz : z.Follows s) :
    Follow z (Sys2Proof.Machine.execPullinTimeout c s) := by
  unfold Sys2Proof.Machine.execPullinTimeout
  repeat' first
    | with_reducible assumption | with_reducible apply State.Follows.chLoss | with_reducible apply Follow.ite
    | with_reducible apply Follow.next

theorem Follow.execSyncTimeout {z : State} (c : BitVec 8) (s : State) (hz : z.Follows s) :
    Follow z (Sys2Proof.Machine.execSyncTimeout c s) := by
  unfold Sys2Proof.Machine.execSyncTimeout
  repeat' first
    | with_reducible assumption | with_reducible apply State.Follows.chLoss | with_reducible apply Follow.ite
    | with_reducible apply Follow.next

theorem Follow.execCn0Loss {z : State} (c : BitVec 8) (s : State) (hz : z.Follows s) : Follow z
    (Sys2Proof.Machine.execCn0Loss c s) := by
  unfold Sys2Proof.Machine.execCn0Loss
  repeat' first
    | with_reducible assumption
    | with_reducible apply State.Follows.chLoss
    | with_reducible apply Follow.ite
    | with_reducible apply Follow.next

theorem Follow.execNavRecord {z : State} (ch : BitVec 8) (u : NavUnit) (s : State) (hz : z.Follows s) : Follow z
    (Sys2Proof.Machine.execNavRecord ch u s) := by
  unfold Sys2Proof.Machine.execNavRecord
  try dsimp only
  repeat' first
    | with_reducible assumption
    | with_reducible apply State.Follows.bump
    | with_reducible apply State.Follows.chSlip
    | with_reducible apply State.Follows.count
    | with_reducible apply State.Follows.emit
    | with_reducible apply State.Follows.evt
    | with_reducible apply State.Follows.inc
    | with_reducible apply State.Follows.modGna
    | with_reducible apply State.Follows.modGnt
    | refine State.Follows.ringPut _ _ _ ?_ (by with_reducible assumption)
    | with_reducible apply State.Follows.set
    | with_reducible apply Follow.next
    | split

theorem State.Follows.jamFlag {z : State} (s : State) (hz : z.Follows s) : z.Follows (State.jamFlag s) := by
  unfold State.jamFlag
  repeat' first
    | with_reducible assumption | with_reducible apply State.Follows.evt
    | with_reducible apply State.Follows.setB | with_reducible apply State.Follows.ite

theorem Follow.execJamWindow {z : State} (n : Fin 4) (samples : List LaneSample) (noise : BitVec 16) (s : State)
    (hz : z.Follows s) : Follow z (Sys2Proof.Machine.execJamWindow n samples noise s) := by
  unfold Sys2Proof.Machine.execJamWindow
  try dsimp only
  repeat' first
    | with_reducible assumption
    | with_reducible apply State.Follows.bump
    | with_reducible apply State.Follows.evt
    | with_reducible apply State.Follows.inc
    | with_reducible apply State.Follows.jamFlag
    | with_reducible apply State.Follows.modFe
    | with_reducible apply State.Follows.set
    | with_reducible apply State.Follows.setI
    | with_reducible apply Follow.next
    | split

end Sys2Proof.Machine
end

