-- ==== Sys2Proof/Laws/KeepGns.lean ====
section
/-! SUPPORT. What the operations of Machine/Gns.lean keep. -/

namespace Sys2Proof.Machine

theorem State.Follows.modGns {z : State} (f : Gns → Gns) (s : State) (hz : z.Follows s) : z.Follows (State.modGns f s) := by
  unfold State.modGns
  repeat' first
    | with_reducible assumption | with_reducible apply State.Follows.mk' | exact Nat.le_refl _ | rfl

theorem State.Follows.gnsStep {z : State} (d : Int) (s : State) (hz : z.Follows s) : z.Follows
    (Sys2Proof.Machine.State.gnsStep d s) := by
  unfold Sys2Proof.Machine.State.gnsStep
  repeat' first
    | with_reducible assumption
    | with_reducible apply State.Follows.incBy
    | with_reducible apply State.Follows.modGns

theorem State.Follows.spoofRise {z : State} (s : State) (hz : z.Follows s) : z.Follows (State.spoofRise s) := by
  unfold State.spoofRise
  repeat' first
    | with_reducible assumption | with_reducible apply State.Follows.evt
    | with_reducible apply State.Follows.file | with_reducible apply State.Follows.inc
    | with_reducible apply State.Follows.modGns | with_reducible apply State.Follows.set
    | with_reducible apply State.Follows.ite

theorem State.Follows.spoofFall {z : State} (s : State) (hz : z.Follows s) : z.Follows (State.spoofFall s) := by
  unfold State.spoofFall
  repeat' first
    | with_reducible assumption | with_reducible apply State.Follows.evt
    | with_reducible apply State.Follows.set | with_reducible apply State.Follows.ite

theorem State.Follows.coreStart {z : State} (s : State) (hz : z.Follows s) : z.Follows
    (Sys2Proof.Machine.State.coreStart s) := by
  unfold Sys2Proof.Machine.State.coreStart
  repeat' first
    | with_reducible assumption
    | with_reducible apply State.Follows.modGns
    | with_reducible apply State.Follows.set
    | with_reducible apply State.Follows.spoofFall
    | with_reducible apply State.Follows.spoofRise
    | with_reducible apply State.Follows.ite

theorem State.Follows.coreTryStart {z : State} (s : State) (hz : z.Follows s) : z.Follows (State.coreTryStart s) := by
  unfold State.coreTryStart
  repeat' first
    | with_reducible assumption | with_reducible apply State.Follows.coreStart
    | with_reducible apply State.Follows.ite

theorem State.Follows.coreHalt {z : State} (s : State) (hz : z.Follows s) : z.Follows (State.coreHalt s) := by
  unfold State.coreHalt
  repeat' first
    | with_reducible assumption | with_reducible apply State.Follows.coreStart
    | with_reducible apply State.Follows.evt | with_reducible apply State.Follows.file
    | with_reducible apply State.Follows.modGns | with_reducible apply State.Follows.set
    | with_reducible apply State.Follows.spoofRise | with_reducible apply State.Follows.withdrawFw
    | with_reducible apply State.Follows.ite

theorem State.Follows.putEpoch {z : State} (rec : List Byte) (s : State) (hz : z.Follows s) : z.Follows
    (Sys2Proof.Machine.State.putEpoch rec s) := by
  unfold Sys2Proof.Machine.State.putEpoch
  try dsimp only
  repeat' first
    | with_reducible assumption
    | with_reducible apply State.Follows.count
    | with_reducible apply State.Follows.emit
    | with_reducible apply State.Follows.evt
    | with_reducible apply State.Follows.inc
    | with_reducible apply State.Follows.modGns
    | refine State.Follows.ringPut _ _ _ ?_ (by with_reducible assumption)
    | split

theorem State.Follows.surveyStart {z : State} (s : State) (hz : z.Follows s) : z.Follows
    (Sys2Proof.Machine.State.surveyStart s) := by
  unfold Sys2Proof.Machine.State.surveyStart
  repeat' first
    | with_reducible assumption
    | with_reducible apply State.Follows.modGns
    | with_reducible apply State.Follows.set

theorem State.Follows.gnsSolAfter {z : State} (old new : State) (hz : z.Follows new) :
    z.Follows (Sys2Proof.Machine.gnsSolAfter old new) := by
  unfold Sys2Proof.Machine.gnsSolAfter
  repeat' first
    | with_reducible assumption | with_reducible apply State.Follows.modGns
    | with_reducible apply State.Follows.set | with_reducible apply State.Follows.surveyStart
    | with_reducible apply State.Follows.ite

theorem State.Follows.takeAtEpoch {z : State} (te : Nat) (g : Group) (cmd reject : Field) (ok : State → State → Bool)
    (after : State → State → State) (s : State) (hz : z.Follows s) (h_after : ∀ (a0 : State)
    (a1 : State), z.Follows a0 → z.Follows a1 → z.Follows (after a0 a1)) :
    z.Follows (State.takeAtEpoch te g cmd reject ok after s) := by
  unfold State.takeAtEpoch
  repeat' first
    | with_reducible assumption | with_reducible apply State.Follows.takeGroup
    | with_reducible apply State.Follows.ite

theorem State.Follows.ringMoved {z : State} (s : State) (r : RingRegs) (old : State) (hz : z.Follows s) :
    z.Follows (State.ringMoved s r old) := by
  unfold State.ringMoved
  repeat' first
    | with_reducible assumption | with_reducible apply State.Follows.set
    | with_reducible apply State.Follows.ite

theorem State.Follows.epochCommits {z : State} (te : Nat) (s : State) (hz : z.Follows s) : z.Follows
    (Sys2Proof.Machine.State.epochCommits te s) := by
  unfold Sys2Proof.Machine.State.epochCommits
  repeat' first
    | with_reducible assumption
    | with_reducible apply State.Follows.applyWaiting
    | with_reducible apply State.Follows.ringMoved
    | with_reducible apply State.Follows.set
    | with_reducible apply State.Follows.surveyStart
    | with_reducible apply State.Follows.takeAtEpoch
    | with_reducible apply State.Follows.feAfter
    | with_reducible apply State.Follows.gnsSolAfter
    | with_reducible apply State.Follows.gntAfter
    | with_reducible apply State.Follows.ite
    | with_reducible apply State.Follows.foldl
    | (intro _ _ _ _; try dsimp only)
    | (intro _ _ _; try dsimp only)

theorem State.Follows.gnsSecond {z : State} (s : State) (hz : z.Follows s) : z.Follows (State.gnsSecond s) := by
  unfold State.gnsSecond
  repeat' first
    | with_reducible assumption | with_reducible apply State.Follows.modGns
    | with_reducible apply State.Follows.set | split

theorem State.Follows.solFail {z : State} (cause : Nat) (s : State) (hz : z.Follows s) :
    z.Follows (State.solFail cause s) := by
  unfold State.solFail
  repeat' first
    | with_reducible assumption | with_reducible apply State.Follows.evt
    | with_reducible apply State.Follows.inc | with_reducible apply State.Follows.set

theorem State.Follows.judgePosition {z : State} (sol : Solution) (s : State) (hz : z.Follows s) : z.Follows
    (Sys2Proof.Machine.State.judgePosition sol s) := by
  unfold Sys2Proof.Machine.State.judgePosition
  repeat' first
    | with_reducible assumption
    | with_reducible apply State.Follows.evt
    | with_reducible apply State.Follows.file
    | with_reducible apply State.Follows.modGns
    | with_reducible apply State.Follows.set
    | with_reducible apply State.Follows.spoofFall
    | with_reducible apply State.Follows.spoofRise
    | with_reducible apply State.Follows.ite

theorem State.Follows.antennaCheck {z : State} (sol : Solution) (s : State) (hz : z.Follows s) :
    z.Follows (State.antennaCheck sol s) := by
  unfold State.antennaCheck
  repeat' first
    | with_reducible assumption | with_reducible apply State.Follows.modGns
    | with_reducible apply State.Follows.set | with_reducible apply State.Follows.spoofFall
    | with_reducible apply State.Follows.spoofRise | with_reducible apply State.Follows.ite

theorem State.Follows.surveyJudge {z : State} (sol : Solution) (s : State) (hz : z.Follows s) : z.Follows
    (Sys2Proof.Machine.State.surveyJudge sol s) := by
  unfold Sys2Proof.Machine.State.surveyJudge
  repeat' first
    | with_reducible assumption
    | with_reducible apply State.Follows.evt
    | with_reducible apply State.Follows.modGns
    | with_reducible apply State.Follows.set
    | with_reducible apply State.Follows.setI
    | with_reducible apply State.Follows.ite

theorem State.Follows.deliver {z : State} (sol : Solution) (corr : Int) (s : State) (hz : z.Follows s) :
    z.Follows (State.deliver sol corr s) := by
  unfold State.deliver
  repeat' first
    | with_reducible assumption | with_reducible apply State.Follows.evt
    | with_reducible apply State.Follows.inc | with_reducible apply State.Follows.leapPost
    | with_reducible apply State.Follows.set | with_reducible apply State.Follows.setPresent
    | with_reducible apply State.Follows.setSpan | with_reducible apply State.Follows.slotObserve

theorem Follow.execGnssEpoch {z : State} (late : Bool) (s : State) (hz : z.Follows s) : Follow z
    (Sys2Proof.Machine.execGnssEpoch late s) := by
  unfold Sys2Proof.Machine.execGnssEpoch
  repeat' first
    | with_reducible assumption
    | with_reducible apply State.Follows.chIdle
    | with_reducible apply State.Follows.epochCommits
    | with_reducible apply State.Follows.evt
    | with_reducible apply State.Follows.file
    | with_reducible apply State.Follows.inc
    | with_reducible apply State.Follows.jamFlag
    | with_reducible apply State.Follows.modGna
    | with_reducible apply State.Follows.modGns
    | with_reducible apply State.Follows.putEpoch
    | with_reducible apply Follow.ite
    | with_reducible apply Follow.next
    | with_reducible apply State.Follows.ite
    | with_reducible apply State.Follows.foldl
    | with_reducible apply Follow.elim
    | (intro _ _ _; try dsimp only)
    | (intro _; try dsimp only)
    | with_reducible apply State.Follows.mk'
    | rfl
    | exact Nat.le_add_right _ _

theorem Follow.execFwAck {z : State} (acts : FwActions) (s : State) (hz : z.Follows s) :
    Follow z (Sys2Proof.Machine.execFwAck acts s) := by
  unfold Sys2Proof.Machine.execFwAck
  repeat' first
    | with_reducible assumption | with_reducible apply State.Follows.chIdle
    | with_reducible apply State.Follows.modGns | with_reducible apply State.Follows.placeJob
    | with_reducible apply Follow.ite | with_reducible apply Follow.next | with_reducible apply State.Follows.foldl
    | (intro _ _ _; try dsimp only)

theorem Follow.execFwAckTimeout {z : State} (s : State) (hz : z.Follows s) :
    Follow z (Sys2Proof.Machine.execFwAckTimeout s) := by
  unfold Sys2Proof.Machine.execFwAckTimeout
  repeat' first
    | with_reducible assumption | with_reducible apply State.Follows.coreHalt
    | with_reducible apply State.Follows.modGns | with_reducible apply Follow.ite | with_reducible apply Follow.next

theorem Follow.execFwRestart {z : State} (s : State) (hz : z.Follows s) : Follow z (Sys2Proof.Machine.execFwRestart s) := by
  unfold Sys2Proof.Machine.execFwRestart
  repeat' first
    | with_reducible assumption | with_reducible apply State.Follows.coreStart
    | with_reducible apply State.Follows.withdrawFw | with_reducible apply Follow.ite | with_reducible apply Follow.next

theorem Follow.execSolCommit {z : State} (s : State) (hz : z.Follows s) : Follow z (Sys2Proof.Machine.execSolCommit s) := by
  unfold Sys2Proof.Machine.execSolCommit
  repeat' first
    | with_reducible assumption | with_reducible apply State.Follows.commit | with_reducible apply Follow.next

theorem Follow.execPosCommit {z : State} (s : State) (hz : z.Follows s) : Follow z (Sys2Proof.Machine.execPosCommit s) := by
  unfold Sys2Proof.Machine.execPosCommit
  repeat' first
    | with_reducible assumption | with_reducible apply State.Follows.commit | with_reducible apply Follow.next

theorem Follow.execSurveyStart {z : State} (s : State) (hz : z.Follows s) :
    Follow z (Sys2Proof.Machine.execSurveyStart s) := by
  unfold Sys2Proof.Machine.execSurveyStart
  repeat' first
    | with_reducible assumption | with_reducible apply State.Follows.set | with_reducible apply Follow.next

theorem State.Follows.takeSolution {z : State} (sol : Solution) (corr : Int) (s : State) (hz : z.Follows s) :
    z.Follows (Sys2Proof.Machine.State.takeSolution sol corr s) := by
  unfold Sys2Proof.Machine.State.takeSolution
  repeat' first
    | with_reducible assumption
    | with_reducible apply State.Follows.antennaCheck
    | with_reducible apply State.Follows.deliver
    | with_reducible apply State.Follows.file
    | with_reducible apply State.Follows.judgePosition
    | with_reducible apply State.Follows.set
    | with_reducible apply State.Follows.setI
    | with_reducible apply State.Follows.solFail
    | with_reducible apply State.Follows.surveyJudge
    | with_reducible apply State.Follows.ite
    | with_reducible apply State.Follows.foldl
    | (intro _ _ _; try dsimp only)

theorem Follow.execSolutionDelivery {z : State} (m : NavModel) (s : State) (hz : z.Follows s) : Follow z
    (Sys2Proof.Machine.execSolutionDelivery m s) := by
  unfold Sys2Proof.Machine.execSolutionDelivery
  repeat' first
    | with_reducible assumption
    | with_reducible apply State.Follows.modGns
    | with_reducible apply State.Follows.takeSolution
    | with_reducible apply Follow.next
    | split
    | with_reducible apply State.Follows.mk'
    | rfl
    | exact Nat.le_add_right _ _

end Sys2Proof.Machine
end

