-- ==== Sys2Proof/Laws/KeepGlv.lean ====
section
/-! SUPPORT. What the operations of Machine/Glv.lean keep. -/

namespace Sys2Proof.Machine

theorem State.Follows.modGlv {z : State} (f : Glv → Glv) (s : State) (hz : z.Follows s) : z.Follows (State.modGlv f s) := by
  unfold State.modGlv
  repeat' first
    | with_reducible assumption | with_reducible apply State.Follows.mk' | exact Nat.le_refl _ | rfl

theorem State.Follows.showMint {z : State} (s : State) (hz : z.Follows s) : z.Follows (State.showMint s) := by
  unfold State.showMint
  repeat' first
    | with_reducible assumption | with_reducible apply State.Follows.evt
    | with_reducible apply State.Follows.set | with_reducible apply State.Follows.setB
    | with_reducible apply State.Follows.ite

theorem State.Follows.setUses {z : State} (g n : Nat) (s : State) (hz : z.Follows s) : z.Follows (State.setUses g n s) := by
  unfold State.setUses
  repeat' first
    | with_reducible assumption | with_reducible apply State.Follows.set2

theorem State.Follows.useGlove {z : State} (g : Nat) (s : State) (hz : z.Follows s) : z.Follows (State.useGlove g s) := by
  unfold State.useGlove
  repeat' first
    | with_reducible assumption | with_reducible apply State.Follows.evt
    | with_reducible apply State.Follows.file | with_reducible apply State.Follows.modGlv
    | with_reducible apply State.Follows.set | with_reducible apply State.Follows.setUses
    | with_reducible apply State.Follows.showMint | with_reducible apply State.Follows.ite

theorem State.Follows.clearKeyData {z : State} (s : State) (hz : z.Follows s) : z.Follows (State.clearKeyData s) := by
  unfold State.clearKeyData
  repeat' first
    | with_reducible assumption | with_reducible apply State.Follows.set
    | with_reducible apply State.Follows.foldl | (intro _ _ _; try dsimp only)

theorem State.Follows.emptyGlove {z : State} (g : Nat) (s : State) (hz : z.Follows s) :
    z.Follows (State.emptyGlove g s) := by
  unfold State.emptyGlove
  repeat' first
    | with_reducible assumption | with_reducible apply State.Follows.modGlv
    | with_reducible apply State.Follows.set | with_reducible apply State.Follows.setUses

theorem State.Follows.destroyGlove {z : State} (g : Nat) (s : State) (hz : z.Follows s) :
    z.Follows (State.destroyGlove g s) := by
  unfold State.destroyGlove
  repeat' first
    | with_reducible assumption | with_reducible apply State.Follows.emptyGlove
    | with_reducible apply State.Follows.inc | with_reducible apply State.Follows.ite

theorem State.Follows.destroyAll {z : State} (s : State) (hz : z.Follows s) : z.Follows (State.destroyAll s) := by
  unfold State.destroyAll
  repeat' first
    | with_reducible assumption | with_reducible apply State.Follows.destroyGlove
    | with_reducible apply State.Follows.foldl | (intro _ _ _; try dsimp only)

theorem State.Follows.loadGlove {z : State} (g cls life id count key src : Nat) (s : State) (hz : z.Follows s) :
    z.Follows (State.loadGlove g cls life id count key src s) := by
  unfold State.loadGlove
  repeat' first
    | with_reducible assumption | with_reducible apply State.Follows.modGlv
    | with_reducible apply State.Follows.set | with_reducible apply State.Follows.setUses

theorem State.Follows.keyDone {z : State} (result : Nat) (s : State) (hz : z.Follows s) :
    z.Follows (State.keyDone result s) := by
  unfold State.keyDone
  repeat' first
    | with_reducible assumption | with_reducible apply State.Follows.evt
    | with_reducible apply State.Follows.set | with_reducible apply State.Follows.showMint

theorem Follow.execKeyLoad {z : State} (index : Fin 64) (s : State) (hz : z.Follows s) :
    Follow z (Sys2Proof.Machine.execKeyLoad index s) := by
  unfold Sys2Proof.Machine.execKeyLoad
  repeat' first
    | with_reducible assumption | with_reducible apply State.Follows.clearKeyData
    | with_reducible apply State.Follows.keyDone | with_reducible apply State.Follows.loadGlove
    | with_reducible apply State.Follows.set | with_reducible apply Follow.next | with_reducible apply State.Follows.ite

theorem Follow.execKeyDestroy {z : State} (index : Fin 64) (s : State) (hz : z.Follows s) :
    Follow z (Sys2Proof.Machine.execKeyDestroy index s) := by
  unfold Sys2Proof.Machine.execKeyDestroy
  repeat' first
    | with_reducible assumption | with_reducible apply State.Follows.clearKeyData
    | with_reducible apply State.Follows.destroyGlove | with_reducible apply State.Follows.keyDone
    | with_reducible apply State.Follows.set | with_reducible apply Follow.ite | with_reducible apply Follow.next

theorem Follow.execKeyDestroyAll {z : State} (s : State) (hz : z.Follows s) :
    Follow z (Sys2Proof.Machine.execKeyDestroyAll s) := by
  unfold Sys2Proof.Machine.execKeyDestroyAll
  repeat' first
    | with_reducible assumption | with_reducible apply State.Follows.clearKeyData
    | with_reducible apply State.Follows.destroyAll | with_reducible apply State.Follows.keyDone
    | with_reducible apply Follow.next

theorem Follow.execRngHealthFail {z : State} (s : State) (hz : z.Follows s) :
    Follow z (Sys2Proof.Machine.execRngHealthFail s) := by
  unfold Sys2Proof.Machine.execRngHealthFail
  repeat' first
    | with_reducible assumption | with_reducible apply State.Follows.evt
    | with_reducible apply State.Follows.file | with_reducible apply State.Follows.set | with_reducible apply Follow.next

theorem State.Follows.reseed {z : State} (s : State) (hz : z.Follows s) : z.Follows (State.reseed s) := by
  unfold State.reseed
  repeat' first
    | with_reducible assumption | with_reducible apply State.Follows.modGlv
    | with_reducible apply State.Follows.set

theorem State.Follows.nonce {z : State} (s : State) (hz : z.Follows s) : z.Follows (State.nonce s).2 := by
  unfold State.nonce
  repeat' first
    | with_reducible assumption | with_reducible apply State.Follows.bump
    | with_reducible apply State.Follows.modGlv | with_reducible apply State.Follows.ite

theorem State.Follows.glvSecond {z : State} (s : State) (hz : z.Follows s) : z.Follows (State.glvSecond s) := by
  unfold State.glvSecond
  repeat' first
    | with_reducible assumption | with_reducible apply State.Follows.takeGroup | (intro _ _ _ _; try dsimp only)

theorem Follow.execSecCommit {z : State} (s : State) (hz : z.Follows s) : Follow z (Sys2Proof.Machine.execSecCommit s) := by
  unfold Sys2Proof.Machine.execSecCommit
  repeat' first
    | with_reducible assumption | with_reducible apply State.Follows.commit | with_reducible apply Follow.next

theorem State.Follows.signMessage {z : State} (p : Nat) (client : Bool) (msg : List Byte)
    (s : State) {b : List Byte} {t : State} (h : z.Follows s) (e : State.signMessage p client msg s = some (b, t)) :
    z.Follows t := by
  unfold State.signMessage at e
  dsimp only at e
  split at e
  · cases e
  · cases e; exact State.Follows.inc _ _ (State.Follows.useGlove _ _ h)

theorem State.Follows.verifyMessage {z : State} (msg : List Byte) (s : State) (hz : z.Follows s) : z.Follows
    (Sys2Proof.Machine.State.verifyMessage msg s).2 := by
  unfold Sys2Proof.Machine.State.verifyMessage
  try dsimp only
  repeat' first
    | with_reducible assumption
    | with_reducible apply State.Follows.inc
    | with_reducible apply State.Follows.useGlove
    | split

theorem State.Follows.openCookie {z : State} (cookie : List Byte) (s : State) (hz : z.Follows s) :
    z.Follows (State.openCookie cookie s).2 := by
  unfold State.openCookie
  try dsimp only
  repeat' first
    | with_reducible assumption | with_reducible apply State.Follows.useGlove | split

theorem State.Follows.mintCookie {z : State} (g : Nat) (c2s s2c : List Byte) (s : State) (hz : z.Follows s) :
    z.Follows (State.mintCookie g c2s s2c s).2 := by
  unfold State.mintCookie
  repeat' first
    | with_reducible assumption | with_reducible apply State.Follows.nonce
    | with_reducible apply State.Follows.useGlove

theorem State.Follows.mintCookies {z : State} (c2s s2c : List Byte) (n : Nat) (s : State) (h : z.Follows s) :
    z.Follows (State.mintCookies c2s s2c n s).2 := by
  induction n generalizing s with
  | zero => exact h
  | succ n ih =>
    unfold State.mintCookies
    dsimp only
    split
    · exact ih _ (State.Follows.mintCookie _ _ _ _ h)
    · exact h

theorem State.Follows.ntsSeal {z : State} (header uid : List Byte) (cookies : List (List Byte)) (s2c : List Byte)
    (s : State) (hz : z.Follows s) :
    z.Follows (State.ntsSeal header uid cookies s2c s).2 := by
  unfold State.ntsSeal
  repeat' first
    | with_reducible assumption | with_reducible apply State.Follows.nonce

end Sys2Proof.Machine
end

