-- ==== Sys2Proof/Laws/KeepMem.lean ====
section
/-! SUPPORT. What the operations of Machine/Mem.lean keep. -/

namespace Sys2Proof.Machine

theorem State.Follows.showRefresh {z : State} (s : State) (hz : z.Follows s) : z.Follows (State.showRefresh s) := by
  unfold State.showRefresh
  repeat' first
    | with_reducible assumption | with_reducible apply State.Follows.setB

theorem State.Follows.memTake {z : State} (s : State) (hz : z.Follows s) : z.Follows (State.memTake s) := by
  unfold State.memTake
  repeat' first
    | with_reducible assumption | with_reducible apply State.Follows.showRefresh
    | with_reducible apply State.Follows.takeGroup | (intro _ _ _ _; try dsimp only)

theorem State.Follows.sramCe {z : State} (s : State) (hz : z.Follows s) : z.Follows (State.sramCe s) := by
  unfold State.sramCe
  repeat' first
    | with_reducible assumption | with_reducible apply State.Follows.count
    | with_reducible apply State.Follows.evt | with_reducible apply State.Follows.inc

theorem State.Follows.sramEffect {z : State} (inst : Nat) (k : SramKind) (s : State) (hz : z.Follows s) : z.Follows
    (Sys2Proof.Machine.State.sramEffect inst k s) := by
  unfold Sys2Proof.Machine.State.sramEffect
  repeat' first
    | with_reducible assumption
    | with_reducible apply State.Follows.coreHalt
    | with_reducible apply State.Follows.destroyGlove
    | with_reducible apply State.Follows.dramWrite
    | with_reducible apply State.Follows.evt
    | with_reducible apply State.Follows.file
    | with_reducible apply State.Follows.set
    | with_reducible apply State.Follows.touch
    | split

theorem State.Follows.sramUe {z : State} (inst word : Nat) (k : SramKind) (s : State) (hz : z.Follows s) :
    z.Follows (State.sramUe inst word k s) := by
  unfold State.sramUe
  repeat' first
    | with_reducible assumption | with_reducible apply State.Follows.count
    | with_reducible apply State.Follows.evt | with_reducible apply State.Follows.inc
    | with_reducible apply State.Follows.set | with_reducible apply State.Follows.sramEffect

theorem State.Follows.coreError {z : State} (s : State) (hz : z.Follows s) : z.Follows (Sys2Proof.Machine.State.coreError s) := by
  unfold Sys2Proof.Machine.State.coreError
  try dsimp only
  repeat' first
    | with_reducible assumption
    | with_reducible apply State.Follows.coreHalt
    | with_reducible apply State.Follows.ite
    | split

theorem State.Follows.memError {z : State} (e : MemError) (s : State) (hz : z.Follows s) :
    z.Follows (State.memError e s) := by
  unfold State.memError
  repeat' first
    | with_reducible assumption
    | with_reducible apply State.Follows.coreError
    | with_reducible apply State.Follows.upset
    | with_reducible apply State.Follows.dramCe
    | with_reducible apply State.Follows.dramUe
    | with_reducible apply State.Follows.sramCe
    | with_reducible apply State.Follows.sramUe
    | split

theorem State.Follows.memUpset {z : State} (e : MemError) (s : State) (hz : z.Follows s) : z.Follows (Sys2Proof.Machine.State.memUpset e s) := by
  unfold Sys2Proof.Machine.State.memUpset
  try dsimp only
  repeat' first
    | with_reducible assumption
    | with_reducible apply State.Follows.memError
    | with_reducible apply State.Follows.upset
    | with_reducible apply State.Follows.ite
    | split
    | refine State.Follows.snd (by with_reducible assumption) ?_
    | with_reducible apply State.Follows.mk'
    | rfl
    | exact Nat.le_refl _
    | exact Nat.le_add_right _ _

theorem Follow.execMemCommit {z : State} (s : State) (hz : z.Follows s) : Follow z (Sys2Proof.Machine.execMemCommit s) := by
  unfold Sys2Proof.Machine.execMemCommit
  repeat' first
    | with_reducible assumption | with_reducible apply State.Follows.commit | with_reducible apply Follow.next

theorem Follow.execMemTrainDone {z : State} (ok : Bool) (s : State) (h : z.Follows s) :
    Follow z (Sys2Proof.Machine.execMemTrainDone ok s) := by
  unfold Sys2Proof.Machine.execMemTrainDone
  dsimp only
  refine Follow.ite (.next h) (Follow.ite (.next ?_) (.next (State.Follows.file _ _ _ _ (h.set _ _))))
  have k := State.Follows.setB R.PMC.STAT.DUMP_ACTIVE (s.flag R.PMC.DUMP_CFG.EN) _
    (State.Follows.showRefresh _ ((h.set R.MEM.STAT.READY 1).set R.MEM.SIZE_MIB.MIB s.memMib))
  exact ⟨k.queue, k.sent, k.drawn, fun c => ⟨(k.canonical c).regs, (k.canonical c).shadow, rfl, .nil,
    (k.canonical c).flash⟩⟩

theorem State.Follows.setSweep {z : State} (dram : Bool) (x : SweepPass) (s : State) (hz : z.Follows s) : z.Follows (Sys2Proof.Machine.State.setSweep dram x s) := by
  unfold Sys2Proof.Machine.State.setSweep
  try dsimp only
  repeat' first
    | with_reducible assumption
    | with_reducible apply State.Follows.ite
    | split
    | with_reducible apply State.Follows.mk'
    | rfl
    | exact Nat.le_refl _
    | exact Nat.le_add_right _ _

theorem Follow.execSweepPassDone {z : State} (dram : Bool) (found : List MemError) (s : State) (hz : z.Follows s) :
    Follow z (Sys2Proof.Machine.execSweepPassDone dram found s) := by
  unfold Sys2Proof.Machine.execSweepPassDone
  repeat' first
    | with_reducible assumption
    | with_reducible apply State.Follows.setSweep
    | with_reducible apply Follow.ite
    | with_reducible apply State.Follows.foldlSnd
    | with_reducible apply State.Follows.foldlFst
    | with_reducible apply State.Follows.inc
    | with_reducible apply State.Follows.memError
    | with_reducible apply Follow.next
    | with_reducible apply State.Follows.foldl
    | (intro _ _ _; try dsimp only)

theorem Follow.execSweepSlow {z : State} (dram : Bool) (s : State) (hz : z.Follows s) :
    Follow z (Sys2Proof.Machine.execSweepSlow dram s) := by
  unfold Sys2Proof.Machine.execSweepSlow
  repeat' first
    | with_reducible assumption
    | with_reducible apply State.Follows.setSweep
    | with_reducible apply Follow.ite
    | with_reducible apply State.Follows.evt
    | with_reducible apply State.Follows.file
    | with_reducible apply Follow.next

theorem Follow.execBgStarved {z : State} (s : State) (hz : z.Follows s) : Follow z (Sys2Proof.Machine.execBgStarved s) := by
  unfold Sys2Proof.Machine.execBgStarved
  repeat' first
    | with_reducible assumption | with_reducible apply State.Follows.evt
    | with_reducible apply State.Follows.file | with_reducible apply Follow.next

end Sys2Proof.Machine
end

