-- ==== Sys2Proof/Laws/KeepPmc.lean ====
section
/-! SUPPORT. What the operations of Machine/Pmc.lean keep. -/

namespace Sys2Proof.Machine

theorem State.Follows.modPmc {z : State} (f : Pmc → Pmc) (s : State) (hz : z.Follows s) : z.Follows (State.modPmc f s) := by
  unfold State.modPmc
  repeat' first
    | with_reducible assumption | with_reducible apply State.Follows.mk' | exact Nat.le_refl _ | rfl

theorem State.Follows.takeTally {z : State} (t : Tally) (s : State) (hz : z.Follows s) :
    z.Follows (State.takeTally t s) := by
  unfold State.takeTally
  repeat' first
    | with_reducible assumption | with_reducible apply State.Follows.count
    | with_reducible apply State.Follows.ite | with_reducible apply State.Follows.foldl | (intro _ _ _; try dsimp only)

theorem State.Follows.selEventsAfter {z : State} (old new : State) (hz : z.Follows new) :
    z.Follows (Sys2Proof.Machine.selEventsAfter old new) := by
  unfold Sys2Proof.Machine.selEventsAfter
  repeat' first
    | with_reducible assumption | with_reducible apply State.Follows.modPmc
    | with_reducible apply State.Follows.set2 | with_reducible apply State.Follows.foldl | (intro _ _ _; try dsimp only)

theorem State.Follows.eventsTake {z : State} (s : State) (hz : z.Follows s) : z.Follows (State.eventsTake s) := by
  unfold State.eventsTake
  repeat' first
    | with_reducible assumption | with_reducible apply State.Follows.takeGroup
    | with_reducible apply State.Follows.selEventsAfter | (intro _ _ _ _; try dsimp only)

theorem State.Follows.putDump {z : State} (at_ : Option Nat) (tick : Nat) (late offGrid : Bool) (s : State)
    (hz : z.Follows s) :
    z.Follows (State.putDump at_ tick late offGrid s) := by
  unfold State.putDump
  try dsimp only
  repeat' first
    | with_reducible assumption | with_reducible apply State.Follows.evt
    | with_reducible apply State.Follows.file | with_reducible apply State.Follows.inc
    | with_reducible apply State.Follows.modPmc | refine State.Follows.ringPut _ _ _ ?_ (by with_reducible assumption)
    | split

theorem State.Follows.gridDump {z : State} (g tick : Nat) (late : Bool) (s : State) (hz : z.Follows s) :
    z.Follows (State.gridDump g tick late s) := by
  unfold State.gridDump
  repeat' first
    | with_reducible assumption | with_reducible apply State.Follows.modPmc
    | with_reducible apply State.Follows.putDump

theorem State.Follows.pmcStep {z : State} (d : Int) (s : State) (hz : z.Follows s) : z.Follows (State.pmcStep d s) := by
  unfold State.pmcStep
  repeat' first
    | with_reducible assumption | with_reducible apply State.Follows.modPmc | split

theorem State.Follows.formTheta {z : State} (s : State) (hz : z.Follows s) : z.Follows (State.formTheta s) := by
  unfold State.formTheta
  repeat' first
    | with_reducible assumption | with_reducible apply State.Follows.modPmc
    | with_reducible apply State.Follows.set | with_reducible apply State.Follows.setB

theorem State.Follows.sampAged {z : State} (s : State) (hz : z.Follows s) : z.Follows (Sys2Proof.Machine.State.sampAged s) := by
  unfold Sys2Proof.Machine.State.sampAged
  try dsimp only
  repeat' first
    | with_reducible assumption
    | with_reducible apply State.Follows.modPmc
    | with_reducible apply State.Follows.ite
    | split
    | with_reducible apply State.Follows.mk'
    | rfl
    | exact Nat.le_refl _
    | exact Nat.le_add_right _ _

theorem State.Follows.pmcChanged {z : State} (old s : State) (hz : z.Follows s) : z.Follows
    (Sys2Proof.Machine.State.pmcChanged old s) := by
  unfold Sys2Proof.Machine.State.pmcChanged
  repeat' first
    | with_reducible assumption
    | with_reducible apply State.Follows.modPmc
    | with_reducible apply State.Follows.ringMoved
    | with_reducible apply State.Follows.set
    | with_reducible apply State.Follows.setB
    | with_reducible apply State.Follows.ite
    | with_reducible apply State.Follows.foldl
    | (intro _ _ _; try dsimp only)

theorem State.Follows.pmcSecond {z : State} (old : State) (s : State) (hz : z.Follows s) :
    z.Follows (State.pmcSecond old s) := by
  unfold State.pmcSecond
  repeat' first
    | with_reducible assumption
    | with_reducible apply State.Follows.sampAged
    | with_reducible apply State.Follows.eventsTake
    | with_reducible apply State.Follows.formTheta
    | with_reducible apply State.Follows.gridDump
    | with_reducible apply State.Follows.pmcChanged
    | with_reducible apply State.Follows.showRefresh
    | with_reducible apply State.Follows.ite

theorem Follow.execPmcSelCommit {z : State} (s : State) (hz : z.Follows s) :
    Follow z (Sys2Proof.Machine.execPmcSelCommit s) := by
  unfold Sys2Proof.Machine.execPmcSelCommit
  repeat' first
    | with_reducible assumption | with_reducible apply State.Follows.commit | with_reducible apply Follow.next

theorem Follow.execDumpNow {z : State} (tally : Tally) (tick : Word) (late : Bool) (s : State) (hz : z.Follows s) :
    Follow z (Sys2Proof.Machine.execDumpNow tally tick late s) := by
  unfold Sys2Proof.Machine.execDumpNow
  repeat' first
    | with_reducible assumption
    | with_reducible apply State.Follows.putDump
    | with_reducible apply State.Follows.takeTally
    | with_reducible apply Follow.ite
    | with_reducible apply Follow.next

theorem Follow.execCounterDump {z : State} (tally : Tally) (tick : Word) (late : Bool) (s : State) (hz : z.Follows s) :
    Follow z (Sys2Proof.Machine.execCounterDump tally tick late s) := by
  unfold Sys2Proof.Machine.execCounterDump
  try dsimp only
  repeat' first
    | with_reducible assumption | with_reducible apply State.Follows.gridDump
    | with_reducible apply State.Follows.putDump | with_reducible apply State.Follows.takeTally
    | with_reducible apply Follow.next | split

theorem Follow.execCntLoRead {z : State} (i : Fin 1024) (tally : Tally) (s : State) (hz : z.Follows s) :
    Follow z (Sys2Proof.Machine.execCntLoRead i tally s) := by
  unfold Sys2Proof.Machine.execCntLoRead
  repeat' first
    | with_reducible assumption | with_reducible apply State.Follows.emit
    | with_reducible apply State.Follows.modPmc | with_reducible apply State.Follows.takeTally
    | with_reducible apply Follow.next

theorem Follow.execCntHiRead {z : State} (s : State) (hz : z.Follows s) : Follow z (Sys2Proof.Machine.execCntHiRead s) := by
  unfold Sys2Proof.Machine.execCntHiRead
  repeat' first
    | with_reducible assumption | with_reducible apply State.Follows.emit | with_reducible apply Follow.next

theorem State.Follows.takeSample {z : State} (o : SampleObs) (s : State) (hz : z.Follows s) :
    z.Follows (State.takeSample o s) := by
  unfold State.takeSample
  try dsimp only
  repeat' first
    | with_reducible assumption | with_reducible apply State.Follows.bump
    | with_reducible apply State.Follows.inc | with_reducible apply State.Follows.modPmc
    | refine State.Follows.ringPut _ _ _ ?_ (by with_reducible assumption) | split

theorem Follow.execSampleTrigger {z : State} (obs : List SampleObs) (s : State) (hz : z.Follows s) :
    Follow z (Sys2Proof.Machine.execSampleTrigger obs s) := by
  unfold Sys2Proof.Machine.execSampleTrigger
  repeat' first
    | with_reducible assumption
    | with_reducible apply State.Follows.modPmc
    | with_reducible apply State.Follows.foldlSnd
    | with_reducible apply State.Follows.foldlFst
    | with_reducible apply State.Follows.takeSample
    | with_reducible apply Follow.ite
    | with_reducible apply Follow.next
    | with_reducible apply State.Follows.foldl
    | (intro _ _ _; try dsimp only)

theorem Follow.execTelemetrySample {z : State} (die : List (BitVec 16)) (supply : List (BitVec 16)) (s : State)
    (hz : z.Follows s) :
    Follow z (Sys2Proof.Machine.execTelemetrySample die supply s) := by
  unfold Sys2Proof.Machine.execTelemetrySample
  repeat' first
    | with_reducible assumption | with_reducible apply State.Follows.evt
    | with_reducible apply State.Follows.file | with_reducible apply State.Follows.modPmc
    | with_reducible apply State.Follows.set | with_reducible apply Follow.next | with_reducible apply State.Follows.foldl
    | (intro _ _ _; try dsimp only) | split

theorem State.Follows.extRead {z : State} (k : Nat) (v : Option (BitVec 16)) (s : State) (hz : z.Follows s) :
    z.Follows (State.extRead k v s) := by
  unfold State.extRead
  try dsimp only
  repeat' first
    | with_reducible assumption | with_reducible apply State.Follows.bump
    | with_reducible apply State.Follows.emit | with_reducible apply State.Follows.modPmc
    | with_reducible apply State.Follows.set | split

theorem Follow.execExtSensorRead {z : State} (v0 v1 v2 v3 : Option (BitVec 16)) (s : State) (hz : z.Follows s) :
    Follow z (Sys2Proof.Machine.execExtSensorRead v0 v1 v2 v3 s) := by
  unfold Sys2Proof.Machine.execExtSensorRead
  repeat' first
    | with_reducible assumption | with_reducible apply State.Follows.extRead
    | with_reducible apply State.Follows.showRefresh | with_reducible apply Follow.next

end Sys2Proof.Machine
end

