-- ==== Sys2Proof/Laws/KeepSmp.lean ====
section
/-! SUPPORT. What the operations of Machine/Smp.lean keep. -/

namespace Sys2Proof.Machine

theorem State.Follows.modSpk {z : State} (n : Nat) (f : SmpPort → SmpPort) (s : State) (hz : z.Follows s) :
    z.Follows (State.modSpk n f s) := by
  unfold State.modSpk
  repeat' first
    | with_reducible assumption | with_reducible apply State.Follows.mk' | exact Nat.le_refl _ | rfl

theorem State.Follows.modLead {z : State} (l : Nat) (f : SmpLead → SmpLead) (s : State) (hz : z.Follows s) :
    z.Follows (State.modLead l f s) := by
  unfold State.modLead
  repeat' first
    | with_reducible assumption | with_reducible apply State.Follows.mk' | exact Nat.le_refl _ | rfl

theorem State.Follows.smpAfter {z : State} (n : Nat) (old new : State) (hz : z.Follows new) : z.Follows
    (Sys2Proof.Machine.smpAfter n old new) := by
  unfold Sys2Proof.Machine.smpAfter
  repeat' first
    | with_reducible assumption
    | with_reducible apply State.Follows.modSpk
    | with_reducible apply State.Follows.set
    | with_reducible apply State.Follows.ite

theorem State.Follows.smpCommitSecond {z : State} (n : Nat) (s : State) (hz : z.Follows s) :
    z.Follows (State.smpCommitSecond n s) := by
  unfold State.smpCommitSecond
  repeat' first
    | with_reducible assumption | with_reducible apply State.Follows.takeGroup
    | with_reducible apply State.Follows.smpAfter | (intro _ _ _ _; try dsimp only)

theorem State.Follows.leadSecond {z : State} (s : State) (hz : z.Follows s) : z.Follows (State.leadSecond s) := by
  unfold State.leadSecond
  repeat' first
    | with_reducible assumption | with_reducible apply State.Follows.applyWaiting
    | with_reducible apply State.Follows.evt | with_reducible apply State.Follows.modLead
    | with_reducible apply State.Follows.tdcAbort | with_reducible apply State.Follows.ite
    | with_reducible apply State.Follows.filterShadow

theorem State.Follows.leadSpoil {z : State} (n : Nat) (s : State) (hz : z.Follows s) : z.Follows (State.leadSpoil n s) := by
  unfold State.leadSpoil
  repeat' first
    | with_reducible assumption | with_reducible apply State.Follows.modLead
    | with_reducible apply State.Follows.foldl | (intro _ _ _; try dsimp only)

theorem State.Follows.leadSpoilAll {z : State} (s : State) (hz : z.Follows s) : z.Follows (State.leadSpoilAll s) := by
  unfold State.leadSpoilAll
  repeat' first
    | with_reducible assumption | with_reducible apply State.Follows.modLead
    | with_reducible apply State.Follows.foldl | (intro _ _ _; try dsimp only)

theorem State.Follows.smpStartStamp {z : State} (n : Nat) (t : Int) (fine : Bool) (s : State) (hz : z.Follows s) :
    z.Follows (State.smpStartStamp n t fine s) := by
  unfold State.smpStartStamp
  repeat' first
    | with_reducible assumption | with_reducible apply State.Follows.setB
    | with_reducible apply State.Follows.setTime

theorem State.Follows.leadStamp {z : State} (l : Nat) (t : Int) (s : State) (hz : z.Follows s) :
    z.Follows (State.leadStamp l t s) := by
  unfold State.leadStamp
  repeat' first
    | with_reducible assumption | with_reducible apply State.Follows.bump
    | with_reducible apply State.Follows.modLead | with_reducible apply State.Follows.setI
    | with_reducible apply State.Follows.setTime | with_reducible apply State.Follows.smpStartStamp
    | with_reducible apply State.Follows.ite

theorem State.Follows.leadStats {z : State} (l : Nat) (s : State) (hz : z.Follows s) : z.Follows (State.leadStats l s) := by
  unfold State.leadStats
  repeat' first
    | with_reducible assumption | with_reducible apply State.Follows.bump
    | with_reducible apply State.Follows.modLead | with_reducible apply State.Follows.setB
    | with_reducible apply State.Follows.setI | with_reducible apply State.Follows.ite

theorem State.Follows.smpFlushWords {z : State} (n : Nat) (s : State) (hz : z.Follows s) :
    z.Follows (State.smpFlushWords n s) := by
  unfold State.smpFlushWords
  repeat' first
    | with_reducible assumption | with_reducible apply State.Follows.emit
    | with_reducible apply State.Follows.modSpk | with_reducible apply State.Follows.ite

theorem State.Follows.smpDisarm {z : State} (n : Nat) (s : State) (hz : z.Follows s) : z.Follows (State.smpDisarm n s) := by
  unfold State.smpDisarm
  repeat' first
    | with_reducible assumption | with_reducible apply State.Follows.modSpk
    | with_reducible apply State.Follows.set | split | with_reducible apply State.Follows.mk' | exact Nat.le_refl _ | rfl

theorem State.Follows.smpIdle {z : State} (n : Nat) (s : State) (hz : z.Follows s) : z.Follows (State.smpIdle n s) := by
  unfold State.smpIdle
  repeat' first
    | with_reducible assumption | with_reducible apply State.Follows.modSpk
    | with_reducible apply State.Follows.set | with_reducible apply State.Follows.smpDisarm
    | with_reducible apply State.Follows.smpFlushWords

theorem State.Follows.smpPreroll {z : State} (n : Nat) (resume : Bool) (s : State) (hz : z.Follows s) :
    z.Follows (State.smpPreroll n resume s) := by
  unfold State.smpPreroll
  repeat' first
    | with_reducible assumption | with_reducible apply State.Follows.modSpk
    | with_reducible apply State.Follows.set | with_reducible apply State.Follows.ite

theorem State.Follows.smpStall {z : State} (n cause : Nat) (s : State) (hz : z.Follows s) : z.Follows
    (Sys2Proof.Machine.State.smpStall n cause s) := by
  unfold Sys2Proof.Machine.State.smpStall
  repeat' first
    | with_reducible assumption
    | with_reducible apply State.Follows.evt
    | with_reducible apply State.Follows.file
    | with_reducible apply State.Follows.inc
    | with_reducible apply State.Follows.leadSpoil
    | with_reducible apply State.Follows.modSpk
    | with_reducible apply State.Follows.set
    | with_reducible apply State.Follows.smpDisarm
    | with_reducible apply State.Follows.smpFlushWords
    | with_reducible apply State.Follows.smpIdle
    | with_reducible apply State.Follows.ite

theorem State.Follows.smpPostroll {z : State} (n : Nat) (s : State) (hz : z.Follows s) :
    z.Follows (State.smpPostroll n s) := by
  unfold State.smpPostroll
  repeat' first
    | with_reducible assumption | with_reducible apply State.Follows.evt
    | with_reducible apply State.Follows.modSpk | with_reducible apply State.Follows.set
    | with_reducible apply State.Follows.smpIdle | with_reducible apply State.Follows.ite

theorem State.Follows.smpRun {z : State} (n : Nat) (t : Option Int) (s : State) (hz : z.Follows s) :
    z.Follows (State.smpRun n t s) := by
  unfold State.smpRun
  try dsimp only
  repeat' first
    | with_reducible assumption | with_reducible apply State.Follows.evt
    | with_reducible apply State.Follows.modSpk | with_reducible apply State.Follows.set
    | with_reducible apply State.Follows.set2 | with_reducible apply State.Follows.smpStartStamp | split

theorem State.Follows.smpPoisoned {z : State} (n k : Nat) (s : State) (hz : z.Follows s) : z.Follows (Sys2Proof.Machine.State.smpPoisoned n k s) := by
  unfold Sys2Proof.Machine.State.smpPoisoned
  try dsimp only
  repeat' first
    | with_reducible assumption
    | with_reducible apply State.Follows.evt
    | with_reducible apply State.Follows.incBy
    | with_reducible apply State.Follows.ite
    | split

theorem State.Follows.smpTake {z : State} (n k : Nat) (s : State) {b : List Byte} {t : State} (h : z.Follows s)
    (e : State.smpTake n k s = some (b, t)) :
    z.Follows t := by
  unfold State.smpTake at e
  dsimp only at e
  split at e
  · cases e; exact (State.Follows.smpPoisoned _ _ _ (State.Follows.countBad _ _ h)).set _ _
  · cases e

theorem State.Follows.smpUnderrun {z : State} (n : Nat) (s : State) (hz : z.Follows s) :
    z.Follows (State.smpUnderrun n s) := by
  unfold State.smpUnderrun
  repeat' first
    | with_reducible assumption | with_reducible apply State.Follows.evt
    | with_reducible apply State.Follows.inc | with_reducible apply State.Follows.set
    | with_reducible apply State.Follows.ite

theorem State.Follows.smpTxSlot {z : State} (n slot : Nat) (s : State) (hz : z.Follows s) :
    z.Follows (State.smpTxSlot n slot s).2 := by
  unfold State.smpTxSlot
  repeat' first
    | with_reducible assumption | refine State.Follows.smpTake _ _ _ ?_ (by with_reducible assumption)
    | with_reducible apply State.Follows.smpUnderrun | split

theorem State.Follows.smpFetch {z : State} (n : Nat) (s : State) (hz : z.Follows s) : z.Follows (State.smpFetch n s) := by
  unfold State.smpFetch
  try dsimp only
  repeat' first
    | with_reducible assumption | with_reducible apply State.Follows.modSpk
    | refine State.Follows.smpTake _ _ _ ?_ (by with_reducible assumption) | with_reducible apply State.Follows.smpTxSlot
    | with_reducible apply State.Follows.smpUnderrun | split

theorem State.Follows.smpPut {z : State} (n : Nat) (bs : List Byte) (s : State) (hz : z.Follows s) :
    z.Follows (State.smpPut n bs s) := by
  unfold State.smpPut
  try dsimp only
  repeat' first
    | with_reducible assumption | with_reducible apply State.Follows.evt
    | with_reducible apply State.Follows.inc | refine State.Follows.ringPut _ _ _ ?_ (by with_reducible assumption)
    | with_reducible apply State.Follows.set | split

theorem State.Follows.smpReceive {z : State} (n : Nat) (u : SampleFrame) (framing : Bool) (s : State) (hz : z.Follows s) :
    z.Follows (State.smpReceive n u framing s) := by
  unfold State.smpReceive
  repeat' first
    | with_reducible assumption | with_reducible apply State.Follows.smpPut
    | with_reducible apply State.Follows.ite

theorem State.Follows.csLatch {z : State} (n ch c : Nat) (s : State) (hz : z.Follows s) :
    z.Follows (State.csLatch n ch c s) := by
  unfold State.csLatch
  repeat' first
    | with_reducible assumption | with_reducible apply State.Follows.set
    | with_reducible apply State.Follows.foldl | (intro _ _ _; try dsimp only)

theorem State.Follows.csBlock {z : State} (n : Nat) (s : State) (hz : z.Follows s) : z.Follows (State.csBlock n s) := by
  unfold State.csBlock
  repeat' first
    | with_reducible assumption | with_reducible apply State.Follows.csLatch
    | with_reducible apply State.Follows.evt | with_reducible apply State.Follows.inc
    | with_reducible apply State.Follows.ite

theorem State.Follows.csReceive {z : State} (n : Nat) (u : SampleFrame) (s : State) (hz : z.Follows s) :
    z.Follows (State.csReceive n u s) := by
  unfold State.csReceive
  try dsimp only
  repeat' first
    | with_reducible assumption | with_reducible apply State.Follows.csBlock
    | with_reducible apply State.Follows.modSpk | split

theorem State.Follows.aesTrack {z : State} (n : Nat) (u : SampleFrame) (s : State) (hz : z.Follows s) :
    z.Follows (State.aesTrack n u s) := by
  unfold State.aesTrack
  repeat' first
    | with_reducible assumption | with_reducible apply State.Follows.modSpk
    | with_reducible apply State.Follows.set | with_reducible apply State.Follows.setB
    | with_reducible apply State.Follows.ite

theorem State.Follows.smpGroupFail {z : State} (k cause : Nat) (s : State) (hz : z.Follows s) :
    z.Follows (State.smpGroupFail k cause s) := by
  unfold State.smpGroupFail
  repeat' first
    | with_reducible assumption | with_reducible apply State.Follows.evt
    | with_reducible apply State.Follows.set | with_reducible apply State.Follows.smpIdle
    | with_reducible apply State.Follows.foldl | (intro _ _ _; try dsimp only) | with_reducible apply State.Follows.mk'
    | exact Nat.le_refl _ | rfl

theorem State.Follows.smpStart {z : State} (n : Nat) (t : Option Int) (s : State) (hz : z.Follows s) :
    z.Follows (State.smpStart n t s) := by
  unfold State.smpStart
  repeat' first
    | with_reducible assumption | with_reducible apply State.Follows.smpFetch
    | with_reducible apply State.Follows.smpRun

theorem State.Follows.smpGroupStart {z : State} (k : Nat) (em : Int) (s : State) (hz : z.Follows s) :
    z.Follows (State.smpGroupStart k em s) := by
  unfold State.smpGroupStart
  repeat' first
    | with_reducible assumption | with_reducible apply State.Follows.evt
    | with_reducible apply State.Follows.modSpk | with_reducible apply State.Follows.set
    | with_reducible apply State.Follows.smpGroupFail | with_reducible apply State.Follows.smpStart
    | with_reducible apply State.Follows.foldl | (intro _ _ _; try dsimp only) | split
    | with_reducible apply State.Follows.mk' | exact Nat.le_refl _ | rfl

theorem State.Follows.smpGroupStop {z : State} (k master : Nat) (em : Int) (s : State) (hz : z.Follows s) :
    z.Follows (State.smpGroupStop k master em s) := by
  unfold State.smpGroupStop
  repeat' first
    | with_reducible assumption | with_reducible apply State.Follows.modSpk
    | with_reducible apply State.Follows.set | with_reducible apply State.Follows.set2
    | with_reducible apply State.Follows.smpFetch | with_reducible apply State.Follows.smpPostroll
    | with_reducible apply State.Follows.foldl | (intro _ _ _; try dsimp only) | split

theorem State.Follows.smpCstx {z : State} (n : Nat) (s : State) (hz : z.Follows s) : z.Follows (State.smpCstx n s) := by
  unfold State.smpCstx
  repeat' first
    | with_reducible assumption | with_reducible apply State.Follows.takeGroup
    | with_reducible apply State.Follows.ite | (intro _ _ _ _; try dsimp only)

theorem State.Follows.smpMask {z : State} (n : Nat) (s : State) (hz : z.Follows s) : z.Follows (State.smpMask n s) := by
  unfold State.smpMask
  repeat' first
    | with_reducible assumption | with_reducible apply State.Follows.applyWaiting
    | with_reducible apply State.Follows.set | with_reducible apply State.Follows.ite

theorem State.Follows.smpAdvance {z : State} (n : Nat) (t : Option Int) (good : Bool) (s : State) (hz : z.Follows s) :
    z.Follows (State.smpAdvance n t good s) := by
  unfold State.smpAdvance
  try dsimp only
  repeat' first
    | with_reducible assumption | with_reducible apply State.Follows.evt
    | with_reducible apply State.Follows.modSpk | with_reducible apply State.Follows.set2
    | with_reducible apply State.Follows.smpIdle | with_reducible apply State.Follows.smpPostroll
    | with_reducible apply State.Follows.smpPreroll | with_reducible apply State.Follows.smpRun | split

theorem State.Follows.smpDrive {z : State} (n : Nat) (s : State) (hz : z.Follows s) : z.Follows (State.smpDrive n s) := by
  unfold State.smpDrive
  repeat' first
    | with_reducible assumption | with_reducible apply State.Follows.setB

theorem State.Follows.smpMaster {z : State} (n : Nat) (t : Option Int) (s : State) (hz : z.Follows s) :
    z.Follows (State.smpMaster n t s) := by
  unfold State.smpMaster
  repeat' first
    | with_reducible assumption | with_reducible apply State.Follows.smpGroupStart
    | with_reducible apply State.Follows.smpGroupStop | with_reducible apply State.Follows.foldl
    | (intro _ _ _; try dsimp only) | split

theorem State.Follows.smpMasterStop {z : State} (n : Nat) (s : State) (hz : z.Follows s) :
    z.Follows (State.smpMasterStop n s) := by
  unfold State.smpMasterStop
  repeat' first
    | with_reducible assumption | with_reducible apply State.Follows.set
    | with_reducible apply State.Follows.ite

theorem State.Follows.smpBlockNext {z : State} (n : Nat) (s : State) (hz : z.Follows s) :
    z.Follows (State.smpBlockNext n s) := by
  unfold State.smpBlockNext
  repeat' first
    | with_reducible assumption | with_reducible apply State.Follows.modSpk

theorem State.Follows.smpStep {z : State} (d : Int) (s : State) (hz : z.Follows s) : z.Follows (State.smpStep d s) := by
  unfold State.smpStep
  repeat' first
    | with_reducible assumption | with_reducible apply State.Follows.leadSpoilAll
    | with_reducible apply State.Follows.modLead | with_reducible apply State.Follows.smpGroupFail
    | with_reducible apply State.Follows.foldl | (intro _ _ _; try dsimp only) | with_reducible apply State.Follows.mk'
    | exact Nat.le_refl _ | rfl

theorem State.Follows.smpSecond {z : State} (s : State) (hz : z.Follows s) : z.Follows (State.smpSecond s) := by
  unfold State.smpSecond
  repeat' first
    | with_reducible assumption | with_reducible apply State.Follows.leadSecond
    | with_reducible apply State.Follows.leadStats | with_reducible apply State.Follows.smpCommitSecond
    | with_reducible apply State.Follows.foldl | (intro _ _ _; try dsimp only)

theorem Follow.execSmpCommit {z : State} (n : Fin 8) (s : State) (hz : z.Follows s) :
    Follow z (Sys2Proof.Machine.execSmpCommit n s) := by
  unfold Sys2Proof.Machine.execSmpCommit
  repeat' first
    | with_reducible assumption | with_reducible apply State.Follows.commit | with_reducible apply Follow.next

theorem Follow.execSmpStart {z : State} (n : Fin 8) (s : State) (hz : z.Follows s) :
    Follow z (Sys2Proof.Machine.execSmpStart n s) := by
  unfold Sys2Proof.Machine.execSmpStart
  repeat' first
    | with_reducible assumption | with_reducible apply State.Follows.evt
    | with_reducible apply State.Follows.smpPreroll | with_reducible apply Follow.ite | with_reducible apply Follow.next

theorem Follow.execSmpStop {z : State} (n : Fin 8) (s : State) (hz : z.Follows s) :
    Follow z (Sys2Proof.Machine.execSmpStop n s) := by
  unfold Sys2Proof.Machine.execSmpStop
  repeat' first
    | with_reducible assumption | with_reducible apply State.Follows.set
    | with_reducible apply State.Follows.smpIdle | with_reducible apply Follow.ite | with_reducible apply Follow.next

theorem Follow.execCsCommit {z : State} (n : Fin 8) (s : State) (hz : z.Follows s) :
    Follow z (Sys2Proof.Machine.execCsCommit n s) := by
  unfold Sys2Proof.Machine.execCsCommit
  repeat' first
    | with_reducible assumption | with_reducible apply State.Follows.commit | with_reducible apply Follow.next

theorem State.Follows.smpRefuse {z : State} (cause : Nat) (s : State) (hz : z.Follows s) :
    z.Follows (State.smpRefuse cause s) := by
  unfold State.smpRefuse
  repeat' first
    | with_reducible assumption | with_reducible apply State.Follows.evt
    | with_reducible apply State.Follows.set

theorem Follow.execGrpStart {z : State} (k : Fin 4) (s : State) (hz : z.Follows s) :
    Follow z (Sys2Proof.Machine.execGrpStart k s) := by
  unfold Sys2Proof.Machine.execGrpStart
  repeat' first
    | with_reducible assumption | with_reducible apply State.Follows.file
    | with_reducible apply State.Follows.modSpk | with_reducible apply State.Follows.set
    | with_reducible apply State.Follows.smpPreroll | with_reducible apply State.Follows.smpRefuse
    | with_reducible apply Follow.ite | with_reducible apply Follow.next | with_reducible apply State.Follows.foldl
    | (intro _ _ _; try dsimp only) | with_reducible apply State.Follows.mk' | exact Nat.le_refl _ | rfl

theorem Follow.execGrpStop {z : State} (k : Fin 4) (s : State) (hz : z.Follows s) :
    Follow z (Sys2Proof.Machine.execGrpStop k s) := by
  unfold Sys2Proof.Machine.execGrpStop
  repeat' first
    | with_reducible assumption | with_reducible apply State.Follows.set | with_reducible apply Follow.next

theorem Follow.execSmpFrameEdge {z : State} (n : Fin 8) (u : SampleFrame) (s : State) (hz : z.Follows s) :
    Follow z (Sys2Proof.Machine.execSmpFrameEdge n u s) := by
  unfold Sys2Proof.Machine.execSmpFrameEdge
  repeat' first
    | with_reducible assumption | with_reducible apply State.Follows.aesTrack
    | with_reducible apply State.Follows.csReceive | with_reducible apply State.Follows.evt
    | with_reducible apply State.Follows.inc | with_reducible apply State.Follows.leadSpoil
    | with_reducible apply State.Follows.modSpk | with_reducible apply State.Follows.setB
    | with_reducible apply State.Follows.smpAdvance | with_reducible apply State.Follows.smpBlockNext
    | with_reducible apply State.Follows.smpCstx | with_reducible apply State.Follows.smpDrive
    | with_reducible apply State.Follows.smpFetch | with_reducible apply State.Follows.smpFlushWords
    | with_reducible apply State.Follows.smpMask | with_reducible apply State.Follows.smpMaster
    | with_reducible apply State.Follows.smpMasterStop | with_reducible apply State.Follows.smpReceive
    | with_reducible apply State.Follows.smpStall | with_reducible apply Follow.ite | with_reducible apply Follow.next
    | with_reducible apply State.Follows.ite

theorem Follow.execSmpEdgeTimeout {z : State} (n : Fin 8) (s : State) (hz : z.Follows s) :
    Follow z (Sys2Proof.Machine.execSmpEdgeTimeout n s) := by
  unfold Sys2Proof.Machine.execSmpEdgeTimeout
  repeat' first
    | with_reducible assumption | with_reducible apply State.Follows.leadSpoil
    | with_reducible apply State.Follows.modSpk | with_reducible apply State.Follows.set
    | with_reducible apply State.Follows.smpStall | with_reducible apply Follow.ite | with_reducible apply Follow.next
    | with_reducible apply State.Follows.ite

end Sys2Proof.Machine
end

