-- ==== Sys2Proof/Laws/KeepTxn.lean ====
section
/-! SUPPORT. What the operations of Machine/Txn.lean keep. -/

namespace Sys2Proof.Machine

theorem State.Follows.modPort {z : State} (p : Nat) (f : EthPort → EthPort) (s : State) (hz : z.Follows s) :
    z.Follows (State.modPort p f s) := by
  unfold State.modPort
  repeat' first
    | with_reducible assumption | with_reducible apply State.Follows.mk' | exact Nat.le_refl _ | rfl

theorem State.Follows.setUnsched {z : State} (p : Nat) (l : List Unsched) (s : State) (hz : z.Follows s) :
    z.Follows (Sys2Proof.Machine.State.setUnsched p l s) := by
  unfold Sys2Proof.Machine.State.setUnsched
  try dsimp only
  repeat' first
    | with_reducible assumption
    | with_reducible apply State.Follows.modPort
    | with_reducible apply State.Follows.ite
    | split
    | with_reducible apply State.Follows.mk'
    | rfl
    | exact Nat.le_refl _
    | exact Nat.le_add_right _ _

theorem State.Follows.modFlue {z : State} (p : Nat) (f : LtsPort → LtsPort) (s : State) (hz : z.Follows s) :
    z.Follows (State.modFlue p f s) := by
  unfold State.modFlue
  repeat' first
    | with_reducible assumption | with_reducible apply State.Follows.mk' | exact Nat.le_refl _ | rfl

theorem State.Follows.setResv {z : State} (p : Nat) (rs : List Resv) (s : State) (hz : z.Follows s) :
    z.Follows (State.setResv p rs s) := by
  unfold State.setResv
  repeat' first
    | with_reducible assumption | with_reducible apply State.Follows.modFlue
    | with_reducible apply State.Follows.set

theorem State.Follows.showTxns {z : State} (s : State) (hz : z.Follows s) : z.Follows (State.showTxns s) := by
  unfold State.showTxns
  repeat' first
    | with_reducible assumption | with_reducible apply State.Follows.set

theorem State.Follows.putTxn {z : State} (c : Nat) (t : Txn) (s : State) (hz : z.Follows s) :
    z.Follows (State.putTxn c t s) := by
  unfold State.putTxn
  repeat' first
    | with_reducible assumption | with_reducible apply State.Follows.modRse

theorem State.Follows.beginTxn {z : State} (c : Nat) (t : Txn) (s : State) (hz : z.Follows s) :
    z.Follows (State.beginTxn c t s) := by
  unfold State.beginTxn
  repeat' first
    | with_reducible assumption | with_reducible apply State.Follows.putTxn
    | with_reducible apply State.Follows.showTxns

theorem State.Follows.endTxn {z : State} (c : Nat) (s : State) (hz : z.Follows s) :
    z.Follows (Sys2Proof.Machine.State.endTxn c s) := by
  unfold Sys2Proof.Machine.State.endTxn
  try dsimp only
  repeat' first
    | with_reducible assumption
    | with_reducible apply State.Follows.setUnsched
    | with_reducible apply State.Follows.ite
    | with_reducible apply State.Follows.modPort
    | with_reducible apply State.Follows.modRse
    | with_reducible apply State.Follows.setResv
    | with_reducible apply State.Follows.showTxns
    | split
    | with_reducible apply State.Follows.mk'
    | exact Nat.le_refl _
    | rfl

theorem State.Follows.dropTxn {z : State} (c : Nat) (s : State) (hz : z.Follows s) : z.Follows (State.dropTxn c s) := by
  unfold State.dropTxn
  repeat' first
    | with_reducible assumption | with_reducible apply State.Follows.endTxn
    | with_reducible apply State.Follows.entryCount | split

theorem State.Follows.storeFrame {z : State} (sl : Nat × Nat) (f : List Byte) (s : State) (hz : z.Follows s) :
    z.Follows (State.storeFrame sl f s) := by
  unfold State.storeFrame
  repeat' first
    | with_reducible assumption | with_reducible apply State.Follows.dramWrite | split

theorem State.Follows.ringPoisoned {z : State} (n : Nat) (s : State) (hz : z.Follows s) : z.Follows (Sys2Proof.Machine.State.ringPoisoned n s) := by
  unfold Sys2Proof.Machine.State.ringPoisoned
  try dsimp only
  repeat' first
    | with_reducible assumption
    | with_reducible apply State.Follows.evt
    | with_reducible apply State.Follows.modRse
    | with_reducible apply State.Follows.ite
    | split
    | refine State.Follows.snd (by with_reducible assumption) ?_
    | with_reducible apply State.Follows.mk'
    | rfl
    | exact Nat.le_refl _
    | exact Nat.le_add_right _ _

theorem State.Follows.showPtp {z : State} (s : State) (hz : z.Follows s) : z.Follows (State.showPtp s) := by
  unfold State.showPtp
  repeat' first
    | with_reducible assumption | with_reducible apply State.Follows.set
    | with_reducible apply State.Follows.foldl | (intro _ _ _; try dsimp only)

end Sys2Proof.Machine
end

