-- ==== Sys2Proof/Laws/KeepSyn.lean ====
section
/-! SUPPORT. What the operations of Machine/Syn.lean keep. -/

namespace Sys2Proof.Machine

theorem State.Follows.modSyn {z : State} (f : Syn → Syn) (s : State) (hz : z.Follows s) : z.Follows (State.modSyn f s) := by
  unfold State.modSyn
  repeat' first
    | with_reducible assumption | with_reducible apply State.Follows.mk' | exact Nat.le_refl _ | rfl

theorem State.Follows.modSynCh {z : State} (n : Nat) (f : SynCh → SynCh) (s : State) (hz : z.Follows s) :
    z.Follows (State.modSynCh n f s) := by
  unfold State.modSynCh
  repeat' first
    | with_reducible assumption | with_reducible apply State.Follows.modSyn

theorem State.Follows.modOutCh {z : State} (n : Nat) (f : OutCh → OutCh) (s : State) (hz : z.Follows s) :
    z.Follows (State.modOutCh n f s) := by
  unfold State.modOutCh
  repeat' first
    | with_reducible assumption | with_reducible apply State.Follows.mk' | exact Nat.le_refl _ | rfl

theorem State.Follows.outNeed {z : State} (n : Nat) (b : Bool) (s : State) (hz : z.Follows s) :
    z.Follows (State.outNeed n b s) := by
  unfold State.outNeed
  repeat' first
    | with_reducible assumption | with_reducible apply State.Follows.evt
    | with_reducible apply State.Follows.set | with_reducible apply State.Follows.setB
    | with_reducible apply State.Follows.ite

theorem State.Follows.setMute {z : State} (n bit : Nat) (b : Bool) (s : State) (hz : z.Follows s) :
    z.Follows (State.setMute n bit b s) := by
  unfold State.setMute
  repeat' first
    | with_reducible assumption | with_reducible apply State.Follows.set

theorem State.Follows.alignWait {z : State} (n : Nat) (s : State) (hz : z.Follows s) : z.Follows
    (Sys2Proof.Machine.State.alignWait n s) := by
  unfold Sys2Proof.Machine.State.alignWait
  repeat' first
    | with_reducible assumption
    | with_reducible apply State.Follows.modOutCh
    | with_reducible apply State.Follows.set
    | with_reducible apply State.Follows.setMute

theorem State.Follows.outMutes {z : State} (n : Nat) (s : State) (hz : z.Follows s) : z.Follows
    (Sys2Proof.Machine.State.outMutes n s) := by
  unfold Sys2Proof.Machine.State.outMutes
  repeat' first
    | with_reducible assumption
    | with_reducible apply State.Follows.set

theorem State.Follows.outMutesAll {z : State} (s : State) (hz : z.Follows s) : z.Follows (State.outMutesAll s) := by
  unfold State.outMutesAll
  repeat' first
    | with_reducible assumption | with_reducible apply State.Follows.outMutes
    | with_reducible apply State.Follows.foldl | (intro _ _ _; try dsimp only)

theorem State.Follows.synPhaseLost {z : State} (y : Nat) (s : State) (hz : z.Follows s) : z.Follows
    (Sys2Proof.Machine.State.synPhaseLost y s) := by
  unfold Sys2Proof.Machine.State.synPhaseLost
  repeat' first
    | with_reducible assumption
    | with_reducible apply State.Follows.modOutCh
    | with_reducible apply State.Follows.outNeed
    | with_reducible apply State.Follows.set
    | with_reducible apply State.Follows.ite
    | with_reducible apply State.Follows.foldl
    | (intro _ _ _; try dsimp only)

theorem State.Follows.outSrcLost {z : State} (y : Nat) (s : State) (hz : z.Follows s) : z.Follows
    (Sys2Proof.Machine.State.outSrcLost y s) := by
  unfold Sys2Proof.Machine.State.outSrcLost
  repeat' first
    | with_reducible assumption
    | with_reducible apply State.Follows.alignWait
    | with_reducible apply State.Follows.ite
    | with_reducible apply State.Follows.foldl
    | (intro _ _ _; try dsimp only)

theorem State.Follows.synRatio {z : State} (n : Nat) (residue : Rat) (s : State) (hz : z.Follows s) : z.Follows
    (Sys2Proof.Machine.State.synRatio n residue s) := by
  unfold Sys2Proof.Machine.State.synRatio
  repeat' first
    | with_reducible assumption
    | with_reducible apply State.Follows.modSynCh
    | with_reducible apply State.Follows.ite

theorem State.Follows.synTrack {z : State} (s : State) (hz : z.Follows s) : z.Follows
    (Sys2Proof.Machine.State.synTrack s) := by
  unfold Sys2Proof.Machine.State.synTrack
  repeat' first
    | with_reducible assumption
    | with_reducible apply State.Follows.synRatio
    | with_reducible apply State.Follows.ite
    | with_reducible apply State.Follows.foldl
    | (intro _ _ _; try dsimp only)

theorem State.Follows.hrtGate {z : State} (run : Bool) (s : State) (hz : z.Follows s) :
    z.Follows (State.hrtGate run s) := by
  unfold State.hrtGate
  repeat' first
    | with_reducible assumption | with_reducible apply State.Follows.setClock

theorem State.Follows.setSynState {z : State} (n st : Nat) (s : State) (hz : z.Follows s) : z.Follows
    (Sys2Proof.Machine.State.setSynState n st s) := by
  unfold Sys2Proof.Machine.State.setSynState
  repeat' first
    | with_reducible assumption
    | with_reducible apply State.Follows.evtBit
    | with_reducible apply State.Follows.outMutesAll
    | with_reducible apply State.Follows.outSrcLost
    | with_reducible apply State.Follows.set
    | with_reducible apply State.Follows.synRatio
    | with_reducible apply State.Follows.ite

theorem State.Follows.synFail {z : State} (n : Nat) (band : Bool) (s : State) (hz : z.Follows s) :
    z.Follows (State.synFail n band s) := by
  unfold State.synFail
  repeat' first
    | with_reducible assumption | with_reducible apply State.Follows.evt
    | with_reducible apply State.Follows.file | with_reducible apply State.Follows.modSyn
    | with_reducible apply State.Follows.set | with_reducible apply State.Follows.setSynState
    | with_reducible apply State.Follows.ite

theorem State.Follows.synBeginSearch {z : State} (n : Nat) (s : State) (hz : z.Follows s) : z.Follows
    (Sys2Proof.Machine.State.synBeginSearch n s) := by
  unfold Sys2Proof.Machine.State.synBeginSearch
  try dsimp only
  repeat' first
    | with_reducible assumption
    | with_reducible apply State.Follows.modSynCh
    | with_reducible apply State.Follows.set
    | with_reducible apply State.Follows.synFail
    | split

theorem State.Follows.synSearch {z : State} (n : Nat) (final : Bool) (s : State) (hz : z.Follows s) :
    z.Follows (State.synSearch n final s) := by
  unfold State.synSearch
  repeat' first
    | with_reducible assumption | with_reducible apply State.Follows.ebUnknown
    | with_reducible apply State.Follows.file | with_reducible apply State.Follows.hrtGate
    | with_reducible apply State.Follows.modEbd | with_reducible apply State.Follows.modSynCh
    | with_reducible apply State.Follows.setSynState | with_reducible apply State.Follows.synBeginSearch
    | with_reducible apply State.Follows.ite

theorem State.Follows.synAcquire {z : State} (n : Nat) (fromCoast : Bool) (s : State) (hz : z.Follows s) :
    z.Follows (State.synAcquire n fromCoast s) := by
  unfold State.synAcquire
  repeat' first
    | with_reducible assumption | with_reducible apply State.Follows.modSynCh
    | with_reducible apply State.Follows.setSynState

theorem State.Follows.txphAll {z : State} (s : State) (hz : z.Follows s) : z.Follows (Sys2Proof.Machine.State.txphAll s) := by
  unfold Sys2Proof.Machine.State.txphAll
  repeat' first
    | with_reducible assumption
    | with_reducible apply State.Follows.ite
    | with_reducible apply State.Follows.foldl
    | (intro _ _ _; try dsimp only)
    | with_reducible apply State.Follows.mk'
    | rfl
    | exact Nat.le_refl _

theorem State.Follows.synLocked {z : State} (n : Nat) (s : State) (hz : z.Follows s) : z.Follows
    (Sys2Proof.Machine.State.synLocked n s) := by
  unfold Sys2Proof.Machine.State.synLocked
  repeat' first
    | with_reducible assumption
    | with_reducible apply State.Follows.evt
    | with_reducible apply State.Follows.hrtGate
    | with_reducible apply State.Follows.inc
    | with_reducible apply State.Follows.modSyn
    | with_reducible apply State.Follows.modSynCh
    | with_reducible apply State.Follows.set
    | with_reducible apply State.Follows.setSynState
    | with_reducible apply State.Follows.synPhaseLost
    | with_reducible apply State.Follows.txphAll
    | with_reducible apply State.Follows.ite

theorem State.Follows.synCoast {z : State} (n cause : Nat) (s : State) (hz : z.Follows s) :
    z.Follows (State.synCoast n cause s) := by
  unfold State.synCoast
  repeat' first
    | with_reducible assumption | with_reducible apply State.Follows.bump
    | with_reducible apply State.Follows.evt | with_reducible apply State.Follows.file
    | with_reducible apply State.Follows.inc | with_reducible apply State.Follows.modSyn
    | with_reducible apply State.Follows.modSynCh | with_reducible apply State.Follows.set
    | with_reducible apply State.Follows.setSynState | with_reducible apply State.Follows.synPhaseLost
    | with_reducible apply State.Follows.ite

theorem State.Follows.synAcquireFail {z : State} (n : Nat) (s : State) (hz : z.Follows s) :
    z.Follows (State.synAcquireFail n s) := by
  unfold State.synAcquireFail
  repeat' first
    | with_reducible assumption | with_reducible apply State.Follows.evt
    | with_reducible apply State.Follows.file | with_reducible apply State.Follows.synFail
    | with_reducible apply State.Follows.synSearch | with_reducible apply State.Follows.ite

theorem State.Follows.synAfter {z : State} (n : Nat) (old new : State) (hz : z.Follows new) : z.Follows
    (Sys2Proof.Machine.synAfter n old new) := by
  unfold Sys2Proof.Machine.synAfter
  repeat' first
    | with_reducible assumption
    | with_reducible apply State.Follows.set
    | with_reducible apply State.Follows.setSynState
    | with_reducible apply State.Follows.synAcquire
    | with_reducible apply State.Follows.synPhaseLost
    | with_reducible apply State.Follows.synRatio
    | with_reducible apply State.Follows.synSearch
    | with_reducible apply State.Follows.ite

theorem State.Follows.synRelock {z : State} (n : Nat) (s : State) (hz : z.Follows s) : z.Follows
    (Sys2Proof.Machine.State.synRelock n s) := by
  unfold Sys2Proof.Machine.State.synRelock
  repeat' first
    | with_reducible assumption
    | with_reducible apply State.Follows.evt
    | with_reducible apply State.Follows.set
    | with_reducible apply State.Follows.synSearch
    | with_reducible apply State.Follows.ite

theorem State.Follows.synSecond {z : State} (s : State) (hz : z.Follows s) : z.Follows
    (Sys2Proof.Machine.State.synSecond s) := by
  unfold Sys2Proof.Machine.State.synSecond
  repeat' first
    | with_reducible assumption
    | with_reducible apply State.Follows.modSyn
    | with_reducible apply State.Follows.set
    | with_reducible apply State.Follows.slotRestart
    | with_reducible apply State.Follows.synRelock
    | with_reducible apply State.Follows.takeGroup
    | with_reducible apply State.Follows.synAfter
    | with_reducible apply State.Follows.ite
    | with_reducible apply State.Follows.foldl
    | (intro _ _ _ _; try dsimp only)
    | (intro _ _ _; try dsimp only)

theorem Follow.execSynCommit {z : State} (n : Fin 4) (s : State) (hz : z.Follows s) :
    Follow z (Sys2Proof.Machine.execSynCommit n s) := by
  unfold Sys2Proof.Machine.execSynCommit
  repeat' first
    | with_reducible assumption | with_reducible apply State.Follows.commit | with_reducible apply Follow.next

theorem Follow.execSynRelock {z : State} (n : Fin 4) (s : State) (hz : z.Follows s) :
    Follow z (Sys2Proof.Machine.execSynRelock n s) := by
  unfold Sys2Proof.Machine.execSynRelock
  repeat' first
    | with_reducible assumption | with_reducible apply State.Follows.set | with_reducible apply Follow.next

theorem Follow.execBandCommit {z : State} (s : State) (hz : z.Follows s) :
    Follow z (Sys2Proof.Machine.execBandCommit s) := by
  unfold Sys2Proof.Machine.execBandCommit
  repeat' first
    | with_reducible assumption | with_reducible apply State.Follows.commit | with_reducible apply Follow.next

theorem State.Follows.showWait {z : State} (n : Fin 4) (s : State) (hz : z.Follows s) : z.Follows (State.showWait n s) := by
  unfold State.showWait
  repeat' first
    | with_reducible assumption | with_reducible apply State.Follows.setB
    | with_reducible apply State.Follows.ite

theorem Follow.execSyn0FirstSearch {z : State} (s : State) (hz : z.Follows s) :
    Follow z (Sys2Proof.Machine.execSyn0FirstSearch s) := by
  unfold Sys2Proof.Machine.execSyn0FirstSearch
  repeat' first
    | with_reducible assumption | with_reducible apply State.Follows.set
    | with_reducible apply State.Follows.showWait | with_reducible apply State.Follows.synSearch
    | with_reducible apply Follow.ite | with_reducible apply Follow.next

theorem Follow.execBandTrialDone {z : State} (n : Fin 4) (lo hi : BitVec 32) (s : State) (hz : z.Follows s) : Follow z
    (Sys2Proof.Machine.execBandTrialDone n lo hi s) := by
  unfold Sys2Proof.Machine.execBandTrialDone
  try dsimp only
  repeat' first
    | with_reducible assumption
    | with_reducible apply State.Follows.bump
    | with_reducible apply State.Follows.modSynCh
    | with_reducible apply State.Follows.set
    | with_reducible apply State.Follows.synAcquire
    | with_reducible apply State.Follows.synFail
    | with_reducible apply Follow.next
    | split

theorem State.Follows.synFine {z : State} (n fine : Nat) (s : State) (hz : z.Follows s) : z.Follows
    (Sys2Proof.Machine.State.synFine n fine s) := by
  unfold Sys2Proof.Machine.State.synFine
  repeat' first
    | with_reducible assumption
    | with_reducible apply State.Follows.modSynCh
    | with_reducible apply State.Follows.set

theorem State.Follows.synEdge {z : State} (n fine : Nat) (s : State) (hz : z.Follows s) : z.Follows
    (Sys2Proof.Machine.State.synEdge n fine s) := by
  unfold Sys2Proof.Machine.State.synEdge
  repeat' first
    | with_reducible assumption
    | with_reducible apply State.Follows.evt
    | with_reducible apply State.Follows.file
    | with_reducible apply State.Follows.modSynCh
    | with_reducible apply State.Follows.setB
    | with_reducible apply State.Follows.ite

theorem State.Follows.synFreqCoast {z : State} (n : Nat) (s : State) (hz : z.Follows s) : z.Follows
    (Sys2Proof.Machine.State.synFreqCoast n s) := by
  unfold Sys2Proof.Machine.State.synFreqCoast
  repeat' first
    | with_reducible assumption
    | with_reducible apply State.Follows.modSynCh
    | with_reducible apply State.Follows.synAcquire
    | with_reducible apply State.Follows.synCoast
    | with_reducible apply State.Follows.ite

theorem Follow.execLockWindow {z : State} (n : Fin 4) (count : BitVec 64) (fine : BitVec 20) (s0 : State)
    (hz : z.Follows s0) : Follow z (Sys2Proof.Machine.execLockWindow n count fine s0) := by
  unfold Sys2Proof.Machine.execLockWindow
  repeat' first
    | with_reducible assumption
    | with_reducible apply State.Follows.bump
    | with_reducible apply State.Follows.modSynCh
    | with_reducible apply State.Follows.setI
    | with_reducible apply State.Follows.synAcquireFail
    | with_reducible apply State.Follows.synEdge
    | with_reducible apply State.Follows.synFine
    | with_reducible apply State.Follows.synFreqCoast
    | with_reducible apply State.Follows.synLocked
    | with_reducible apply Follow.ite
    | with_reducible apply Follow.next
    | with_reducible apply State.Follows.ite

theorem Follow.execSynRefLoss {z : State} (n : Fin 4) (s : State) (hz : z.Follows s) : Follow z
    (Sys2Proof.Machine.execSynRefLoss n s) := by
  unfold Sys2Proof.Machine.execSynRefLoss
  repeat' first
    | with_reducible assumption
    | with_reducible apply State.Follows.evt
    | with_reducible apply State.Follows.modSynCh
    | with_reducible apply State.Follows.set
    | with_reducible apply State.Follows.setSynState
    | with_reducible apply State.Follows.showWait
    | with_reducible apply State.Follows.synCoast
    | with_reducible apply Follow.ite
    | with_reducible apply Follow.next

theorem Follow.execSynRefReturn {z : State} (n : Fin 4) (s : State) (hz : z.Follows s) :
    Follow z (Sys2Proof.Machine.execSynRefReturn n s) := by
  unfold Sys2Proof.Machine.execSynRefReturn
  repeat' first
    | with_reducible assumption | with_reducible apply State.Follows.evt
    | with_reducible apply State.Follows.set | with_reducible apply State.Follows.showWait
    | with_reducible apply State.Follows.synAcquire | with_reducible apply State.Follows.synBeginSearch
    | with_reducible apply Follow.next | split

end Sys2Proof.Machine
end

