-- ==== Sys2Proof/Laws/KeepOut.lean ====
section
/-! SUPPORT. What the operations of Machine/Out.lean keep. -/

namespace Sys2Proof.Machine

theorem State.Follows.modOut {z : State} (f : OutSt → OutSt) (s : State) (hz : z.Follows s) :
    z.Follows (State.modOut f s) := by
  unfold State.modOut
  repeat' first
    | with_reducible assumption | with_reducible apply State.Follows.mk' | exact Nat.le_refl _ | rfl

theorem State.Follows.setDriving {z : State} (n : Nat) (b : Bool) (s : State) (hz : z.Follows s) :
    z.Follows (State.setDriving n b s) := by
  unfold State.setDriving
  repeat' first
    | with_reducible assumption | with_reducible apply State.Follows.set
    | with_reducible apply State.Follows.setB

theorem State.Follows.calHold {z : State} (n : Nat) (s : State) (hz : z.Follows s) : z.Follows
    (Sys2Proof.Machine.State.calHold n s) := by
  unfold Sys2Proof.Machine.State.calHold
  repeat' first
    | with_reducible assumption
    | with_reducible apply State.Follows.setB

theorem State.Follows.calHoldAll {z : State} (s : State) (hz : z.Follows s) : z.Follows (State.calHoldAll s) := by
  unfold State.calHoldAll
  repeat' first
    | with_reducible assumption | with_reducible apply State.Follows.calHold
    | with_reducible apply State.Follows.foldl | (intro _ _ _; try dsimp only)

theorem State.Follows.synPhaseFound {z : State} (y : Nat) (s : State) (hz : z.Follows s) : z.Follows
    (Sys2Proof.Machine.State.synPhaseFound y s) := by
  unfold Sys2Proof.Machine.State.synPhaseFound
  repeat' first
    | with_reducible assumption
    | with_reducible apply State.Follows.set
    | with_reducible apply State.Follows.ite

theorem State.Follows.outAfter {z : State} (n : Nat) (old new : State) (hz : z.Follows new) : z.Follows
    (Sys2Proof.Machine.outAfter n old new) := by
  unfold Sys2Proof.Machine.outAfter
  repeat' first
    | with_reducible assumption
    | with_reducible apply State.Follows.calHold
    | with_reducible apply State.Follows.modOutCh
    | with_reducible apply State.Follows.outMutes
    | with_reducible apply State.Follows.outNeed
    | with_reducible apply State.Follows.set
    | with_reducible apply State.Follows.setB
    | with_reducible apply State.Follows.setDriving
    | with_reducible apply State.Follows.setMute
    | with_reducible apply State.Follows.synPhaseFound
    | with_reducible apply State.Follows.ite

theorem State.Follows.alignFix {z : State} (n : Nat) (b : Int) (s : State) (hz : z.Follows s) : z.Follows
    (Sys2Proof.Machine.State.alignFix n b s) := by
  unfold Sys2Proof.Machine.State.alignFix
  repeat' first
    | with_reducible assumption
    | with_reducible apply State.Follows.alignWait
    | with_reducible apply State.Follows.modOutCh
    | with_reducible apply State.Follows.set
    | with_reducible apply State.Follows.setMute
    | with_reducible apply State.Follows.ite

theorem State.Follows.alignSecondAll {z : State} (s : State) (hz : z.Follows s) : z.Follows
    (Sys2Proof.Machine.State.alignSecondAll s) := by
  unfold Sys2Proof.Machine.State.alignSecondAll
  repeat' first
    | with_reducible assumption
    | with_reducible apply State.Follows.alignFix
    | with_reducible apply State.Follows.modOutCh
    | with_reducible apply State.Follows.set
    | with_reducible apply State.Follows.ite
    | with_reducible apply State.Follows.foldl
    | (intro _ _ _; try dsimp only)

theorem State.Follows.outStep {z : State} (d : Int) (first : Bool) (s : State) (hz : z.Follows s) : z.Follows
    (Sys2Proof.Machine.State.outStep d first s) := by
  unfold Sys2Proof.Machine.State.outStep
  repeat' first
    | with_reducible assumption
    | with_reducible apply State.Follows.alignFix
    | with_reducible apply State.Follows.modOutCh
    | with_reducible apply State.Follows.outNeed
    | with_reducible apply State.Follows.set
    | with_reducible apply State.Follows.ite
    | with_reducible apply State.Follows.foldl
    | (intro _ _ _; try dsimp only)

theorem State.Follows.irigSecond {z : State} (s : State) (hz : z.Follows s) : z.Follows
    (Sys2Proof.Machine.State.irigSecond s) := by
  unfold Sys2Proof.Machine.State.irigSecond
  repeat' first
    | with_reducible assumption
    | with_reducible apply State.Follows.emit
    | with_reducible apply State.Follows.inc
    | with_reducible apply State.Follows.modOut
    | with_reducible apply State.Follows.ite
    | with_reducible apply State.Follows.foldl
    | (intro _ _ _; try dsimp only)

theorem State.Follows.irigStep {z : State} (s : State) (hz : z.Follows s) : z.Follows (State.irigStep s) := by
  unfold State.irigStep
  repeat' first
    | with_reducible assumption | with_reducible apply State.Follows.emit
    | with_reducible apply State.Follows.evt | with_reducible apply State.Follows.inc
    | with_reducible apply State.Follows.modOut | with_reducible apply State.Follows.ite
    | with_reducible apply State.Follows.foldl | (intro _ _ _; try dsimp only)

theorem State.Follows.todTake {z : State} (j : Nat) (s : State) (hz : z.Follows s) : z.Follows (State.todTake j s) := by
  unfold State.todTake
  repeat' first
    | with_reducible assumption | with_reducible apply State.Follows.evt
    | with_reducible apply State.Follows.load | with_reducible apply State.Follows.ite
    | with_reducible apply State.Follows.filterShadow

theorem State.Follows.todStep {z : State} (t : Int) (s : State) (hz : z.Follows s) : z.Follows
    (Sys2Proof.Machine.State.todStep t s) := by
  unfold Sys2Proof.Machine.State.todStep
  repeat' first
    | with_reducible assumption
    | with_reducible apply State.Follows.emit
    | with_reducible apply State.Follows.modOut
    | with_reducible apply State.Follows.foldl
    | (intro _ _ _; try dsimp only)
    | split

theorem State.Follows.tevOff {z : State} (m : Nat) (s : State) (hz : z.Follows s) : z.Follows (State.tevOff m s) := by
  unfold State.tevOff
  repeat' first
    | with_reducible assumption | with_reducible apply State.Follows.modOut
    | with_reducible apply State.Follows.set

theorem State.Follows.tevStep {z : State} (before : Int) (s : State) (hz : z.Follows s) :
    z.Follows (State.tevStep before s) := by
  unfold State.tevStep
  repeat' first
    | with_reducible assumption | with_reducible apply State.Follows.evt
    | with_reducible apply State.Follows.incBy | with_reducible apply State.Follows.modOut
    | with_reducible apply State.Follows.tevOff | with_reducible apply State.Follows.foldl | (intro _ _ _; try dsimp only)
    | split

theorem State.Follows.outSecond {z : State} (s : State) (hz : z.Follows s) : z.Follows (State.outSecond s) := by
  unfold State.outSecond
  repeat' first
    | with_reducible assumption | with_reducible apply State.Follows.alignSecondAll
    | with_reducible apply State.Follows.outMutesAll | with_reducible apply State.Follows.takeGroup
    | with_reducible apply State.Follows.outAfter | with_reducible apply State.Follows.foldl | (intro _ _ _; try dsimp only)

theorem Follow.execOutCommit {z : State} (n : Fin 16) (s : State) (hz : z.Follows s) :
    Follow z (Sys2Proof.Machine.execOutCommit n s) := by
  unfold Sys2Proof.Machine.execOutCommit
  repeat' first
    | with_reducible assumption | with_reducible apply State.Follows.commit | with_reducible apply Follow.next

theorem Follow.execOutMute {z : State} (n : Fin 16) (s : State) (hz : z.Follows s) :
    Follow z (Sys2Proof.Machine.execOutMute n s) := by
  unfold Sys2Proof.Machine.execOutMute
  repeat' first
    | with_reducible assumption | with_reducible apply State.Follows.setMute | with_reducible apply Follow.next

theorem Follow.execOutUnmute {z : State} (n : Fin 16) (s : State) (hz : z.Follows s) :
    Follow z (Sys2Proof.Machine.execOutUnmute n s) := by
  unfold Sys2Proof.Machine.execOutUnmute
  repeat' first
    | with_reducible assumption | with_reducible apply State.Follows.setMute | with_reducible apply Follow.next

theorem Follow.execRealign {z : State} (bits : BitVec 16) (s : State) (hz : z.Follows s) :
    Follow z (Sys2Proof.Machine.execRealign bits s) := by
  unfold Sys2Proof.Machine.execRealign
  repeat' first
    | with_reducible assumption | with_reducible apply State.Follows.set | with_reducible apply Follow.next

theorem Follow.execAlignComplete {z : State} (n : Fin 16) (s : State) (hz : z.Follows s) : Follow z
    (Sys2Proof.Machine.execAlignComplete n s) := by
  unfold Sys2Proof.Machine.execAlignComplete
  try dsimp only
  repeat' first
    | with_reducible assumption
    | with_reducible apply State.Follows.alignWait
    | with_reducible apply State.Follows.emit
    | with_reducible apply State.Follows.evt
    | with_reducible apply State.Follows.inc
    | with_reducible apply State.Follows.modOutCh
    | with_reducible apply State.Follows.outMutes
    | with_reducible apply State.Follows.outNeed
    | with_reducible apply State.Follows.set
    | with_reducible apply State.Follows.setDriving
    | with_reducible apply State.Follows.setMute
    | with_reducible apply State.Follows.synPhaseFound
    | with_reducible apply Follow.next
    | split

theorem Follow.execOutputPeriodEnd {z : State} (n : Fin 16) (s : State) (hz : z.Follows s) : Follow z
    (Sys2Proof.Machine.execOutputPeriodEnd n s) := by
  unfold Sys2Proof.Machine.execOutputPeriodEnd
  repeat' first
    | with_reducible assumption
    | with_reducible apply State.Follows.bump
    | with_reducible apply State.Follows.emit
    | with_reducible apply State.Follows.modOutCh
    | with_reducible apply State.Follows.setB
    | with_reducible apply State.Follows.setDriving
    | with_reducible apply State.Follows.setMute
    | with_reducible apply Follow.next
    | split

theorem State.Follows.calStamp {z : State} (t : Int) (s : State) (hz : z.Follows s) : z.Follows
    (Sys2Proof.Machine.State.calStamp t s) := by
  unfold Sys2Proof.Machine.State.calStamp
  repeat' first
    | with_reducible assumption
    | with_reducible apply State.Follows.modOut
    | split

theorem State.Follows.calOver {z : State} (n : Nat) (s : State) (hz : z.Follows s) : z.Follows
    (Sys2Proof.Machine.State.calOver n s) := by
  unfold Sys2Proof.Machine.State.calOver
  repeat' first
    | with_reducible assumption
    | with_reducible apply State.Follows.modOut

theorem Follow.execCalUpdate {z : State} (n : Fin 16) (s : State) (hz : z.Follows s) : Follow z
    (Sys2Proof.Machine.execCalUpdate n s) := by
  unfold Sys2Proof.Machine.execCalUpdate
  repeat' first
    | with_reducible assumption
    | with_reducible apply State.Follows.bump
    | with_reducible apply State.Follows.calOver
    | with_reducible apply State.Follows.evt
    | with_reducible apply State.Follows.outNeed
    | with_reducible apply State.Follows.setI
    | with_reducible apply Follow.ite
    | with_reducible apply Follow.next

theorem Follow.execCalLoopbackTimeout {z : State} (n : Fin 16) (s : State) (hz : z.Follows s) : Follow z
    (Sys2Proof.Machine.execCalLoopbackTimeout n s) := by
  unfold Sys2Proof.Machine.execCalLoopbackTimeout
  repeat' first
    | with_reducible assumption
    | with_reducible apply State.Follows.calOver
    | with_reducible apply State.Follows.file
    | with_reducible apply Follow.ite
    | with_reducible apply Follow.next

theorem Follow.execTodOutStart {z : State} (j : Fin 2) (s : State) (hz : z.Follows s) : Follow z
    (Sys2Proof.Machine.execTodOutStart j s) := by
  unfold Sys2Proof.Machine.execTodOutStart
  repeat' first
    | with_reducible assumption
    | with_reducible apply State.Follows.emit
    | with_reducible apply State.Follows.inc
    | with_reducible apply State.Follows.modOut
    | with_reducible apply Follow.ite
    | with_reducible apply Follow.next

theorem Follow.execTevArm {z : State} (m : Fin 16) (s : State) (hz : z.Follows s) :
    Follow z (Sys2Proof.Machine.execTevArm m s) := by
  unfold Sys2Proof.Machine.execTevArm
  repeat' first
    | with_reducible assumption | with_reducible apply State.Follows.evt
    | with_reducible apply State.Follows.file | with_reducible apply State.Follows.modOut
    | with_reducible apply State.Follows.set | with_reducible apply Follow.ite | with_reducible apply Follow.next

theorem Follow.execTevDisarm {z : State} (m : Fin 16) (s : State) (hz : z.Follows s) :
    Follow z (Sys2Proof.Machine.execTevDisarm m s) := by
  unfold Sys2Proof.Machine.execTevDisarm
  repeat' first
    | with_reducible assumption | with_reducible apply State.Follows.tevOff | with_reducible apply Follow.next

theorem Follow.execTevEdge {z : State} (m : Fin 16) (s : State) (hz : z.Follows s) : Follow z
    (Sys2Proof.Machine.execTevEdge m s) := by
  unfold Sys2Proof.Machine.execTevEdge
  repeat' first
    | with_reducible assumption
    | with_reducible apply State.Follows.emit
    | with_reducible apply State.Follows.inc
    | with_reducible apply State.Follows.modOut
    | with_reducible apply State.Follows.tevOff
    | with_reducible apply Follow.next
    | split

end Sys2Proof.Machine
end

