-- ==== Sys2Proof/Laws/KeepBuild.lean ====
section
/-! SUPPORT. What the operations of Machine/Build.lean keep. -/

namespace Sys2Proof.Machine

theorem State.Follows.frameDone {z : State} (c : Nat) (f : List Byte) (s : State) (hz : z.Follows s) :
    z.Follows (State.frameDone c f s) := by
  unfold State.frameDone
  repeat' first
    | with_reducible assumption
    | with_reducible apply State.Follows.setUnsched
    | with_reducible apply State.Follows.dropTxn
    | with_reducible apply State.Follows.evt
    | with_reducible apply State.Follows.inc
    | with_reducible apply State.Follows.modPort
    | with_reducible apply State.Follows.putTxn
    | with_reducible apply State.Follows.storeFrame
    | split

theorem State.Follows.issueSeal {z : State} (c : Nat) (t : Txn) (n : NtsCtx) (tL : Int) (s : State) (hz : z.Follows s) :
    z.Follows (State.issueSeal c t n tL s) := by
  unfold State.issueSeal
  repeat' first
    | with_reducible assumption | with_reducible apply State.Follows.bump
    | with_reducible apply State.Follows.ntsSeal | with_reducible apply State.Follows.putTxn

theorem State.Follows.buildAt {z : State} (c : Nat) (t : Txn) (tL : Int) (s : State) (hz : z.Follows s) :
    z.Follows (State.buildAt c t tL s) := by
  unfold State.buildAt
  try dsimp only
  repeat' first
    | with_reducible assumption | with_reducible apply State.Follows.bump
    | with_reducible apply State.Follows.dropTxn | with_reducible apply State.Follows.frameDone
    | with_reducible apply State.Follows.inc | with_reducible apply State.Follows.issueSeal
    | with_reducible apply State.Follows.putTxn | refine State.Follows.signMessage _ _ _ _ ?_ (by with_reducible assumption)
    | split | with_reducible apply State.Follows.mk' | rfl | exact Nat.le_add_right _ _

theorem State.Follows.txBoundary {z : State} (s : State) (hz : z.Follows s) : z.Follows
    (Sys2Proof.Machine.State.txBoundary s) := by
  unfold Sys2Proof.Machine.State.txBoundary
  repeat' first
    | with_reducible assumption
    | with_reducible apply State.Follows.applyWaiting

theorem State.Follows.build {z : State} (c : Nat) (s0 : State) (hz : z.Follows s0) : z.Follows
    (Sys2Proof.Machine.State.build c s0) := by
  unfold Sys2Proof.Machine.State.build
  repeat' first
    | with_reducible assumption
    | with_reducible apply State.Follows.buildAt
    | with_reducible apply State.Follows.modRse
    | with_reducible apply State.Follows.putTxn
    | with_reducible apply State.Follows.txBoundary
    | split
    | refine State.Follows.snd (by with_reducible assumption) ?_
    | with_reducible apply State.Follows.mk'
    | rfl
    | exact Nat.le_refl _

theorem State.Follows.serveSlots {z : State} (s : State) (hz : z.Follows s) : z.Follows (State.serveSlots s) := by
  unfold State.serveSlots
  repeat' first
    | with_reducible assumption | with_reducible apply State.Follows.build
    | with_reducible apply State.Follows.foldl | (intro _ _ _; try dsimp only) | split

end Sys2Proof.Machine
end

