-- ==== Sys2Proof/Laws/KeepStats.lean ====
section
/-! SUPPORT. What the operations of Machine/Stats.lean keep. -/

namespace Sys2Proof.Machine

theorem State.Follows.setStat {z : State} (p i v : Nat) (s : State) (hz : z.Follows s) :
    z.Follows (State.setStat p i v s) := by
  unfold State.setStat
  repeat' first
    | with_reducible assumption | with_reducible apply State.Follows.set2

theorem State.Follows.setHalf {z : State} (p i : Nat) (s : State) (hz : z.Follows s) : z.Follows (State.setHalf p i s) := by
  unfold State.setHalf
  repeat' first
    | with_reducible assumption | with_reducible apply State.Follows.evt
    | with_reducible apply State.Follows.set

theorem State.Follows.statAdd {z : State} (p i n : Nat) (s : State) (hz : z.Follows s) :
    z.Follows (State.statAdd p i n s) := by
  unfold State.statAdd
  repeat' first
    | with_reducible assumption | with_reducible apply State.Follows.setHalf
    | with_reducible apply State.Follows.setStat | with_reducible apply State.Follows.ite

theorem State.Follows.statInc {z : State} (p i : Nat) (s : State) (hz : z.Follows s) : z.Follows (State.statInc p i s) := by
  unfold State.statInc
  repeat' first
    | with_reducible assumption | with_reducible apply State.Follows.statAdd

theorem State.Follows.countFrame {z : State} (p base unicast bins vlan : Nat) (f : List Byte) (s : State)
    (hz : z.Follows s) :
    z.Follows (State.countFrame p base unicast bins vlan f s) := by
  unfold State.countFrame
  repeat' first
    | with_reducible assumption
    | with_reducible apply State.Follows.foldl
    | with_reducible apply State.Follows.foldlSnd
    | with_reducible apply State.Follows.foldlFst
    | with_reducible apply State.Follows.statAdd
    | with_reducible apply State.Follows.statInc
    | with_reducible apply State.Follows.ite
    | (intro _ _ _; try dsimp only)

theorem State.Follows.countRx {z : State} (p : Nat) (f : List Byte) (s : State) (hz : z.Follows s) :
    z.Follows (State.countRx p f s) := by
  unfold State.countRx
  repeat' first
    | with_reducible assumption | with_reducible apply State.Follows.countFrame

theorem State.Follows.sendFrame {z : State} (p : Nat) (tL : Option Int) (f : List Byte) (s : State) (hz : z.Follows s) :
    z.Follows (State.sendFrame p tL f s) := by
  unfold State.sendFrame
  repeat' first
    | with_reducible assumption | with_reducible apply State.Follows.countFrame
    | with_reducible apply State.Follows.emit | with_reducible apply State.Follows.modPort

theorem State.Follows.cutTx {z : State} (p : Nat) (s : State) (hz : z.Follows s) : z.Follows (Sys2Proof.Machine.State.cutTx p s) := by
  unfold Sys2Proof.Machine.State.cutTx
  try dsimp only
  repeat' first
    | with_reducible assumption
    | with_reducible apply State.Follows.emit
    | with_reducible apply State.Follows.modPort
    | with_reducible apply State.Follows.setStat
    | with_reducible apply State.Follows.ite
    | with_reducible apply State.Follows.foldl
    | with_reducible apply State.Follows.foldlSnd
    | with_reducible apply State.Follows.foldlFst
    | (intro _ _ _; try dsimp only)
    | split
    | with_reducible apply State.Follows.mk'
    | rfl
    | exact Nat.le_refl _
    | exact Nat.le_add_right _ _

end Sys2Proof.Machine
end

