-- ==== Sys2Proof/Laws/KeepFlue.lean ====
section
/-! SUPPORT. What the operations of Machine/Flue.lean keep. -/

namespace Sys2Proof.Machine

theorem State.Follows.mapInvalid {z : State} (p : Nat) (s : State) (hz : z.Follows s) :
    z.Follows (State.mapInvalid p s) := by
  unfold State.mapInvalid
  repeat' first
    | with_reducible assumption | with_reducible apply State.Follows.modFlue
    | with_reducible apply State.Follows.set

theorem State.Follows.mapStamp {z : State} (p : Nat) (t : Int) (s : State) (hz : z.Follows s) :
    z.Follows (State.mapStamp p t s) := by
  unfold State.mapStamp
  try dsimp only
  repeat' first
    | with_reducible assumption | with_reducible apply State.Follows.bump
    | with_reducible apply State.Follows.evt | with_reducible apply State.Follows.file
    | with_reducible apply State.Follows.mapInvalid | with_reducible apply State.Follows.modFlue
    | with_reducible apply State.Follows.set | split

theorem State.Follows.mapStep {z : State} (d : Int) (s : State) (hz : z.Follows s) : z.Follows (State.mapStep d s) := by
  unfold State.mapStep
  repeat' first
    | with_reducible assumption | with_reducible apply State.Follows.mk' | exact Nat.le_refl _ | rfl

theorem State.Follows.grantRefuse {z : State} (c : Nat) (t : Txn) (cause : Nat) (s : State) (hz : z.Follows s) :
    z.Follows (State.grantRefuse c t cause s) := by
  unfold State.grantRefuse
  repeat' first
    | with_reducible assumption | with_reducible apply State.Follows.count
    | with_reducible apply State.Follows.dropTxn | with_reducible apply State.Follows.evt
    | with_reducible apply State.Follows.inc | with_reducible apply State.Follows.putTxn
    | with_reducible apply State.Follows.set | with_reducible apply State.Follows.ite

theorem State.Follows.grantGive {z : State} (c : Nat) (t : Txn) (tL : Int) (s : State) (hz : z.Follows s) :
    z.Follows (State.grantGive c t tL s) := by
  unfold State.grantGive
  try dsimp only
  repeat' first
    | with_reducible assumption | with_reducible apply State.Follows.build
    | with_reducible apply State.Follows.dropTxn | with_reducible apply State.Follows.inc
    | with_reducible apply State.Follows.putTxn | with_reducible apply State.Follows.setResv | split

theorem State.Follows.grant {z : State} (c : Nat) (now : Int) (block : TxBlock) (s0 : State) (hz : z.Follows s0) :
    z.Follows (Sys2Proof.Machine.State.grant c now block s0) := by
  unfold Sys2Proof.Machine.State.grant
  repeat' first
    | with_reducible assumption
    | with_reducible apply State.Follows.grantGive
    | with_reducible apply State.Follows.grantRefuse
    | split
    | with_reducible apply State.Follows.mk'
    | rfl
    | exact Nat.le_refl _

theorem State.Follows.missOne {z : State} (p k : Nat) (obst : Option Int) (r : Resv) (s0 : State) (hz : z.Follows s0) :
    z.Follows (State.missOne p k obst r s0) := by
  unfold State.missOne
  repeat' first
    | with_reducible assumption | with_reducible apply State.Follows.count
    | with_reducible apply State.Follows.dropTxn | with_reducible apply State.Follows.evt
    | with_reducible apply State.Follows.fileFirst | with_reducible apply State.Follows.inc
    | with_reducible apply State.Follows.putTxn | with_reducible apply State.Follows.set
    | with_reducible apply State.Follows.setResv | split | with_reducible apply State.Follows.mk' | exact Nat.le_refl _
    | rfl

theorem State.Follows.missWhere {z : State} (p k : Nat) (obst : Option Int) (sel : Resv → Bool) (s : State)
    (hz : z.Follows s) :
    z.Follows (State.missWhere p k obst sel s) := by
  unfold State.missWhere
  try dsimp only
  repeat' first
    | with_reducible assumption | with_reducible apply State.Follows.missOne
    | with_reducible apply State.Follows.foldl | (intro _ _ _; try dsimp only)

theorem State.Follows.missAll {z : State} (p k : Nat) (s : State) (hz : z.Follows s) : z.Follows (State.missAll p k s) := by
  unfold State.missAll
  repeat' first
    | with_reducible assumption | with_reducible apply State.Follows.dropTxn
    | with_reducible apply State.Follows.inc | with_reducible apply State.Follows.missWhere
    | with_reducible apply State.Follows.foldl | (intro _ _ _; try dsimp only)

theorem State.Follows.missEvery {z : State} (k : Nat) (obst : Option Int) (sel : Resv → Bool) (s : State)
    (hz : z.Follows s) :
    z.Follows (State.missEvery k obst sel s) := by
  unfold State.missEvery
  repeat' first
    | with_reducible assumption | with_reducible apply State.Follows.missWhere
    | with_reducible apply State.Follows.foldl | (intro _ _ _; try dsimp only)

theorem State.Follows.remap {z : State} (p : Nat) (move : Resv → Rat) (s : State) (hz : z.Follows s) :
    z.Follows (State.remap p move s) := by
  unfold State.remap
  repeat' first
    | with_reducible assumption | with_reducible apply State.Follows.missWhere
    | with_reducible apply State.Follows.setResv

theorem State.Follows.countSent {z : State} (t : Txn) (s : State) (hz : z.Follows s) : z.Follows
    (Sys2Proof.Machine.State.countSent t s) := by
  unfold Sys2Proof.Machine.State.countSent
  repeat' first
    | with_reducible assumption
    | with_reducible apply State.Follows.inc
    | with_reducible apply State.Follows.incBy
    | split

theorem State.Follows.openTxn {z : State} (t : Txn) (s : State) (hz : z.Follows s) : z.Follows (State.openTxn t s) := by
  unfold State.openTxn
  repeat' first
    | with_reducible assumption | with_reducible apply State.Follows.beginTxn
    | with_reducible apply State.Follows.build | split | with_reducible apply State.Follows.mk' | exact Nat.le_refl _ | rfl

theorem State.Follows.followUp {z : State} (t : Txn) (tL : Int) (s : State) (hz : z.Follows s) :
    z.Follows (State.followUp t tL s) := by
  unfold State.followUp
  repeat' first
    | with_reducible assumption | with_reducible apply State.Follows.openTxn
    | with_reducible apply State.Follows.ite

theorem State.Follows.exchangeSent {z : State} (t : Txn) (tL : Int) (s : State) (hz : z.Follows s) :
    z.Follows (State.exchangeSent t tL s) := by
  unfold State.exchangeSent
  repeat' first
    | with_reducible assumption | split | with_reducible apply State.Follows.mk' | exact Nat.le_refl _ | rfl

theorem State.Follows.release {z : State} (p : Nat) (r : Resv) (c : Nat) (t : Txn) (s : State) (hz : z.Follows s) :
    z.Follows (State.release p r c t s) := by
  unfold State.release
  repeat' first
    | with_reducible assumption | with_reducible apply State.Follows.count
    | with_reducible apply State.Follows.countSent | with_reducible apply State.Follows.endTxn
    | with_reducible apply State.Follows.exchangeSent | with_reducible apply State.Follows.followUp
    | with_reducible apply State.Follows.inc | with_reducible apply State.Follows.sendFrame
    | with_reducible apply State.Follows.serveSlots | with_reducible apply State.Follows.setResv

theorem State.Follows.slotLost {z : State} (c : Nat) (t : Txn) (s : State) (hz : z.Follows s) : z.Follows (Sys2Proof.Machine.State.slotLost c t s) := by
  unfold Sys2Proof.Machine.State.slotLost
  try dsimp only
  repeat' first
    | with_reducible assumption
    | with_reducible apply State.Follows.countBad
    | with_reducible apply State.Follows.dramUe
    | with_reducible apply State.Follows.dropTxn
    | with_reducible apply State.Follows.ringPoisoned
    | with_reducible apply State.Follows.serveSlots
    | with_reducible apply State.Follows.ite
    | with_reducible apply State.Follows.foldl
    | with_reducible apply State.Follows.foldlSnd
    | with_reducible apply State.Follows.foldlFst
    | (intro _ _ _; try dsimp only)
    | split
    | refine State.Follows.snd (by with_reducible assumption) ?_
    | with_reducible apply State.Follows.mk'
    | rfl
    | exact Nat.le_refl _
    | exact Nat.le_add_right _ _

theorem State.Follows.ltsSecond {z : State} (s : State) (hz : z.Follows s) : z.Follows (State.ltsSecond s) := by
  unfold State.ltsSecond
  repeat' first
    | with_reducible assumption | with_reducible apply State.Follows.takeGroup
    | with_reducible apply State.Follows.foldl | (intro _ _ _ _; try dsimp only) | (intro _ _ _; try dsimp only)

theorem State.Follows.txphStart {z : State} (p : Nat) (s : State) (hz : z.Follows s) : z.Follows (State.txphStart p s) := by
  unfold State.txphStart
  repeat' first
    | with_reducible assumption | with_reducible apply State.Follows.modFlue
    | with_reducible apply State.Follows.ite

theorem Follow.execTxphMeas {z : State} (p : Fin 4) (s : State) (hz : z.Follows s) :
    Follow z (Sys2Proof.Machine.execTxphMeas p s) := by
  unfold Sys2Proof.Machine.execTxphMeas
  repeat' first
    | with_reducible assumption | with_reducible apply State.Follows.txphStart
    | with_reducible apply Follow.next

theorem Follow.execTxphPeriodic {z : State} (p : Fin 4) (s : State) (hz : z.Follows s) :
    Follow z (Sys2Proof.Machine.execTxphPeriodic p s) := by
  unfold Sys2Proof.Machine.execTxphPeriodic
  repeat' first
    | with_reducible assumption | with_reducible apply State.Follows.txphStart
    | with_reducible apply Follow.next

theorem State.Follows.txphTake {z : State} (p ps : Nat) (s : State) (hz : z.Follows s) :
    z.Follows (Sys2Proof.Machine.State.txphTake p ps s) := by
  unfold Sys2Proof.Machine.State.txphTake
  try dsimp only
  repeat' first
    | with_reducible assumption
    | with_reducible apply State.Follows.evt
    | with_reducible apply State.Follows.file
    | with_reducible apply State.Follows.modFlue
    | with_reducible apply State.Follows.remap
    | with_reducible apply State.Follows.set
    | with_reducible apply State.Follows.ite
    | split
    | with_reducible apply State.Follows.mk'
    | rfl
    | exact Nat.le_refl _
    | exact Nat.le_add_right _ _

theorem Follow.execTxphDone {z : State} (p : Fin 4) (delays : List Nat) (s : State) (hz : z.Follows s) :
    Follow z (Sys2Proof.Machine.execTxphDone p delays s) := by
  unfold Sys2Proof.Machine.execTxphDone
  try dsimp only
  repeat' first
    | with_reducible assumption
    | with_reducible apply State.Follows.bump
    | with_reducible apply State.Follows.txphTake
    | with_reducible apply State.Follows.evt
    | with_reducible apply State.Follows.file
    | with_reducible apply State.Follows.modFlue
    | with_reducible apply State.Follows.remap
    | with_reducible apply State.Follows.set
    | with_reducible apply Follow.ite
    | with_reducible apply Follow.next
    | with_reducible apply State.Follows.ite

theorem Follow.execGrantRequest {z : State} (block : TxBlock) (s : State) (hz : z.Follows s) : Follow z
    (Sys2Proof.Machine.execGrantRequest block s) := by
  unfold Sys2Proof.Machine.execGrantRequest
  repeat' first
    | with_reducible assumption
    | with_reducible apply State.Follows.grant
    | with_reducible apply Follow.ite
    | with_reducible apply Follow.next
    | split

theorem Follow.execHeldGrantsRelease {z : State} (blocks : List TxBlock) (s : State) (hz : z.Follows s) : Follow z
    (Sys2Proof.Machine.execHeldGrantsRelease blocks s) := by
  unfold Sys2Proof.Machine.execHeldGrantsRelease
  repeat' first
    | with_reducible assumption
    | with_reducible apply State.Follows.grant
    | with_reducible apply Follow.next
    | with_reducible apply State.Follows.foldl
    | with_reducible apply State.Follows.foldlSnd
    | with_reducible apply State.Follows.foldlFst
    | (intro _ _ _; try dsimp only)
    | split

theorem Follow.execUnschedReserve {z : State} (p : Fin 4) (len : BitVec 14) (block : TxBlock) (s : State)
    (hz : z.Follows s) : Follow z (Sys2Proof.Machine.execUnschedReserve p len block s) := by
  unfold Sys2Proof.Machine.execUnschedReserve
  try dsimp only
  repeat' first
    | with_reducible assumption
    | with_reducible apply State.Follows.setResv
    | with_reducible apply Follow.next
    | split

theorem Follow.execLaunchRelease {z : State} (p : Fin 4) (s : State) (hz : z.Follows s) :
    Follow z (Sys2Proof.Machine.execLaunchRelease p s) := by
  unfold Sys2Proof.Machine.execLaunchRelease
  try dsimp only
  repeat' first
    | with_reducible assumption
    | with_reducible apply State.Follows.slotLost
    | with_reducible apply Follow.ite
    | with_reducible apply State.Follows.missOne
    | with_reducible apply State.Follows.release
    | with_reducible apply State.Follows.setResv
    | with_reducible apply Follow.next
    | split

theorem Follow.execCalRun {z : State} (p : Fin 4) (s : State) (hz : z.Follows s) :
    Follow z (Sys2Proof.Machine.execCalRun p s) := by
  unfold Sys2Proof.Machine.execCalRun
  repeat' first
    | with_reducible assumption | with_reducible apply State.Follows.evt
    | with_reducible apply State.Follows.set | with_reducible apply Follow.ite | with_reducible apply Follow.next

theorem Follow.execLtsCalDone {z : State} (p : Fin 4) (launches : List Int) (diffs : List Int) (s : State)
    (hz : z.Follows s) :
    Follow z (Sys2Proof.Machine.execLtsCalDone p launches diffs s) := by
  unfold Sys2Proof.Machine.execLtsCalDone
  repeat' first
    | with_reducible assumption | with_reducible apply State.Follows.bump
    | with_reducible apply State.Follows.evt | with_reducible apply State.Follows.incBy
    | with_reducible apply State.Follows.sendFrame | with_reducible apply State.Follows.set
    | with_reducible apply State.Follows.setI | with_reducible apply Follow.ite | with_reducible apply Follow.next
    | with_reducible apply State.Follows.foldl | (intro _ _ _; try dsimp only)

theorem Follow.execPcalCommit {z : State} (p : Fin 4) (s : State) (hz : z.Follows s) :
    Follow z (Sys2Proof.Machine.execPcalCommit p s) := by
  unfold Sys2Proof.Machine.execPcalCommit
  repeat' first
    | with_reducible assumption | with_reducible apply State.Follows.commit | with_reducible apply Follow.next

theorem Follow.execClsCommit {z : State} (s : State) (hz : z.Follows s) : Follow z (Sys2Proof.Machine.execClsCommit s) := by
  unfold Sys2Proof.Machine.execClsCommit
  repeat' first
    | with_reducible assumption | with_reducible apply State.Follows.commit | with_reducible apply Follow.next

end Sys2Proof.Machine
end

