-- ==== Sys2Proof/Laws/KeepEth.lean ====
section
/-! SUPPORT. What the operations of Machine/Eth.lean keep. -/

namespace Sys2Proof.Machine

theorem State.Follows.rclkJudge {z : State} (p : Nat) (s : State) (hz : z.Follows s) : z.Follows (State.rclkJudge p s) := by
  unfold State.rclkJudge
  repeat' first
    | with_reducible assumption
    | with_reducible apply State.Follows.modPort
    | with_reducible apply State.Follows.set
    | with_reducible apply State.Follows.ite

theorem State.Follows.qlJudge {z : State} (p : Nat) (s : State) (hz : z.Follows s) : z.Follows
    (Sys2Proof.Machine.State.qlJudge p s) := by
  unfold Sys2Proof.Machine.State.qlJudge
  repeat' first
    | with_reducible assumption
    | with_reducible apply State.Follows.sourceCheck
    | with_reducible apply State.Follows.ite

theorem State.Follows.esmcLost {z : State} (p : Nat) (s : State) (hz : z.Follows s) : z.Follows
    (Sys2Proof.Machine.State.esmcLost p s) := by
  unfold Sys2Proof.Machine.State.esmcLost
  repeat' first
    | with_reducible assumption
    | with_reducible apply State.Follows.modPort
    | with_reducible apply State.Follows.evt
    | with_reducible apply State.Follows.file
    | with_reducible apply State.Follows.qlJudge
    | with_reducible apply State.Follows.rclkJudge
    | with_reducible apply State.Follows.set
    | with_reducible apply State.Follows.ite

theorem State.Follows.showQl {z : State} (s : State) (hz : z.Follows s) : z.Follows (State.showQl s) := by
  unfold State.showQl
  repeat' first
    | with_reducible assumption | with_reducible apply State.Follows.modPort
    | with_reducible apply State.Follows.set | with_reducible apply State.Follows.ite
    | with_reducible apply State.Follows.foldl | (intro _ _ _; try dsimp only)

theorem State.Follows.esmcSend {z : State} (p : Nat) (event : Bool) (s : State) (hz : z.Follows s) :
    z.Follows (State.esmcSend p event s) := by
  unfold State.esmcSend
  repeat' first
    | with_reducible assumption
    | with_reducible apply State.Follows.setUnsched
    | with_reducible apply State.Follows.modPort

theorem State.Follows.esmcReceive {z : State} (p : Nat) (f : List Byte) (s : State) (hz : z.Follows s) : z.Follows
    (Sys2Proof.Machine.State.esmcReceive p f s) := by
  unfold Sys2Proof.Machine.State.esmcReceive
  repeat' first
    | with_reducible assumption
    | with_reducible apply State.Follows.modPort
    | with_reducible apply State.Follows.evt
    | with_reducible apply State.Follows.qlJudge
    | with_reducible apply State.Follows.rclkJudge
    | with_reducible apply State.Follows.set
    | with_reducible apply State.Follows.setB
    | with_reducible apply State.Follows.statInc
    | split

theorem State.Follows.pauseOver {z : State} (p : Nat) (s : State) (hz : z.Follows s) : z.Follows (State.pauseOver p s) := by
  unfold State.pauseOver
  repeat' first
    | with_reducible assumption | with_reducible apply State.Follows.modPort
    | with_reducible apply State.Follows.set

theorem State.Follows.pauseAccept {z : State} (p quanta : Nat) (s : State) (hz : z.Follows s) :
    z.Follows (State.pauseAccept p quanta s) := by
  unfold State.pauseAccept
  repeat' first
    | with_reducible assumption | with_reducible apply State.Follows.evt
    | with_reducible apply State.Follows.missWhere | with_reducible apply State.Follows.modPort
    | with_reducible apply State.Follows.pauseOver | with_reducible apply State.Follows.set
    | with_reducible apply State.Follows.statAdd | with_reducible apply State.Follows.ite

theorem State.Follows.leaveUp {z : State} (p : Nat) (cutRx : Bool) (s : State) (hz : z.Follows s) :
    z.Follows (State.leaveUp p cutRx s) := by
  unfold State.leaveUp
  repeat' first
    | with_reducible assumption
    | with_reducible apply State.Follows.cutTx
    | with_reducible apply State.Follows.esmcLost
    | with_reducible apply State.Follows.evt
    | with_reducible apply State.Follows.file
    | with_reducible apply State.Follows.missAll
    | with_reducible apply State.Follows.modPort
    | with_reducible apply State.Follows.pauseOver
    | with_reducible apply State.Follows.set
    | with_reducible apply State.Follows.statInc
    | with_reducible apply State.Follows.ite

theorem State.Follows.setLink {z : State} (p new : Nat) (cutRx : Bool) (s : State) (hz : z.Follows s) :
    z.Follows (State.setLink p new cutRx s) := by
  unfold State.setLink
  repeat' first
    | with_reducible assumption
    | with_reducible apply State.Follows.modPort
    | with_reducible apply State.Follows.rclkJudge
    | with_reducible apply State.Follows.evt
    | with_reducible apply State.Follows.leaveUp
    | with_reducible apply State.Follows.mapInvalid
    | with_reducible apply State.Follows.set
    | with_reducible apply State.Follows.showPtp
    | with_reducible apply State.Follows.ite

theorem State.Follows.clearPcs {z : State} (p : Nat) (s : State) (hz : z.Follows s) : z.Follows (State.clearPcs p s) := by
  unfold State.clearPcs
  repeat' first
    | with_reducible assumption | with_reducible apply State.Follows.set
    | with_reducible apply State.Follows.foldl | (intro _ _ _; try dsimp only)

theorem State.Follows.setPower {z : State} (p new : Nat) (s : State) (hz : z.Follows s) :
    z.Follows (State.setPower p new s) := by
  unfold State.setPower
  repeat' first
    | with_reducible assumption | with_reducible apply State.Follows.clearPcs
    | with_reducible apply State.Follows.modFlue | with_reducible apply State.Follows.modPort
    | with_reducible apply State.Follows.set | with_reducible apply State.Follows.setLink
    | with_reducible apply State.Follows.ite

theorem State.Follows.powerAll {z : State} (s : State) (hz : z.Follows s) : z.Follows (State.powerAll s) := by
  unfold State.powerAll
  repeat' first
    | with_reducible assumption | with_reducible apply State.Follows.setPower
    | with_reducible apply State.Follows.foldl | (intro _ _ _; try dsimp only)

theorem State.Follows.wake {z : State} (p : Nat) (s : State) (hz : z.Follows s) : z.Follows (State.wake p s) := by
  unfold State.wake
  repeat' first
    | with_reducible assumption | with_reducible apply State.Follows.evt
    | with_reducible apply State.Follows.modPort | with_reducible apply State.Follows.setPower
    | with_reducible apply State.Follows.statInc | with_reducible apply State.Follows.ite

theorem State.Follows.ethPortAfter {z : State} (p : Nat) (old new : State) (hz : z.Follows new) :
    z.Follows (Sys2Proof.Machine.ethPortAfter p old new) := by
  unfold Sys2Proof.Machine.ethPortAfter
  repeat' first
    | with_reducible assumption | with_reducible apply State.Follows.rclkJudge
    | with_reducible apply State.Follows.set | with_reducible apply State.Follows.setLink
    | with_reducible apply State.Follows.setPower | with_reducible apply State.Follows.ite

theorem State.Follows.ethSecond {z : State} (s : State) (hz : z.Follows s) : z.Follows
    (Sys2Proof.Machine.State.ethSecond s) := by
  unfold Sys2Proof.Machine.State.ethSecond
  repeat' first
    | with_reducible assumption
    | with_reducible apply State.Follows.esmcSend
    | with_reducible apply State.Follows.modPort
    | with_reducible apply State.Follows.rclkJudge
    | with_reducible apply State.Follows.showQl
    | with_reducible apply State.Follows.takeGroup
    | with_reducible apply State.Follows.ethPortAfter
    | with_reducible apply State.Follows.ite
    | with_reducible apply State.Follows.foldl
    | (intro _ _ _; try dsimp only)

theorem State.Follows.showCor {z : State} (s : State) (hz : z.Follows s) : z.Follows (State.showCor s) := by
  unfold State.showCor
  repeat' first
    | with_reducible assumption | with_reducible apply State.Follows.setB
    | with_reducible apply State.Follows.foldl | (intro _ _ _; try dsimp only)

theorem Follow.execPortCommit {z : State} (p : Fin 4) (s : State) (hz : z.Follows s) :
    Follow z (Sys2Proof.Machine.execPortCommit p s) := by
  unfold Sys2Proof.Machine.execPortCommit
  repeat' first
    | with_reducible assumption | with_reducible apply State.Follows.commit | with_reducible apply Follow.next

theorem Follow.execFiltCommit {z : State} (p : Fin 4) (s : State) (hz : z.Follows s) :
    Follow z (Sys2Proof.Machine.execFiltCommit p s) := by
  unfold Sys2Proof.Machine.execFiltCommit
  repeat' first
    | with_reducible assumption | with_reducible apply State.Follows.commit | with_reducible apply Follow.next

theorem Follow.execWakeArm {z : State} (p : Fin 4) (s : State) (hz : z.Follows s) :
    Follow z (Sys2Proof.Machine.execWakeArm p s) := by
  unfold Sys2Proof.Machine.execWakeArm
  repeat' first
    | with_reducible assumption | with_reducible apply State.Follows.modPort | with_reducible apply Follow.ite
    | with_reducible apply Follow.next

theorem Follow.execPrbsClr {z : State} (p : Fin 4) (s : State) (hz : z.Follows s) :
    Follow z (Sys2Proof.Machine.execPrbsClr p s) := by
  unfold Sys2Proof.Machine.execPrbsClr
  repeat' first
    | with_reducible assumption | with_reducible apply State.Follows.set | with_reducible apply Follow.next

theorem Follow.execSerdesCalDone {z : State} (p : Fin 4) (s : State) (hz : z.Follows s) :
    Follow z (Sys2Proof.Machine.execSerdesCalDone p s) := by
  unfold Sys2Proof.Machine.execSerdesCalDone
  repeat' first
    | with_reducible assumption | with_reducible apply State.Follows.setLink | with_reducible apply Follow.ite
    | with_reducible apply Follow.next

theorem State.Follows.countEntry {z : State} (p i : Nat) (was is_ : Bool) (s : State) (hz : z.Follows s) :
    z.Follows (State.countEntry p i was is_ s) := by
  unfold State.countEntry
  repeat' first
    | with_reducible assumption | with_reducible apply State.Follows.statInc
    | with_reducible apply State.Follows.ite

theorem State.Follows.clearSince {z : State} (p : Nat) (was : Bool) (s : State) (hz : z.Follows s) :
    z.Follows (Sys2Proof.Machine.State.clearSince p was s) := by
  unfold Sys2Proof.Machine.State.clearSince
  try dsimp only
  repeat' first
    | with_reducible assumption
    | with_reducible apply State.Follows.modPort
    | with_reducible apply State.Follows.ite
    | split
    | with_reducible apply State.Follows.mk'
    | rfl
    | exact Nat.le_refl _
    | exact Nat.le_add_right _ _

theorem Follow.execLinkConditionChange {z : State} (p : Fin 4) (u : LinkStatus) (s : State) (hz : z.Follows s) :
    Follow z (Sys2Proof.Machine.execLinkConditionChange p u s) := by
  unfold Sys2Proof.Machine.execLinkConditionChange
  repeat' first
    | with_reducible assumption
    | with_reducible apply State.Follows.clearSince
    | with_reducible apply State.Follows.countEntry
    | with_reducible apply State.Follows.evt
    | with_reducible apply State.Follows.incSat
    | with_reducible apply State.Follows.setB
    | with_reducible apply State.Follows.setLink
    | with_reducible apply State.Follows.statAdd
    | with_reducible apply Follow.ite
    | with_reducible apply Follow.next
    | with_reducible apply State.Follows.ite
    | split

theorem Follow.execLinkPendingDone {z : State} (p : Fin 4) (s : State) (hz : z.Follows s) :
    Follow z (Sys2Proof.Machine.execLinkPendingDone p s) := by
  unfold Sys2Proof.Machine.execLinkPendingDone
  repeat' first
    | with_reducible assumption | with_reducible apply State.Follows.setLink | with_reducible apply Follow.ite
    | with_reducible apply Follow.next

theorem Follow.execFaultClearDone {z : State} (p : Fin 4) (s : State) (hz : z.Follows s) :
    Follow z (Sys2Proof.Machine.execFaultClearDone p s) := by
  unfold Sys2Proof.Machine.execFaultClearDone
  repeat' first
    | with_reducible assumption | with_reducible apply State.Follows.setLink | with_reducible apply Follow.ite
    | with_reducible apply Follow.next

theorem Follow.execPauseEnd {z : State} (p : Fin 4) (s : State) (hz : z.Follows s) :
    Follow z (Sys2Proof.Machine.execPauseEnd p s) := by
  unfold Sys2Proof.Machine.execPauseEnd
  repeat' first
    | with_reducible assumption | with_reducible apply State.Follows.pauseOver
    | with_reducible apply Follow.next | split

theorem Follow.execStatsLoRead {z : State} (p : Fin 4) (i : Fin 48) (s : State) (hz : z.Follows s) :
    Follow z (Sys2Proof.Machine.execStatsLoRead p i s) := by
  unfold Sys2Proof.Machine.execStatsLoRead
  repeat' first
    | with_reducible assumption | with_reducible apply State.Follows.emit
    | with_reducible apply State.Follows.modPort | with_reducible apply State.Follows.setStat
    | with_reducible apply Follow.next | with_reducible apply State.Follows.ite

theorem Follow.execStatsHiRead {z : State} (p : Fin 4) (i : Fin 48) (s : State) (hz : z.Follows s) : Follow z
    (Sys2Proof.Machine.execStatsHiRead p i s) := by
  unfold Sys2Proof.Machine.execStatsHiRead
  repeat' first
    | with_reducible assumption
    | with_reducible apply State.Follows.emit
    | with_reducible apply State.Follows.modPort
    | with_reducible apply Follow.next
    | split

theorem Follow.execSignalChange {z : State} (p : Fin 4) (on : Bool) (lasted : Nat) (s : State) (hz : z.Follows s) :
    Follow z (Sys2Proof.Machine.execSignalChange p on lasted s) := by
  unfold Sys2Proof.Machine.execSignalChange
  repeat' first
    | with_reducible assumption | with_reducible apply State.Follows.modPort
    | with_reducible apply State.Follows.setB | with_reducible apply State.Follows.wake | with_reducible apply Follow.ite
    | with_reducible apply Follow.next

theorem Follow.execWakeBurstOnMs {z : State} (p : Fin 4) (s : State) (hz : z.Follows s) :
    Follow z (Sys2Proof.Machine.execWakeBurstOnMs p s) := by
  unfold Sys2Proof.Machine.execWakeBurstOnMs
  repeat' first
    | with_reducible assumption | with_reducible apply State.Follows.wake | with_reducible apply Follow.ite
    | with_reducible apply Follow.next

theorem Follow.execEsmcTimeout {z : State} (p : Fin 3) (s : State) (hz : z.Follows s) :
    Follow z (Sys2Proof.Machine.execEsmcTimeout p s) := by
  unfold Sys2Proof.Machine.execEsmcTimeout
  repeat' first
    | with_reducible assumption
    | with_reducible apply Follow.ite
    | with_reducible apply State.Follows.ite
    | with_reducible apply State.Follows.esmcLost
    | with_reducible apply Follow.next
    | split

theorem Follow.execEsmcEventTx {z : State} (p : Fin 4) (s : State) (hz : z.Follows s) :
    Follow z (Sys2Proof.Machine.execEsmcEventTx p s) := by
  unfold Sys2Proof.Machine.execEsmcEventTx
  repeat' first
    | with_reducible assumption | with_reducible apply State.Follows.esmcSend | with_reducible apply Follow.ite
    | with_reducible apply Follow.next

theorem Follow.execRclkRelease {z : State} (p : Fin 3) (s : State) (hz : z.Follows s) :
    Follow z (Sys2Proof.Machine.execRclkRelease p s) := by
  unfold Sys2Proof.Machine.execRclkRelease
  repeat' first
    | with_reducible assumption | with_reducible apply State.Follows.set | with_reducible apply Follow.ite
    | with_reducible apply Follow.next

theorem Follow.execSrefObservation {z : State} (p : Fin 3) (cycles : Nat) (rel : Int) (s : State)
    (hz : z.Follows s) : Follow z (Sys2Proof.Machine.execSrefObservation p cycles rel s) := by
  unfold Sys2Proof.Machine.execSrefObservation
  repeat' first
    | with_reducible assumption
    | with_reducible apply State.Follows.bump
    | with_reducible apply State.Follows.modSlot
    | with_reducible apply State.Follows.setPresent
    | with_reducible apply State.Follows.slotObserve
    | with_reducible apply State.Follows.slotQualify
    | with_reducible apply Follow.ite
    | with_reducible apply Follow.next
    | with_reducible apply State.Follows.ite

end Sys2Proof.Machine
end

