-- ==== Sys2Proof/Laws/KeepPro.lean ====
section
/-! SUPPORT. What the operations of Machine/Pro.lean keep. -/

namespace Sys2Proof.Machine

theorem State.Follows.modPro {z : State} (f : Pro → Pro) (s : State) (hz : z.Follows s) : z.Follows (State.modPro f s) := by
  unfold State.modPro
  repeat' first
    | with_reducible assumption | with_reducible apply State.Follows.mk' | exact Nat.le_refl _ | rfl

theorem State.Follows.nextSeq {z : State} (p m : Nat) (s : State) (hz : z.Follows s) :
    z.Follows (State.nextSeq p m s).2 := by
  unfold State.nextSeq
  repeat' first
    | with_reducible assumption | with_reducible apply State.Follows.modPro

theorem State.Follows.multicast {z : State} (p m : Nat) (r : Reply) (log due : Int) (s : State) (hz : z.Follows s) :
    z.Follows (State.multicast p m r log due s) := by
  unfold State.multicast
  try dsimp only
  repeat' first
    | with_reducible assumption | with_reducible apply State.Follows.modPro
    | with_reducible apply State.Follows.nextSeq | with_reducible apply State.Follows.openTxn | split

theorem State.Follows.uniNext {z : State} (e m : Nat) (r : Reply) (p : Nat) (s : State) (hz : z.Follows s) : z.Follows
    (Sys2Proof.Machine.State.uniNext e m r p s) := by
  unfold Sys2Proof.Machine.State.uniNext
  try dsimp only
  repeat' first
    | with_reducible assumption
    | with_reducible apply State.Follows.inc
    | with_reducible apply State.Follows.lineError
    | with_reducible apply State.Follows.modPro
    | with_reducible apply State.Follows.nextSeq
    | with_reducible apply State.Follows.openTxn
    | with_reducible apply State.Follows.showSyncGranted
    | split

theorem Follow.execPeriodicCreate {z : State} (p : Fin 4) (msg : PeriodicMsg) (s : State) (hz : z.Follows s) :
    Follow z (Sys2Proof.Machine.execPeriodicCreate p msg s) := by
  unfold Sys2Proof.Machine.execPeriodicCreate
  try dsimp only
  repeat' first
    | with_reducible assumption | with_reducible apply State.Follows.multicast
    | with_reducible apply State.Follows.uniNext | with_reducible apply Follow.next | split

theorem State.Follows.grantDenied {z : State} (p : Nat) (s : State) (hz : z.Follows s) :
    z.Follows (State.grantDenied p s) := by
  unfold State.grantDenied
  repeat' first
    | with_reducible assumption | with_reducible apply State.Follows.evt
    | with_reducible apply State.Follows.inc

theorem State.Follows.decideGrant {z : State} (p : Nat) (entry : Option Nat) (overRate : Bool) (tRx : Int) (peer : Peer)
    (m : Nat) (g : Int) (d : Nat) (s : State) (hz : z.Follows s) :
    z.Follows (State.decideGrant p entry overRate tRx peer m g d s).2 := by
  unfold State.decideGrant
  try dsimp only
  repeat' first
    | with_reducible assumption | with_reducible apply State.Follows.grantDenied
    | with_reducible apply State.Follows.inc | with_reducible apply State.Follows.modPro
    | with_reducible apply State.Follows.putEntry | with_reducible apply State.Follows.showSyncGranted | split

theorem State.Follows.cancelGrant {z : State} (p : Nat) (entry : Option Nat) (m : Nat) (s : State) (hz : z.Follows s) :
    z.Follows (State.cancelGrant p entry m s).2 := by
  unfold State.cancelGrant
  try dsimp only
  repeat' first
    | with_reducible assumption | with_reducible apply State.Follows.inc
    | with_reducible apply State.Follows.modPro | with_reducible apply State.Follows.putEntry
    | with_reducible apply State.Follows.showSyncGranted | split

theorem State.Follows.negotiate {z : State} (p : Nat) (entry : Option Nat) (overRate : Bool) (tRx : Int) (peer : Peer)
    (msg : List Byte) (s : State) (hz : z.Follows s) : z.Follows
    (Sys2Proof.Machine.State.negotiate p entry overRate tRx peer msg s).2 := by
  unfold Sys2Proof.Machine.State.negotiate
  repeat' first
    | with_reducible assumption
    | with_reducible apply State.Follows.cancelGrant
    | with_reducible apply State.Follows.decideGrant
    | with_reducible apply State.Follows.foldlSnd
    | (intro _ _ _; try dsimp only)
    | split

theorem State.Follows.modPref {z : State} (p : Nat) (f : Pref → Pref) (s : State) (hz : z.Follows s) :
    z.Follows (State.modPref p f s) := by
  unfold State.modPref
  repeat' first
    | with_reducible assumption | with_reducible apply State.Follows.modPro

theorem State.Follows.showPref {z : State} (p : Nat) (s : State) (hz : z.Follows s) : z.Follows (State.showPref p s) := by
  unfold State.showPref
  repeat' first
    | with_reducible assumption | with_reducible apply State.Follows.bump
    | with_reducible apply State.Follows.set | with_reducible apply State.Follows.setI

theorem State.Follows.prefJudge {z : State} (p : Nat) (s : State) (hz : z.Follows s) : z.Follows
    (Sys2Proof.Machine.State.prefJudge p s) := by
  unfold Sys2Proof.Machine.State.prefJudge
  repeat' first
    | with_reducible assumption
    | with_reducible apply State.Follows.sourceCheck

theorem State.Follows.prefSelect {z : State} (p : Nat) (s : State) (hz : z.Follows s) :
    z.Follows (State.prefSelect p s) := by
  unfold State.prefSelect
  repeat' first
    | with_reducible assumption | with_reducible apply State.Follows.evt
    | with_reducible apply State.Follows.modPref | with_reducible apply State.Follows.set
    | with_reducible apply State.Follows.showPref | split

theorem State.Follows.prefLeap {z : State} (p : Nat) (s : State) (hz : z.Follows s) : z.Follows (State.prefLeap p s) := by
  unfold State.prefLeap
  try dsimp only
  repeat' first
    | with_reducible assumption | with_reducible apply State.Follows.leapPost | split

theorem State.Follows.prefAnnounce {z : State} (p : Nat) (msg : List Byte) (tRx : Int) (s : State) (hz : z.Follows s) :
    z.Follows (Sys2Proof.Machine.State.prefAnnounce p msg tRx s) := by
  unfold Sys2Proof.Machine.State.prefAnnounce
  repeat' first
    | with_reducible assumption
    | with_reducible apply State.Follows.modPref
    | with_reducible apply State.Follows.prefJudge
    | with_reducible apply State.Follows.prefLeap
    | with_reducible apply State.Follows.prefSelect
    | with_reducible apply State.Follows.showPref

theorem State.Follows.prefObserve {z : State} (p : Nat) (t1c t2 : Int) (coarse : Bool) (s : State) (hz : z.Follows s) :
    z.Follows (State.prefObserve p t1c t2 coarse s) := by
  unfold State.prefObserve
  repeat' first
    | with_reducible assumption | with_reducible apply State.Follows.bump
    | with_reducible apply State.Follows.inc | with_reducible apply State.Follows.modPref
    | with_reducible apply State.Follows.setPresent | with_reducible apply State.Follows.slotObserve
    | with_reducible apply State.Follows.ite

theorem State.Follows.prefSync {z : State} (p : Nat) (msg : List Byte) (t2 : Int) (coarse : Bool) (s : State)
    (hz : z.Follows s) :
    z.Follows (State.prefSync p msg t2 coarse s) := by
  unfold State.prefSync
  repeat' first
    | with_reducible assumption | with_reducible apply State.Follows.modPref
    | with_reducible apply State.Follows.prefObserve | with_reducible apply State.Follows.ite

theorem State.Follows.prefFollowUp {z : State} (p : Nat) (msg : List Byte) (s : State) (hz : z.Follows s) :
    z.Follows (State.prefFollowUp p msg s) := by
  unfold State.prefFollowUp
  repeat' first
    | with_reducible assumption | with_reducible apply State.Follows.modPref
    | with_reducible apply State.Follows.prefObserve | split

theorem State.Follows.prefDelay {z : State} (p : Nat) (twice : Int) (coarse : Bool) (s : State) (hz : z.Follows s) :
    z.Follows (State.prefDelay p twice coarse s) := by
  unfold State.prefDelay
  repeat' first
    | with_reducible assumption | with_reducible apply State.Follows.bump
    | with_reducible apply State.Follows.inc | with_reducible apply State.Follows.modPref
    | with_reducible apply State.Follows.showPref | with_reducible apply State.Follows.ite

theorem State.Follows.prefDelayResp {z : State} (p : Nat) (msg : List Byte) (tRx : Int) (s : State) (hz : z.Follows s) :
    z.Follows (State.prefDelayResp p msg tRx s) := by
  unfold State.prefDelayResp
  try dsimp only
  repeat' first
    | with_reducible assumption | with_reducible apply State.Follows.modPref
    | with_reducible apply State.Follows.prefDelay | split

theorem State.Follows.prefPdelayResp {z : State} (p : Nat) (msg : List Byte) (tRx : Int) (coarse : Bool) (s : State)
    (hz : z.Follows s) :
    z.Follows (State.prefPdelayResp p msg tRx coarse s) := by
  unfold State.prefPdelayResp
  repeat' first
    | with_reducible assumption | with_reducible apply State.Follows.modPref
    | with_reducible apply State.Follows.prefDelay | split

theorem State.Follows.prefPdelayFollowUp {z : State} (p : Nat) (msg : List Byte) (s : State) (hz : z.Follows s) :
    z.Follows (State.prefPdelayFollowUp p msg s) := by
  unfold State.prefPdelayFollowUp
  repeat' first
    | with_reducible assumption | with_reducible apply State.Follows.prefDelay | split

theorem State.Follows.prefSignaling {z : State} (p : Nat) (msg : List Byte) (tRx : Int) (s : State)
    (hz : z.Follows s) : z.Follows (Sys2Proof.Machine.State.prefSignaling p msg tRx s) := by
  unfold Sys2Proof.Machine.State.prefSignaling
  repeat' first
    | with_reducible assumption
    | with_reducible apply State.Follows.modPref
    | with_reducible apply State.Follows.showPref
    | with_reducible apply State.Follows.ite
    | with_reducible apply State.Follows.foldl
    | (intro _ _ _; try dsimp only)

theorem State.Follows.prefMessage {z : State} (p : Nat) (frame msg : List Byte) (tRx : Int) (coarse : Bool) (s : State)
    (hz : z.Follows s) :
    z.Follows (State.prefMessage p frame msg tRx coarse s) := by
  unfold State.prefMessage
  repeat' first
    | with_reducible assumption | with_reducible apply State.Follows.modPref
    | with_reducible apply State.Follows.prefAnnounce | with_reducible apply State.Follows.prefDelayResp
    | with_reducible apply State.Follows.prefFollowUp | with_reducible apply State.Follows.prefPdelayFollowUp
    | with_reducible apply State.Follows.prefPdelayResp | with_reducible apply State.Follows.prefSignaling
    | with_reducible apply State.Follows.prefSync | split

theorem State.Follows.prefSend {z : State} (p : Nat) (r : Reply) (seq : Nat) (log : Int) (s : State) (hz : z.Follows s) :
    z.Follows (State.prefSend p r seq log s) := by
  unfold State.prefSend
  repeat' first
    | with_reducible assumption | with_reducible apply State.Follows.bump
    | with_reducible apply State.Follows.openTxn | split

theorem Follow.execAnnounceTimeout {z : State} (p : Fin 4) (s : State) (hz : z.Follows s) : Follow z
    (Sys2Proof.Machine.execAnnounceTimeout p s) := by
  unfold Sys2Proof.Machine.execAnnounceTimeout
  try dsimp only
  repeat' first
    | with_reducible assumption
    | with_reducible apply State.Follows.evt
    | with_reducible apply State.Follows.inc
    | with_reducible apply State.Follows.modPref
    | with_reducible apply State.Follows.prefJudge
    | with_reducible apply State.Follows.prefSelect
    | with_reducible apply Follow.next
    | split

theorem Follow.execPrefRenew {z : State} (p : Fin 4) (msg : BitVec 4) (s : State) (hz : z.Follows s) :
    Follow z (Sys2Proof.Machine.execPrefRenew p msg s) := by
  unfold Sys2Proof.Machine.execPrefRenew
  repeat' first
    | with_reducible assumption | with_reducible apply State.Follows.nextSeq
    | with_reducible apply State.Follows.prefSend | with_reducible apply Follow.ite | with_reducible apply Follow.next

theorem Follow.execPrefDelayReq {z : State} (p : Fin 4) (s : State) (hz : z.Follows s) :
    Follow z (Sys2Proof.Machine.execPrefDelayReq p s) := by
  unfold Sys2Proof.Machine.execPrefDelayReq
  repeat' first
    | with_reducible assumption | with_reducible apply State.Follows.modPref
    | with_reducible apply State.Follows.prefSend | with_reducible apply Follow.ite | with_reducible apply Follow.next

theorem State.Follows.showSmears {z : State} (s : State) (hz : z.Follows s) : z.Follows (State.showSmears s) := by
  unfold State.showSmears
  repeat' first
    | with_reducible assumption | with_reducible apply State.Follows.set

theorem State.Follows.smearEnd {z : State} (k : Nat) (s : State) (hz : z.Follows s) : z.Follows (State.smearEnd k s) := by
  unfold State.smearEnd
  repeat' first
    | with_reducible assumption | with_reducible apply State.Follows.evt
    | with_reducible apply State.Follows.modPro | with_reducible apply State.Follows.showSmears

theorem State.Follows.smearsWithdrawn {z : State} (s : State) (hz : z.Follows s) : z.Follows (State.smearsWithdrawn s) := by
  unfold State.smearsWithdrawn
  repeat' first
    | with_reducible assumption | with_reducible apply State.Follows.smearEnd
    | with_reducible apply State.Follows.ite | with_reducible apply State.Follows.foldl | (intro _ _ _; try dsimp only)

theorem Follow.execSmearStart {z : State} (k : Fin 8) (s : State) (hz : z.Follows s) :
    Follow z (Sys2Proof.Machine.execSmearStart k s) := by
  unfold Sys2Proof.Machine.execSmearStart
  try dsimp only
  repeat' first
    | with_reducible assumption | with_reducible apply State.Follows.evt
    | with_reducible apply State.Follows.modPro | with_reducible apply State.Follows.showSmears
    | with_reducible apply Follow.next | split

theorem Follow.execSmearEnd {z : State} (k : Fin 8) (s : State) (hz : z.Follows s) :
    Follow z (Sys2Proof.Machine.execSmearEnd k s) := by
  unfold Sys2Proof.Machine.execSmearEnd
  repeat' first
    | with_reducible assumption | with_reducible apply State.Follows.smearEnd | with_reducible apply Follow.next
    | split

theorem State.Follows.clearGrants {z : State} (p : Nat) (s : State) (hz : z.Follows s) :
    z.Follows (State.clearGrants p s) := by
  unfold State.clearGrants
  repeat' first
    | with_reducible assumption
    | with_reducible apply State.Follows.lineError
    | with_reducible apply State.Follows.foldlSnd
    | with_reducible apply State.Follows.foldlFst
    | with_reducible apply State.Follows.modPro
    | with_reducible apply State.Follows.putEntry
    | with_reducible apply State.Follows.showSyncGranted
    | with_reducible apply State.Follows.ite
    | with_reducible apply State.Follows.foldl
    | (intro _ _ _; try dsimp only)

theorem State.Follows.proPrefAfter {z : State} (p : Nat) (old new : State) (hz : z.Follows new) :
    z.Follows (Sys2Proof.Machine.proPrefAfter p old new) := by
  unfold Sys2Proof.Machine.proPrefAfter
  repeat' first
    | with_reducible assumption | with_reducible apply State.Follows.modPref
    | with_reducible apply State.Follows.showPref | with_reducible apply State.Follows.ite

theorem State.Follows.proSecond {z : State} (s : State) (hz : z.Follows s) : z.Follows (State.proSecond s) := by
  unfold State.proSecond
  repeat' first
    | with_reducible assumption | with_reducible apply State.Follows.clearGrants
    | with_reducible apply State.Follows.modPro | with_reducible apply State.Follows.setB
    | with_reducible apply State.Follows.showPtp | with_reducible apply State.Follows.smearsWithdrawn
    | with_reducible apply State.Follows.takeGroup | with_reducible apply State.Follows.proPrefAfter
    | with_reducible apply State.Follows.ite | with_reducible apply State.Follows.foldl | (intro _ _ _ _; try dsimp only)
    | (intro _ _ _; try dsimp only)

theorem Follow.execProCommit {z : State} (s : State) (hz : z.Follows s) : Follow z (Sys2Proof.Machine.execProCommit s) := by
  unfold Sys2Proof.Machine.execProCommit
  repeat' first
    | with_reducible assumption | with_reducible apply State.Follows.commit | with_reducible apply Follow.next

theorem Follow.execPtpCommit {z : State} (p : Fin 4) (s : State) (hz : z.Follows s) :
    Follow z (Sys2Proof.Machine.execPtpCommit p s) := by
  unfold Sys2Proof.Machine.execPtpCommit
  repeat' first
    | with_reducible assumption | with_reducible apply State.Follows.commit | with_reducible apply Follow.next

theorem Follow.execPrefCommit {z : State} (p : Fin 4) (s : State) (hz : z.Follows s) :
    Follow z (Sys2Proof.Machine.execPrefCommit p s) := by
  unfold Sys2Proof.Machine.execPrefCommit
  repeat' first
    | with_reducible assumption | with_reducible apply State.Follows.commit | with_reducible apply Follow.next

end Sys2Proof.Machine
end

