-- ==== Sys2Proof/Laws/KeepRings.lean ====
section
/-! SUPPORT. What the operations of Machine/Rings.lean keep. -/

namespace Sys2Proof.Machine

theorem State.Follows.applyTable {z : State} (t : List (Nat × Ring)) (s : State) (hz : z.Follows s) :
    z.Follows (State.applyTable t s) := by
  unfold State.applyTable
  repeat' first
    | with_reducible assumption
    | with_reducible apply State.Follows.setUnsched
    | with_reducible apply State.Follows.foldlSnd
    | with_reducible apply State.Follows.foldlFst
    | with_reducible apply State.Follows.dropTxn
    | with_reducible apply State.Follows.modPort
    | with_reducible apply State.Follows.modRse
    | with_reducible apply State.Follows.foldl
    | (intro _ _ _; try dsimp only)
    | split

theorem State.Follows.putRing {z : State} (n : Nat) (r : Ring) (s : State) (hz : z.Follows s) :
    z.Follows (State.putRing n r s) := by
  unfold State.putRing
  repeat' first
    | with_reducible assumption | with_reducible apply State.Follows.modRse

theorem State.Follows.clsDrop {z : State} (s : State) (hz : z.Follows s) : z.Follows (State.clsDrop s) := by
  unfold State.clsDrop
  repeat' first
    | with_reducible assumption | with_reducible apply State.Follows.inc

theorem State.Follows.ringReceive {z : State} (n : Nat) (r : Ring) (kind : Nat) (f : List Byte) (tRx : Int)
    (coarse : Bool) (s : State) (hz : z.Follows s) :
    z.Follows (State.ringReceive n r kind f tRx coarse s) := by
  unfold State.ringReceive
  repeat' first
    | with_reducible assumption | with_reducible apply State.Follows.dramWrite
    | with_reducible apply State.Follows.evt | with_reducible apply State.Follows.putRing
    | with_reducible apply State.Follows.ite

theorem State.Follows.respond {z : State} (p : Nat) (frame reply : List Byte) (tRx : Int) (s : State)
    (hz : z.Follows s) : z.Follows (Sys2Proof.Machine.State.respond p frame reply tRx s) := by
  unfold Sys2Proof.Machine.State.respond
  repeat' first
    | with_reducible assumption
    | with_reducible apply State.Follows.beginTxn
    | with_reducible apply State.Follows.build
    | with_reducible apply State.Follows.bump
    | with_reducible apply State.Follows.count
    | with_reducible apply State.Follows.inc
    | with_reducible apply State.Follows.modRse
    | split

theorem State.Follows.serveResp {z : State} (s : State) (hz : z.Follows s) : z.Follows (State.serveResp s) := by
  unfold State.serveResp
  try dsimp only
  repeat' first
    | with_reducible assumption | with_reducible apply State.Follows.modRse
    | with_reducible apply State.Follows.respond | split

theorem State.Follows.sortFrame {z : State} (p : Nat) (f : List Byte) (tRx : Int) (coarse : Bool) (s : State)
    (hz : z.Follows s) :
    z.Follows (State.sortFrame p f tRx coarse s) := by
  unfold State.sortFrame
  try dsimp only
  repeat' first
    | with_reducible assumption | with_reducible apply State.Follows.clsDrop
    | with_reducible apply State.Follows.inc | with_reducible apply State.Follows.respond
    | with_reducible apply State.Follows.ringReceive | split

theorem State.Follows.packetBoundary {z : State} (s : State) (hz : z.Follows s) : z.Follows (State.packetBoundary s) := by
  unfold State.packetBoundary
  repeat' first
    | with_reducible assumption | with_reducible apply State.Follows.applyWaiting
    | with_reducible apply State.Follows.showMint | with_reducible apply State.Follows.takeGroup
    | with_reducible apply State.Follows.foldl | (intro _ _ _ _; try dsimp only) | (intro _ _ _; try dsimp only)

theorem State.Follows.rxGood {z : State} (p : Nat) (r : RxFrame) (s : State) (hz : z.Follows s) : z.Follows
    (Sys2Proof.Machine.State.rxGood p r s) := by
  unfold Sys2Proof.Machine.State.rxGood
  repeat' first
    | with_reducible assumption
    | with_reducible apply State.Follows.bump
    | with_reducible apply State.Follows.count
    | with_reducible apply State.Follows.esmcReceive
    | with_reducible apply State.Follows.inc
    | with_reducible apply State.Follows.pauseAccept
    | with_reducible apply State.Follows.sortFrame
    | with_reducible apply State.Follows.statInc
    | with_reducible apply State.Follows.ite

theorem Follow.execRxFrame {z : State} (p : Fin 4) (r : RxFrame) (s0 : State) (hz : z.Follows s0) :
    Follow z (Sys2Proof.Machine.execRxFrame p r s0) := by
  unfold Sys2Proof.Machine.execRxFrame
  repeat' first
    | with_reducible assumption | with_reducible apply State.Follows.countRx
    | with_reducible apply State.Follows.packetBoundary | with_reducible apply State.Follows.rxGood
    | with_reducible apply State.Follows.serveResp | with_reducible apply State.Follows.serveSlots
    | with_reducible apply State.Follows.statInc | with_reducible apply Follow.ite | with_reducible apply Follow.next

end Sys2Proof.Machine
end

