-- ==== Sys2Proof/Laws/KeepServe.lean ====
section
/-! SUPPORT. What the operations of Machine/Serve.lean keep. -/

namespace Sys2Proof.Machine

theorem State.Follows.dropParse {z : State} (s : State) (hz : z.Follows s) : z.Follows (State.dropParse s) := by
  unfold State.dropParse
  repeat' first
    | with_reducible assumption | with_reducible apply State.Follows.inc

theorem State.Follows.parseNtp {z : State} (p : Nat) (frame : List Byte) (tRx : Int) (coarse : Bool) (s : State)
    (hz : z.Follows s) :
    z.Follows (State.parseNtp p frame tRx coarse s).2 := by
  unfold State.parseNtp
  repeat' first
    | with_reducible assumption | with_reducible apply State.Follows.dropParse
    | with_reducible apply State.Follows.inc | split

theorem State.Follows.parseNts {z : State} (p : Nat) (frame : List Byte) (tRx : Int) (coarse : Bool) (s : State)
    (hz : z.Follows s) :
    z.Follows (State.parseNts p frame tRx coarse s).2 := by
  unfold State.parseNts
  try dsimp only
  repeat' first
    | with_reducible assumption | with_reducible apply State.Follows.dropParse
    | with_reducible apply State.Follows.inc | with_reducible apply State.Follows.openCookie | split

theorem State.Follows.ignored {z : State} (p : Nat) (s : State) (hz : z.Follows s) : z.Follows (State.ignored p s) := by
  unfold State.ignored
  repeat' first
    | with_reducible assumption | with_reducible apply State.Follows.inc

theorem State.Follows.foreignHeard {z : State} (p : Nat) (heard : Bool) (s : State) (hz : z.Follows s) :
    z.Follows (State.foreignHeard p heard s) := by
  unfold State.foreignHeard
  repeat' first
    | with_reducible assumption | with_reducible apply State.Follows.evt
    | with_reducible apply State.Follows.inc | with_reducible apply State.Follows.ite

theorem State.Follows.takePtp {z : State} (handler p : Nat) (frame : List Byte) (tRx : Int) (coarse : Bool)
    (s : State) (hz : z.Follows s) : z.Follows (Sys2Proof.Machine.State.takePtp handler p frame tRx coarse s).2 := by
  unfold Sys2Proof.Machine.State.takePtp
  repeat' first
    | with_reducible assumption
    | with_reducible apply State.Follows.verifyMessage
    | split

theorem State.Follows.parsePtp {z : State} (p : Nat) (frame : List Byte) (tRx : Int) (coarse : Bool) (s : State)
    (hz : z.Follows s) :
    z.Follows (State.parsePtp p frame tRx coarse s).2 := by
  unfold State.parsePtp
  try dsimp only
  repeat' first
    | with_reducible assumption | with_reducible apply State.Follows.dropParse
    | with_reducible apply State.Follows.foreignHeard | with_reducible apply State.Follows.ignored
    | with_reducible apply State.Follows.takePtp | split

theorem Follow.execDispatch {z : State} (s : State) (hz : z.Follows s) : Follow z (Sys2Proof.Machine.execDispatch s) := by
  unfold Sys2Proof.Machine.execDispatch
  try dsimp only
  repeat' first
    | with_reducible assumption
    | with_reducible apply State.Follows.countBad
    | with_reducible apply State.Follows.ringPoisoned
    | with_reducible apply Follow.ite
    | with_reducible apply State.Follows.foldl
    | with_reducible apply State.Follows.foldlSnd
    | with_reducible apply State.Follows.foldlFst
    | with_reducible apply State.Follows.beginTxn
    | with_reducible apply State.Follows.count
    | with_reducible apply State.Follows.inc
    | with_reducible apply State.Follows.modRse
    | with_reducible apply State.Follows.parseNtp
    | with_reducible apply State.Follows.parseNts
    | with_reducible apply State.Follows.parsePtp
    | with_reducible apply State.Follows.putRing
    | with_reducible apply Follow.next
    | with_reducible apply State.Follows.set
    | split

theorem State.Follows.endQuiet {z : State} (c : Nat) (s : State) (hz : z.Follows s) : z.Follows (State.endQuiet c s) := by
  unfold State.endQuiet
  repeat' first
    | with_reducible assumption | with_reducible apply State.Follows.endTxn
    | with_reducible apply State.Follows.serveResp | with_reducible apply State.Follows.serveSlots

theorem State.Follows.reply {z : State} (c : Nat) (t : Txn) (s : State) (hz : z.Follows s) :
    z.Follows (State.reply c t s) := by
  unfold State.reply
  repeat' first
    | with_reducible assumption | with_reducible apply State.Follows.build
    | with_reducible apply State.Follows.putTxn | with_reducible apply State.Follows.ite
    | with_reducible apply State.Follows.mk' | exact Nat.le_refl _ | rfl

theorem State.Follows.authFailed {z : State} (c : Nat) (t : Txn) (n : Option Nat) (s : State) (hz : z.Follows s) :
    z.Follows (State.authFailed c t n s) := by
  unfold State.authFailed
  repeat' first
    | with_reducible assumption | with_reducible apply State.Follows.endQuiet
    | with_reducible apply State.Follows.entryCount | with_reducible apply State.Follows.inc
    | with_reducible apply State.Follows.reply | split

theorem State.Follows.decideNtp {z : State} (c : Nat) (t : Txn) (within : Bool) (s : State) (hz : z.Follows s) :
    z.Follows (State.decideNtp c t within s) := by
  unfold State.decideNtp
  repeat' first
    | with_reducible assumption | with_reducible apply State.Follows.endQuiet
    | with_reducible apply State.Follows.inc | with_reducible apply State.Follows.reply | split

theorem State.Follows.decideNts {z : State} (c : Nat) (t : Txn) (within : Bool) (s : State) (hz : z.Follows s) :
    z.Follows (Sys2Proof.Machine.State.decideNts c t within s) := by
  unfold Sys2Proof.Machine.State.decideNts
  repeat' first
    | with_reducible assumption
    | with_reducible apply State.Follows.endQuiet
    | with_reducible apply State.Follows.evt
    | with_reducible apply State.Follows.inc
    | with_reducible apply State.Follows.mintCookies
    | with_reducible apply State.Follows.reply
    | with_reducible apply State.Follows.showMint
    | split

theorem State.Follows.decideDelay {z : State} (c : Nat) (t : Txn) (entry : Option Nat) (within : Bool) (s : State)
    (hz : z.Follows s) :
    z.Follows (State.decideDelay c t entry within s) := by
  unfold State.decideDelay
  try dsimp only
  repeat' first
    | with_reducible assumption | with_reducible apply State.Follows.endQuiet
    | with_reducible apply State.Follows.inc | with_reducible apply State.Follows.reply | split

theorem State.Follows.decideSignaling {z : State} (c : Nat) (t : Txn) (entry : Option Nat) (within : Bool) (s : State)
    (hz : z.Follows s) :
    z.Follows (State.decideSignaling c t entry within s) := by
  unfold State.decideSignaling
  try dsimp only
  repeat' first
    | with_reducible assumption | with_reducible apply State.Follows.endQuiet
    | with_reducible apply State.Follows.negotiate | with_reducible apply State.Follows.nextSeq
    | with_reducible apply State.Follows.reply | split

theorem State.Follows.decideBy {z : State} (c : Nat) (t : Txn) (entry : Option Nat) (within : Bool) (s : State)
    (hz : z.Follows s) :
    z.Follows (State.decideBy c t entry within s) := by
  unfold State.decideBy
  repeat' first
    | with_reducible assumption | with_reducible apply State.Follows.decideDelay
    | with_reducible apply State.Follows.decideNtp | with_reducible apply State.Follows.decideNts
    | with_reducible apply State.Follows.decideSignaling | split

theorem State.Follows.settleAuth {z : State} (t : Txn) (authReq : Bool) (s : State) (hz : z.Follows s) : z.Follows
    (Sys2Proof.Machine.State.settleAuth t authReq s).2 := by
  unfold Sys2Proof.Machine.State.settleAuth
  repeat' first
    | with_reducible assumption
    | with_reducible apply State.Follows.verifyMessage
    | split

theorem State.Follows.lookUp {z : State} (c : Nat) (t0 : Txn) (s : State) (hz : z.Follows s) :
    Follow z (State.lookUp c t0 s) := by
  unfold State.lookUp
  try dsimp only
  repeat' first
    | with_reducible assumption
    | with_reducible apply State.Follows.allocEntry
    | with_reducible apply State.Follows.authFailed
    | with_reducible apply State.Follows.decideBy
    | with_reducible apply State.Follows.dropParse
    | with_reducible apply State.Follows.endQuiet
    | with_reducible apply State.Follows.entryCount
    | with_reducible apply State.Follows.inc
    | with_reducible apply State.Follows.lookupEntry
    | with_reducible apply State.Follows.prefMessage
    | with_reducible apply State.Follows.putEntry
    | with_reducible apply State.Follows.settleAuth
    | with_reducible apply State.Follows.takeToken
    | with_reducible apply Follow.next
    | split

theorem Follow.execLookup {z : State} (ctx : BitVec 12) (errs : List MemError) (s : State) (hz : z.Follows s) :
    Follow z (Sys2Proof.Machine.execLookup ctx errs s) := by
  unfold Sys2Proof.Machine.execLookup
  split
  · exact .next hz
  · exact .ite (.next hz) (State.Follows.lookUp _ _ _ (State.Follows.foldl _ hz fun _ _ h => State.Follows.memUpset _ _ h))

theorem Follow.execGloveboxDone {z : State} (ctx : BitVec 12) (s : State) (hz : z.Follows s) :
    Follow z (Sys2Proof.Machine.execGloveboxDone ctx s) := by
  unfold Sys2Proof.Machine.execGloveboxDone
  try dsimp only
  repeat' first
    | with_reducible assumption | with_reducible apply State.Follows.frameDone
    | with_reducible apply State.Follows.issueSeal | with_reducible apply State.Follows.putTxn
    | with_reducible apply Follow.next | split

theorem Follow.execStepOverrun {z : State} (ctx : BitVec 12) (s : State) (hz : z.Follows s) :
    Follow z (Sys2Proof.Machine.execStepOverrun ctx s) := by
  unfold Sys2Proof.Machine.execStepOverrun
  repeat' first
    | with_reducible assumption | with_reducible apply State.Follows.bump
    | with_reducible apply State.Follows.dropTxn | with_reducible apply State.Follows.evt
    | with_reducible apply State.Follows.file | with_reducible apply State.Follows.inc
    | with_reducible apply State.Follows.serveResp | with_reducible apply State.Follows.serveSlots
    | with_reducible apply Follow.next | split

theorem Follow.execFullRetry {z : State} (ctx : BitVec 12) (s : State) (hz : z.Follows s) :
    Follow z (Sys2Proof.Machine.execFullRetry ctx s) := by
  unfold Sys2Proof.Machine.execFullRetry
  try dsimp only
  repeat' first
    | with_reducible assumption | with_reducible apply State.Follows.dropTxn
    | with_reducible apply State.Follows.inc | with_reducible apply State.Follows.putTxn
    | with_reducible apply State.Follows.serveResp | with_reducible apply State.Follows.serveSlots
    | with_reducible apply Follow.next | split | with_reducible apply State.Follows.mk' | exact Nat.le_refl _ | rfl

theorem Follow.execResponseDeadline {z : State} (ctx : BitVec 12) (s : State) (hz : z.Follows s) :
    Follow z (Sys2Proof.Machine.execResponseDeadline ctx s) := by
  unfold Sys2Proof.Machine.execResponseDeadline
  try dsimp only
  repeat' first
    | with_reducible assumption | with_reducible apply State.Follows.count
    | with_reducible apply State.Follows.dropTxn | with_reducible apply State.Follows.evt
    | with_reducible apply State.Follows.fileFirst | with_reducible apply State.Follows.inc
    | with_reducible apply State.Follows.serveResp | with_reducible apply State.Follows.serveSlots
    | with_reducible apply Follow.next | split

theorem State.Follows.rseEngAfter {z : State} (old new : State) (hz : z.Follows new) : z.Follows
    (Sys2Proof.Machine.rseEngAfter old new) := by
  unfold Sys2Proof.Machine.rseEngAfter
  repeat' first
    | with_reducible assumption
    | with_reducible apply State.Follows.modRse
    | with_reducible apply State.Follows.ite

theorem State.Follows.rseSecond {z : State} (s : State) (hz : z.Follows s) : z.Follows
    (Sys2Proof.Machine.State.rseSecond s) := by
  unfold Sys2Proof.Machine.State.rseSecond
  repeat' first
    | with_reducible assumption
    | with_reducible apply State.Follows.applyTable
    | with_reducible apply State.Follows.takeGroup
    | with_reducible apply State.Follows.rseEngAfter
    | (intro _ _ _ _; try dsimp only)

theorem Follow.execRtabCommit {z : State} (s : State) (hz : z.Follows s) :
    Follow z (Sys2Proof.Machine.execRtabCommit s) := by
  unfold Sys2Proof.Machine.execRtabCommit
  repeat' first
    | with_reducible assumption | with_reducible apply State.Follows.commit | with_reducible apply Follow.next

theorem Follow.execEngCommit {z : State} (s : State) (hz : z.Follows s) : Follow z (Sys2Proof.Machine.execEngCommit s) := by
  unfold Sys2Proof.Machine.execEngCommit
  repeat' first
    | with_reducible assumption | with_reducible apply State.Follows.commit | with_reducible apply Follow.next

theorem Follow.execAddrCommit {z : State} (s : State) (hz : z.Follows s) :
    Follow z (Sys2Proof.Machine.execAddrCommit s) := by
  unfold Sys2Proof.Machine.execAddrCommit
  repeat' first
    | with_reducible assumption | with_reducible apply State.Follows.commit | with_reducible apply Follow.next

theorem Follow.execDoorbell {z : State} (ring : BitVec 10) (ptr : BitVec 16) (s0 : State) (hz : z.Follows s0) :
    Follow z (Sys2Proof.Machine.execDoorbell ring ptr s0) := by
  unfold Sys2Proof.Machine.execDoorbell
  try dsimp only
  repeat' first
    | with_reducible assumption
    | with_reducible apply State.Follows.setUnsched
    | with_reducible apply Follow.ite
    | with_reducible apply State.Follows.evt
    | with_reducible apply State.Follows.modPort
    | with_reducible apply State.Follows.putRing
    | with_reducible apply State.Follows.set
    | with_reducible apply Follow.next
    | split

theorem State.Follows.ringSent {z : State} (n idx status : Nat) (s : State) (hz : z.Follows s) :
    z.Follows (State.ringSent n idx status s) := by
  unfold State.ringSent
  repeat' first
    | with_reducible assumption | with_reducible apply State.Follows.dramWrite
    | with_reducible apply State.Follows.putRing | split

theorem State.Follows.ringLost {z : State} (n : Nat) (s : State) (hz : z.Follows s) : z.Follows (Sys2Proof.Machine.State.ringLost n s) := by
  unfold Sys2Proof.Machine.State.ringLost
  try dsimp only
  repeat' first
    | with_reducible assumption
    | with_reducible apply State.Follows.putRing
    | with_reducible apply State.Follows.ringPoisoned
    | with_reducible apply State.Follows.ite
    | split
    | refine State.Follows.snd (by with_reducible assumption) ?_
    | with_reducible apply State.Follows.mk'
    | rfl
    | exact Nat.le_refl _
    | exact Nat.le_add_right _ _

theorem State.Follows.unschedPop {z : State} (p : Nat) (s : State) (hz : z.Follows s) :
    z.Follows (State.unschedPop p s) := by
  unfold State.unschedPop
  repeat' first
    | with_reducible assumption
    | with_reducible apply State.Follows.setUnsched
    | with_reducible apply State.Follows.modPort
    | with_reducible apply State.Follows.setResv

theorem State.Follows.countReply {z : State} (t : Txn) (s : State) (hz : z.Follows s) :
    z.Follows (State.countReply t s) := by
  unfold State.countReply
  repeat' first
    | with_reducible assumption | with_reducible apply State.Follows.inc
    | with_reducible apply State.Follows.ite

theorem Follow.execUnschedTxDone {z : State} (p : Fin 4) (s : State) (hz : z.Follows s) : Follow z
    (Sys2Proof.Machine.execUnschedTxDone p s) := by
  unfold Sys2Proof.Machine.execUnschedTxDone
  try dsimp only
  repeat' first
    | with_reducible assumption
    | with_reducible apply State.Follows.count
    | with_reducible apply State.Follows.countReply
    | with_reducible apply State.Follows.countSent
    | with_reducible apply State.Follows.endTxn
    | with_reducible apply State.Follows.ringLost
    | with_reducible apply State.Follows.readBad
    | with_reducible apply State.Follows.ringSent
    | with_reducible apply State.Follows.sendFrame
    | with_reducible apply State.Follows.serveResp
    | with_reducible apply State.Follows.serveSlots
    | with_reducible apply State.Follows.statInc
    | with_reducible apply State.Follows.unschedPop
    | with_reducible apply Follow.next
    | split

theorem State.Follows.writeback {z : State} (n : Nat) (r : Ring) (s : State) (hz : z.Follows s) :
    z.Follows (Sys2Proof.Machine.State.writeback n r s) := by
  unfold Sys2Proof.Machine.State.writeback
  try dsimp only
  repeat' first
    | with_reducible assumption
    | with_reducible apply State.Follows.dramWrite
    | with_reducible apply State.Follows.putRing
    | with_reducible apply State.Follows.ite
    | split
    | with_reducible apply State.Follows.mk'
    | rfl
    | exact Nat.le_refl _
    | exact Nat.le_add_right _ _

theorem State.Follows.ringVector {z : State} (n : Nat) (s : State) (hz : z.Follows s) :
    z.Follows (Sys2Proof.Machine.State.ringVector n s) := by
  unfold Sys2Proof.Machine.State.ringVector
  try dsimp only
  repeat' first
    | with_reducible assumption
    | with_reducible apply State.Follows.putRing
    | with_reducible apply State.Follows.requestVector
    | with_reducible apply State.Follows.ite
    | split
    | refine State.Follows.snd (by with_reducible assumption) ?_
    | with_reducible apply State.Follows.mk'
    | rfl
    | exact Nat.le_refl _
    | exact Nat.le_add_right _ _

theorem Follow.execRingInterrupt {z : State} (ring : BitVec 10) (s : State) (hz : z.Follows s) :
    Follow z (Sys2Proof.Machine.execRingInterrupt ring s) := by
  unfold Sys2Proof.Machine.execRingInterrupt
  try dsimp only
  repeat' first
    | with_reducible assumption
    | with_reducible apply State.Follows.ringVector
    | with_reducible apply State.Follows.writeback
    | with_reducible apply Follow.ite
    | with_reducible apply State.Follows.dramWrite
    | with_reducible apply State.Follows.putRing
    | with_reducible apply State.Follows.requestVector
    | with_reducible apply Follow.next
    | split

theorem Follow.execBar2TableWrite {z : State} (entry : BitVec 20) (word : Fin 32) (data : Word) (be : BitVec 4)
    (s : State) (hz : z.Follows s) :
    Follow z (Sys2Proof.Machine.execBar2TableWrite entry word data be s) := by
  unfold Sys2Proof.Machine.execBar2TableWrite
  repeat' first
    | with_reducible assumption | with_reducible apply State.Follows.tableWrite
    | with_reducible apply Follow.ite | with_reducible apply Follow.next

theorem State.Follows.lcChange {z : State} (target : Nat) (s : State) (hz : z.Follows s) :
    z.Follows (State.lcChange target s) := by
  unfold State.lcChange
  repeat' first
    | with_reducible assumption | with_reducible apply State.Follows.clearKeyData
    | with_reducible apply State.Follows.destroyAll | with_reducible apply State.Follows.dropTxn
    | with_reducible apply State.Follows.evt | with_reducible apply State.Follows.file
    | with_reducible apply State.Follows.inc | with_reducible apply State.Follows.reseed
    | with_reducible apply State.Follows.set | with_reducible apply State.Follows.showMint
    | with_reducible apply State.Follows.foldl | (intro _ _ _; try dsimp only)

theorem Follow.execLcCmd {z : State} (target : BitVec 2) (confirm : BitVec 16) (s : State) (hz : z.Follows s) :
    Follow z (Sys2Proof.Machine.execLcCmd target confirm s) := by
  unfold Sys2Proof.Machine.execLcCmd
  repeat' first
    | with_reducible assumption | with_reducible apply State.Follows.evt
    | with_reducible apply State.Follows.lcChange | with_reducible apply State.Follows.serveResp
    | with_reducible apply State.Follows.serveSlots | with_reducible apply Follow.ite | with_reducible apply Follow.next

end Sys2Proof.Machine
end

