-- ==== Sys2Proof/Laws/KeepFlt.lean ====
section
/-! SUPPORT. What the operations of Machine/Flt.lean keep. -/

namespace Sys2Proof.Machine

theorem State.Follows.modFlt {z : State} (f : Flt → Flt) (s : State) (hz : z.Follows s) : z.Follows (State.modFlt f s) := by
  unfold State.modFlt
  repeat' first
    | with_reducible assumption | with_reducible apply State.Follows.mk' | exact Nat.le_refl _ | rfl

theorem State.Follows.logRecord {z : State} (r : FaultRec) (s : State) (hz : z.Follows s) :
    z.Follows (State.logRecord r s) := by
  unfold State.logRecord
  repeat' first
    | with_reducible assumption | with_reducible apply State.Follows.evt
    | with_reducible apply State.Follows.inc | with_reducible apply State.Follows.modFlt
    | with_reducible apply State.Follows.set | with_reducible apply State.Follows.setWords
    | with_reducible apply State.Follows.ite

theorem State.Follows.fileDrop {z : State} (s : State) (hz : z.Follows s) : z.Follows
    (Sys2Proof.Machine.State.fileDrop s) := by
  unfold Sys2Proof.Machine.State.fileDrop
  repeat' first
    | with_reducible assumption
    | with_reducible apply State.Follows.bump
    | with_reducible apply State.Follows.classAction
    | with_reducible apply State.Follows.enqueue
    | with_reducible apply State.Follows.modFlt
    | with_reducible apply State.Follows.ite

theorem Follow.execFltLogWrite {z : State} (s : State) (hz : z.Follows s) :
    Follow z (Sys2Proof.Machine.execFltLogWrite s) := by
  unfold Sys2Proof.Machine.execFltLogWrite
  repeat' first
    | with_reducible assumption | with_reducible apply State.Follows.fileDrop
    | with_reducible apply State.Follows.logRecord | with_reducible apply State.Follows.modFlt
    | with_reducible apply State.Follows.set | with_reducible apply Follow.next | split

theorem Follow.execFltRingWrite {z : State} (s : State) (hz : z.Follows s) :
    Follow z (Sys2Proof.Machine.execFltRingWrite s) := by
  unfold Sys2Proof.Machine.execFltRingWrite
  try dsimp only
  repeat' first
    | with_reducible assumption | with_reducible apply State.Follows.evt
    | with_reducible apply State.Follows.inc | with_reducible apply State.Follows.modFlt
    | refine State.Follows.ringPut _ _ _ ?_ (by with_reducible assumption) | with_reducible apply Follow.next | split

theorem Follow.execClearDeg {z : State} (s : State) (hz : z.Follows s) : Follow z (Sys2Proof.Machine.execClearDeg s) := by
  unfold Sys2Proof.Machine.execClearDeg
  repeat' first
    | with_reducible assumption | with_reducible apply State.Follows.set
    | with_reducible apply State.Follows.showAlarm | with_reducible apply Follow.next

theorem Follow.execClearSurr {z : State} (s : State) (hz : z.Follows s) : Follow z (Sys2Proof.Machine.execClearSurr s) := by
  unfold Sys2Proof.Machine.execClearSurr
  repeat' first
    | with_reducible assumption | with_reducible apply State.Follows.set
    | with_reducible apply State.Follows.showAlarm | with_reducible apply Follow.next

theorem Follow.execLogClear {z : State} (s : State) (hz : z.Follows s) : Follow z (Sys2Proof.Machine.execLogClear s) := by
  unfold Sys2Proof.Machine.execLogClear
  repeat' first
    | with_reducible assumption | with_reducible apply State.Follows.modFlt
    | with_reducible apply State.Follows.set | with_reducible apply State.Follows.setWords
    | with_reducible apply Follow.next | with_reducible apply State.Follows.foldl | (intro _ _ _; try dsimp only)

theorem Follow.execLoopDeadline {z : State} (s : State) (hz : z.Follows s) : Follow z
    (Sys2Proof.Machine.execLoopDeadline s) := by
  unfold Sys2Proof.Machine.execLoopDeadline
  repeat' first
    | with_reducible assumption
    | with_reducible apply State.Follows.evt
    | with_reducible apply State.Follows.fileFirst
    | with_reducible apply State.Follows.modHearth
    | with_reducible apply Follow.ite
    | with_reducible apply Follow.next

end Sys2Proof.Machine
end

