-- ==== Sys2Proof/Laws/KeepEdge.lean ====
section
/-! SUPPORT. What the operations of Machine/Edge.lean keep. -/

namespace Sys2Proof.Machine

theorem State.Follows.modRed {z : State} (f : Red → Red) (s : State) (hz : z.Follows s) : z.Follows (State.modRed f s) := by
  unfold State.modRed
  repeat' first
    | with_reducible assumption | with_reducible apply State.Follows.mk' | exact Nat.le_refl _ | rfl

theorem State.Follows.tbaseGone {z : State} (s : State) (hz : z.Follows s) : z.Follows (State.tbaseGone s) := by
  unfold State.tbaseGone
  repeat' first
    | with_reducible assumption | with_reducible apply State.Follows.calHoldAll
    | with_reducible apply State.Follows.leadSpoilAll | with_reducible apply State.Follows.refNoTdc

theorem State.Follows.tbaseLost {z : State} (s : State) (hz : z.Follows s) : z.Follows (State.tbaseLost s) := by
  unfold State.tbaseLost
  repeat' first
    | with_reducible assumption | with_reducible apply State.Follows.tbaseGone
    | with_reducible apply State.Follows.tdcLoss | with_reducible apply State.Follows.ite

theorem State.Follows.tdcSecond {z : State} (s : State) (hz : z.Follows s) : z.Follows (State.tdcSecond s) := by
  unfold State.tdcSecond
  repeat' first
    | with_reducible assumption | with_reducible apply State.Follows.takeGroup
    | with_reducible apply State.Follows.tbaseGone | with_reducible apply State.Follows.tdcAges
    | with_reducible apply State.Follows.tdcChCommit | with_reducible apply State.Follows.tdcNoTbase
    | with_reducible apply State.Follows.foldl | (intro _ _ _ _; try dsimp only) | (intro _ _ _; try dsimp only)

theorem State.Follows.emberMiss {z : State} (s : State) (hz : z.Follows s) : z.Follows (State.emberMiss s) := by
  unfold State.emberMiss
  repeat' first
    | with_reducible assumption | with_reducible apply State.Follows.evt
    | with_reducible apply State.Follows.file | with_reducible apply State.Follows.inc
    | with_reducible apply State.Follows.modRed

theorem State.Follows.markerStamp {z : State} (u : Int) (s : State) (hz : z.Follows s) :
    z.Follows (State.markerStamp u s) := by
  unfold State.markerStamp
  repeat' first
    | with_reducible assumption | with_reducible apply State.Follows.emberMiss
    | with_reducible apply State.Follows.modRed | with_reducible apply State.Follows.ite

theorem State.Follows.ppsStamp {z : State} (u : Int) (s : State) (hz : z.Follows s) : z.Follows (State.ppsStamp u s) := by
  unfold State.ppsStamp
  repeat' first
    | with_reducible assumption | with_reducible apply State.Follows.modRed

theorem State.Follows.ownerUse {z : State} (n : Nat) (st : Stamp) (s : State) (hz : z.Follows s) : z.Follows
    (Sys2Proof.Machine.State.ownerUse n st s) := by
  unfold Sys2Proof.Machine.State.ownerUse
  repeat' first
    | with_reducible assumption
    | with_reducible apply State.Follows.calStamp
    | with_reducible apply State.Follows.leadStamp
    | with_reducible apply State.Follows.mapStamp
    | with_reducible apply State.Follows.markerStamp
    | with_reducible apply State.Follows.refEdge
    | split

theorem State.Follows.refSeen {z : State} (n : Nat) (s : State) (hz : z.Follows s) : z.Follows (State.refSeen n s) := by
  unfold State.refSeen
  repeat' first
    | with_reducible assumption | with_reducible apply State.Follows.setPresent | split

theorem State.Follows.edgeAt {z : State} (n : Nat) (c : Capture) (s : State) (hz : z.Follows s) : z.Follows
    (Sys2Proof.Machine.State.edgeAt n c s) := by
  unfold Sys2Proof.Machine.State.edgeAt
  repeat' first
    | with_reducible assumption
    | with_reducible apply State.Follows.bump
    | with_reducible apply State.Follows.ownerUse
    | with_reducible apply State.Follows.ppsStamp
    | with_reducible apply State.Follows.refSeen
    | with_reducible apply State.Follows.tdcTake
    | with_reducible apply State.Follows.tdcUse
    | split
    | refine State.Follows.snd (by with_reducible assumption) ?_

theorem State.Follows.takeHearthTie {z : State} (u : Int) (s : State) (hz : z.Follows s) : z.Follows
    (Sys2Proof.Machine.State.takeHearthTie u s) := by
  unfold Sys2Proof.Machine.State.takeHearthTie
  repeat' first
    | with_reducible assumption
    | with_reducible apply State.Follows.modTdc
    | with_reducible apply State.Follows.set
    | with_reducible apply State.Follows.tbaseLost
    | with_reducible apply State.Follows.ite

theorem Follow.execTbaseWindow {z : State} (count : BitVec 32) (s : State) (hz : z.Follows s) : Follow z
    (Sys2Proof.Machine.execTbaseWindow count s) := by
  unfold Sys2Proof.Machine.execTbaseWindow
  repeat' first
    | with_reducible assumption
    | with_reducible apply State.Follows.modTdc
    | with_reducible apply State.Follows.set
    | with_reducible apply State.Follows.tbaseLost
    | with_reducible apply Follow.ite
    | with_reducible apply Follow.next

theorem Follow.execTbaseLoss {z : State} (s : State) (hz : z.Follows s) : Follow z (Sys2Proof.Machine.execTbaseLoss s) := by
  unfold Sys2Proof.Machine.execTbaseLoss
  repeat' first
    | with_reducible assumption | with_reducible apply State.Follows.tbaseLost
    | with_reducible apply Follow.next

theorem State.Follows.takeRecord {z : State} (tie : Option Int) (s : State) (hz : z.Follows s) : z.Follows
    (Sys2Proof.Machine.State.takeRecord tie s) := by
  unfold Sys2Proof.Machine.State.takeRecord
  try dsimp only
  repeat' first
    | with_reducible assumption
    | with_reducible apply State.Follows.sendRecord
    | with_reducible apply State.Follows.takeHearthTie
    | split

theorem State.Follows.recordNow {z : State} (tie : Option Int) (s : State) (hz : z.Follows s) : z.Follows
    (Sys2Proof.Machine.State.recordNow tie s) := by
  unfold Sys2Proof.Machine.State.recordNow
  repeat' first
    | with_reducible assumption
    | with_reducible apply State.Follows.modHearth
    | with_reducible apply State.Follows.takeRecord
    | with_reducible apply State.Follows.ite

theorem Follow.execHearthRecord {z : State} (tie : Option Int) (s : State) (hz : z.Follows s) : Follow z
    (Sys2Proof.Machine.execHearthRecord tie s) := by
  unfold Sys2Proof.Machine.execHearthRecord
  repeat' first
    | with_reducible assumption
    | with_reducible apply State.Follows.passTicks
    | with_reducible apply State.Follows.recordNow
    | with_reducible apply Follow.ite
    | with_reducible apply Follow.next

theorem Follow.execObsMiss {z : State} (k : Fin 8) (s : State) (hz : z.Follows s) : Follow z
    (Sys2Proof.Machine.execObsMiss k s) := by
  unfold Sys2Proof.Machine.execObsMiss
  repeat' first
    | with_reducible assumption
    | with_reducible apply State.Follows.modSlot
    | with_reducible apply State.Follows.setPresent
    | with_reducible apply State.Follows.slotMiss
    | with_reducible apply Follow.ite
    | with_reducible apply Follow.next
    | with_reducible apply State.Follows.ite

theorem Follow.execTdcEdge {z : State} (n : Fin 32) (u : ActiveEdge) (s : State) (hz : z.Follows s) : Follow z
    (Sys2Proof.Machine.execTdcEdge n u s) := by
  unfold Sys2Proof.Machine.execTdcEdge
  repeat' first
    | with_reducible assumption
    | with_reducible apply State.Follows.edgeAt
    | with_reducible apply State.Follows.refSeen
    | with_reducible apply State.Follows.tdcDivide
    | with_reducible apply Follow.next
    | split
    | refine State.Follows.snd (by with_reducible assumption) ?_

theorem Follow.execTdcReady {z : State} (s : State) (hz : z.Follows s) : Follow z (Sys2Proof.Machine.execTdcReady s) := by
  unfold Sys2Proof.Machine.execTdcReady
  repeat' first
    | with_reducible assumption
    | with_reducible apply State.Follows.calHoldAll
    | with_reducible apply State.Follows.tdcReady
    | with_reducible apply Follow.ite
    | with_reducible apply Follow.next

theorem Follow.execRefEdge {z : State} (n : Fin 8) (u : Capture) (s : State) (hz : z.Follows s) : Follow z
    (Sys2Proof.Machine.execRefEdge n u s) := by
  unfold Sys2Proof.Machine.execRefEdge
  repeat' first
    | with_reducible assumption
    | with_reducible apply Follow.ite
    | with_reducible apply State.Follows.edgeAt
    | with_reducible apply Follow.next

theorem Follow.execSyn0CoastTick {z : State} (s : State) (hz : z.Follows s) : Follow z
    (Sys2Proof.Machine.execSyn0CoastTick s) := by
  unfold Sys2Proof.Machine.execSyn0CoastTick
  repeat' first
    | with_reducible assumption
    | with_reducible apply State.Follows.file
    | with_reducible apply State.Follows.missEvery
    | with_reducible apply State.Follows.modSel
    | with_reducible apply State.Follows.modSyn
    | with_reducible apply Follow.ite
    | with_reducible apply Follow.next
    | with_reducible apply State.Follows.mk'
    | rfl
    | exact Nat.le_refl _

end Sys2Proof.Machine
end

