-- ==== Sys2Proof/Laws/KeepEmber.lean ====
section
/-! SUPPORT. What the operations of Machine/Ember.lean keep. -/

namespace Sys2Proof.Machine

theorem State.Follows.formEmber {z : State} (s : State) (hz : z.Follows s) : z.Follows (State.formEmber s) := by
  unfold State.formEmber
  repeat' first
    | with_reducible assumption | with_reducible apply State.Follows.mk' | rfl | exact Nat.le_add_right _ _

theorem State.Follows.loadSummaries {z : State} (es : List (List Byte)) (s : State) (hz : z.Follows s) :
    z.Follows (State.loadSummaries es s) := by
  unfold State.loadSummaries
  repeat' first
    | with_reducible assumption | with_reducible apply State.Follows.modSel
    | with_reducible apply State.Follows.modelFitHours | with_reducible apply State.Follows.set

end Sys2Proof.Machine
end

