-- ==== Sys2Proof/Laws/KeepRed.lean ====
section
/-! SUPPORT. What the operations of Machine/Red.lean keep. -/

namespace Sys2Proof.Machine

theorem State.Follows.leapSource0 {z : State} (l : Int × Int × Nat) (s : State) (hz : z.Follows s) : z.Follows
    (Sys2Proof.Machine.State.leapSource0 l s) := by
  unfold Sys2Proof.Machine.State.leapSource0
  repeat' first
    | with_reducible assumption
    | with_reducible apply State.Follows.leapJudge

theorem State.Follows.applyKept {z : State} (s : State) (hz : z.Follows s) : z.Follows
    (Sys2Proof.Machine.State.applyKept s) := by
  unfold Sys2Proof.Machine.State.applyKept
  repeat' first
    | with_reducible assumption
    | with_reducible apply State.Follows.commit
    | with_reducible apply State.Follows.hold
    | with_reducible apply State.Follows.leapHost
    | with_reducible apply State.Follows.loadFields
    | with_reducible apply State.Follows.softCommit
    | with_reducible apply State.Follows.ite
    | with_reducible apply State.Follows.foldl
    | (intro _ _ _; try dsimp only)

theorem State.Follows.hearthFrom {z : State} (u : Nat) (i : Int) (s : State) (hz : z.Follows s) :
    z.Follows (State.hearthFrom u i s) := by
  unfold State.hearthFrom
  repeat' first
    | with_reducible assumption | with_reducible apply State.Follows.crossingOpen
    | with_reducible apply State.Follows.modHearth | with_reducible apply State.Follows.set
    | with_reducible apply State.Follows.mk' | exact Nat.le_refl _ | rfl

theorem State.Follows.hearthStart {z : State} (s : State) (hz : z.Follows s) : z.Follows
    (Sys2Proof.Machine.State.hearthStart s) := by
  unfold Sys2Proof.Machine.State.hearthStart
  repeat' first
    | with_reducible assumption
    | with_reducible apply State.Follows.applyKept
    | with_reducible apply State.Follows.hearthFrom
    | with_reducible apply State.Follows.leapSource0
    | with_reducible apply State.Follows.modRed
    | with_reducible apply State.Follows.showPtp
    | with_reducible apply State.Follows.synTrack
    | split

theorem State.Follows.hearthWake {z : State} (s : State) (hz : z.Follows s) : z.Follows (State.hearthWake s) := by
  unfold State.hearthWake
  repeat' first
    | with_reducible assumption | with_reducible apply State.Follows.hearthStart
    | with_reducible apply State.Follows.ite

theorem State.Follows.tscReset {z : State} (s : State) (h : z.Follows s) : z.Follows (State.tscReset s) :=
  ⟨h.queue, h.sent, h.drawn, fun c => by
    obtain ⟨r, w, d, b, g⟩ := h.canonical c
    exact ⟨Map.wf_filter r _, Map.wf_filter w _, d, b, g⟩⟩

theorem State.Follows.timescaleGone {z : State} (s : State) (hz : z.Follows s) : z.Follows
    (Sys2Proof.Machine.State.timescaleGone s) := by
  unfold Sys2Proof.Machine.State.timescaleGone
  repeat' first
    | with_reducible assumption
    | with_reducible apply State.Follows.ebUnknown
    | with_reducible apply State.Follows.mapInvalid
    | with_reducible apply State.Follows.modEbd
    | with_reducible apply State.Follows.modFe
    | with_reducible apply State.Follows.modGns
    | with_reducible apply State.Follows.modOutCh
    | with_reducible apply State.Follows.modPro
    | with_reducible apply State.Follows.modSel
    | with_reducible apply State.Follows.modSlot
    | with_reducible apply State.Follows.outMutesAll
    | with_reducible apply State.Follows.set
    | with_reducible apply State.Follows.setMute
    | with_reducible apply State.Follows.setSlotState
    | with_reducible apply State.Follows.showWtr
    | with_reducible apply State.Follows.spoofRise
    | with_reducible apply State.Follows.synTrack
    | with_reducible apply State.Follows.tevOff
    | with_reducible apply State.Follows.withdrawFw
    | with_reducible apply State.Follows.ite
    | with_reducible apply State.Follows.foldl
    | (intro _ _ _; try dsimp only)
    | with_reducible apply State.Follows.mk'
    | rfl
    | exact Nat.le_refl _

theorem State.Follows.hearthReset {z : State} (s : State) (hz : z.Follows s) : z.Follows
    (Sys2Proof.Machine.State.hearthReset s) := by
  unfold Sys2Proof.Machine.State.hearthReset
  repeat' first
    | with_reducible assumption
    | with_reducible apply State.Follows.crossingReset
    | with_reducible apply State.Follows.modHearth
    | with_reducible apply State.Follows.set
    | with_reducible apply State.Follows.timescaleGone
    | with_reducible apply State.Follows.tscReset

theorem State.Follows.judgeHealth {z : State} (s : State) (hz : z.Follows s) : z.Follows (State.judgeHealth s) := by
  unfold State.judgeHealth
  repeat' first
    | with_reducible assumption | with_reducible apply State.Follows.file
    | with_reducible apply State.Follows.modRed | with_reducible apply State.Follows.set
    | with_reducible apply State.Follows.ite

theorem State.Follows.hatGate {z : State} (b : Bool) (s : State) (hz : z.Follows s) : z.Follows (State.hatGate b s) := by
  unfold State.hatGate
  repeat' first
    | with_reducible assumption | with_reducible apply State.Follows.setB
    | with_reducible apply State.Follows.foldl | (intro _ _ _; try dsimp only)

theorem State.Follows.hatGain {z : State} (age : Nat) (s : State) (hz : z.Follows s) : z.Follows (State.hatGain age s) := by
  unfold State.hatGain
  repeat' first
    | with_reducible assumption | with_reducible apply State.Follows.evt
    | with_reducible apply State.Follows.inc | with_reducible apply State.Follows.modRed
    | with_reducible apply State.Follows.set | with_reducible apply State.Follows.ite

theorem State.Follows.hatLoss {z : State} (sentHat : Bool) (s : State) (hz : z.Follows s) : z.Follows
    (Sys2Proof.Machine.State.hatLoss sentHat s) := by
  unfold Sys2Proof.Machine.State.hatLoss
  repeat' first
    | with_reducible assumption
    | with_reducible apply State.Follows.evt
    | with_reducible apply State.Follows.file
    | with_reducible apply State.Follows.hatGate
    | with_reducible apply State.Follows.missAll
    | with_reducible apply State.Follows.modOsc
    | with_reducible apply State.Follows.modRed
    | with_reducible apply State.Follows.outMutesAll
    | with_reducible apply State.Follows.renounce
    | with_reducible apply State.Follows.set
    | with_reducible apply State.Follows.showPtp
    | with_reducible apply State.Follows.ite
    | with_reducible apply State.Follows.foldl
    | (intro _ _ _; try dsimp only)

theorem State.Follows.standBy {z : State} (s : State) (hz : z.Follows s) : z.Follows (Sys2Proof.Machine.State.standBy s) := by
  unfold Sys2Proof.Machine.State.standBy
  repeat' first
    | with_reducible assumption
    | with_reducible apply State.Follows.modRed
    | with_reducible apply State.Follows.set

theorem State.Follows.judgeFrame {z : State} (lost sentHat : Bool) (age : Nat) (s : State) (hz : z.Follows s) :
    z.Follows (Sys2Proof.Machine.State.judgeFrame lost sentHat age s) := by
  unfold Sys2Proof.Machine.State.judgeFrame
  repeat' first
    | with_reducible assumption
    | with_reducible apply State.Follows.hatGain
    | with_reducible apply State.Follows.hatLoss
    | with_reducible apply State.Follows.inc
    | with_reducible apply State.Follows.modRed
    | with_reducible apply State.Follows.set
    | with_reducible apply State.Follows.standBy
    | with_reducible apply State.Follows.ite

theorem State.Follows.reclaimNow {z : State} (s : State) (hz : z.Follows s) : z.Follows
    (Sys2Proof.Machine.State.reclaimNow s) := by
  unfold Sys2Proof.Machine.State.reclaimNow
  repeat' first
    | with_reducible assumption
    | with_reducible apply State.Follows.hearthReset
    | with_reducible apply State.Follows.modRed
    | with_reducible apply State.Follows.powerAll
    | with_reducible apply State.Follows.standBy
    | with_reducible apply State.Follows.ite
    | with_reducible apply State.Follows.mk'
    | rfl
    | exact Nat.le_refl _

theorem State.Follows.seedSel {z : State} (rate : Int) (s : State) (hz : z.Follows s) :
    z.Follows (State.seedSel rate s) := by
  unfold State.seedSel
  repeat' first
    | with_reducible assumption | with_reducible apply State.Follows.modSel
    | with_reducible apply State.Follows.selBank | with_reducible apply State.Follows.setI
    | with_reducible apply State.Follows.setI2

theorem State.Follows.seedEbd {z : State} (eb : Nat) (g : Rat) (s : State) (hz : z.Follows s) : z.Follows
    (Sys2Proof.Machine.State.seedEbd eb g s) := by
  unfold Sys2Proof.Machine.State.seedEbd
  repeat' first
    | with_reducible assumption
    | with_reducible apply State.Follows.bankLatch
    | with_reducible apply State.Follows.ebSaturation
    | with_reducible apply State.Follows.modEbd
    | with_reducible apply State.Follows.set
    | with_reducible apply State.Follows.setEb

theorem State.Follows.loadModel {z : State} (e : List Byte) (s : State) (hz : z.Follows s) :
    z.Follows (State.loadModel e s) := by
  unfold State.loadModel
  repeat' first
    | with_reducible assumption | with_reducible apply State.Follows.modSel
    | with_reducible apply State.Follows.set | with_reducible apply State.Follows.showLaw

theorem State.Follows.seed {z : State} (p : SeedPair) (since : Int) (s : State) (hz : z.Follows s) : z.Follows
    (Sys2Proof.Machine.State.seed p since s) := by
  unfold Sys2Proof.Machine.State.seed
  repeat' first
    | with_reducible assumption
    | with_reducible apply State.Follows.applyKept
    | with_reducible apply State.Follows.bump
    | with_reducible apply State.Follows.evt
    | with_reducible apply State.Follows.file
    | with_reducible apply State.Follows.hearthFrom
    | with_reducible apply State.Follows.inc
    | with_reducible apply State.Follows.leapSource0
    | with_reducible apply State.Follows.loadModel
    | with_reducible apply State.Follows.seedEbd
    | with_reducible apply State.Follows.seedSel
    | with_reducible apply State.Follows.set
    | with_reducible apply State.Follows.setI
    | with_reducible apply State.Follows.setI2
    | with_reducible apply State.Follows.setTime
    | with_reducible apply State.Follows.showPtp
    | with_reducible apply State.Follows.slotRestart
    | with_reducible apply State.Follows.synTrack
    | with_reducible apply State.Follows.ite
    | with_reducible apply State.Follows.foldl
    | (intro _ _ _; try dsimp only)

theorem State.Follows.linkEnable {z : State} (s : State) (hz : z.Follows s) : z.Follows (State.linkEnable s) := by
  unfold State.linkEnable
  repeat' first
    | with_reducible assumption | with_reducible apply State.Follows.modRed
    | with_reducible apply State.Follows.set | with_reducible apply State.Follows.ite

theorem State.Follows.redAfter {z : State} (old new : State) (hz : z.Follows new) : z.Follows
    (Sys2Proof.Machine.redAfter old new) := by
  unfold Sys2Proof.Machine.redAfter
  repeat' first
    | with_reducible assumption
    | with_reducible apply State.Follows.linkEnable
    | with_reducible apply State.Follows.modRed

theorem State.Follows.redSecond {z : State} (s : State) (hz : z.Follows s) : z.Follows
    (Sys2Proof.Machine.State.redSecond s) := by
  unfold Sys2Proof.Machine.State.redSecond
  repeat' first
    | with_reducible assumption
    | with_reducible apply State.Follows.takeGroup
    | with_reducible apply State.Follows.redAfter
    | (intro _ _ _ _; try dsimp only)

theorem State.Follows.redStep {z : State} (s : State) (hz : z.Follows s) : z.Follows (State.redStep s) := by
  unfold State.redStep
  repeat' first
    | with_reducible assumption | with_reducible apply State.Follows.modRed

theorem State.Follows.linkBad {z : State} (s : State) (hz : z.Follows s) : z.Follows (State.linkBad s) := by
  unfold State.linkBad
  repeat' first
    | with_reducible assumption | with_reducible apply State.Follows.inc

theorem State.Follows.negotiateLink {z : State} (lo hi : Nat) (s : State) (hz : z.Follows s) :
    z.Follows (State.negotiateLink lo hi s) := by
  unfold State.negotiateLink
  repeat' first
    | with_reducible assumption | with_reducible apply State.Follows.evt
    | with_reducible apply State.Follows.file | with_reducible apply State.Follows.modRed
    | with_reducible apply State.Follows.set | split

theorem State.Follows.hello {z : State} (b : List Byte) (s : State) (hz : z.Follows s) : z.Follows (State.hello b s) := by
  unfold State.hello
  repeat' first
    | with_reducible assumption | with_reducible apply State.Follows.file
    | with_reducible apply State.Follows.negotiateLink | with_reducible apply State.Follows.set
    | with_reducible apply State.Follows.setB | with_reducible apply State.Follows.ite

theorem Follow.execHatFrame {z : State} (u : HatFrame) (s0 : State) (hz : z.Follows s0) :
    Follow z (Sys2Proof.Machine.execHatFrame u s0) := by
  unfold Sys2Proof.Machine.execHatFrame
  repeat' first
    | with_reducible assumption
    | with_reducible apply State.Follows.emit
    | with_reducible apply State.Follows.evt
    | with_reducible apply State.Follows.file
    | with_reducible apply State.Follows.inc
    | with_reducible apply State.Follows.judgeFrame
    | with_reducible apply State.Follows.judgeHealth
    | with_reducible apply State.Follows.modRed
    | with_reducible apply State.Follows.reclaimNow
    | with_reducible apply State.Follows.set
    | with_reducible apply State.Follows.setB
    | with_reducible apply Follow.ite
    | with_reducible apply Follow.next
    | with_reducible apply State.Follows.ite

theorem Follow.execHatLineTimeout {z : State} (s : State) (hz : z.Follows s) :
    Follow z (Sys2Proof.Machine.execHatLineTimeout s) := by
  unfold Sys2Proof.Machine.execHatLineTimeout
  repeat' first
    | with_reducible assumption | with_reducible apply State.Follows.file
    | with_reducible apply State.Follows.set | with_reducible apply Follow.ite | with_reducible apply Follow.next

theorem Follow.execReclaim {z : State} (s : State) (hz : z.Follows s) : Follow z (Sys2Proof.Machine.execReclaim s) := by
  unfold Sys2Proof.Machine.execReclaim
  repeat' first
    | with_reducible assumption | with_reducible apply State.Follows.evt
    | with_reducible apply State.Follows.modRed | with_reducible apply State.Follows.set | with_reducible apply Follow.ite
    | with_reducible apply Follow.next

theorem Follow.execRenounce {z : State} (s : State) (hz : z.Follows s) : Follow z (Sys2Proof.Machine.execRenounce s) := by
  unfold Sys2Proof.Machine.execRenounce
  repeat' first
    | with_reducible assumption | with_reducible apply State.Follows.evt
    | with_reducible apply State.Follows.modRed | with_reducible apply State.Follows.renounce
    | with_reducible apply State.Follows.set
    | with_reducible apply Follow.ite | with_reducible apply Follow.next

theorem Follow.execYield {z : State} (s : State) (hz : z.Follows s) : Follow z (Sys2Proof.Machine.execYield s) := by
  unfold Sys2Proof.Machine.execYield
  repeat' first
    | with_reducible assumption | with_reducible apply State.Follows.evt
    | with_reducible apply State.Follows.modRed | with_reducible apply State.Follows.set | with_reducible apply Follow.ite
    | with_reducible apply Follow.next

theorem Follow.execYieldApply {z : State} (s : State) (hz : z.Follows s) :
    Follow z (Sys2Proof.Machine.execYieldApply s) := by
  unfold Sys2Proof.Machine.execYieldApply
  repeat' first
    | with_reducible assumption | with_reducible apply State.Follows.modRed
    | with_reducible apply State.Follows.renounce | with_reducible apply State.Follows.set
    | with_reducible apply Follow.next | split

theorem Follow.execHealthNow {z : State} (s : State) (hz : z.Follows s) : Follow z (Sys2Proof.Machine.execHealthNow s) := by
  unfold Sys2Proof.Machine.execHealthNow
  repeat' first
    | with_reducible assumption | with_reducible apply State.Follows.judgeHealth
    | with_reducible apply State.Follows.modRed | with_reducible apply Follow.ite | with_reducible apply Follow.next

theorem Follow.execRedCommit {z : State} (s : State) (hz : z.Follows s) : Follow z (Sys2Proof.Machine.execRedCommit s) := by
  unfold Sys2Proof.Machine.execRedCommit
  repeat' first
    | with_reducible assumption | with_reducible apply State.Follows.commit | with_reducible apply Follow.next

theorem Follow.execHelloTx {z : State} (s : State) (hz : z.Follows s) : Follow z (Sys2Proof.Machine.execHelloTx s) := by
  unfold Sys2Proof.Machine.execHelloTx
  repeat' first
    | with_reducible assumption | with_reducible apply State.Follows.emit | with_reducible apply Follow.ite
    | with_reducible apply Follow.next

theorem Follow.execHelloRx {z : State} (msg : Option (List Byte)) (s : State) (hz : z.Follows s) :
    Follow z (Sys2Proof.Machine.execHelloRx msg s) := by
  unfold Sys2Proof.Machine.execHelloRx
  repeat' first
    | with_reducible assumption | with_reducible apply State.Follows.hello
    | with_reducible apply State.Follows.linkBad | with_reducible apply Follow.next | split

theorem Follow.execHatLinkAligned {z : State} (s : State) (hz : z.Follows s) :
    Follow z (Sys2Proof.Machine.execHatLinkAligned s) := by
  unfold Sys2Proof.Machine.execHatLinkAligned
  repeat' first
    | with_reducible assumption | with_reducible apply State.Follows.modRed
    | with_reducible apply State.Follows.set | with_reducible apply Follow.ite | with_reducible apply Follow.next

theorem Follow.execHatLinkTimeout {z : State} (s : State) (hz : z.Follows s) :
    Follow z (Sys2Proof.Machine.execHatLinkTimeout s) := by
  unfold Sys2Proof.Machine.execHatLinkTimeout
  repeat' first
    | with_reducible assumption | with_reducible apply State.Follows.file
    | with_reducible apply State.Follows.inc | with_reducible apply State.Follows.modRed
    | with_reducible apply State.Follows.set | with_reducible apply Follow.ite | with_reducible apply Follow.next

theorem Follow.execEmberTx {z : State} (s : State) (hz : z.Follows s) : Follow z (Sys2Proof.Machine.execEmberTx s) := by
  unfold Sys2Proof.Machine.execEmberTx
  repeat' first
    | with_reducible assumption | with_reducible apply State.Follows.emit
    | with_reducible apply State.Follows.inc | with_reducible apply State.Follows.modRed | with_reducible apply Follow.next
    | split

theorem Follow.execEmberRx {z : State} (msg : Option (List Byte)) (s : State) (hz : z.Follows s) : Follow z
    (Sys2Proof.Machine.execEmberRx msg s) := by
  unfold Sys2Proof.Machine.execEmberRx
  try dsimp only
  repeat' first
    | with_reducible assumption
    | with_reducible apply State.Follows.emberMiss
    | with_reducible apply State.Follows.inc
    | with_reducible apply State.Follows.linkBad
    | with_reducible apply State.Follows.modRed
    | with_reducible apply State.Follows.setB
    | with_reducible apply Follow.next
    | split

theorem Follow.execEmberPairTimeout {z : State} (s : State) (hz : z.Follows s) :
    Follow z (Sys2Proof.Machine.execEmberPairTimeout s) := by
  unfold Sys2Proof.Machine.execEmberPairTimeout
  repeat' first
    | with_reducible assumption | with_reducible apply State.Follows.emberMiss | with_reducible apply Follow.ite
    | with_reducible apply Follow.next

theorem Follow.execHealthTx {z : State} (s : State) (hz : z.Follows s) : Follow z (Sys2Proof.Machine.execHealthTx s) := by
  unfold Sys2Proof.Machine.execHealthTx
  repeat' first
    | with_reducible assumption | with_reducible apply State.Follows.emit
    | with_reducible apply State.Follows.judgeHealth | with_reducible apply State.Follows.modRed
    | with_reducible apply Follow.ite | with_reducible apply Follow.next

theorem Follow.execHealthRx {z : State} (msg : Option (List Byte)) (s : State) (hz : z.Follows s) :
    Follow z (Sys2Proof.Machine.execHealthRx msg s) := by
  unfold Sys2Proof.Machine.execHealthRx
  repeat' first
    | with_reducible assumption | with_reducible apply State.Follows.evt
    | with_reducible apply State.Follows.file | with_reducible apply State.Follows.linkBad
    | with_reducible apply State.Follows.set | with_reducible apply Follow.next | split

theorem Follow.execSeeding {z : State} (since : Int) (s : State) (hz : z.Follows s) :
    Follow z (Sys2Proof.Machine.execSeeding since s) := by
  unfold Sys2Proof.Machine.execSeeding
  repeat' first
    | with_reducible assumption | with_reducible apply State.Follows.seed | with_reducible apply Follow.next
    | split

theorem State.Follows.releaseBalls {z : State} (s : State) (hz : z.Follows s) : z.Follows (State.releaseBalls s) := by
  unfold State.releaseBalls
  repeat' first
    | with_reducible assumption | with_reducible apply State.Follows.emit
    | with_reducible apply State.Follows.modOut | with_reducible apply State.Follows.outMutesAll
    | with_reducible apply State.Follows.setDriving | with_reducible apply State.Follows.ite
    | with_reducible apply State.Follows.foldl | (intro _ _ _; try dsimp only)

theorem Follow.execLoserRelease {z : State} (s : State) (hz : z.Follows s) :
    Follow z (Sys2Proof.Machine.execLoserRelease s) := by
  unfold Sys2Proof.Machine.execLoserRelease
  repeat' first
    | with_reducible assumption | with_reducible apply State.Follows.modRed
    | with_reducible apply State.Follows.releaseBalls | with_reducible apply Follow.ite | with_reducible apply Follow.next

theorem State.Follows.alignSeeded {z : State} (n : Nat) (s : State) (hz : z.Follows s) : z.Follows
    (Sys2Proof.Machine.State.alignSeeded n s) := by
  unfold Sys2Proof.Machine.State.alignSeeded
  repeat' first
    | with_reducible assumption
    | with_reducible apply State.Follows.alignWait
    | with_reducible apply State.Follows.bump
    | with_reducible apply State.Follows.modOutCh
    | with_reducible apply State.Follows.set
    | with_reducible apply State.Follows.ite

theorem Follow.execWinnerRelease {z : State} (s : State) (hz : z.Follows s) :
    Follow z (Sys2Proof.Machine.execWinnerRelease s) := by
  unfold Sys2Proof.Machine.execWinnerRelease
  repeat' first
    | with_reducible assumption | with_reducible apply State.Follows.alignSeeded
    | with_reducible apply State.Follows.hatGate | with_reducible apply State.Follows.modOut
    | with_reducible apply State.Follows.modRed | with_reducible apply State.Follows.outMutesAll
    | with_reducible apply State.Follows.powerAll | with_reducible apply State.Follows.showPtp
    | with_reducible apply Follow.next | with_reducible apply State.Follows.foldl | (intro _ _ _; try dsimp only) | split
    | with_reducible apply State.Follows.mk' | exact Nat.le_refl _ | rfl

theorem Follow.execSpareCalDone {z : State} (hist : List Nat) (diff : Nat) (s : State) (hz : z.Follows s) : Follow z
    (Sys2Proof.Machine.execSpareCalDone hist diff s) := by
  unfold Sys2Proof.Machine.execSpareCalDone
  repeat' first
    | with_reducible assumption
    | with_reducible apply State.Follows.judgeHealth
    | with_reducible apply State.Follows.spareCalDone
    | with_reducible apply Follow.next

theorem Follow.execSelftestMbist {z : State} (array : BitVec 8) (corrected uncorrectable : Bool) (s : State)
    (hz : z.Follows s) :
    Follow z (Sys2Proof.Machine.execSelftestMbist array corrected uncorrectable s) := by
  unfold Sys2Proof.Machine.execSelftestMbist
  repeat' first
    | with_reducible assumption | with_reducible apply State.Follows.judgeHealth
    | with_reducible apply State.Follows.modRed | with_reducible apply Follow.ite | with_reducible apply Follow.next

theorem Follow.execSelftestSynSweep {z : State} (n : Fin 4) (u : BandSweep) (s : State) (hz : z.Follows s) :
    Follow z (Sys2Proof.Machine.execSelftestSynSweep n u s) := by
  unfold Sys2Proof.Machine.execSelftestSynSweep
  repeat' first
    | with_reducible assumption | with_reducible apply State.Follows.judgeHealth
    | with_reducible apply State.Follows.modRed | with_reducible apply Follow.ite | with_reducible apply Follow.next

theorem Follow.execSelftestSerdes {z : State} (p : Fin 4) (errors : Nat) (locked : Bool) (s : State) (hz : z.Follows s) :
    Follow z (Sys2Proof.Machine.execSelftestSerdes p errors locked s) := by
  unfold Sys2Proof.Machine.execSelftestSerdes
  repeat' first
    | with_reducible assumption | with_reducible apply State.Follows.judgeHealth
    | with_reducible apply State.Follows.modRed | with_reducible apply Follow.ite | with_reducible apply Follow.next

end Sys2Proof.Machine
end

