-- ==== Sys2Proof/Laws/KeepGroups.lean ====
section
/-! SUPPORT. What the operations of Machine/Groups.lean keep. -/

namespace Sys2Proof.Machine

theorem State.Follows.groupAfter {z : State} (g : Group) (a b : State) (h : z.Follows b) :
    z.Follows ((groupRule g).after a b) := by
  cases g <;> dsimp only [groupRule, plainRule]
  case ebdBank => exact State.Follows.modEbd _ _ h
  case refSlot n => exact State.Follows.slotAfter _ _ _ h
  case osc => exact State.Follows.oscAfter _ _ h
  case syn n => exact State.Follows.synAfter _ _ _ h
  case out n => exact State.Follows.outAfter _ _ _ h
  case tdcTb => exact State.Follows.tbaseGone _ (State.Follows.tdcNoTbase _ h)
  case tdcCh n => exact State.Follows.tdcAbort _ _ h
  case gnaFe n => exact State.Follows.feAfter _ _ _ h
  case gnsSol => exact State.Follows.gnsSolAfter _ _ h
  case ethPort p => exact State.Follows.ethPortAfter _ _ _ h
  case rseEng => exact State.Follows.rseEngAfter _ _ h
  case rseRtab => exact State.Follows.applyTable _ _ h
  case proPtp p => exact State.Follows.clearGrants _ _ h
  case proPref p => exact State.Follows.proPrefAfter _ _ _ h
  case smpPort n => exact State.Follows.smpAfter _ _ _ h
  case red => exact State.Follows.redAfter _ _ h
  case pmcSel => exact State.Follows.selEventsAfter _ _ h
  case memCfg => exact State.Follows.showRefresh _ h
  all_goals exact h

theorem State.Follows.takeNow {z : State} (g : Group) (accept : Bool) (s : State) (h : z.Follows s) :
    z.Follows (State.takeNow g accept s) := by
  unfold State.takeNow
  exact State.Follows.takeGroup _ _ _ _ _ _ h fun a b _ k => State.Follows.groupAfter g a b k

theorem State.Follows.refreshInt {z : State} (b : Nat) (s : State) (hz : z.Follows s) :
    z.Follows (State.refreshInt b s) := by
  unfold State.refreshInt
  repeat' first
    | with_reducible assumption | with_reducible apply State.Follows.raiseBlock
    | with_reducible apply State.Follows.set | with_reducible apply State.Follows.ite

theorem State.Follows.endSwitching {z : State} (s : State) (hz : z.Follows s) : z.Follows (State.endSwitching s) := by
  unfold State.endSwitching
  repeat' first
    | with_reducible assumption | with_reducible apply State.Follows.mk' | exact Nat.le_refl _ | rfl

theorem State.Follows.applyProfile {z : State} (recs : List (Nat × Nat)) (s : State) (hz : z.Follows s) :
    z.Follows (State.applyProfile recs s) := by
  unfold State.applyProfile
  repeat' first
    | with_reducible assumption | with_reducible apply State.Follows.commit
    | with_reducible apply State.Follows.endSwitching | with_reducible apply State.Follows.gnsSecond
    | with_reducible apply State.Follows.hold | with_reducible apply State.Follows.incBy
    | with_reducible apply State.Follows.linkEnable | with_reducible apply State.Follows.loadFields
    | with_reducible apply State.Follows.pmcChanged | with_reducible apply State.Follows.showAlarm
    | with_reducible apply State.Follows.takeNow | with_reducible apply State.Follows.foldl | (intro _ _ _; try dsimp only)
    | with_reducible apply State.Follows.mk' | exact Nat.le_refl _ | rfl

theorem State.Follows.stageProfile {z : State} (k : Nat) (recs : List (Nat × Nat)) (s : State) (hz : z.Follows s) :
    z.Follows (State.stageProfile k recs s) := by
  unfold State.stageProfile
  repeat' first
    | with_reducible assumption | with_reducible apply State.Follows.dropShadow
    | with_reducible apply State.Follows.hold | with_reducible apply State.Follows.incBy
    | with_reducible apply State.Follows.foldl | (intro _ _ _; try dsimp only) | with_reducible apply State.Follows.mk'
    | exact Nat.le_refl _ | rfl

theorem State.Follows.unstage {z : State} (f : Field) (s : State) (hz : z.Follows s) : z.Follows (State.unstage f s) := by
  unfold State.unstage
  repeat' first
    | with_reducible assumption | split | with_reducible apply State.Follows.mk' | exact Nat.le_refl _ | rfl

theorem State.Follows.switchValue {z : State} (w : Waiting) (s : State) (hz : z.Follows s) :
    z.Follows (State.switchValue w s) := by
  unfold State.switchValue
  repeat' first
    | with_reducible assumption | with_reducible apply State.Follows.evt
    | with_reducible apply State.Follows.hold | with_reducible apply State.Follows.set | split

theorem State.Follows.switchGroup {z : State} (g : Group) (s : State) (hz : z.Follows s) :
    z.Follows (State.switchGroup g s) := by
  unfold State.switchGroup
  repeat' first
    | with_reducible assumption | with_reducible apply State.Follows.commit
    | with_reducible apply State.Follows.ite | with_reducible apply State.Follows.mk' | exact Nat.le_refl _ | rfl

theorem State.Follows.switchRate {z : State} (vals : List Waiting) (steer : Bool) (s : State) (hz : z.Follows s) :
    z.Follows (Sys2Proof.Machine.State.switchRate vals steer s) := by
  unfold Sys2Proof.Machine.State.switchRate
  repeat' first
    | with_reducible assumption
    | with_reducible apply State.Follows.softCommit
    | with_reducible apply State.Follows.ite

theorem State.Follows.switchSecond {z : State} (s : State) (hz : z.Follows s) : z.Follows
    (Sys2Proof.Machine.State.switchSecond s) := by
  unfold Sys2Proof.Machine.State.switchSecond
  repeat' first
    | with_reducible assumption
    | with_reducible apply State.Follows.evt
    | with_reducible apply State.Follows.inc
    | with_reducible apply State.Follows.set
    | with_reducible apply State.Follows.switchGroup
    | with_reducible apply State.Follows.switchRate
    | with_reducible apply State.Follows.switchValue
    | with_reducible apply State.Follows.foldl
    | (intro _ _ _; try dsimp only)
    | split
    | with_reducible apply State.Follows.mk'
    | rfl
    | exact Nat.le_refl _

end Sys2Proof.Machine
end

