-- ==== Sys2Proof/Laws/KeepNvc.lean ====
section
/-! SUPPORT. What the operations of Machine/Nvc.lean keep. -/

namespace Sys2Proof.Machine

theorem State.Follows.modNvc {z : State} (f : Nvc → Nvc) (s : State) (h : z.Follows s)
    (hf : (f s.nvc).flash = s.nvc.flash) : z.Follows (State.modNvc f s) := State.Follows.mk' h hf (Nat.le_refl _)

theorem State.Follows.modRing {z : State} (f : EmberRing → EmberRing) (s : State) (hz : z.Follows s) :
    z.Follows (State.modRing f s) := by
  unfold State.modRing
  repeat' first
    | with_reducible assumption | with_reducible apply State.Follows.modNvc | rfl

theorem State.Follows.flashProgram {z : State} (a : Nat) (bs : List Byte) (s : State) (h : z.Follows s) :
    z.Follows (State.flashProgram a bs s) :=
  ⟨h.queue, h.sent, h.drawn, fun c => by
    obtain ⟨r, w, d, b, g⟩ := h.canonical c
    exact ⟨r, w, d, b, Mem.wf_write g _ _⟩⟩

theorem State.Follows.flashErase {z : State} (a n : Nat) (s : State) (h : z.Follows s) :
    z.Follows (State.flashErase a n s) :=
  ⟨h.queue, h.sent, h.drawn, fun c => by
    obtain ⟨r, w, d, b, g⟩ := h.canonical c
    exact ⟨r, w, d, b, Mem.wf_filter g _⟩⟩

theorem State.Follows.showRing {z : State} (s : State) (hz : z.Follows s) : z.Follows (State.showRing s) := by
  unfold State.showRing
  repeat' first
    | with_reducible assumption | with_reducible apply State.Follows.set
    | with_reducible apply State.Follows.setB

theorem State.Follows.prepareSector {z : State} (s : State) (hz : z.Follows s) : z.Follows (State.prepareSector s) := by
  unfold State.prepareSector
  repeat' first
    | with_reducible assumption | with_reducible apply State.Follows.emit
    | with_reducible apply State.Follows.modRing | split

theorem State.Follows.retireSector {z : State} (k : Nat) (s : State) (hz : z.Follows s) :
    z.Follows (State.retireSector k s) := by
  unfold State.retireSector
  repeat' first
    | with_reducible assumption | with_reducible apply State.Follows.evt
    | with_reducible apply State.Follows.file | with_reducible apply State.Follows.inc
    | with_reducible apply State.Follows.modRing | with_reducible apply State.Follows.prepareSector
    | with_reducible apply State.Follows.set | with_reducible apply State.Follows.showRing
    | with_reducible apply State.Follows.ite

theorem State.Follows.advanceSector {z : State} (s : State) (hz : z.Follows s) : z.Follows (State.advanceSector s) := by
  unfold State.advanceSector
  try dsimp only
  repeat' first
    | with_reducible assumption | with_reducible apply State.Follows.modRing
    | with_reducible apply State.Follows.prepareSector | with_reducible apply State.Follows.showRing | split

theorem State.Follows.emberKick {z : State} (s : State) (h : z.Follows s) : z.Follows (State.emberKick s) := by
  unfold State.emberKick
  dsimp only
  refine State.Follows.ite h ?_
  split
  · exact h
  · have k := State.Follows.advanceSector s h
    refine State.Follows.ite k (State.Follows.emit _ (State.Follows.modNvc _ _ (State.Follows.ite ?_ k) rfl))
    exact State.Follows.emit _ (State.Follows.flashProgram _ _ _ k)

theorem State.Follows.emberPut {z : State} (bytes : List Byte) (s : State) (hz : z.Follows s) :
    z.Follows (State.emberPut bytes s) := by
  unfold State.emberPut
  repeat' first
    | with_reducible assumption | with_reducible apply State.Follows.emberKick
    | with_reducible apply State.Follows.modNvc | with_reducible apply State.Follows.ite | rfl

theorem State.Follows.emberFailed {z : State} (i : Nat) (w : EmberWrite) (told : Bool) (s : State) (hz : z.Follows s) :
    z.Follows (State.emberFailed i w told s) := by
  unfold State.emberFailed
  repeat' first
    | with_reducible assumption | with_reducible apply State.Follows.evt
    | with_reducible apply State.Follows.file | with_reducible apply State.Follows.inc
    | with_reducible apply State.Follows.modNvc | with_reducible apply State.Follows.modRing
    | with_reducible apply State.Follows.retireSector | with_reducible apply State.Follows.ite | rfl

theorem State.Follows.emberWritten {z : State} (i : Nat) (w : EmberWrite) (s : State) (hz : z.Follows s) :
    z.Follows (State.emberWritten i w s) := by
  unfold State.emberWritten
  repeat' first
    | with_reducible assumption | with_reducible apply State.Follows.count
    | with_reducible apply State.Follows.inc | with_reducible apply State.Follows.modNvc
    | with_reducible apply State.Follows.modRing | with_reducible apply State.Follows.prepareSector
    | with_reducible apply State.Follows.set2 | with_reducible apply State.Follows.showRing | rfl

theorem State.Follows.flEnd {z : State} (r : Nat) (s : State) (hz : z.Follows s) : z.Follows (State.flEnd r s) := by
  unfold State.flEnd
  repeat' first
    | with_reducible assumption | with_reducible apply State.Follows.evt
    | with_reducible apply State.Follows.set

theorem State.Follows.flGo {z : State} (op : Nat) (s : State) (hz : z.Follows s) : z.Follows
    (Sys2Proof.Machine.State.flGo op s) := by
  unfold Sys2Proof.Machine.State.flGo
  repeat' first
    | with_reducible assumption
    | with_reducible apply State.Follows.emit
    | with_reducible apply State.Follows.evt
    | with_reducible apply State.Follows.flEnd
    | with_reducible apply State.Follows.modNvc
    | with_reducible apply State.Follows.set
    | with_reducible apply State.Follows.ite
    | rfl

theorem State.Follows.flEffect {z : State} (op a n : Nat) (s : State) (hz : z.Follows s) : z.Follows
    (Sys2Proof.Machine.State.flEffect op a n s) := by
  unfold Sys2Proof.Machine.State.flEffect
  repeat' first
    | with_reducible assumption
    | with_reducible apply State.Follows.flashErase
    | with_reducible apply State.Follows.flashProgram
    | with_reducible apply State.Follows.setWords
    | with_reducible apply State.Follows.ite

theorem State.Follows.emberSecond {z : State} (s : State) (hz : z.Follows s) : z.Follows (State.emberSecond s) := by
  unfold State.emberSecond
  try dsimp only
  repeat' first
    | with_reducible assumption | with_reducible apply State.Follows.emberPut
    | with_reducible apply State.Follows.formEmber | with_reducible apply State.Follows.set | split

theorem Follow.execStandbyEmber {z : State} (s : State) (hz : z.Follows s) :
    Follow z (Sys2Proof.Machine.execStandbyEmber s) := by
  unfold Sys2Proof.Machine.execStandbyEmber
  try dsimp only
  repeat' first
    | with_reducible assumption | with_reducible apply State.Follows.emberPut
    | with_reducible apply State.Follows.formEmber | with_reducible apply State.Follows.set
    | with_reducible apply Follow.next | split

theorem Follow.execEmberNow {z : State} (s : State) (hz : z.Follows s) : Follow z (Sys2Proof.Machine.execEmberNow s) := by
  unfold Sys2Proof.Machine.execEmberNow
  repeat' first
    | with_reducible assumption | with_reducible apply State.Follows.set | with_reducible apply Follow.next

theorem Follow.execEmberDeadline {z : State} (s : State) (hz : z.Follows s) :
    Follow z (Sys2Proof.Machine.execEmberDeadline s) := by
  unfold Sys2Proof.Machine.execEmberDeadline
  repeat' first
    | with_reducible assumption | with_reducible apply State.Follows.emberKick
    | with_reducible apply State.Follows.evt | with_reducible apply State.Follows.file
    | with_reducible apply State.Follows.inc | with_reducible apply State.Follows.modNvc | with_reducible apply Follow.next
    | split | rfl

theorem Follow.execFlRead {z : State} (s : State) (hz : z.Follows s) : Follow z (Sys2Proof.Machine.execFlRead s) := by
  unfold Sys2Proof.Machine.execFlRead
  repeat' first
    | with_reducible assumption | with_reducible apply State.Follows.flGo | with_reducible apply Follow.next

theorem Follow.execFlProgram {z : State} (s : State) (hz : z.Follows s) : Follow z (Sys2Proof.Machine.execFlProgram s) := by
  unfold Sys2Proof.Machine.execFlProgram
  repeat' first
    | with_reducible assumption | with_reducible apply State.Follows.flGo | with_reducible apply Follow.next

theorem Follow.execFlErase {z : State} (s : State) (hz : z.Follows s) : Follow z (Sys2Proof.Machine.execFlErase s) := by
  unfold Sys2Proof.Machine.execFlErase
  repeat' first
    | with_reducible assumption | with_reducible apply State.Follows.flGo | with_reducible apply Follow.next

end Sys2Proof.Machine
end

