-- ==== Sys2Proof/Laws/KeepStart.lean ====
section
/-! SUPPORT. What the operations of Machine/Start.lean keep. -/

namespace Sys2Proof.Machine

theorem State.Follows.tearProgram {z : State} (s : State) (hz : z.Follows s) : z.Follows
    (Sys2Proof.Machine.State.tearProgram s) := by
  unfold Sys2Proof.Machine.State.tearProgram
  repeat' first
    | with_reducible assumption
    | with_reducible apply State.Follows.flashProgram
    | with_reducible apply State.Follows.foldl
    | (intro _ _ _; try dsimp only)
    | split

theorem State.Follows.wipe {z : State} (c : ResetCause) (s : State) (h : z.Follows s) : z.Follows (State.wipe c s) := by
  have k := State.Follows.tearProgram s h
  refine ⟨k.queue, k.sent.trans (List.suffix_append _ _), k.drawn, fun i => ?_⟩
  obtain ⟨r, _, d, b, g⟩ := k.canonical i
  exact ⟨Map.wf_filter r _, rfl, d, b, g⟩

theorem State.Follows.wipeAll {z : State} (s : State) (h : z.Follows s) : z.Follows (State.wipeAll s) := by
  have k := State.Follows.wipe .powerOn s h
  refine ⟨k.queue, k.sent, k.drawn, fun i => ?_⟩
  obtain ⟨_, w, d, b, g⟩ := k.canonical i
  exact ⟨rfl, w, d, b, g⟩

theorem State.Follows.sampleStraps {z : State} (c : ResetCause) (p : Straps) (s : State) (hz : z.Follows s) :
    z.Follows (State.sampleStraps c p s) := by
  unfold State.sampleStraps
  repeat' first
    | with_reducible assumption | with_reducible apply State.Follows.set
    | with_reducible apply State.Follows.setB | with_reducible apply State.Follows.ite

theorem State.Follows.chipReset {z : State} (c : ResetCause) (p : Straps) (s : State) (hz : z.Follows s) :
    z.Follows (State.chipReset c p s) := by
  unfold State.chipReset
  repeat' first
    | with_reducible assumption | with_reducible apply State.Follows.emptyGlove
    | with_reducible apply State.Follows.inc | with_reducible apply State.Follows.sampleStraps
    | with_reducible apply State.Follows.set | with_reducible apply State.Follows.wipe
    | with_reducible apply State.Follows.wipeAll | with_reducible apply State.Follows.ite
    | with_reducible apply State.Follows.foldl | (intro _ _ _; try dsimp only) | with_reducible apply State.Follows.mk'
    | exact Nat.le_refl _ | rfl

theorem State.Follows.reloadWhenFree {z : State} (s : State) (hz : z.Follows s) : z.Follows (State.reloadWhenFree s) := by
  unfold State.reloadWhenFree
  repeat' first
    | with_reducible assumption | with_reducible apply State.Follows.chipReset
    | with_reducible apply State.Follows.ite

theorem Follow.execPowerOn {z : State} (p : StrapSamples) (s : State) (hz : z.Follows s) : Follow z (Sys2Proof.Machine.execPowerOn p s) := by
  unfold Sys2Proof.Machine.execPowerOn
  try dsimp only
  repeat' first
    | with_reducible assumption
    | with_reducible apply Follow.ite
    | with_reducible apply State.Follows.chipReset
    | with_reducible apply Follow.next

theorem Follow.execResetPin {z : State} (p : StrapSamples) (s : State) (hz : z.Follows s) : Follow z (Sys2Proof.Machine.execResetPin p s) := by
  unfold Sys2Proof.Machine.execResetPin
  try dsimp only
  repeat' first
    | with_reducible assumption
    | with_reducible apply State.Follows.chipReset
    | with_reducible apply Follow.ite
    | with_reducible apply Follow.next

theorem Follow.execJtagReset {z : State} (p : StrapSamples) (s : State) (hz : z.Follows s) : Follow z (Sys2Proof.Machine.execJtagReset p s) := by
  unfold Sys2Proof.Machine.execJtagReset
  try dsimp only
  repeat' first
    | with_reducible assumption
    | with_reducible apply State.Follows.chipReset
    | with_reducible apply Follow.ite
    | with_reducible apply Follow.next

theorem Follow.execReload {z : State} (p : StrapSamples) (s : State) (hz : z.Follows s) : Follow z (Sys2Proof.Machine.execReload p s) := by
  unfold Sys2Proof.Machine.execReload
  try dsimp only
  repeat' first
    | with_reducible assumption
    | with_reducible apply State.Follows.chipReset
    | with_reducible apply State.Follows.modNvc
    | with_reducible apply Follow.ite
    | with_reducible apply Follow.next
    | rfl

theorem Follow.execChipReset {z : State} (confirm : BitVec 16) (p : StrapSamples) (s : State) (hz : z.Follows s) : Follow z (Sys2Proof.Machine.execChipReset confirm p s) := by
  unfold Sys2Proof.Machine.execChipReset
  try dsimp only
  repeat' first
    | with_reducible assumption
    | with_reducible apply State.Follows.chipReset
    | with_reducible apply Follow.ite
    | with_reducible apply Follow.next

theorem Follow.execResetNAsserted {z : State} (s : State) (hz : z.Follows s) :
    Follow z (Sys2Proof.Machine.execResetNAsserted s) := by
  unfold Sys2Proof.Machine.execResetNAsserted
  repeat' first
    | with_reducible assumption | with_reducible apply State.Follows.wipe | with_reducible apply Follow.ite
    | with_reducible apply Follow.next | with_reducible apply State.Follows.mk' | exact Nat.le_refl _ | rfl

theorem Follow.execBrownout {z : State} (rail : BitVec 8) (s : State) (hz : z.Follows s) :
    Follow z (Sys2Proof.Machine.execBrownout rail s) := by
  unfold Sys2Proof.Machine.execBrownout
  repeat' first
    | with_reducible assumption | with_reducible apply State.Follows.bump
    | with_reducible apply State.Follows.logRecord | with_reducible apply State.Follows.wipe
    | with_reducible apply Follow.ite | with_reducible apply Follow.next | with_reducible apply State.Follows.mk' | exact Nat.le_refl _
    | rfl

theorem Follow.execAonLoss {z : State} (s : State) (hz : z.Follows s) : Follow z (Sys2Proof.Machine.execAonLoss s) := by
  unfold Sys2Proof.Machine.execAonLoss
  repeat' first
    | with_reducible assumption | with_reducible apply State.Follows.wipeAll | with_reducible apply Follow.next
    | with_reducible apply State.Follows.mk' | exact Nat.le_refl _ | rfl

theorem State.Follows.recovery {z : State} (cause : Nat) (s : State) (hz : z.Follows s) :
    z.Follows (State.recovery cause s) := by
  unfold State.recovery
  repeat' first
    | with_reducible assumption | with_reducible apply State.Follows.set
    | with_reducible apply State.Follows.showCor

theorem State.Follows.takeLifeCycle {z : State} (st mask : Nat) (s : State) (hz : z.Follows s) : z.Follows
    (Sys2Proof.Machine.State.takeLifeCycle st mask s) := by
  unfold Sys2Proof.Machine.State.takeLifeCycle
  repeat' first
    | with_reducible assumption
    | with_reducible apply State.Follows.lcChange
    | with_reducible apply State.Follows.reseed
    | with_reducible apply State.Follows.set
    | with_reducible apply State.Follows.ite

theorem State.Follows.takeHeader {z : State} (h : List Byte) (s : State) (hz : z.Follows s) : z.Follows
    (Sys2Proof.Machine.State.takeHeader h s) := by
  unfold Sys2Proof.Machine.State.takeHeader
  repeat' first
    | with_reducible assumption
    | with_reducible apply State.Follows.modNvc
    | with_reducible apply State.Follows.set
    | with_reducible apply State.Follows.setB
    | with_reducible apply State.Follows.takeLifeCycle
    | with_reducible apply State.Follows.ite
    | rfl

theorem State.Follows.takeDirectory {z : State} (h : List Byte) (s1 : State) (hz : z.Follows s1) :
    z.Follows (State.takeDirectory h s1) := by
  unfold State.takeDirectory
  repeat' first
    | with_reducible assumption | with_reducible apply State.Follows.evt
    | with_reducible apply State.Follows.file | with_reducible apply State.Follows.modNvc
    | with_reducible apply State.Follows.modRing | with_reducible apply State.Follows.setB
    | with_reducible apply State.Follows.ite | rfl

theorem Follow.execHeaderRead {z : State} (sector64 : Bool) (s0 : State) (hz : z.Follows s0) :
    Follow z (Sys2Proof.Machine.execHeaderRead sector64 s0) := by
  unfold Sys2Proof.Machine.execHeaderRead
  repeat' first
    | with_reducible assumption | with_reducible apply State.Follows.modNvc
    | with_reducible apply State.Follows.recovery | with_reducible apply State.Follows.takeDirectory
    | with_reducible apply State.Follows.takeHeader | with_reducible apply State.Follows.takeLifeCycle
    | with_reducible apply Follow.ite | with_reducible apply Follow.next | with_reducible apply State.Follows.ite | rfl

theorem State.Follows.readSection {z : State} (t : Nat) (s : State) (hz : z.Follows s) :
    z.Follows (State.readSection t s).2 := by
  unfold State.readSection
  try dsimp only
  repeat' first
    | with_reducible assumption | with_reducible apply State.Follows.evt
    | with_reducible apply State.Follows.set | split

theorem State.Follows.firstProfile {z : State} (ks : List Nat) (s : State) (h : z.Follows s) :
    z.Follows (State.firstProfile ks s).2 := by
  induction ks generalizing s with
  | nil => exact h
  | cons k ks ih =>
    unfold State.firstProfile
    split
    · rename_i e; exact State.Follows.snd e (State.Follows.readSection _ _ h)
    · rename_i e; exact ih _ (State.Follows.snd e (State.Follows.readSection _ _ h))

theorem State.Follows.loadBands {z : State} (bs : List Byte) (s : State) (hz : z.Follows s) :
    z.Follows (State.loadBands bs s) := by
  unfold State.loadBands
  repeat' first
    | with_reducible assumption | with_reducible apply State.Follows.loadFields

theorem State.Follows.stageThree {z : State} (k : Nat) (bs : List Byte) (s : State) (hz : z.Follows s) :
    z.Follows (State.stageThree k bs s) := by
  unfold State.stageThree
  repeat' first
    | with_reducible assumption | with_reducible apply State.Follows.applyProfile
    | with_reducible apply State.Follows.modNvc | with_reducible apply State.Follows.oscIdStart
    | with_reducible apply State.Follows.set | with_reducible apply State.Follows.ite | rfl

theorem Follow.execEarlySectionsRead {z : State} (ref : ReferenceSection) (s : State) (hz : z.Follows s) :
    Follow z (Sys2Proof.Machine.execEarlySectionsRead ref s) := by
  unfold Sys2Proof.Machine.execEarlySectionsRead
  try dsimp only
  repeat' first
    | with_reducible assumption | with_reducible apply State.Follows.file
    | with_reducible apply State.Follows.firstProfile | with_reducible apply State.Follows.loadBands
    | with_reducible apply State.Follows.modOsc | with_reducible apply State.Follows.readSection
    | with_reducible apply State.Follows.recovery | with_reducible apply State.Follows.stageThree
    | with_reducible apply Follow.next | split | refine State.Follows.snd (by with_reducible assumption) ?_
    | with_reducible apply State.Follows.mk' | exact Nat.le_refl _ | rfl

theorem Follow.execLateSectionsRead {z : State} (c : LateSections) (s : State) (hz : z.Follows s) : Follow z
    (Sys2Proof.Machine.execLateSectionsRead c s) := by
  unfold Sys2Proof.Machine.execLateSectionsRead
  repeat' first
    | with_reducible assumption
    | with_reducible apply State.Follows.coreTryStart
    | with_reducible apply State.Follows.file
    | with_reducible apply State.Follows.modGna
    | with_reducible apply State.Follows.modGns
    | with_reducible apply State.Follows.modNvc
    | with_reducible apply State.Follows.readSection
    | with_reducible apply State.Follows.scriptStart
    | with_reducible apply State.Follows.set
    | with_reducible apply State.Follows.setB
    | with_reducible apply Follow.next
    | with_reducible apply State.Follows.foldl
    | (intro _ _ _; try dsimp only)
    | split
    | refine State.Follows.snd (by with_reducible assumption) ?_
    | rfl

theorem State.Follows.scanRing {z : State} (s : State) (hz : z.Follows s) : z.Follows (State.scanRing s) := by
  unfold State.scanRing
  repeat' first
    | with_reducible assumption | with_reducible apply State.Follows.modRing
    | with_reducible apply State.Follows.showRing

theorem State.Follows.restore {z : State} (e : List Byte) (pages : List (List Byte)) (s : State) (hz : z.Follows s) :
    z.Follows (State.restore e pages s) := by
  unfold State.restore
  repeat' first
    | with_reducible assumption | with_reducible apply State.Follows.judgeIdentity
    | with_reducible apply State.Follows.loadSummaries | with_reducible apply State.Follows.modNvc
    | with_reducible apply State.Follows.modOsc | with_reducible apply State.Follows.set
    | with_reducible apply State.Follows.setI | with_reducible apply State.Follows.ite | rfl

theorem Follow.execEmberScan {z : State} (s : State) (hz : z.Follows s) : Follow z (Sys2Proof.Machine.execEmberScan s) := by
  unfold Sys2Proof.Machine.execEmberScan
  try dsimp only
  repeat' first
    | with_reducible assumption | with_reducible apply State.Follows.judgeIdentity
    | with_reducible apply State.Follows.modNvc | with_reducible apply State.Follows.restore
    | with_reducible apply State.Follows.scanRing | with_reducible apply Follow.next | split | rfl

theorem State.Follows.imageGlove {z : State} (g : ImageGlove) (s : State) (hz : z.Follows s) :
    z.Follows (State.imageGlove g s) := by
  unfold State.imageGlove
  repeat' first
    | with_reducible assumption | with_reducible apply State.Follows.inc
    | with_reducible apply State.Follows.loadGlove | with_reducible apply State.Follows.ite

theorem State.Follows.imageClient {z : State} (d : List Byte) (s : State) (hz : z.Follows s) :
    z.Follows (State.imageClient d s) := by
  unfold State.imageClient
  repeat' first
    | with_reducible assumption | with_reducible apply State.Follows.inc
    | with_reducible apply State.Follows.putEntry | split

theorem State.Follows.loadClients {z : State} (s : State) (hz : z.Follows s) : z.Follows (State.loadClients s) := by
  unfold State.loadClients
  repeat' first
    | with_reducible assumption | with_reducible apply State.Follows.imageClient
    | with_reducible apply State.Follows.incBy | with_reducible apply State.Follows.foldl | (intro _ _ _; try dsimp only)
    | split

theorem State.Follows.engineTests {z : State} (aes : BitVec 8) (sha : BitVec 4) (s : State) (hz : z.Follows s) :
    z.Follows (State.engineTests aes sha s) := by
  unfold State.engineTests
  repeat' first
    | with_reducible assumption | with_reducible apply State.Follows.evt
    | with_reducible apply State.Follows.file | with_reducible apply State.Follows.set
    | with_reducible apply State.Follows.foldl | (intro _ _ _; try dsimp only)

theorem State.Follows.firstRole {z : State} (s : State) (hz : z.Follows s) : z.Follows
    (Sys2Proof.Machine.State.firstRole s) := by
  unfold Sys2Proof.Machine.State.firstRole
  repeat' first
    | with_reducible assumption
    | with_reducible apply State.Follows.evt
    | with_reducible apply State.Follows.modRed
    | with_reducible apply State.Follows.set
    | with_reducible apply State.Follows.ite

theorem Follow.execStartupComplete {z : State} (aes : BitVec 8) (sha : BitVec 4) (s : State) (hz : z.Follows s) :
    Follow z (Sys2Proof.Machine.execStartupComplete aes sha s) := by
  unfold Sys2Proof.Machine.execStartupComplete
  repeat' first
    | with_reducible assumption | with_reducible apply State.Follows.engineTests
    | with_reducible apply State.Follows.firstRole | with_reducible apply State.Follows.imageGlove
    | with_reducible apply State.Follows.judgeHealth | with_reducible apply State.Follows.loadClients
    | with_reducible apply State.Follows.modNvc | with_reducible apply State.Follows.set
    | with_reducible apply State.Follows.showCor | with_reducible apply State.Follows.showMint
    | with_reducible apply State.Follows.showPtp | with_reducible apply Follow.ite | with_reducible apply Follow.next
    | with_reducible apply State.Follows.foldl | (intro _ _ _; try dsimp only) | rfl

theorem Follow.execProfileSet {z : State} (s : State) (hz : z.Follows s) :
    Follow z (Sys2Proof.Machine.execProfileSet s) := by
  unfold Sys2Proof.Machine.execProfileSet
  try dsimp only
  repeat' first
    | with_reducible assumption | with_reducible apply State.Follows.evt
    | with_reducible apply State.Follows.readSection | with_reducible apply State.Follows.set
    | with_reducible apply State.Follows.stageProfile | with_reducible apply Follow.next | split
    | refine State.Follows.snd (by with_reducible assumption) ?_

theorem Follow.execEmberProgramDone {z : State} (ok told : Bool) (s : State) (hz : z.Follows s) :
    Follow z (Sys2Proof.Machine.execEmberProgramDone ok told s) := by
  unfold Sys2Proof.Machine.execEmberProgramDone
  repeat' first
    | with_reducible assumption | with_reducible apply State.Follows.emberFailed
    | with_reducible apply State.Follows.emberKick | with_reducible apply State.Follows.emberWritten
    | with_reducible apply State.Follows.flashProgram | with_reducible apply State.Follows.modNvc
    | with_reducible apply State.Follows.modRing | with_reducible apply State.Follows.reloadWhenFree
    | with_reducible apply Follow.next | split | rfl

theorem Follow.execSectorEraseDone {z : State} (ok : Bool) (s : State) (hz : z.Follows s) :
    Follow z (Sys2Proof.Machine.execSectorEraseDone ok s) := by
  unfold Sys2Proof.Machine.execSectorEraseDone
  repeat' first
    | with_reducible assumption | with_reducible apply State.Follows.emberKick
    | with_reducible apply State.Follows.flashErase | with_reducible apply State.Follows.modRing
    | with_reducible apply State.Follows.reloadWhenFree | with_reducible apply State.Follows.retireSector
    | with_reducible apply State.Follows.showRing | with_reducible apply Follow.next | split

theorem Follow.execFlDone {z : State} (ok : Bool) (s : State) (hz : z.Follows s) :
    Follow z (Sys2Proof.Machine.execFlDone ok s) := by
  unfold Sys2Proof.Machine.execFlDone
  repeat' first
    | with_reducible assumption | with_reducible apply State.Follows.emberKick
    | with_reducible apply State.Follows.flEffect | with_reducible apply State.Follows.flEnd
    | with_reducible apply State.Follows.modNvc | with_reducible apply State.Follows.reloadWhenFree
    | with_reducible apply Follow.next | split | rfl

end Sys2Proof.Machine
end

