-- ==== Sys2Proof/Laws/KeepBoundary.lean ====
section
/-! SUPPORT. What the operations of Machine/Boundary.lean keep. -/

namespace Sys2Proof.Machine

theorem Follow.execHearthTick {z : State} (upset : Option LaneUpset) (s : State) (hz : z.Follows s) :
    Follow z (Sys2Proof.Machine.execHearthTick upset s) := by
  unfold Sys2Proof.Machine.execHearthTick
  repeat' first
    | with_reducible assumption | with_reducible apply State.Follows.hearthStart
    | with_reducible apply State.Follows.oneTick | with_reducible apply Follow.ite | with_reducible apply Follow.next

theorem State.Follows.settleTick {z : State} (s : State) (hz : z.Follows s) : z.Follows
    (Sys2Proof.Machine.State.settleTick s) := by
  unfold Sys2Proof.Machine.State.settleTick
  try dsimp only
  repeat' first
    | with_reducible assumption
    | with_reducible apply State.Follows.arm
    | with_reducible apply State.Follows.modHearth
    | with_reducible apply State.Follows.snapTake
    | with_reducible apply State.Follows.takeRecord
    | split

theorem State.Follows.afterWork {z : State} (s : State) (hz : z.Follows s) : z.Follows
    (Sys2Proof.Machine.State.afterWork s) := by
  unfold Sys2Proof.Machine.State.afterWork
  repeat' first
    | with_reducible assumption
    | with_reducible apply State.Follows.amendRecord
    | with_reducible apply State.Follows.settleTick

theorem State.Follows.writesSecond {z : State} (s : State) (hz : z.Follows s) : z.Follows (State.writesSecond s) := by
  unfold State.writesSecond
  repeat' first
    | with_reducible assumption | with_reducible apply State.Follows.applyWaiting
    | with_reducible apply State.Follows.ringMoved | with_reducible apply State.Follows.showAlarm

theorem State.Follows.upstreamChecks {z : State} (s : State) (hz : z.Follows s) : z.Follows
    (Sys2Proof.Machine.State.upstreamChecks s) := by
  unfold Sys2Proof.Machine.State.upstreamChecks
  repeat' first
    | with_reducible assumption
    | with_reducible apply State.Follows.prefJudge
    | with_reducible apply State.Follows.qlJudge
    | with_reducible apply State.Follows.foldl
    | (intro _ _ _; try dsimp only)

theorem State.Follows.timeSecond {z : State} (s : State) (hz : z.Follows s) : z.Follows
    (Sys2Proof.Machine.State.timeSecond s) := by
  unfold Sys2Proof.Machine.State.timeSecond
  repeat' first
    | with_reducible assumption
    | with_reducible apply State.Follows.bankTakeCommit
    | with_reducible apply State.Follows.bankTakeRelease
    | with_reducible apply State.Follows.ebdSecond
    | with_reducible apply State.Follows.leapApply
    | with_reducible apply State.Follows.leapHost
    | with_reducible apply State.Follows.leapTakePost
    | with_reducible apply State.Follows.oscSecond
    | with_reducible apply State.Follows.refSecond
    | with_reducible apply State.Follows.selSecond
    | with_reducible apply State.Follows.takeGroup
    | with_reducible apply State.Follows.upstreamChecks
    | (intro _ _ _ _; try dsimp only)

theorem State.Follows.blocksSecond {z : State} (onTime : Bool) (s : State) (hz : z.Follows s) :
    z.Follows (State.blocksSecond onTime s) := by
  unfold State.blocksSecond
  repeat' first
    | with_reducible assumption | with_reducible apply State.Follows.coreTryStart
    | with_reducible apply State.Follows.emberSecond | with_reducible apply State.Follows.ethSecond
    | with_reducible apply State.Follows.glvSecond | with_reducible apply State.Follows.gnsSecond
    | with_reducible apply State.Follows.irigSecond | with_reducible apply State.Follows.ltsSecond
    | with_reducible apply State.Follows.memTake | with_reducible apply State.Follows.outSecond
    | with_reducible apply State.Follows.proSecond | with_reducible apply State.Follows.redSecond
    | with_reducible apply State.Follows.rseSecond | with_reducible apply State.Follows.smpSecond
    | with_reducible apply State.Follows.synSecond | with_reducible apply State.Follows.tdcSecond
    | with_reducible apply State.Follows.todTake | with_reducible apply State.Follows.ite

theorem State.Follows.secondWork {z : State} (s : State) (hz : z.Follows s) : z.Follows
    (Sys2Proof.Machine.State.secondWork s) := by
  unfold Sys2Proof.Machine.State.secondWork
  repeat' first
    | with_reducible assumption
    | with_reducible apply State.Follows.afterWork
    | with_reducible apply State.Follows.blocksSecond
    | with_reducible apply State.Follows.modHearth
    | with_reducible apply State.Follows.pmcSecond
    | with_reducible apply State.Follows.switchSecond
    | with_reducible apply State.Follows.timeSecond
    | with_reducible apply State.Follows.voteSecond
    | with_reducible apply State.Follows.writesSecond

theorem Follow.execSecondBoundary {z : State} (s0 : State) (hz : z.Follows s0) : Follow z
    (Sys2Proof.Machine.execSecondBoundary s0) := by
  unfold Sys2Proof.Machine.execSecondBoundary
  repeat' first
    | with_reducible assumption
    | with_reducible apply State.Follows.hearthWake
    | with_reducible apply State.Follows.passTicks
    | with_reducible apply State.Follows.secondWork
    | with_reducible apply Follow.ite
    | with_reducible apply Follow.next

theorem State.Follows.loopConfig {z : State} (s : State) (hz : z.Follows s) : z.Follows (State.loopConfig s) := by
  unfold State.loopConfig
  repeat' first
    | with_reducible assumption | with_reducible apply State.Follows.applyWaiting
    | with_reducible apply State.Follows.modHearth | with_reducible apply State.Follows.modSel
    | with_reducible apply State.Follows.setB | with_reducible apply State.Follows.ite

theorem State.Follows.sourceChecks {z : State} (s : State) (hz : z.Follows s) : z.Follows
    (Sys2Proof.Machine.State.sourceChecks s) := by
  unfold Sys2Proof.Machine.State.sourceChecks
  repeat' first
    | with_reducible assumption
    | with_reducible apply State.Follows.grefFlags
    | with_reducible apply State.Follows.sourceCheck
    | with_reducible apply State.Follows.ite

theorem State.Follows.coastUpdate {z : State} (s : State) (hz : z.Follows s) : z.Follows
    (Sys2Proof.Machine.State.coastUpdate s) := by
  unfold Sys2Proof.Machine.State.coastUpdate
  repeat' first
    | with_reducible assumption
    | with_reducible apply State.Follows.modEbd
    | with_reducible apply State.Follows.ite
    | with_reducible apply State.Follows.mk'
    | rfl
    | exact Nat.le_refl _

theorem State.Follows.instantsStep {z : State} (d : Int) (s : State) (hz : z.Follows s) : z.Follows
    (Sys2Proof.Machine.State.instantsStep d s) := by
  unfold Sys2Proof.Machine.State.instantsStep
  repeat' first
    | with_reducible assumption
    | with_reducible apply State.Follows.mk'
    | rfl
    | exact Nat.le_refl _

theorem State.Follows.stepBy {z : State} (d : Int) (r : Report) (s : State) (hz : z.Follows s) : z.Follows
    (Sys2Proof.Machine.State.stepBy d r s) := by
  unfold Sys2Proof.Machine.State.stepBy
  repeat' first
    | with_reducible assumption
    | with_reducible apply State.Follows.ebStepAnchor
    | with_reducible apply State.Follows.gnsStep
    | with_reducible apply State.Follows.hearthStep
    | with_reducible apply State.Follows.instantsStep
    | with_reducible apply State.Follows.irigStep
    | with_reducible apply State.Follows.mapStep
    | with_reducible apply State.Follows.outStep
    | with_reducible apply State.Follows.pmcStep
    | with_reducible apply State.Follows.redStep
    | with_reducible apply State.Follows.refStep
    | with_reducible apply State.Follows.selStepped
    | with_reducible apply State.Follows.smpStep
    | with_reducible apply State.Follows.tevStep
    | with_reducible apply State.Follows.tieStep
    | with_reducible apply State.Follows.todStep

theorem State.Follows.rateUpdate {z : State} (q : LoopRequest) (s : State) (hz : z.Follows s) :
    z.Follows (State.rateUpdate q s) := by
  unfold State.rateUpdate
  repeat' first
    | with_reducible assumption | with_reducible apply State.Follows.applyRate
    | with_reducible apply State.Follows.modHearth | with_reducible apply State.Follows.refuseSoft
    | with_reducible apply State.Follows.selNotional | with_reducible apply State.Follows.takeComp
    | with_reducible apply State.Follows.takeSoft | with_reducible apply State.Follows.ite

theorem State.Follows.keepPhi {z : State} (s : State) (hz : z.Follows s) : z.Follows (State.keepPhi s) := by
  unfold State.keepPhi
  repeat' first
    | with_reducible assumption | with_reducible apply State.Follows.modHearth

theorem State.Follows.ebUpdate {z : State} (reps : List Report) (stepped : Bool) (s : State) (hz : z.Follows s) :
    z.Follows (State.ebUpdate reps stepped s) := by
  unfold State.ebUpdate
  try dsimp only
  repeat' first
    | with_reducible assumption | with_reducible apply State.Follows.ebCandidate
    | with_reducible apply State.Follows.ebIdentity | with_reducible apply State.Follows.ebModeUpdate | split

theorem State.Follows.loopWork {z : State} (s : State) (hz : z.Follows s) : z.Follows
    (Sys2Proof.Machine.State.loopWork s) := by
  unfold Sys2Proof.Machine.State.loopWork
  repeat' first
    | with_reducible assumption
    | with_reducible apply State.Follows.afterWork
    | with_reducible apply State.Follows.bump
    | with_reducible apply State.Follows.coastUpdate
    | with_reducible apply State.Follows.count
    | with_reducible apply State.Follows.ebAccrue
    | with_reducible apply State.Follows.ebSegment
    | with_reducible apply State.Follows.ebUpdate
    | with_reducible apply State.Follows.keepAbsD
    | with_reducible apply State.Follows.keepPhi
    | with_reducible apply State.Follows.loopConfig
    | with_reducible apply State.Follows.loopRequest
    | with_reducible apply State.Follows.modHearth
    | with_reducible apply State.Follows.rateUpdate
    | with_reducible apply State.Follows.selRecord
    | with_reducible apply State.Follows.selUpdate
    | with_reducible apply State.Follows.showPtp
    | with_reducible apply State.Follows.showQl
    | with_reducible apply State.Follows.slotReports
    | with_reducible apply State.Follows.sourceChecks
    | with_reducible apply State.Follows.stepBy
    | with_reducible apply State.Follows.synTrack
    | with_reducible apply State.Follows.ite
    | split
    | with_reducible apply State.Follows.mk'
    | rfl
    | exact Nat.le_refl _

theorem Follow.execLoopUpdate {z : State} (s0 : State) (hz : z.Follows s0) : Follow z
    (Sys2Proof.Machine.execLoopUpdate s0) := by
  unfold Sys2Proof.Machine.execLoopUpdate
  try dsimp only
  repeat' first
    | with_reducible assumption
    | with_reducible apply State.Follows.hearthWake
    | with_reducible apply State.Follows.loopWork
    | with_reducible apply State.Follows.passTicks
    | with_reducible apply Follow.ite
    | with_reducible apply Follow.next

theorem State.Follows.coming {z : State} (s : State) (hz : z.Follows s) : z.Follows (Sys2Proof.Machine.State.coming s) := by
  unfold Sys2Proof.Machine.State.coming
  try dsimp only
  repeat' first
    | with_reducible assumption
    | with_reducible apply State.Follows.loopWork
    | with_reducible apply State.Follows.passTicks
    | with_reducible apply State.Follows.secondWork
    | with_reducible apply State.Follows.ite

theorem State.Follows.rateRemap {z : State} (old new : Int) (t : Int) (s : State) (hz : z.Follows s) :
    z.Follows (State.rateRemap old new t s) := by
  unfold State.rateRemap
  repeat' first
    | with_reducible assumption | with_reducible apply State.Follows.remap
    | with_reducible apply State.Follows.foldl | (intro _ _ _; try dsimp only)

theorem State.Follows.announce {z : State} (s : State) (hz : z.Follows s) : z.Follows
    (Sys2Proof.Machine.State.announce s) := by
  unfold Sys2Proof.Machine.State.announce
  repeat' first
    | with_reducible assumption
    | with_reducible apply State.Follows.missEvery
    | with_reducible apply State.Follows.modHearth
    | with_reducible apply State.Follows.rateRemap
    | with_reducible apply State.Follows.sendRecord
    | with_reducible apply State.Follows.ite
    | with_reducible apply State.Follows.mk'
    | rfl
    | exact Nat.le_refl _

theorem Follow.execChangeAnnouncement {z : State} (s : State) (hz : z.Follows s) : Follow z
    (Sys2Proof.Machine.execChangeAnnouncement s) := by
  unfold Sys2Proof.Machine.execChangeAnnouncement
  repeat' first
    | with_reducible assumption
    | with_reducible apply State.Follows.announce
    | with_reducible apply State.Follows.passTicks
    | with_reducible apply Follow.ite
    | with_reducible apply Follow.next

end Sys2Proof.Machine
end

