-- ==== Sys2Proof/Laws/KeepHost.lean ====
section
/-! SUPPORT. What the operations of Machine/Host.lean keep. -/

namespace Sys2Proof.Machine

theorem State.Follows.modHost {z : State} (f : HostIf → HostIf) (s : State) (hz : z.Follows s) :
    z.Follows (State.modHost f s) := by
  unfold State.modHost
  repeat' first
    | with_reducible assumption | with_reducible apply State.Follows.mk' | exact Nat.le_refl _ | rfl

theorem State.Follows.goOn {z : State} (o : Out) (s : State) (h : Follow z o) : z.Follows (Sys2Proof.Machine.goOn o s) := by
  obtain ⟨t, rfl, k⟩ := h
  exact k

theorem State.Follows.mbxGo {z : State} (s : State) (hz : z.Follows s) : Follow z (Sys2Proof.Machine.mbxGo s) := by
  unfold Sys2Proof.Machine.mbxGo
  repeat' first
    | with_reducible assumption | with_reducible apply Follow.execMbxBadOp
    | with_reducible apply Follow.execMbxDelete | with_reducible apply Follow.execMbxInsert
    | with_reducible apply Follow.execMbxLookup | with_reducible apply Follow.execMbxRead
    | with_reducible apply Follow.execMbxWrite | split

theorem State.Follows.keyGo {z : State} (op : Nat) (s : State) (hz : z.Follows s) :
    Follow z (Sys2Proof.Machine.keyGo op s) := by
  unfold Sys2Proof.Machine.keyGo
  repeat' first
    | with_reducible assumption | with_reducible apply State.Follows.evt
    | with_reducible apply Follow.execKeyDestroy | with_reducible apply Follow.execKeyDestroyAll
    | with_reducible apply Follow.execKeyLoad | with_reducible apply Follow.next | split

theorem State.Follows.flashGo {z : State} (s : State) (hz : z.Follows s) : Follow z (Sys2Proof.Machine.flashGo s) := by
  unfold Sys2Proof.Machine.flashGo
  repeat' first
    | with_reducible assumption | with_reducible apply State.Follows.flGo
    | with_reducible apply Follow.execFlErase | with_reducible apply Follow.execFlProgram
    | with_reducible apply Follow.execFlRead | with_reducible apply Follow.next | split

/-- A command row whose meaning follows. -/
def CmdRow.Keeps (r : CmdRow) : Prop := ∀ (i v w : Nat) (z s : State), z.Follows s → Follow z (r.run i v w s)

theorem CmdRow.keeps_cons {r : CmdRow} {rs : List CmdRow} (h : r.Keeps) (k : ∀ x ∈ rs, x.Keeps)
    : ∀ x ∈ r :: rs, x.Keeps := by
  intro x hx
  rcases List.mem_cons.1 hx with rfl | hx
  · exact h
  · exact k x hx

theorem cmdBits_keep {f : Field} {run : Nat → State → Out} (h : ∀ i (z s : State), z.Follows s → Follow z (run i s)) :
    (cmdBits f run).Keeps := fun _ v _ z s k =>
  .next (State.Follows.foldl _ k fun st i hst => State.Follows.ite (State.Follows.goOn _ _ (h i z st hst)) hst)

theorem cmdBitsUnless_keep {f contra : Field} {run : Nat → State → Out}
    (h : ∀ i (z s : State), z.Follows s → Follow z (run i s)) : (cmdBitsUnless f contra run).Keeps :=
  fun i _ w z s k => cmdBits_keep h i _ w z s k

theorem cmdsTime_keep : ∀ r ∈ cmdsTime, r.Keeps := by
  unfold cmdsTime
  refine CmdRow.keeps_cons (fun _ _ _ _ _ k => by apply Follow.execStepArm; exact k) ?_
  refine CmdRow.keeps_cons (fun _ _ _ _ _ k => by apply Follow.execSnap; exact k) ?_
  refine CmdRow.keeps_cons (fun _ _ _ _ _ k => by apply Follow.execUnfence; exact k) ?_
  refine CmdRow.keeps_cons (fun _ _ _ _ _ k => by apply Follow.execUnfence; exact k) ?_
  refine CmdRow.keeps_cons (fun _ _ _ _ _ k => by apply Follow.execUnfence; exact k) ?_
  refine CmdRow.keeps_cons (fun _ _ _ _ _ k => by apply Follow.execLeapCommit; exact k) ?_
  refine CmdRow.keeps_cons (fun _ _ _ _ _ k => by apply Follow.execQuery; exact k) ?_
  refine CmdRow.keeps_cons (fun _ _ _ _ _ k => by apply Follow.execBankCommit; exact k) ?_
  refine CmdRow.keeps_cons (fun _ _ _ _ _ k => by apply Follow.execBankRelease; exact k) ?_
  refine CmdRow.keeps_cons (fun _ _ _ _ _ k => by apply Follow.execCcCommit; exact k) ?_
  refine CmdRow.keeps_cons (fun _ _ _ _ _ k => by apply Follow.execSlotCommit; exact k) ?_
  refine CmdRow.keeps_cons (fun _ _ _ _ _ k => by apply Follow.execSlotRestart; exact k) ?_
  refine CmdRow.keeps_cons (fun _ _ _ _ _ k => by apply Follow.execPrioCommit; exact k) ?_
  refine CmdRow.keeps_cons (fun _ _ _ _ _ k => by apply Follow.execClearWtr; exact k) ?_
  refine CmdRow.keeps_cons (fun _ _ _ _ _ k => by apply Follow.execModelReset; exact k) ?_
  refine CmdRow.keeps_cons (fun _ _ _ _ _ k => by apply Follow.execLoopCommit; exact k) ?_
  refine CmdRow.keeps_cons (fun _ _ _ _ _ k => by apply Follow.execIdRead; exact k) ?_
  refine CmdRow.keeps_cons (fun _ _ _ _ _ k => by apply Follow.execSwcmdSend; exact k) ?_
  refine CmdRow.keeps_cons (fun _ _ _ _ _ k => by apply Follow.execOscCommit; exact k) ?_
  refine CmdRow.keeps_cons (fun _ _ _ _ _ k => by apply Follow.execBandCommit; exact k) ?_
  refine CmdRow.keeps_cons (fun _ _ _ _ _ k => by apply Follow.execSynCommit; exact k) ?_
  refine CmdRow.keeps_cons (fun _ _ _ _ _ k => by apply Follow.execSynRelock; exact k) ?_
  refine CmdRow.keeps_cons (fun _ _ _ _ _ k => by apply Follow.execRealign; exact k) ?_
  refine CmdRow.keeps_cons (cmdBitsUnless_keep fun _ _ _ k => by apply Follow.execTevArm; exact k) ?_
  refine CmdRow.keeps_cons (cmdBits_keep fun _ _ _ k => by apply Follow.execTevDisarm; exact k) ?_
  refine CmdRow.keeps_cons (fun _ _ _ _ _ k => by apply Follow.execOutCommit; exact k) ?_
  refine CmdRow.keeps_cons (fun _ _ _ _ _ k => by apply Follow.execOutMute; exact k) ?_
  refine CmdRow.keeps_cons (fun _ _ _ _ _ k => by apply Follow.execOutUnmute; exact k) ?_
  refine CmdRow.keeps_cons (fun _ _ _ _ _ k => by apply Follow.execTbCommit; exact k) ?_
  refine CmdRow.keeps_cons (fun _ _ _ _ _ k => by apply Follow.execTdcChCommit; exact k) ?_
  refine CmdRow.keeps_cons (fun _ _ _ _ _ k => by apply Follow.execTdcFlush; exact k) ?_
  exact fun _ h => absurd h List.not_mem_nil

theorem cmdsNet_keep : ∀ r ∈ cmdsNet, r.Keeps := by
  unfold cmdsNet
  refine CmdRow.keeps_cons (fun _ _ _ _ _ k => by apply Follow.execSubmit; exact k) ?_
  refine CmdRow.keeps_cons (fun _ _ _ _ _ k => by apply Follow.execSpiGo; exact k) ?_
  refine CmdRow.keeps_cons (fun _ _ _ _ _ k => by apply Follow.execJobFlush; exact k) ?_
  refine CmdRow.keeps_cons (fun _ _ _ _ _ k => by apply Follow.execFeCommit; exact k) ?_
  refine CmdRow.keeps_cons (fun _ _ _ _ _ k => by apply Follow.execFeInit; exact k) ?_
  refine CmdRow.keeps_cons (fun _ _ _ _ _ k => by apply Follow.execJamLearn; exact k) ?_
  refine CmdRow.keeps_cons (fun _ _ _ _ _ k => by apply Follow.execChRelease; exact k) ?_
  refine CmdRow.keeps_cons (fun _ _ _ _ _ k => by apply Follow.execChCommit; exact k) ?_
  refine CmdRow.keeps_cons (fun _ _ _ _ _ k => by apply Follow.execSolCommit; exact k) ?_
  refine CmdRow.keeps_cons (fun _ _ _ _ _ k => by apply Follow.execPosCommit; exact k) ?_
  refine CmdRow.keeps_cons (fun _ _ _ _ _ k => by apply Follow.execSurveyStart; exact k) ?_
  refine CmdRow.keeps_cons (fun _ _ _ _ _ k => by apply Follow.execFwRestart; exact k) ?_
  refine CmdRow.keeps_cons (fun _ _ _ _ _ k => by apply Follow.execPortCommit; exact k) ?_
  refine CmdRow.keeps_cons (fun _ _ _ _ _ k => by apply Follow.execFiltCommit; exact k) ?_
  refine CmdRow.keeps_cons (fun _ _ _ _ _ k => by apply Follow.execWakeArm; exact k) ?_
  refine CmdRow.keeps_cons (fun _ _ _ _ _ k => by apply Follow.execPrbsClr; exact k) ?_
  refine CmdRow.keeps_cons (fun _ _ _ _ _ k => by apply Follow.execClsCommit; exact k) ?_
  refine CmdRow.keeps_cons (fun _ _ _ _ _ k => by apply Follow.execPcalCommit; exact k) ?_
  refine CmdRow.keeps_cons (fun _ _ _ _ _ k => by apply Follow.execCalRun; exact k) ?_
  refine CmdRow.keeps_cons (fun _ _ _ _ _ k => by apply Follow.execTxphMeas; exact k) ?_
  refine CmdRow.keeps_cons (fun _ _ _ _ _ k => by apply Follow.execEngCommit; exact k) ?_
  refine CmdRow.keeps_cons (fun _ _ _ _ _ k => by apply Follow.execRtabCommit; exact k) ?_
  refine CmdRow.keeps_cons (fun _ _ _ _ _ k => by apply Follow.execAddrCommit; exact k) ?_
  refine CmdRow.keeps_cons (fun _ _ _ _ _ k => by apply State.Follows.mbxGo; exact k) ?_
  refine CmdRow.keeps_cons (fun _ _ _ _ _ k => by apply Follow.execCtFlush; exact k) ?_
  refine CmdRow.keeps_cons (fun _ _ _ _ _ k => by apply Follow.execProCommit; exact k) ?_
  refine CmdRow.keeps_cons (fun _ _ _ _ _ k => by apply Follow.execPtpCommit; exact k) ?_
  refine CmdRow.keeps_cons (fun _ _ _ _ _ k => by apply Follow.execPrefCommit; exact k) ?_
  refine CmdRow.keeps_cons (fun _ _ _ _ _ k => by apply Follow.execSecCommit; exact k) ?_
  refine CmdRow.keeps_cons (fun _ _ _ _ _ k => by apply State.Follows.keyGo; exact k) ?_
  exact fun _ h => absurd h List.not_mem_nil

theorem cmdsSystem_keep : ∀ r ∈ cmdsSystem, r.Keeps := by
  unfold cmdsSystem
  refine CmdRow.keeps_cons (cmdBits_keep fun _ _ _ k => by apply Follow.execGrpStart; exact k) ?_
  refine CmdRow.keeps_cons (cmdBits_keep fun _ _ _ k => by apply Follow.execGrpStop; exact k) ?_
  refine CmdRow.keeps_cons (fun _ _ _ _ _ k => by apply Follow.execSmpCommit; exact k) ?_
  refine CmdRow.keeps_cons (fun _ _ _ _ _ k => by apply Follow.execSmpStart; exact k) ?_
  refine CmdRow.keeps_cons (fun _ _ _ _ _ k => by apply Follow.execSmpStop; exact k) ?_
  refine CmdRow.keeps_cons (fun _ _ _ _ _ k => by apply Follow.execCsCommit; exact k) ?_
  refine CmdRow.keeps_cons (fun _ _ _ _ _ k => by apply Follow.execReclaim; exact k) ?_
  refine CmdRow.keeps_cons (fun _ _ _ _ _ k => by apply Follow.execRenounce; exact k) ?_
  refine CmdRow.keeps_cons (fun _ _ _ _ _ k => by apply Follow.execYield; exact k) ?_
  refine CmdRow.keeps_cons (fun _ _ _ _ _ k => by apply Follow.execHealthNow; exact k) ?_
  refine CmdRow.keeps_cons (fun _ _ _ _ _ k => by apply Follow.execRedCommit; exact k) ?_
  refine CmdRow.keeps_cons (fun _ _ _ _ _ k => by apply Follow.execProfileSet; exact k) ?_
  refine CmdRow.keeps_cons (fun _ _ _ _ _ k => by apply Follow.execReload; exact k) ?_
  refine CmdRow.keeps_cons (fun _ _ _ _ _ k => by apply Follow.execEmberNow; exact k) ?_
  refine CmdRow.keeps_cons (fun _ _ _ _ _ k => by apply State.Follows.flashGo; exact k) ?_
  refine CmdRow.keeps_cons (fun _ _ _ _ _ k => by apply Follow.execChipReset; exact k) ?_
  refine CmdRow.keeps_cons (fun _ _ _ _ _ k => by apply Follow.execPmcSelCommit; exact k) ?_
  refine CmdRow.keeps_cons (fun _ _ _ _ _ k => by apply Follow.execDumpNow; exact k) ?_
  refine CmdRow.keeps_cons (fun _ _ _ _ _ k => by apply Follow.execMemCommit; exact k) ?_
  refine CmdRow.keeps_cons (fun _ _ _ _ _ k => by apply Follow.execClearDeg; exact k) ?_
  refine CmdRow.keeps_cons (fun _ _ _ _ _ k => by apply Follow.execClearSurr; exact k) ?_
  refine CmdRow.keeps_cons (fun _ _ _ _ _ k => by apply Follow.execLogClear; exact k) ?_
  exact fun _ h => absurd h List.not_mem_nil

theorem cmdRowOf_keep {f : Field} {l : List CmdRow} (h : ∀ r ∈ l, r.Keeps) {r : CmdRow} {i : Nat}
    (e : cmdRowOf f l = some (r, i)) : r.Keeps := by
  induction l with
  | nil => cases e
  | cons a l ih =>
    unfold cmdRowOf at e
    dsimp only at e
    have k : ∀ j : Nat, (if j < a.n ∧ (a.field j).key = f.key then some (a, j) else cmdRowOf f l) = some (r, i) →
        r.Keeps := by
      intro j e
      split at e
      · cases e; exact h _ List.mem_cons_self
      · exact ih (fun x hx => h x (List.mem_cons_of_mem _ hx)) e
    exact k _ e

theorem State.Follows.doCommand {z : State} (f : Field) (v word : Nat) (s : State) (h : z.Follows s) :
    z.Follows (State.doCommand f v word s) := by
  unfold State.doCommand
  refine State.Follows.ite h ?_
  split
  · rename_i e
    refine State.Follows.goOn _ _ (cmdRowOf_keep (fun x hx => ?_) e _ _ _ _ _ h)
    rcases List.mem_append.1 hx with hx | hx
    · rcases List.mem_append.1 hx with hx | hx
      · exact cmdsTime_keep x hx
      · exact cmdsNet_keep x hx
    · exact cmdsSystem_keep x hx
  · exact h

theorem State.Follows.writeKey {z : State} (f : Field) (v : Nat) (s : State) (hz : z.Follows s) :
    z.Follows (State.writeKey f v s) := by
  unfold State.writeKey
  repeat' first
    | with_reducible assumption | with_reducible apply State.Follows.set

theorem State.Follows.writeOne {z : State} (data be : Nat) (f : Field) (s : State) (hz : z.Follows s) : z.Follows
    (Sys2Proof.Machine.State.writeOne data be f s) := by
  unfold Sys2Proof.Machine.State.writeOne
  repeat' first
    | with_reducible assumption
    | with_reducible apply State.Follows.unstage
    | with_reducible apply State.Follows.writeField
    | with_reducible apply State.Follows.writeKey
    | with_reducible apply Follow.execIntegCommit
    | with_reducible apply Follow.execSteerCommit
    | with_reducible apply State.Follows.goOn
    | split

theorem State.Follows.writeCommands {z : State} (data be : Nat) (fs : List Field) (s : State) (hz : z.Follows s) :
    z.Follows (State.writeCommands data be fs s) := by
  unfold State.writeCommands
  repeat' first
    | with_reducible assumption | with_reducible apply State.Follows.doCommand
    | with_reducible apply State.Follows.ite | with_reducible apply State.Follows.foldl | (intro _ _ _; try dsimp only)

theorem State.Follows.collide {z : State} (a : Nat) (s : State) (hz : z.Follows s) : z.Follows (State.collide a s) := by
  unfold State.collide
  repeat' first
    | with_reducible assumption | with_reducible apply State.Follows.evt
    | with_reducible apply State.Follows.set

theorem State.Follows.writeWhole {z : State} (a data be : Nat) (s : State) (hz : z.Follows s) :
    z.Follows (State.writeWhole a data be s) := by
  unfold State.writeWhole
  repeat' first
    | with_reducible assumption | with_reducible apply Follow.execDoorbell
    | with_reducible apply Follow.execLcCmd | with_reducible apply State.Follows.goOn
    | with_reducible apply State.Follows.ite

theorem State.Follows.afterWrite {z : State} (a : Nat) (s : State) (hz : z.Follows s) :
    z.Follows (State.afterWrite a s) := by
  unfold State.afterWrite
  repeat' first
    | with_reducible assumption | with_reducible apply State.Follows.refreshInt
    | with_reducible apply State.Follows.showAlarm

theorem State.Follows.calHits {z : State} (before s : State) (hz : z.Follows s) : z.Follows
    (Sys2Proof.Machine.State.calHits before s) := by
  unfold Sys2Proof.Machine.State.calHits
  repeat' first
    | with_reducible assumption
    | with_reducible apply State.Follows.modTdc
    | with_reducible apply State.Follows.ite

theorem State.Follows.writeWord {z : State} (a data be : Nat) (hw : Bool) (s : State) (hz : z.Follows s) : z.Follows
    (Sys2Proof.Machine.State.writeWord a data be hw s) := by
  unfold Sys2Proof.Machine.State.writeWord
  repeat' first
    | with_reducible assumption
    | with_reducible apply State.Follows.afterWrite
    | with_reducible apply State.Follows.calHits
    | with_reducible apply State.Follows.collide
    | with_reducible apply State.Follows.writeCommands
    | with_reducible apply State.Follows.writeOne
    | with_reducible apply State.Follows.writeWhole
    | with_reducible apply State.Follows.ite
    | with_reducible apply State.Follows.foldl
    | (intro _ _ _; try dsimp only)

theorem State.Follows.msixRelease {z : State} (s : State) (hz : z.Follows s) : z.Follows (State.msixRelease s) := by
  unfold State.msixRelease
  repeat' first
    | with_reducible assumption | with_reducible apply State.Follows.emit
    | with_reducible apply State.Follows.modHost | with_reducible apply State.Follows.ite
    | with_reducible apply State.Follows.foldl | (intro _ _ _; try dsimp only)

theorem State.Follows.msixWrite {z : State} (a data be : Nat) (s : State) (h : z.Follows s) :
    z.Follows (State.msixWrite a data be s) := by
  unfold State.msixWrite
  exact State.Follows.msixRelease _ (State.Follows.modHost _ _ h)

theorem State.Follows.ownRead {z : State} (a : Nat) (s : State) {o : Out} (h : z.Follows s)
    (e : State.ownRead a s = some o) :
    Follow z o := by
  unfold State.ownRead at e
  dsimp only at e
  split at e
  · have k := Option.some.inj e; subst k; exact Follow.execJobResultPop _ h
  · split at e
    · split at e
      · have k := Option.some.inj e; subst k; exact Follow.execTdcResPop _ _ h
      · cases e
    · split at e
      · have k := Option.some.inj e; subst k
        exact Follow.ite (Follow.execStatsLoRead _ _ _ h) (Follow.execStatsHiRead _ _ _ h)
      · split at e
        · have k := Option.some.inj e; subst k
          exact Follow.ite (Follow.execCntLoRead _ _ _ h) (Follow.execCntHiRead _ h)
        · cases e

theorem State.Follows.clearRead {z : State} (a : Nat) (s : State) (hz : z.Follows s) : z.Follows (State.clearRead a s) := by
  unfold State.clearRead
  repeat' first
    | with_reducible assumption | with_reducible apply State.Follows.set
    | with_reducible apply State.Follows.ite | with_reducible apply State.Follows.foldl | (intro _ _ _; try dsimp only)

theorem State.Follows.requestAgain {z : State} (a : Nat) (s : State) (hz : z.Follows s) :
    z.Follows (State.requestAgain a s) := by
  unfold State.requestAgain
  repeat' first
    | with_reducible assumption | with_reducible apply State.Follows.refreshInt
    | with_reducible apply State.Follows.requestVector | with_reducible apply State.Follows.ite

theorem State.Follows.readRegister {z : State} (a : Nat) (s : State) (h : z.Follows s) :
    z.Follows (State.readRegister a s) := by
  unfold State.readRegister
  split
  · rename_i e; exact State.Follows.goOn _ _ (State.Follows.ownRead _ _ h e)
  · exact State.Follows.requestAgain _ _ (State.Follows.clearRead _ _ (State.Follows.emit _ h))

theorem State.Follows.errAddr {z : State} (a : Nat) (window : Bool) (s : State) (hz : z.Follows s) :
    z.Follows (State.errAddr a window s) := by
  unfold State.errAddr
  repeat' first
    | with_reducible assumption | with_reducible apply State.Follows.set
    | with_reducible apply State.Follows.setB

theorem State.Follows.unsupported {z : State} (a : Nat) (window : Bool) (s : State) (hz : z.Follows s) :
    z.Follows (State.unsupported a window s) := by
  unfold State.unsupported
  repeat' first
    | with_reducible assumption | with_reducible apply State.Follows.answer
    | with_reducible apply State.Follows.errAddr | with_reducible apply State.Follows.evt
    | with_reducible apply State.Follows.inc

theorem State.Follows.refuseAccess {z : State} (a : Nat) (window : Bool) (s : State) (hz : z.Follows s) :
    z.Follows (State.refuseAccess a window s) := by
  unfold State.refuseAccess
  repeat' first
    | with_reducible assumption | with_reducible apply State.Follows.answer
    | with_reducible apply State.Follows.errAddr | with_reducible apply State.Follows.evt
    | with_reducible apply State.Follows.inc

theorem State.Follows.perform {z : State} (h : HostAccess) (hw : Bool) (s : State) (hz : z.Follows s) :
    z.Follows (State.perform h hw s) := by
  unfold State.perform
  repeat' first
    | with_reducible assumption | with_reducible apply State.Follows.emit
    | with_reducible apply State.Follows.msixWrite | with_reducible apply State.Follows.readRegister
    | with_reducible apply State.Follows.writeWord | with_reducible apply State.Follows.ite

theorem State.Follows.access {z : State} (h : HostAccess) (hw : Bool) (s : State) (hz : z.Follows s) :
    z.Follows (State.access h hw s) := by
  unfold State.access
  repeat' first
    | with_reducible assumption | with_reducible apply State.Follows.modHost
    | with_reducible apply State.Follows.perform | with_reducible apply State.Follows.refuseAccess
    | with_reducible apply State.Follows.unsupported | split

theorem State.Follows.inD3 {z : State} (a : Nat) (window : Bool) (s : State) (hz : z.Follows s) :
    z.Follows (State.inD3 a window s) := by
  unfold State.inD3
  repeat' first
    | with_reducible assumption | with_reducible apply State.Follows.emit
    | with_reducible apply State.Follows.errAddr | with_reducible apply State.Follows.inc

theorem Follow.execRegisterWrite {z : State} (addr : BitVec 24) (data : Word) (be : BitVec 4) (long hw : Bool)
    (s : State) (hz : z.Follows s) :
    Follow z (Sys2Proof.Machine.execRegisterWrite addr data be long hw s) := by
  unfold Sys2Proof.Machine.execRegisterWrite
  repeat' first
    | with_reducible assumption | with_reducible apply State.Follows.access
    | with_reducible apply State.Follows.inD3 | with_reducible apply State.Follows.refuseAccess
    | with_reducible apply Follow.ite | with_reducible apply Follow.next

theorem Follow.execRcRead {z : State} (addr : BitVec 24) (be : BitVec 4) (long : Bool) (s : State) (hz : z.Follows s) :
    Follow z (Sys2Proof.Machine.execRcRead addr be long s) := by
  unfold Sys2Proof.Machine.execRcRead
  repeat' first
    | with_reducible assumption | with_reducible apply State.Follows.access
    | with_reducible apply State.Follows.bump | with_reducible apply State.Follows.emit
    | with_reducible apply State.Follows.inD3 | with_reducible apply State.Follows.refuseAccess
    | with_reducible apply Follow.ite | with_reducible apply Follow.next

theorem State.Follows.windowStore {z : State} (fuel a : Nat) (bs : List Byte) (s : State) (h : z.Follows s) :
    z.Follows (State.windowStore fuel a bs s) := by
  induction fuel generalizing a bs s with
  | zero => exact h
  | succ fuel ih =>
    cases bs with
    | nil => exact h
    | cons b bs =>
      unfold State.windowStore
      dsimp only
      apply ih
      split
      · exact State.Follows.tableWrite _ _ _ h
      · exact h.dramWrite _ _

theorem State.Follows.windowRead {z : State} (w n : Nat) (errs : List MemError) (s : State) (hz : z.Follows s) :
    z.Follows (State.windowRead w n errs s) := by
  unfold Sys2Proof.Machine.State.windowRead
  try dsimp only
  repeat' first
    | with_reducible assumption
    | with_reducible apply State.Follows.countBad
    | with_reducible apply State.Follows.memUpset
    | with_reducible apply State.Follows.answer
    | with_reducible apply State.Follows.emit
    | with_reducible apply State.Follows.errAddr
    | with_reducible apply State.Follows.evt
    | with_reducible apply State.Follows.refuseAccess
    | with_reducible apply State.Follows.unsupported
    | with_reducible apply State.Follows.foldl
    | (intro _ _ _; try dsimp only)
    | split

theorem State.Follows.windowWrite {z : State} (w : Nat) (bs : List Byte) (s : State) (hz : z.Follows s) :
    z.Follows (State.windowWrite w bs s) := by
  unfold State.windowWrite
  repeat' first
    | with_reducible assumption | with_reducible apply State.Follows.emit
    | with_reducible apply State.Follows.refuseAccess | with_reducible apply State.Follows.unsupported
    | with_reducible apply State.Follows.windowStore | split

theorem Follow.execWindowRead {z : State} (addr : BitVec 28) (len : Fin 4097) (errs : List MemError) (s : State) (hz : z.Follows s) : Follow z (Sys2Proof.Machine.execWindowRead addr len errs s) := by
  unfold Sys2Proof.Machine.execWindowRead
  try dsimp only
  repeat' first
    | with_reducible assumption
    | with_reducible apply State.Follows.ite
    | with_reducible apply State.Follows.inD3
    | with_reducible apply State.Follows.windowRead
    | with_reducible apply Follow.ite
    | with_reducible apply Follow.next
    | split

theorem Follow.execWindowWrite {z : State} (addr : BitVec 28) (data : List Byte) (s : State) (hz : z.Follows s) :
    Follow z (Sys2Proof.Machine.execWindowWrite addr data s) := by
  unfold Sys2Proof.Machine.execWindowWrite
  repeat' first
    | with_reducible assumption | with_reducible apply State.Follows.inD3
    | with_reducible apply State.Follows.windowWrite | with_reducible apply Follow.ite | with_reducible apply Follow.next

/-- An answer that is not heard is no command's withdrawal: what was sent before stays. -/
theorem State.Follows.unheard {z : State} (old s : State) (ho : z.Follows old) (h : old.Follows s) :
    z.Follows (State.unheard old s) := by
  have k := ho.trans h
  refine ⟨k.queue, ?_, k.drawn, fun c => ⟨(k.canonical c).regs, (k.canonical c).shadow, (k.canonical c).dram,
    (k.canonical c).bad, (k.canonical c).flash⟩⟩
  obtain ⟨l, e⟩ := h.sent
  have hn : s.emitted.length - old.emitted.length = l.length := by rw [← e]; simp
  show z.emitted <:+ _ ++ s.emitted.drop (s.emitted.length - old.emitted.length)
  rw [hn, ← e, List.drop_left]
  exact ho.sent.trans (List.suffix_append _ _)

theorem State.Follows.spiAccess {z : State} (h : Nat) (data : Word) (errs : List MemError) (s : State) (hz : z.Follows s) : z.Follows (Sys2Proof.Machine.State.spiAccess h data errs s) := by
  unfold Sys2Proof.Machine.State.spiAccess
  try dsimp only
  repeat' first
    | with_reducible assumption
    | with_reducible apply State.Follows.access
    | with_reducible apply State.Follows.unsupported
    | with_reducible apply State.Follows.windowRead
    | with_reducible apply State.Follows.windowWrite
    | with_reducible apply State.Follows.ite
    | split

theorem Follow.execHspiFrame {z : State} (u : SpiHostFrame) (s : State) (h : z.Follows s) :
    Follow z (Sys2Proof.Machine.execHspiFrame u s) := by
  unfold Sys2Proof.Machine.execHspiFrame
  split
  · exact .next h
  · dsimp only
    exact Follow.ite (.next h) (Follow.ite (.next (State.Follows.spiAccess _ _ _ _ h))
      (.next (State.Follows.unheard _ _ h (State.Follows.spiAccess _ _ _ _ (State.Follows.refl s)))))

theorem State.Follows.release_ {z : State} (d : Nat) (s : State) (hz : z.Follows s) : z.Follows (State.release_ d s) := by
  unfold State.release_
  repeat' first
    | with_reducible assumption | with_reducible apply State.Follows.modHost
    | with_reducible apply State.Follows.perform | with_reducible apply State.Follows.foldl | (intro _ _ _; try dsimp only)

theorem Follow.execAccessWatchdog {z : State} (d : Fin 24) (s : State) (hz : z.Follows s) : Follow z
    (Sys2Proof.Machine.execAccessWatchdog d s) := by
  unfold Sys2Proof.Machine.execAccessWatchdog
  repeat' first
    | with_reducible assumption
    | with_reducible apply State.Follows.answer
    | with_reducible apply State.Follows.errAddr
    | with_reducible apply State.Follows.evt
    | with_reducible apply State.Follows.file
    | with_reducible apply State.Follows.inc
    | with_reducible apply State.Follows.modHost
    | with_reducible apply State.Follows.set
    | with_reducible apply Follow.next
    | split

theorem Follow.execClkStop {z : State} (d : Fin 24) (s : State) (hz : z.Follows s) :
    Follow z (Sys2Proof.Machine.execClkStop d s) := by
  unfold Sys2Proof.Machine.execClkStop
  repeat' first
    | with_reducible assumption | with_reducible apply State.Follows.evt
    | with_reducible apply State.Follows.set | with_reducible apply State.Follows.setClock | with_reducible apply Follow.ite
    | with_reducible apply Follow.next

theorem State.Follows.leaveReset {z : State} (d : Nat) (s : State) (hz : z.Follows s) :
    z.Follows (State.leaveReset d s) := by
  unfold State.leaveReset
  repeat' first
    | with_reducible assumption | with_reducible apply State.Follows.crossingOpen
    | with_reducible apply State.Follows.set | with_reducible apply State.Follows.ite

theorem State.Follows.landWrites {z : State} (d : Nat) (s : State) (hz : z.Follows s) : z.Follows
    (Sys2Proof.Machine.State.landWrites d s) := by
  unfold Sys2Proof.Machine.State.landWrites
  repeat' first
    | with_reducible assumption
    | with_reducible apply State.Follows.evt
    | with_reducible apply State.Follows.modHost
    | with_reducible apply State.Follows.showPend
    | with_reducible apply State.Follows.writeWord
    | with_reducible apply State.Follows.ite
    | with_reducible apply State.Follows.foldl
    | (intro _ _ _; try dsimp only)

theorem Follow.execClkReturn {z : State} (d : Fin 24) (s : State) (hz : z.Follows s) : Follow z
    (Sys2Proof.Machine.execClkReturn d s) := by
  unfold Sys2Proof.Machine.execClkReturn
  repeat' first
    | with_reducible assumption
    | with_reducible apply State.Follows.evt
    | with_reducible apply State.Follows.landWrites
    | with_reducible apply State.Follows.leaveReset
    | with_reducible apply State.Follows.release_
    | with_reducible apply State.Follows.set
    | with_reducible apply State.Follows.setClock
    | with_reducible apply State.Follows.setReplica
    | with_reducible apply Follow.ite
    | with_reducible apply Follow.next
    | with_reducible apply State.Follows.ite

theorem Follow.execResetHandshakeDone {z : State} (d : Fin 24) (s : State) (hz : z.Follows s) : Follow z
    (Sys2Proof.Machine.execResetHandshakeDone d s) := by
  unfold Sys2Proof.Machine.execResetHandshakeDone
  repeat' first
    | with_reducible assumption
    | with_reducible apply State.Follows.landWrites
    | with_reducible apply State.Follows.modHost
    | with_reducible apply State.Follows.release_
    | with_reducible apply Follow.ite
    | with_reducible apply Follow.next

theorem State.Follows.pcieClear {z : State} (s : State) (hz : z.Follows s) : z.Follows (State.pcieClear s) := by
  unfold State.pcieClear
  repeat' first
    | with_reducible assumption | with_reducible apply State.Follows.modHost
    | with_reducible apply State.Follows.set

theorem State.Follows.pcieLink {z : State} (up : Bool) (speed width : Nat) (s : State) (hz : z.Follows s) :
    z.Follows (State.pcieLink up speed width s) := by
  unfold State.pcieLink
  repeat' first
    | with_reducible assumption | with_reducible apply State.Follows.set
    | with_reducible apply State.Follows.setB

theorem Follow.execPcieReset {z : State} (e : PcieEvent) (s : State) (hz : z.Follows s) :
    Follow z (Sys2Proof.Machine.execPcieReset e s) := by
  unfold Sys2Proof.Machine.execPcieReset
  repeat' first
    | with_reducible assumption | with_reducible apply State.Follows.modHost
    | with_reducible apply State.Follows.pcieClear | with_reducible apply State.Follows.pcieLink
    | with_reducible apply Follow.next | split

theorem Follow.execPcieConfigWrite {z : State} (busMaster d3hot : Bool) (s : State) (hz : z.Follows s) :
    Follow z (Sys2Proof.Machine.execPcieConfigWrite busMaster d3hot s) := by
  unfold Sys2Proof.Machine.execPcieConfigWrite
  repeat' first
    | with_reducible assumption | with_reducible apply State.Follows.modHost
    | with_reducible apply State.Follows.msixRelease | with_reducible apply Follow.ite | with_reducible apply Follow.next

end Sys2Proof.Machine
end

