-- ==== Sys2Proof/Laws/State.lean ====
section
/-! SUPPORT. Laws of the register file and of the operations every block shares: what a write reads back, and what each
operation leaves alone. -/

namespace Sys2Proof.Machine

/-! ### Register fields -/

theorem State.set_regs (f : Field) (v : Nat) (s : State) : (s.set f v).regs =
    if v % 2 ^ f.width = f.rst then Map.del s.regs f.key else Map.put s.regs f.key (v % 2 ^ f.width) := rfl

theorem State.wf_set {s : State} (h : Map.wf s.regs = true) (f : Field) (v : Nat) : Map.wf (s.set f v).regs = true := by
  rw [State.set_regs]
  split
  · exact Map.wf_del h _
  · exact Map.wf_put h _ _

/-- A write reads back, cut to the field's width. -/
theorem State.get_set {s : State} (h : Map.wf s.regs = true) (f : Field) (v : Nat) : (s.set f v).get f = v % 2 ^ f.width := by
  unfold State.get Map.getD
  rw [State.set_regs]
  split
  · next e => rw [Map.get?_del_same h]; exact e.symm
  · rw [Map.get?_put_same]; rfl

/-- A write leaves every field of another key alone. -/
theorem State.get_set_other {s : State} (h : Map.wf s.regs = true) {f g : Field} (k : g.key ≠ f.key) (v : Nat) :
    (s.set f v).get g = s.get g := by
  unfold State.get Map.getD
  rw [State.set_regs]
  split
  · rw [Map.get?_del_other h k]
  · rw [Map.get?_put_other _ _ k]

/-- A field is read from the registers alone. -/
theorem State.get_regs {s t : State} (h : t.regs = s.regs) (f : Field) : t.get f = s.get f := by
  unfold State.get; rw [h]


/-! ### Every setter is a write -/

@[simp] theorem State.setB_eq (f : Field) (b : Bool) (s : State) : s.setB f b = s.set f (ofBool b) := rfl
@[simp] theorem State.setI_eq (f : Field) (x : Int) (s : State) : s.setI f x = s.set f (ofSigned f.width x) := rfl
@[simp] theorem State.incBy_eq (f : Field) (n : Nat) (s : State) : s.incBy f n = s.set f (s.get f + n) := rfl
@[simp] theorem State.inc_eq (f : Field) (s : State) : s.inc f = s.set f (s.get f + 1) := rfl
@[simp] theorem State.incSat_eq (f : Field) (n : Nat) (s : State) : s.incSat f n = s.set f (satN f.width (s.get f + n)) := rfl
@[simp] theorem State.set2_eq (lo hi : Field) (v : Nat) (s : State) :
    s.set2 lo hi v = (s.set lo v).set hi (v / 2 ^ lo.width) := rfl
@[simp] theorem State.setI2_eq (lo hi : Field) (x : Int) (s : State) :
    s.setI2 lo hi x = s.set2 lo hi (ofSigned (lo.width + hi.width) x) := rfl
theorem State.setTime_eq (fr ns lo hi : Field) (u : Nat) (s : State) :
    s.setTime fr ns lo hi u = ((s.set fr (u % nsU)).set ns (u % secU / nsU)).set2 lo hi (u / secU) := rfl
theorem State.setSpan_eq (fr ns lo hi : Field) (x : Int) (s : State) :
    s.setSpan fr ns lo hi x =
      ((s.set fr ((x % (secU : Int)).toNat % nsU)).set ns ((x % (secU : Int)).toNat / nsU)).setI2 lo hi (x / (secU : Int)) := rfl

/-! ### What the operations leave alone -/

@[simp] theorem State.set_pending (f : Field) (v : Nat) (s : State) : (s.set f v).pending = s.pending := rfl
@[simp] theorem State.set_shadow (f : Field) (v : Nat) (s : State) : (s.set f v).shadow = s.shadow := rfl
@[simp] theorem State.set_commits (f : Field) (v : Nat) (s : State) : (s.set f v).commits = s.commits := rfl
@[simp] theorem State.set_freeCtr (f : Field) (v : Nat) (s : State) : (s.set f v).freeCtr = s.freeCtr := rfl
@[simp] theorem State.set_emitted (f : Field) (v : Nat) (s : State) : (s.set f v).emitted = s.emitted := rfl
@[simp] theorem State.set_hearth (f : Field) (v : Nat) (s : State) : (s.set f v).hearth = s.hearth := rfl
@[simp] theorem State.set_ebd (f : Field) (v : Nat) (s : State) : (s.set f v).ebd = s.ebd := rfl
@[simp] theorem State.set_ref (f : Field) (v : Nat) (s : State) : (s.set f v).ref = s.ref := rfl
@[simp] theorem State.set_sel (f : Field) (v : Nat) (s : State) : (s.set f v).sel = s.sel := rfl
@[simp] theorem State.set_osc (f : Field) (v : Nat) (s : State) : (s.set f v).osc = s.osc := rfl
@[simp] theorem State.set_syn (f : Field) (v : Nat) (s : State) : (s.set f v).syn = s.syn := rfl
@[simp] theorem State.set_out (f : Field) (v : Nat) (s : State) : (s.set f v).out = s.out := rfl
@[simp] theorem State.set_tdc (f : Field) (v : Nat) (s : State) : (s.set f v).tdc = s.tdc := rfl
@[simp] theorem State.set_spi (f : Field) (v : Nat) (s : State) : (s.set f v).spi = s.spi := rfl
@[simp] theorem State.set_gna (f : Field) (v : Nat) (s : State) : (s.set f v).gna = s.gna := rfl
@[simp] theorem State.set_gns (f : Field) (v : Nat) (s : State) : (s.set f v).gns = s.gns := rfl
@[simp] theorem State.set_eth (f : Field) (v : Nat) (s : State) : (s.set f v).eth = s.eth := rfl
@[simp] theorem State.set_lts (f : Field) (v : Nat) (s : State) : (s.set f v).lts = s.lts := rfl
@[simp] theorem State.set_rse (f : Field) (v : Nat) (s : State) : (s.set f v).rse = s.rse := rfl
@[simp] theorem State.set_pro (f : Field) (v : Nat) (s : State) : (s.set f v).pro = s.pro := rfl
@[simp] theorem State.set_glv (f : Field) (v : Nat) (s : State) : (s.set f v).glv = s.glv := rfl
@[simp] theorem State.set_smp (f : Field) (v : Nat) (s : State) : (s.set f v).smp = s.smp := rfl
@[simp] theorem State.set_red (f : Field) (v : Nat) (s : State) : (s.set f v).red = s.red := rfl
@[simp] theorem State.set_nvc (f : Field) (v : Nat) (s : State) : (s.set f v).nvc = s.nvc := rfl
@[simp] theorem State.set_pmc (f : Field) (v : Nat) (s : State) : (s.set f v).pmc = s.pmc := rfl
@[simp] theorem State.set_flt (f : Field) (v : Nat) (s : State) : (s.set f v).flt = s.flt := rfl
@[simp] theorem State.set_host (f : Field) (v : Nat) (s : State) : (s.set f v).host = s.host := rfl
@[simp] theorem State.set_dram (f : Field) (v : Nat) (s : State) : (s.set f v).dram = s.dram := rfl
@[simp] theorem State.set_dramBad (f : Field) (v : Nat) (s : State) : (s.set f v).dramBad = s.dramBad := rfl
@[simp] theorem State.set_power (f : Field) (v : Nat) (s : State) : (s.set f v).power = s.power := rfl
@[simp] theorem State.set_clocks (f : Field) (v : Nat) (s : State) : (s.set f v).clocks = s.clocks := rfl

/-- An event changes registers, what was sent, and the pending-bit array. -/
theorem State.requestVector_rest (v : Nat) (s : State) : s.requestVector v =
    { s with emitted := (s.requestVector v).emitted, host := { s.host with pba := (s.requestVector v).host.pba } } := by
  unfold State.requestVector
  repeat' split
  all_goals rfl

theorem State.raiseBlock_rest (b : Nat) (s : State) : s.raiseBlock b =
    { s with regs := (s.raiseBlock b).regs, emitted := (s.raiseBlock b).emitted,
             host := { s.host with pba := (s.raiseBlock b).host.pba } } := by
  unfold State.raiseBlock
  dsimp only
  split
  · rfl
  · split
    · rw [State.requestVector_rest]; rfl
    · rfl

theorem State.evt_rest (f : Field) (s : State) : s.evt f =
    { s with regs := (s.evt f).regs, emitted := (s.evt f).emitted, host := { s.host with pba := (s.evt f).host.pba } } := by
  unfold State.evt
  dsimp only
  split
  · rw [State.raiseBlock_rest]; rfl
  · rfl

@[simp] theorem State.evt_pending (f : Field) (s : State) : (s.evt f).pending = s.pending := by rw [State.evt_rest]
@[simp] theorem State.evt_shadow (f : Field) (s : State) : (s.evt f).shadow = s.shadow := by rw [State.evt_rest]
@[simp] theorem State.evt_commits (f : Field) (s : State) : (s.evt f).commits = s.commits := by rw [State.evt_rest]
@[simp] theorem State.evt_freeCtr (f : Field) (s : State) : (s.evt f).freeCtr = s.freeCtr := by rw [State.evt_rest]
@[simp] theorem State.evt_hearth (f : Field) (s : State) : (s.evt f).hearth = s.hearth := by rw [State.evt_rest]
@[simp] theorem State.evt_ebd (f : Field) (s : State) : (s.evt f).ebd = s.ebd := by rw [State.evt_rest]
@[simp] theorem State.evt_ref (f : Field) (s : State) : (s.evt f).ref = s.ref := by rw [State.evt_rest]
@[simp] theorem State.evt_sel (f : Field) (s : State) : (s.evt f).sel = s.sel := by rw [State.evt_rest]
@[simp] theorem State.evt_osc (f : Field) (s : State) : (s.evt f).osc = s.osc := by rw [State.evt_rest]
@[simp] theorem State.evt_syn (f : Field) (s : State) : (s.evt f).syn = s.syn := by rw [State.evt_rest]
@[simp] theorem State.evt_out (f : Field) (s : State) : (s.evt f).out = s.out := by rw [State.evt_rest]
@[simp] theorem State.evt_tdc (f : Field) (s : State) : (s.evt f).tdc = s.tdc := by rw [State.evt_rest]
@[simp] theorem State.evt_spi (f : Field) (s : State) : (s.evt f).spi = s.spi := by rw [State.evt_rest]
@[simp] theorem State.evt_gna (f : Field) (s : State) : (s.evt f).gna = s.gna := by rw [State.evt_rest]
@[simp] theorem State.evt_gns (f : Field) (s : State) : (s.evt f).gns = s.gns := by rw [State.evt_rest]
@[simp] theorem State.evt_eth (f : Field) (s : State) : (s.evt f).eth = s.eth := by rw [State.evt_rest]
@[simp] theorem State.evt_lts (f : Field) (s : State) : (s.evt f).lts = s.lts := by rw [State.evt_rest]
@[simp] theorem State.evt_rse (f : Field) (s : State) : (s.evt f).rse = s.rse := by rw [State.evt_rest]
@[simp] theorem State.evt_pro (f : Field) (s : State) : (s.evt f).pro = s.pro := by rw [State.evt_rest]
@[simp] theorem State.evt_glv (f : Field) (s : State) : (s.evt f).glv = s.glv := by rw [State.evt_rest]
@[simp] theorem State.evt_smp (f : Field) (s : State) : (s.evt f).smp = s.smp := by rw [State.evt_rest]
@[simp] theorem State.evt_red (f : Field) (s : State) : (s.evt f).red = s.red := by rw [State.evt_rest]
@[simp] theorem State.evt_nvc (f : Field) (s : State) : (s.evt f).nvc = s.nvc := by rw [State.evt_rest]
@[simp] theorem State.evt_pmc (f : Field) (s : State) : (s.evt f).pmc = s.pmc := by rw [State.evt_rest]
@[simp] theorem State.evt_flt (f : Field) (s : State) : (s.evt f).flt = s.flt := by rw [State.evt_rest]
@[simp] theorem State.evt_dram (f : Field) (s : State) : (s.evt f).dram = s.dram := by rw [State.evt_rest]
@[simp] theorem State.evt_dramBad (f : Field) (s : State) : (s.evt f).dramBad = s.dramBad := by rw [State.evt_rest]
@[simp] theorem State.evt_power (f : Field) (s : State) : (s.evt f).power = s.power := by rw [State.evt_rest]
@[simp] theorem State.evt_clocks (f : Field) (s : State) : (s.evt f).clocks = s.clocks := by rw [State.evt_rest]

theorem State.set2_rest (lo hi : Field) (v : Nat) (s : State) : s.set2 lo hi v = { s with regs := (s.set2 lo hi v).regs } := rfl

theorem State.addCounter_ex (fuel i n : Nat) (s : State) : ∃ regs emitted pba wrapped, s.addCounter fuel i n =
    { s with regs := regs, emitted := emitted, host := { s.host with pba := pba }, pmc := { s.pmc with wrapped := wrapped } } := by
  induction fuel generalizing i n s with
  | zero => exact ⟨s.regs, s.emitted, s.host.pba, s.pmc.wrapped, rfl⟩
  | succ k ih =>
    unfold State.addCounter
    dsimp only
    rw [State.set2_rest]
    generalize (s.set2 _ _ _).regs = r0
    split
    · exact ⟨r0, s.emitted, s.host.pba, s.pmc.wrapped, rfl⟩
    · split
      · obtain ⟨r, e, p, x, h⟩ := ih (i + 1) ((s.get2 (R.PMC.CNT.LO.COUNT i) (R.PMC.CNT.HI.COUNT i) + n) / 2 ^ 48)
          { s with regs := r0, pmc := { s.pmc with wrapped := (i :: s.pmc.wrapped).eraseDups } }
        exact ⟨r, e, p, x, h⟩
      · rw [State.evt_rest]
        exact ⟨_, _, _, _, rfl⟩

theorem State.addCounter_rest (fuel i n : Nat) (s : State) : s.addCounter fuel i n =
    { s with regs := (s.addCounter fuel i n).regs, emitted := (s.addCounter fuel i n).emitted,
             host := { s.host with pba := (s.addCounter fuel i n).host.pba },
             pmc := { s.pmc with wrapped := (s.addCounter fuel i n).pmc.wrapped } } := by
  obtain ⟨r, e, p, w, h⟩ := State.addCounter_ex fuel i n s
  rw [h]

theorem State.foldCounter_rest (fuel : Nat) (l : List Nat) (n : Nat) (s : State) :
    ∃ regs emitted pba wrapped, l.foldl (fun st i => st.addCounter fuel i n) s =
      { s with regs := regs, emitted := emitted, host := { s.host with pba := pba }, pmc := { s.pmc with wrapped := wrapped } } := by
  induction l generalizing s with
  | nil => exact ⟨s.regs, s.emitted, s.host.pba, s.pmc.wrapped, rfl⟩
  | cons a l ih =>
    obtain ⟨r, e, p, w, h⟩ := ih (s.addCounter fuel a n)
    exact ⟨r, e, p, w, by rw [List.foldl_cons, h, State.addCounter_rest fuel a n s]⟩

/-- Counting changes registers, what was sent, the pending-bit array and which counters have wrapped. -/
theorem State.count_rest (e n : Nat) (s : State) : s.count e n =
    { s with regs := (s.count e n).regs, emitted := (s.count e n).emitted,
             host := { s.host with pba := (s.count e n).host.pba }, pmc := { s.pmc with wrapped := (s.count e n).pmc.wrapped } } := by
  obtain ⟨r, em, p, w, h⟩ := State.foldCounter_rest 1024 (s.counters e) n s
  have h' : s.count e n = { s with regs := r, emitted := em, host := { s.host with pba := p }, pmc := { s.pmc with wrapped := w } } := h
  rw [h']

@[simp] theorem State.count_pending (e n : Nat) (s : State) : (s.count e n).pending = s.pending := by rw [State.count_rest]
@[simp] theorem State.count_shadow (e n : Nat) (s : State) : (s.count e n).shadow = s.shadow := by rw [State.count_rest]
@[simp] theorem State.count_commits (e n : Nat) (s : State) : (s.count e n).commits = s.commits := by rw [State.count_rest]
@[simp] theorem State.count_freeCtr (e n : Nat) (s : State) : (s.count e n).freeCtr = s.freeCtr := by rw [State.count_rest]
@[simp] theorem State.count_hearth (e n : Nat) (s : State) : (s.count e n).hearth = s.hearth := by rw [State.count_rest]
@[simp] theorem State.count_ebd (e n : Nat) (s : State) : (s.count e n).ebd = s.ebd := by rw [State.count_rest]
@[simp] theorem State.count_ref (e n : Nat) (s : State) : (s.count e n).ref = s.ref := by rw [State.count_rest]
@[simp] theorem State.count_sel (e n : Nat) (s : State) : (s.count e n).sel = s.sel := by rw [State.count_rest]
@[simp] theorem State.count_osc (e n : Nat) (s : State) : (s.count e n).osc = s.osc := by rw [State.count_rest]
@[simp] theorem State.count_syn (e n : Nat) (s : State) : (s.count e n).syn = s.syn := by rw [State.count_rest]
@[simp] theorem State.count_out (e n : Nat) (s : State) : (s.count e n).out = s.out := by rw [State.count_rest]
@[simp] theorem State.count_tdc (e n : Nat) (s : State) : (s.count e n).tdc = s.tdc := by rw [State.count_rest]
@[simp] theorem State.count_spi (e n : Nat) (s : State) : (s.count e n).spi = s.spi := by rw [State.count_rest]
@[simp] theorem State.count_gna (e n : Nat) (s : State) : (s.count e n).gna = s.gna := by rw [State.count_rest]
@[simp] theorem State.count_gns (e n : Nat) (s : State) : (s.count e n).gns = s.gns := by rw [State.count_rest]
@[simp] theorem State.count_eth (e n : Nat) (s : State) : (s.count e n).eth = s.eth := by rw [State.count_rest]
@[simp] theorem State.count_lts (e n : Nat) (s : State) : (s.count e n).lts = s.lts := by rw [State.count_rest]
@[simp] theorem State.count_rse (e n : Nat) (s : State) : (s.count e n).rse = s.rse := by rw [State.count_rest]
@[simp] theorem State.count_pro (e n : Nat) (s : State) : (s.count e n).pro = s.pro := by rw [State.count_rest]
@[simp] theorem State.count_glv (e n : Nat) (s : State) : (s.count e n).glv = s.glv := by rw [State.count_rest]
@[simp] theorem State.count_smp (e n : Nat) (s : State) : (s.count e n).smp = s.smp := by rw [State.count_rest]
@[simp] theorem State.count_red (e n : Nat) (s : State) : (s.count e n).red = s.red := by rw [State.count_rest]
@[simp] theorem State.count_nvc (e n : Nat) (s : State) : (s.count e n).nvc = s.nvc := by rw [State.count_rest]
@[simp] theorem State.count_flt (e n : Nat) (s : State) : (s.count e n).flt = s.flt := by rw [State.count_rest]
@[simp] theorem State.count_dram (e n : Nat) (s : State) : (s.count e n).dram = s.dram := by rw [State.count_rest]
@[simp] theorem State.count_dramBad (e n : Nat) (s : State) : (s.count e n).dramBad = s.dramBad := by rw [State.count_rest]
@[simp] theorem State.count_power (e n : Nat) (s : State) : (s.count e n).power = s.power := by rw [State.count_rest]
@[simp] theorem State.count_clocks (e n : Nat) (s : State) : (s.count e n).clocks = s.clocks := by rw [State.count_rest]

theorem State.setWords_rest (f : Nat → Field) (i : Nat) (bs : List Byte) (s : State) :
    s.setWords f i bs = { s with regs := (s.setWords f i bs).regs } := by
  induction bs generalizing i s with
  | nil => rfl
  | cons b bs ih => unfold State.setWords; rw [ih]; rfl

theorem State.renounce_rest (s : State) : s.renounce = { s with regs := s.renounce.regs } := by
  unfold State.renounce
  dsimp only
  repeat' split
  all_goals rfl

theorem State.showAlarm_rest (s : State) : s.showAlarm = { s with regs := s.showAlarm.regs } := rfl

theorem State.classAction_rest (r : FaultRec) (s : State) : s.classAction r =
    { s with regs := (s.classAction r).regs, emitted := (s.classAction r).emitted,
             host := { s.host with pba := (s.classAction r).host.pba } } := by
  unfold State.classAction
  dsimp only
  split
  · rfl
  · rw [State.evt_rest]; rfl
  · split
    · rw [State.setWords_rest, State.evt_rest]; rfl
    · rw [State.renounce_rest, State.setWords_rest, State.evt_rest]; rfl

theorem State.enqueue_rest (r : FaultRec) (s : State) : s.enqueue r =
    { s with regs := (s.enqueue r).regs, emitted := (s.enqueue r).emitted,
             host := { s.host with pba := (s.enqueue r).host.pba },
             flt := { s.flt with queue := (s.enqueue r).flt.queue, discarded := (s.enqueue r).flt.discarded } } := by
  unfold State.enqueue
  dsimp only
  split
  · rfl
  · split
    · split
      · rw [State.evt_rest]; rfl
      · split
        · rw [State.evt_rest]; rfl
        · rw [State.evt_rest]; rfl
    · rw [State.evt_rest]; rfl

/-- A filing changes registers, what was sent, the pending-bit array, FLT's queue, and draws one free value. -/
theorem State.file_rest (k : FaultKind) (e c : Nat) (s : State) : s.file k e c =
    { s with regs := (s.file k e c).regs, emitted := (s.file k e c).emitted,
             host := { s.host with pba := (s.file k e c).host.pba }, freeCtr := s.freeCtr + 1,
             flt := { s.flt with queue := (s.file k e c).flt.queue, discarded := (s.file k e c).flt.discarded } } := by
  unfold State.file
  dsimp only
  split
  · rw [State.classAction_rest]; rfl
  · rw [State.enqueue_rest, State.classAction_rest]; rfl

@[simp] theorem State.file_pending (k : FaultKind) (e c : Nat) (s : State) : (s.file k e c).pending = s.pending := by rw [State.file_rest]
@[simp] theorem State.file_shadow (k : FaultKind) (e c : Nat) (s : State) : (s.file k e c).shadow = s.shadow := by rw [State.file_rest]
@[simp] theorem State.file_commits (k : FaultKind) (e c : Nat) (s : State) : (s.file k e c).commits = s.commits := by rw [State.file_rest]
@[simp] theorem State.file_freeCtr (k : FaultKind) (e c : Nat) (s : State) : (s.file k e c).freeCtr = s.freeCtr + 1 := by rw [State.file_rest]
@[simp] theorem State.file_hearth (k : FaultKind) (e c : Nat) (s : State) : (s.file k e c).hearth = s.hearth := by rw [State.file_rest]
@[simp] theorem State.file_ebd (k : FaultKind) (e c : Nat) (s : State) : (s.file k e c).ebd = s.ebd := by rw [State.file_rest]
@[simp] theorem State.file_ref (k : FaultKind) (e c : Nat) (s : State) : (s.file k e c).ref = s.ref := by rw [State.file_rest]
@[simp] theorem State.file_sel (k : FaultKind) (e c : Nat) (s : State) : (s.file k e c).sel = s.sel := by rw [State.file_rest]
@[simp] theorem State.file_osc (k : FaultKind) (e c : Nat) (s : State) : (s.file k e c).osc = s.osc := by rw [State.file_rest]
@[simp] theorem State.file_syn (k : FaultKind) (e c : Nat) (s : State) : (s.file k e c).syn = s.syn := by rw [State.file_rest]
@[simp] theorem State.file_out (k : FaultKind) (e c : Nat) (s : State) : (s.file k e c).out = s.out := by rw [State.file_rest]
@[simp] theorem State.file_tdc (k : FaultKind) (e c : Nat) (s : State) : (s.file k e c).tdc = s.tdc := by rw [State.file_rest]
@[simp] theorem State.file_spi (k : FaultKind) (e c : Nat) (s : State) : (s.file k e c).spi = s.spi := by rw [State.file_rest]
@[simp] theorem State.file_gna (k : FaultKind) (e c : Nat) (s : State) : (s.file k e c).gna = s.gna := by rw [State.file_rest]
@[simp] theorem State.file_gns (k : FaultKind) (e c : Nat) (s : State) : (s.file k e c).gns = s.gns := by rw [State.file_rest]
@[simp] theorem State.file_eth (k : FaultKind) (e c : Nat) (s : State) : (s.file k e c).eth = s.eth := by rw [State.file_rest]
@[simp] theorem State.file_lts (k : FaultKind) (e c : Nat) (s : State) : (s.file k e c).lts = s.lts := by rw [State.file_rest]
@[simp] theorem State.file_rse (k : FaultKind) (e c : Nat) (s : State) : (s.file k e c).rse = s.rse := by rw [State.file_rest]
@[simp] theorem State.file_pro (k : FaultKind) (e c : Nat) (s : State) : (s.file k e c).pro = s.pro := by rw [State.file_rest]
@[simp] theorem State.file_glv (k : FaultKind) (e c : Nat) (s : State) : (s.file k e c).glv = s.glv := by rw [State.file_rest]
@[simp] theorem State.file_smp (k : FaultKind) (e c : Nat) (s : State) : (s.file k e c).smp = s.smp := by rw [State.file_rest]
@[simp] theorem State.file_red (k : FaultKind) (e c : Nat) (s : State) : (s.file k e c).red = s.red := by rw [State.file_rest]
@[simp] theorem State.file_nvc (k : FaultKind) (e c : Nat) (s : State) : (s.file k e c).nvc = s.nvc := by rw [State.file_rest]
@[simp] theorem State.file_pmc (k : FaultKind) (e c : Nat) (s : State) : (s.file k e c).pmc = s.pmc := by rw [State.file_rest]
@[simp] theorem State.file_dram (k : FaultKind) (e c : Nat) (s : State) : (s.file k e c).dram = s.dram := by rw [State.file_rest]
@[simp] theorem State.file_dramBad (k : FaultKind) (e c : Nat) (s : State) : (s.file k e c).dramBad = s.dramBad := by rw [State.file_rest]
@[simp] theorem State.file_power (k : FaultKind) (e c : Nat) (s : State) : (s.file k e c).power = s.power := by rw [State.file_rest]
@[simp] theorem State.file_clocks (k : FaultKind) (e c : Nat) (s : State) : (s.file k e c).clocks = s.clocks := by rw [State.file_rest]

/-! ### Frames -/

theorem State.KeepsBut.refl (p : Field → Prop) (s : State) : s.KeepsBut p s := fun _ _ => rfl

theorem State.KeepsBut.trans {p : Field → Prop} {s t u : State} (h : s.KeepsBut p t) (k : t.KeepsBut p u) : s.KeepsBut p u :=
  fun f n => (k f n).trans (h f n)

theorem State.KeepsBut.mono {p q : Field → Prop} {s t : State} (h : s.KeepsBut p t) (i : ∀ f, p f → q f) : s.KeepsBut q t :=
  fun f n => h f (fun x => n (i f x))

/-- The register file is canonical, and only fields that `p` allows differ from `z`: what every operation below keeps. -/
def State.Within (p : Field → Prop) (z s : State) : Prop := Map.wf s.regs = true ∧ z.KeepsBut p s

/-- `p` allows a field wherever it has the key of `f`. -/
def Allows (p : Field → Prop) (f : Field) : Prop := ∀ g : Field, g.key = f.key → p g

theorem Allows.among {fs : List Field} {f : Field} (h : f ∈ fs) : Allows (among fs) f := fun _ k => ⟨f, h, k⟩

theorem Allows.left {p q : Field → Prop} {f : Field} (h : Allows p f) : Allows (either p q) f := fun g k => .inl (h g k)

theorem Allows.right {p q : Field → Prop} {f : Field} (h : Allows q f) : Allows (either p q) f := fun g k => .inr (h g k)

theorem Allows.inside {a n : Nat} {f : Field} (h : a ≤ f.key / 32 ∧ f.key / 32 < a + n) : Allows (inside a n) f :=
  fun g k => by unfold Sys2Proof.Machine.inside; rw [k]; exact h

theorem State.Within.refl {s : State} (h : Map.wf s.regs = true) (p : Field → Prop) : State.Within p s s := ⟨h, .refl p s⟩

theorem State.Within.set {p : Field → Prop} {z s : State} (h : State.Within p z s) {f : Field} (a : Allows p f) (v : Nat) :
    State.Within p z (s.set f v) :=
  ⟨State.wf_set h.1 f v, fun g n => by
    rw [State.get_set_other h.1 (fun e => n (a g e))]; exact h.2 g n⟩

/-- A change of anything but the registers. -/
theorem State.Within.of_regs {p : Field → Prop} {z s t : State} (h : State.Within p z s) (e : t.regs = s.regs) :
    State.Within p z t := ⟨by rw [e]; exact h.1, fun g n => (State.get_regs e g).trans (h.2 g n)⟩

theorem State.Within.requestVector {p : Field → Prop} {z s : State} (h : State.Within p z s) (v : Nat) :
    State.Within p z (s.requestVector v) := h.of_regs (by rw [State.requestVector_rest])

theorem State.Within.raiseBlock {p : Field → Prop} {z s : State} (h : State.Within p z s) (a : Allows p R.GLB.INT_STAT.BLOCK)
    (b : Nat) : State.Within p z (s.raiseBlock b) := by
  unfold State.raiseBlock
  dsimp only
  split
  · exact h
  · split
    · exact (h.set a _).requestVector _
    · exact h.set a _

theorem State.Within.evt {p : Field → Prop} {z s : State} (h : State.Within p z s) {f : Field} (a : Allows p f)
    (b : Allows p R.GLB.INT_STAT.BLOCK) : State.Within p z (s.evt f) := by
  unfold State.evt
  dsimp only
  split
  · exact (h.set a _).raiseBlock b _
  · exact h.set a _

theorem State.Within.addCounter {p : Field → Prop} {z s : State} (h : State.Within p z s)
    (a : ∀ i : Nat, i < 1024 → Allows p (R.PMC.CNT.LO.COUNT i) ∧ Allows p (R.PMC.CNT.HI.COUNT i)) (w : Allows p R.PMC.WRAP_IDX.INDEX)
    (e : Allows p R.PMC.EVT.WRAP) (b : Allows p R.GLB.INT_STAT.BLOCK) (fuel i n : Nat) (hi : i < 1024) :
    State.Within p z (s.addCounter fuel i n) := by
  induction fuel generalizing i n s with
  | zero => exact h
  | succ k ih =>
    unfold State.addCounter
    dsimp only
    have h1 := (h.set (a i hi).1 ((s.get2 (R.PMC.CNT.LO.COUNT i) (R.PMC.CNT.HI.COUNT i) + n) % 2 ^ 48)).set (a i hi).2
      ((s.get2 (R.PMC.CNT.LO.COUNT i) (R.PMC.CNT.HI.COUNT i) + n) % 2 ^ 48 / 2 ^ (R.PMC.CNT.LO.COUNT i).width)
    split
    · exact h1
    · split
      · next hc =>
        refine ih ?_ _ _ hc.1
        exact h1.of_regs rfl
      · refine State.Within.evt (State.Within.set ?_ w _) e b
        exact h1.of_regs rfl

theorem State.Within.count {p : Field → Prop} {z s : State} (h : State.Within p z s)
    (a : ∀ f, countField f → p f) (e n : Nat) : State.Within p z (s.count e n) := by
  have cnt : ∀ i : Nat, i < 1024 → Allows p (R.PMC.CNT.LO.COUNT i) ∧ Allows p (R.PMC.CNT.HI.COUNT i) := fun i hi =>
    ⟨fun g k => a g (.inl (Allows.inside (by simp [Field.key, R.PMC.CNT.LO.COUNT]; omega) g k)),
     fun g k => a g (.inl (Allows.inside (by simp [Field.key, R.PMC.CNT.HI.COUNT]; omega) g k))⟩
  have rest : ∀ f ∈ [R.PMC.WRAP_IDX.INDEX, R.PMC.EVT.WRAP, R.GLB.INT_STAT.BLOCK], Allows p f := fun f hf g k =>
    a g (.inr ⟨f, hf, k⟩)
  have all : ∀ i ∈ s.counters e, i < 1024 := by
    intro i hi
    unfold State.counters at hi
    simp only [List.mem_filterMap] at hi
    obtain ⟨x, -, hx⟩ := hi
    split at hx
    · next c => simp only [Option.some.injEq] at hx; simp only [R.PMC.SEL.EVENT] at c hx; omega
    · exact absurd hx (by simp)
  unfold State.count
  generalize s.counters e = l at all
  induction l generalizing s with
  | nil => exact h
  | cons i l ih =>
    exact ih (h.addCounter cnt (rest _ (by simp)) (rest _ (by simp)) (rest _ (by simp)) 1024 i n (all i (by simp)))
      (fun j hj => all j (by simp [hj]))

theorem State.Within.setWords {p : Field → Prop} {z s : State} (h : State.Within p z s) {f : Nat → Field} (i : Nat)
    (bs : List Byte) (a : ∀ j : Nat, i ≤ j → j < i + bs.length → Allows p (f (j / 4))) : State.Within p z (s.setWords f i bs) := by
  induction bs generalizing i s with
  | nil => exact h
  | cons b bs ih =>
    refine ih (h.set (a i (Nat.le_refl _) (by simp)) _) (i + 1) (fun j hj hk => a j (by omega) (by simp; omega))

theorem State.Within.renounce {p : Field → Prop} {z s : State} (h : State.Within p z s) (a : ∀ f, filingField f → p f) :
    State.Within p z s.renounce := by
  have al : ∀ f, filingField f → Allows p f := fun f hf g k => a g (by
    rcases hf with hf | ⟨x, hx, hk⟩
    · exact .inl (by unfold Sys2Proof.Machine.inside at hf ⊢; rw [k]; exact hf)
    · exact .inr ⟨x, hx, k.trans hk⟩)
  unfold State.renounce
  dsimp only
  split
  · exact h
  · have h1 := (h.set (al R.RED.STAT.RENOUNCED (.inr ⟨_, by simp, rfl⟩)) 1).set
      (al R.RED.RENOUNCE_CNT.COUNT (.inr ⟨_, by simp, rfl⟩)) ((s.set R.RED.STAT.RENOUNCED 1).get R.RED.RENOUNCE_CNT.COUNT + 1)
    split
    · exact h1.set (al R.RED.STAT.ROLE (.inr ⟨_, by simp, rfl⟩)) 3
    · exact h1

theorem State.Within.showAlarm {p : Field → Prop} {z s : State} (h : State.Within p z s) (a : Allows p R.FLT.STAT.ALARM) :
    State.Within p z s.showAlarm := h.set a _

theorem State.Within.classAction {p : Field → Prop} {z s : State} (h : State.Within p z s) (a : ∀ f, filingField f → p f)
    (r : FaultRec) : State.Within p z (s.classAction r) := by
  have al : ∀ f, filingField f → Allows p f := fun f hf g k => a g (by
    rcases hf with hf | ⟨x, hx, hk⟩
    · exact .inl (by unfold Sys2Proof.Machine.inside at hf ⊢; rw [k]; exact hf)
    · exact .inr ⟨x, hx, k.trans hk⟩)
  have ai := al R.GLB.INT_STAT.BLOCK (.inr ⟨_, by simp, rfl⟩)
  unfold State.classAction
  dsimp only
  split
  · exact h.set (al R.FLT.NOTE_CNT.COUNT (.inr ⟨_, by simp, rfl⟩)) _
  · exact (((h.set (al R.FLT.DEGRADE_CNT.COUNT (.inr ⟨_, by simp, rfl⟩)) _).set
      (al R.FLT.STAT.DEGRADED (.inr ⟨_, by simp, rfl⟩)) _).set (al R.FLT.STAT.ALARM (.inr ⟨_, by simp, rfl⟩)) _).evt
      (al R.FLT.EVT.DEGRADE (.inr ⟨_, by simp, rfl⟩)) ai
  · have h1 := (((h.set (al R.FLT.SURRENDER_CNT.COUNT (.inr ⟨_, by simp, rfl⟩)) (s.get R.FLT.SURRENDER_CNT.COUNT + 1)).set
      (al R.FLT.STAT.SURRENDERED (.inr ⟨_, by simp, rfl⟩)) 1).showAlarm (al R.FLT.STAT.ALARM (.inr ⟨_, by simp, rfl⟩))).evt
      (al R.FLT.EVT.SURRENDER (.inr ⟨_, by simp, rfl⟩)) ai
    have h2 := h1.setWords (f := R.FLT.LAST_SURR.RECORD) 0 (r.bytes s.logSeq false) (fun j _ hj => al _ (.inl (by
      have : (r.bytes s.logSeq false).length = 32 := by
        unfold FaultRec.bytes
        split <;> simp [leBytes]
      rw [this] at hj
      have hq : j / 4 < 8 := by omega
      simp only [Sys2Proof.Machine.inside, Field.key, R.FLT.LAST_SURR.RECORD]
      omega)))
    split
    · exact h2
    · exact h2.renounce a

theorem State.Within.enqueue {p : Field → Prop} {z s : State} (h : State.Within p z s) (a : ∀ f, filingField f → p f)
    (r : FaultRec) : State.Within p z (s.enqueue r) := by
  have al : ∀ f, filingField f → Allows p f := fun f hf g k => a g (by
    rcases hf with hf | ⟨x, hx, hk⟩
    · exact .inl (by unfold Sys2Proof.Machine.inside at hf ⊢; rw [k]; exact hf)
    · exact .inr ⟨x, hx, k.trans hk⟩)
  have ai := al R.GLB.INT_STAT.BLOCK (.inr ⟨_, by simp, rfl⟩)
  have put : ∀ q : List FaultRec, State.Within p z
      ({ s with flt := { s.flt with queue := q } }.set R.FLT.STAT.QUEUE q.length) := by
    intro q
    generalize hq : { s with flt := { s.flt with queue := q } } = v
    have hv : State.Within p z v := h.of_regs (by rw [← hq])
    exact hv.set (al _ (.inr ⟨_, by simp, rfl⟩)) _
  have drop : ∀ u : State, State.Within p z u → State.Within p z
      (({ u with flt := { u.flt with discarded := u.flt.discarded + 1 } }.inc R.FLT.DROP_CNT.COUNT).evt R.FLT.EVT.DROP) := by
    intro u hu
    generalize hq : { u with flt := { u.flt with discarded := u.flt.discarded + 1 } } = v
    have hv : State.Within p z v := hu.of_regs (by rw [← hq])
    rw [State.inc_eq]
    exact (hv.set (al R.FLT.DROP_CNT.COUNT (.inr ⟨_, by simp, rfl⟩)) _).evt (al R.FLT.EVT.DROP (.inr ⟨_, by simp, rfl⟩)) ai
  unfold State.enqueue
  dsimp only
  split
  · exact put _
  · split
    · split
      · exact drop _ (put _)
      · split
        · exact drop _ (put _)
        · exact drop _ h
    · exact drop _ h

theorem State.Within.file {p : Field → Prop} {z s : State} (h : State.Within p z s) (a : ∀ f, filingField f → p f)
    (k : FaultKind) (e c : Nat) : State.Within p z (s.file k e c) := by
  have h1 : State.Within p z (s.classAction (s.faultRec k e c 0)).bump :=
    (h.classAction a _).of_regs (t := (s.classAction (s.faultRec k e c 0)).bump) rfl
  unfold State.file
  dsimp only
  split
  · exact h1
  · exact h1.enqueue a _

/-! ### What was sent -/

theorem State.SentVectors.refl (s : State) : s.SentVectors s := ⟨[], rfl⟩

theorem State.SentVectors.trans {s t u : State} (h : s.SentVectors t) (k : t.SentVectors u) : s.SentVectors u := by
  obtain ⟨v, hv⟩ := h
  obtain ⟨w, hw⟩ := k
  exact ⟨w ++ v, by rw [hw, hv, List.map_append, List.append_assoc]⟩

/-- The same messages as those of a state in between. -/
theorem State.SentVectors.of_eq {s t u : State} (h : s.SentVectors t) (e : u.emitted = t.emitted) : s.SentVectors u := by
  obtain ⟨v, hv⟩ := h
  exact ⟨v, e.trans hv⟩

theorem State.SentVectors.requestVector {z s : State} (h : z.SentVectors s) (v : Nat) : z.SentVectors (s.requestVector v) := by
  unfold State.requestVector
  split
  · exact h
  · split
    · exact h.of_eq rfl
    · exact h.trans ⟨[v], rfl⟩

theorem State.SentVectors.raiseBlock {z s : State} (h : z.SentVectors s) (b : Nat) : z.SentVectors (s.raiseBlock b) := by
  unfold State.raiseBlock
  dsimp only
  split
  · exact h
  · split
    · exact State.SentVectors.requestVector (h.of_eq (State.set_emitted _ _ _)) _
    · exact h.of_eq (State.set_emitted _ _ _)

theorem State.SentVectors.evt {z s : State} (h : z.SentVectors s) (f : Field) : z.SentVectors (s.evt f) := by
  unfold State.evt
  dsimp only
  split
  · exact State.SentVectors.raiseBlock (h.of_eq (State.set_emitted _ _ _)) _
  · exact h.of_eq (State.set_emitted _ _ _)

theorem State.SentVectors.addCounter {z s : State} (h : z.SentVectors s) (fuel i n : Nat) :
    z.SentVectors (s.addCounter fuel i n) := by
  induction fuel generalizing i n s with
  | zero => exact h
  | succ k ih =>
    unfold State.addCounter
    dsimp only
    rw [State.set2_rest]
    generalize (s.set2 _ _ _).regs = r0
    split
    · exact h.of_eq rfl
    · split
      · refine ih ?_ _ _
        exact h.of_eq rfl
      · refine State.SentVectors.evt ?_ _
        exact h.of_eq (State.set_emitted _ _ _)

theorem State.SentVectors.count {z s : State} (h : z.SentVectors s) (e n : Nat) : z.SentVectors (s.count e n) := by
  unfold State.count
  generalize s.counters e = l
  induction l generalizing s with
  | nil => exact h
  | cons i l ih => exact ih (h.addCounter 1024 i n)

theorem State.SentVectors.classAction {z s : State} (h : z.SentVectors s) (r : FaultRec) :
    z.SentVectors (s.classAction r) := by
  unfold State.classAction
  dsimp only
  split
  · exact h.of_eq rfl
  · refine State.SentVectors.evt ?_ _
    exact h.of_eq rfl
  · have h1 : z.SentVectors (((((s.inc R.FLT.SURRENDER_CNT.COUNT).set R.FLT.STAT.SURRENDERED 1).showAlarm).evt
        R.FLT.EVT.SURRENDER).setWords R.FLT.LAST_SURR.RECORD 0 (r.bytes s.logSeq false)) := by
      rw [State.setWords_rest]
      refine State.SentVectors.of_eq (t := ((s.inc R.FLT.SURRENDER_CNT.COUNT).set R.FLT.STAT.SURRENDERED 1).showAlarm.evt
        R.FLT.EVT.SURRENDER) (State.SentVectors.evt ?_ _) rfl
      exact h.of_eq rfl
    split
    · exact h1
    · rw [State.renounce_rest]
      exact h1.of_eq rfl

theorem State.SentVectors.enqueue {z s : State} (h : z.SentVectors s) (r : FaultRec) : z.SentVectors (s.enqueue r) := by
  have put : ∀ q : List FaultRec, z.SentVectors ({ s with flt := { s.flt with queue := q } }.set R.FLT.STAT.QUEUE q.length) :=
    fun q => h.of_eq rfl
  have drop : ∀ u : State, z.SentVectors u → z.SentVectors
      (({ u with flt := { u.flt with discarded := u.flt.discarded + 1 } }.inc R.FLT.DROP_CNT.COUNT).evt R.FLT.EVT.DROP) := by
    intro u hu
    generalize hq : { u with flt := { u.flt with discarded := u.flt.discarded + 1 } } = v
    have hv : z.SentVectors v := hu.of_eq (by rw [← hq])
    rw [State.inc_eq]
    exact State.SentVectors.evt (hv.of_eq (State.set_emitted _ _ _)) _
  unfold State.enqueue
  dsimp only
  split
  · exact put _
  · split
    · split
      · exact drop _ (put _)
      · split
        · exact drop _ (put _)
        · exact drop _ h
    · exact drop _ h

theorem State.SentVectors.file {z s : State} (h : z.SentVectors s) (k : FaultKind) (e c : Nat) : z.SentVectors (s.file k e c) := by
  have h1 : z.SentVectors (s.classAction (s.faultRec k e c 0)).bump :=
    (h.classAction _).of_eq (u := (s.classAction (s.faultRec k e c 0)).bump) rfl
  unfold State.file
  dsimp only
  split
  · exact h1
  · exact h1.enqueue _

/-! ### The rest of the state -/

/-- Registers, messages and the pending-bit array apart, `s` is `z`. -/
def State.SignalRest (z s : State) : Prop :=
  ∃ r e p, s = { z with regs := r, emitted := e, host := { z.host with pba := p } }

/-- The same, the counters' wrap list apart too. -/
def State.CountRest (z s : State) : Prop :=
  ∃ r e p w, s = { z with regs := r, emitted := e, host := { z.host with pba := p }, pmc := { z.pmc with wrapped := w } }

/-- Registers, messages, the pending-bit array, the free values drawn and FLT's queue apart, `s` is `z`. -/
def State.FilingRest (z s : State) : Prop :=
  ∃ r e p c q d f, s = { z with regs := r, emitted := e, host := { z.host with pba := p }, freeCtr := c,
                                flt := { z.flt with queue := q, discarded := d, firsts := f } }

theorem State.SignalRest.refl (s : State) : s.SignalRest s := ⟨s.regs, s.emitted, s.host.pba, rfl⟩

theorem State.SignalRest.set {z s : State} (h : z.SignalRest s) (f : Field) (v : Nat) : z.SignalRest (s.set f v) := by
  obtain ⟨r, e, p, rfl⟩ := h
  exact ⟨_, e, p, rfl⟩

theorem State.SignalRest.evt {z s : State} (h : z.SignalRest s) (f : Field) : z.SignalRest (s.evt f) := by
  obtain ⟨r, e, p, rfl⟩ := h
  rw [State.evt_rest]
  exact ⟨_, _, _, rfl⟩

theorem State.CountRest.refl (s : State) : s.CountRest s := ⟨s.regs, s.emitted, s.host.pba, s.pmc.wrapped, rfl⟩

theorem State.CountRest.set {z s : State} (h : z.CountRest s) (f : Field) (v : Nat) : z.CountRest (s.set f v) := by
  obtain ⟨r, e, p, w, rfl⟩ := h
  exact ⟨_, e, p, w, rfl⟩

theorem State.CountRest.evt {z s : State} (h : z.CountRest s) (f : Field) : z.CountRest (s.evt f) := by
  obtain ⟨r, e, p, w, rfl⟩ := h
  rw [State.evt_rest]
  exact ⟨_, _, _, w, rfl⟩

theorem State.CountRest.count {z s : State} (h : z.CountRest s) (e n : Nat) : z.CountRest (s.count e n) := by
  obtain ⟨r, em, p, w, rfl⟩ := h
  rw [State.count_rest]
  exact ⟨_, _, _, _, rfl⟩

theorem State.FilingRest.refl (s : State) : s.FilingRest s :=
  ⟨s.regs, s.emitted, s.host.pba, s.freeCtr, s.flt.queue, s.flt.discarded, s.flt.firsts, rfl⟩

theorem State.FilingRest.set {z s : State} (h : z.FilingRest s) (f : Field) (v : Nat) : z.FilingRest (s.set f v) := by
  obtain ⟨r, e, p, c, q, d, fi, rfl⟩ := h
  exact ⟨_, e, p, c, q, d, fi, rfl⟩

theorem State.FilingRest.evt {z s : State} (h : z.FilingRest s) (f : Field) : z.FilingRest (s.evt f) := by
  obtain ⟨r, e, p, c, q, d, fi, rfl⟩ := h
  rw [State.evt_rest]
  exact ⟨_, _, _, c, q, d, fi, rfl⟩

theorem State.FilingRest.file {z s : State} (h : z.FilingRest s) (k : FaultKind) (el ca : Nat) :
    z.FilingRest (s.file k el ca) := by
  obtain ⟨r, e, p, c, q, d, fi, rfl⟩ := h
  rw [State.file_rest]
  exact ⟨_, _, _, _, _, _, fi, rfl⟩

theorem State.OnlyFields.of {p : Field → Prop} {z s : State} (w : State.Within p z s) (r : s = { z with regs := s.regs }) :
    z.OnlyFields p s := ⟨w.2, r⟩

theorem State.OnlySignals.of {p : Field → Prop} {z s : State} (w : State.Within (either p signalField) z s)
    (m : z.SentVectors s) (r : z.SignalRest s) : z.OnlySignals p s := by
  obtain ⟨a, b, c, rfl⟩ := r
  exact ⟨w.2, m, rfl⟩

theorem State.OnlyCounts.of {p : Field → Prop} {z s : State} (w : State.Within (either p countField) z s)
    (m : z.SentVectors s) (r : z.CountRest s) : z.OnlyCounts p s := by
  obtain ⟨a, b, c, d, rfl⟩ := r
  exact ⟨w.2, m, rfl⟩

theorem State.OnlyFilings.of {p : Field → Prop} {z s : State} (w : State.Within (either p filingField) z s)
    (m : z.SentVectors s) (r : z.FilingRest s) : z.OnlyFilings p s := by
  obtain ⟨a, b, c, d, e, f, g, rfl⟩ := r
  exact ⟨w.2, m, rfl⟩

/-- An event bit reads one once it is set. -/
theorem State.get_evt {s : State} (h : Map.wf s.regs = true) (f : Field) (n : f.key ≠ R.GLB.INT_STAT.BLOCK.key) :
    (s.evt f).get f = 2 ^ f.width - 1 := by
  have h0 : (s.set f (2 ^ f.width - 1)).get f = 2 ^ f.width - 1 := by
    rw [State.get_set h]
    exact Nat.mod_eq_of_lt (Nat.sub_lt (Nat.two_pow_pos _) (by decide))
  have hw := State.wf_set h f (2 ^ f.width - 1)
  have hr : ∀ b, ((s.set f (2 ^ f.width - 1)).raiseBlock b).get f = (s.set f (2 ^ f.width - 1)).get f := by
    intro b
    refine (State.Within.raiseBlock (p := fun g => g.key = R.GLB.INT_STAT.BLOCK.key) (State.Within.refl hw _) ?_ b).2 f n
    exact fun g k => k
  unfold State.evt
  dsimp only
  split
  · rw [hr, h0]
  · exact h0

/-- A whole number is its own rounding, either way. -/
theorem State.roundFree_int (s : State) (n : Int) : s.roundFree (n : Rat) = n := by
  unfold State.roundFree
  split
  · exact Rat.floor_intCast n
  · exact Rat.ceil_intCast n

theorem State.roundFree_of (s : State) (x : Rat) (n : Int) (h : x = (n : Rat)) : s.roundFree x = n := by
  rw [h, State.roundFree_int]

end Sys2Proof.Machine
end

