-- ==== Sys2Proof/Tests/Slice0.lean ====
section
/-! SUPPORT. The model's own tests: ill-formed commands that WellFormed refuses, single steps against the manual's worked
examples, and for each statement with hypotheses states and operands that meet them, clause by clause. -/

namespace Sys2Proof.Machine.Tests

set_option Elab.async false

/-! ### Small states -/

/-- The state after reset with some fields set. -/
def put (ws : List (Field × Nat)) : State := ws.foldl (fun s w => s.set w.1 w.2) State.reset

/-- A lane at an instant, its rate zero. -/
def laneAt (u : Nat) : Lane := { Lane.zero with time := linT96 u }

/-- The Hearth running with all lanes alike, and CK_HRT with edges. -/
def runAt (u : Nat) (s : State) : State :=
  { s with clocks := s.clocks ||| 2,
           hearth := { s.hearth with running := true, laneA := laneAt u, laneB := laneAt u, laneC := laneAt u } }

/-- Fields set, the Hearth running at ten seconds. -/
def live (ws : List (Field × Nat)) : State := runAt (10 * secU) (put ws)

/-- Canonical, as a Bool. -/
def canon (s : State) : Bool := Map.wf s.regs && Map.wf s.shadow && Mem.wf dramBlank s.dram && Mem.wf flashBlank s.nvc.flash &&
  decide (s.dramBad.Pairwise (· < ·))

theorem canonical_iff (s : State) : s.Canonical ↔ canon s = true := by
  simp only [canon, Bool.and_eq_true, decide_eq_true_eq]
  exact ⟨fun h => ⟨⟨⟨⟨h.regs, h.shadow⟩, h.dram⟩, h.flash⟩, h.bad⟩,
    fun h => ⟨h.1.1.1.1, h.1.1.1.2, h.1.1.2, h.2, h.1.2⟩⟩

/-- The state is canonical and meets the other hypotheses. -/
def meets (s : State) (p : State → Bool) : Bool := canon s && p s

/-- The Hearth runs with every lane at `l`, as `State.Runs` says it. -/
def runs (l : Lane) (s : State) : Bool :=
  s.ticking && !s.red.startDue && decide (s.hearth.laneA = l) && decide (s.hearth.laneB = l) && decide (s.hearth.laneC = l) &&
    (List.range 3).all fun n => !s.fenced n

theorem runs_iff (l : Lane) (s : State) : s.Runs l ↔ runs l s = true := by
  simp only [runs, Bool.and_eq_true, Bool.not_eq_true', decide_eq_true_eq, List.all_eq_true, List.mem_range]
  exact ⟨fun h => ⟨⟨⟨⟨⟨h.ticking, h.started⟩, h.laneA⟩, h.laneB⟩, h.laneC⟩, fun n hn => h.unfenced ⟨n, hn⟩⟩,
    fun h => ⟨h.1.1.1.1.1, h.1.1.1.1.2, h.1.1.1.2, h.1.1.2, h.1.2, fun n => h.2 n.val n.isLt⟩⟩

/-- A lane as the rules keep it, as `Lane.Regular` says it. -/
def regular (l : Lane) : Bool :=
  decide (l.phase.toNat < 5) && decide (l.acc.toNat < 30517578125) && decide (t96Ns l.time < 1000000000)

theorem regular_iff (l : Lane) : l.Regular ↔ regular l = true := by
  simp only [regular, Bool.and_eq_true, decide_eq_true_eq]
  exact ⟨fun h => ⟨⟨h.phase, h.acc⟩, h.valid⟩, fun h => ⟨h.1.1, h.1.2, h.2⟩⟩

/-- The outcome is a next state of which `p` holds. -/
def nextIs (o : Out) (p : State → Bool) : Bool := match o with | .next t => p t | _ => false

/-! ### Hypotheses of the statements: the whole machine and the Hearth -/

theorem witness_StepKeepsCanonical :
    canon { put [] with pending := [.linkPendingDone 0] } = true ∧
      nextIs (step { put [] with pending := [.linkPendingDone 0] }) (fun t => t.pending.isEmpty) = true := by
  decide +kernel

theorem witness_CommitCopiesShadows :
    canon (put []) = true ∧ commitOf (.slotCommit 15) = some (.refSlot 15, R.REF.SLOT.CTL.COMMIT 15) := by decide +kernel

/-- A commit of the leap group that waits, with one field at the top of its range. -/
def leapWaits : State :=
  { put [(R.TSC.LEAP_CTL.COMMIT, 1)] with
    commits := [⟨.tscLeap, 0, [⟨R.TSC.LEAP_CUR.OFFSET, 65535⟩]⟩] }

theorem witness_AcceptedGroupTakesEffect :
    (meets leapWaits fun s => decide (s.committed .tscLeap = some ⟨.tscLeap, 0, [⟨R.TSC.LEAP_CUR.OFFSET, 65535⟩]⟩) &&
      decide (∀ w ∈ [Waiting.mk R.TSC.LEAP_CUR.OFFSET 65535],
        w.field.key ≠ R.TSC.LEAP_CTL.COMMIT.key ∧ w.value < 2 ^ w.field.width)) = true := by
  decide +kernel

theorem witness_RejectedGroupChangesNothing :
    (meets leapWaits fun s => (s.committed .tscLeap).isSome && !s.nvc.switching.contains .tscLeap &&
      decide (R.TSC.EVT.CFG_REJECTED.key ≠ R.GLB.INT_STAT.BLOCK.key) &&
      decide (R.TSC.LEAP_CTL.COMMIT.key ≠ R.TSC.EVT.CFG_REJECTED.key) &&
      decide (R.TSC.LEAP_CTL.COMMIT.key ≠ R.GLB.INT_STAT.BLOCK.key)) = true := by
  decide +kernel

theorem witness_CommandBitWaits : canon (put [(R.TSC.STAT.SNAP_BUSY, 1)]) = true ∧ canon (put []) = true ∧
    (∀ b ∈ [0, 1], (put [(R.TSC.STAT.FENCED_C, b)]).fenced 2 = (b == 1)) := by decide +kernel

/-- The last tick of a cadence, ACC and the nanoseconds at their ends. -/
def lastLane : Lane := { laneAt (20 * secU - 1) with acc := 30517578124, phase := 4 }

theorem witness_TickFollowsCadence : regular lastLane = true ∧ regular Lane.zero = true := by decide +kernel

theorem witness_FiveTicksAddEightNanoseconds : regular lastLane = true ∧ lastLane.rate = 0 := by decide +kernel

theorem witness_ManyTicksAtOnce : regular lastLane = true := by decide +kernel

theorem witness_HearthTick : (meets (live []) fun s => runs (laneAt (10 * secU)) s && regular (laneAt (10 * secU))) = true := by
  decide +kernel

/-- The Hearth running, with the present tick a second boundary and a loop update, or not. -/
def due (b : Bool) : State := let s := live [(R.TSC.CFG.LOOP_RATE,
    4)]; { s with hearth := { s.hearth with secondDue := b, updateDue := b } }

theorem witness_SecondBoundary :
    regular (laneAt (10 * secU)) = true ∧ t96Sec (laneAt (10 * secU)).time + 1 < 2 ^ 48 ∧
      (∀ b, runs (laneAt (10 * secU)) (due b) = true ∧ (due b).hearth.secondDue = b) := by
  decide +kernel

theorem witness_UpdateAndAnnouncement :
    (∀ b, runs (laneAt (10 * secU)) (due b) = true ∧ (due b).get R.TSC.CFG.LOOP_RATE ≤ 4 ∧ (due b).hearth.updateDue = b) ∧
      (due false).hearth.announced = false ∧ 64 < (laneAt (10 * secU)).ticksTo (due false).toUpdate ∧
      (∀ p : Fin 4, ((due false).flue p.val).resv = []) := by
  decide +kernel

/-- The record of a lane at a tick, all else zero. -/
def recordAt (tick : BitVec 32) (l : Lane) : HearthRecord := ⟨tick, l, 0, 0, none, 0, 0, 1, 0, 0⟩

/-- A time base present, with a tie of tick 0, and some ticks passed. -/
def tied (tick : BitVec 32) : State :=
  let s := live [(R.TDC.STAT.STATE, 2), (R.TDC.STAT.TBASE_PRESENT, 1)]
  { s with clocks := s.clocks ||| 2048, tdc := { s.tdc with ties := [⟨recordAt 0 (laneAt (10 * secU)), 0⟩] },
           hearth := { s.hearth with tick } }

theorem witness_HearthRecord :
    (meets (live []) fun s => s.ticking && decide (s.get R.TDC.STAT.STATE = 0) && decide (s.hearth.tick.toNat % 1024 = 0) &&
      decide (s.hearth.recordTick ≠ some s.hearth.tick) && !s.hearth.updateDue && !s.hearth.secondDue) = true ∧
    (meets (tied 1024) fun s => s.ticking && decide (s.get R.TDC.STAT.STATE ≠ 0) && decide (s.hearth.tick.toNat % 1024 = 0) &&
      !ratioBad (tieRatio ((⟨s.record, 1638400⟩ :: s.tdc.ties).take 16))) = true ∧
    (meets (due true) fun s => s.ticking && decide (s.hearth.tick.toNat % 1024 = 0) && s.hearth.updateDue &&
        s.hearth.secondDue) = true ∧
    (meets (tied 1) fun s => s.ticking && decide (s.hearth.tick.toNat % 1024 ≠ 0) && decide (1023 ≤ s.ticksToUpdate)) = true ∧
    (meets (runAt (11 * secU - 65536) (tied 1)) fun s => s.ticking && decide (s.ticksToUpdate < 1023)) = true := by
  decide +kernel

theorem witness_SoftwareRateCommits : canon (live []) = true ∧ (meets (due true) fun s => s.ticking && s.hearth.updateDue) = true ∧
    (∀ u ∈ [10 * secU, 11 * secU - 65536], decide ((runAt u (live [])).leadTicks < 128) = (u != 10 * secU)) := by decide +kernel

theorem witness_RateLimits :
    (put []).get R.TSC.STAT.STATE = 0 ∧ (put [(R.TSC.STAT.STATE, 1)]).get R.TSC.STAT.STATE ≠ 0 ∧
      (∃ p : Int, -(min ((put []).get R.TSC.SLEW.MAX) 500000 * 1000 : Int) ≤ p ∧
        ((put [(R.TSC.STAT.STATE, 1)]).planRate 0 fun _ => p).prop = p) ∧
      (let r := (put []).planRate (2 ^ 39 - 1) fun _ => 1
       r.integClamped = false ∧ r.rate ≠ 2 ^ 39 - 1 + 1) := by
  exact ⟨by decide +kernel, by decide +kernel, ⟨0, by decide +kernel, by decide +kernel⟩, by decide +kernel⟩

/-- A step executed in the present tick. -/
def stepped : State := let s := live [(R.TSC.STAT.STATE, 2)]; { s with hearth := { s.hearth with stepTick := some s.hearth.tick } }

theorem witness_StepArm :
    (meets stepped fun s => decide (s.hearth.stepTick = some s.hearth.tick)) = true ∧
    (meets (due true) fun s => decide (s.hearth.stepTick ≠ some s.hearth.tick) && s.hearth.updateDue) = true ∧
    (∀ st ∈ [1, 2], (meets (live [(R.TSC.STAT.STATE, st)]) fun s => decide (s.hearth.stepTick ≠ some s.hearth.tick) &&
      !s.hearth.updateDue && (decide (s.get R.TSC.STAT.STATE = 2) == (st == 2))) = true) := by
  decide +kernel

theorem witness_SnapshotLatches :
    (∀ b, (meets ((due b).set R.TSC.STAT.SNAP_BUSY 1) fun s => s.ticking && s.flag R.TSC.STAT.SNAP_BUSY &&
      decide (t96Ns s.voted.time < 1000000000) && (s.hearth.updateDue == b)) = true) := by
  decide +kernel

/-- The query instant of the last nanosecond of a second. -/
def query (sec ns : Nat) : List (Field × Nat) := [(R.EBD.QUERY_NS.NS, ns), (R.EBD.QUERY_SEC_LO.SEC, sec)]

theorem witness_ErrorBoundQuery :
    (meets (put [(R.EBD.STAT.QUERY_BUSY, 1)]) fun s => s.flag R.EBD.STAT.QUERY_BUSY) = true ∧
    (meets (put (query 9 999999999)) fun s => !s.flag R.EBD.STAT.QUERY_BUSY && decide (s.get R.EBD.QUERY_NS.NS < 1000000000) &&
      !s.hearth.running) = true ∧
    (∀ sec ∈ [9, 10, 12], (meets (live (query sec 999999999)) fun s => s.hearth.running &&
      decide (s.get R.EBD.QUERY_NS.NS < 1000000000)) = true) ∧
    (meets (live (query 10 1000000000)) fun s => !s.flag R.EBD.STAT.QUERY_BUSY &&
        decide (1000000000 ≤ s.get R.EBD.QUERY_NS.NS)) = true := by
  decide +kernel

/-! ### Hypotheses: references and interval measurement -/

/-- Slot `n` in a state of a kind, with what is behind its registers. -/
def slotAs (n st kind : Nat) (r : RefSlot) (s : State) : State :=
  { (s.set (R.REF.SLOT.STAT.STATE n) st).set (R.REF.SLOT.CFG.KIND n) kind with ref := Map.put s.ref n r }

theorem witness_ReferencePresence :
    (∀ st ∈ [0, 2], (meets (slotAs 7 st 1 { RefSlot.empty with outOfRate := 1 } (put [(R.REF.SLOT.NOM.NOM 7, 1000)])) fun s =>
      decide (1000 ≤ s.get (R.REF.SLOT.NOM.NOM 7)) && (s.slotActive 7 == (st == 2)) && decide (2 ≤ (s.slot 7).outOfRate + 1) &&
        decide (s.get (R.REF.SLOT.NOM.NOM 7) + 2000000 < ((2 : Int) ^ 32 - 1) * 1000000 - s.get
            (R.REF.SLOT.NOM.NOM 7) * 1000)) = true) ∧
    (∀ st ∈ [0, 2], (meets (slotAs 7 st 1 RefSlot.empty (put [(R.REF.SLOT.NOM.NOM 7, 999)])) fun s =>
      decide (s.get (R.REF.SLOT.NOM.NOM 7) < 1000) && (s.slotActive 7 == (st == 2))) = true) := by
  decide +kernel

theorem witness_MissesAndHoldoff :
    (∀ misses ∈ [0, 7], (meets (slotAs 7 2 1 { RefSlot.empty with lastEdge := some (10 * secU - secU / 2), misses }
        (live [(R.REF.SLOT.TIMING.MISS_N 7, 8)]))
      fun s => !s.slotsDiscard && s.ticking && s.slotActive 7 && decide (s.slotKind 7 ≠ 0) &&
        decide ((s.slot 7).lastEdge = some (10 * secU - secU / 2)) && decide ((1000000000 : Int) * 65536 / 2 ≤ s.now -
            (10 * secU - secU / 2)) &&
        (decide ((s.slot 7).misses + 1 < s.get (R.REF.SLOT.TIMING.MISS_N 7)) == (misses == 0)))) ∧
    (∀ u ∈ [0, 1], (meets (slotAs 15 3 1 { RefSlot.empty with lastObs := 10 * secU - secU / 5 + u } (live [])) fun s =>
        !s.slotsDiscard &&
      s.slotActive 15 && (decide (2 * s.obsInterval 15 ≤ s.now - (s.slot 15).lastObs) == (u == 0))) = true) ∧
    (meets (slotAs 8 4 1 { RefSlot.empty with holdEnd := 10 * secU } (live [])) fun s => !s.slotsDiscard &&
        decide (s.slotState 8 = 4) &&
      s.hearth.running && decide ((s.slot 8).holdEnd ≤ s.now) && !(s.slot 8).sourceBad) = true ∧
    (meets (slotAs 15 4 1 { RefSlot.empty with holdEnd := 10 * secU + 1 } (live [])) fun s => !s.slotsDiscard &&
      s.hearth.running && decide (s.now < (s.slot 15).holdEnd)) = true ∧
    (meets (slotAs 15 4 1 RefSlot.empty (put [])) fun s => !s.slotsDiscard && decide (s.slotState 15 = 4) &&
        !s.hearth.running) = true := by
  decide +kernel

/-- A binary record for a TAI second (R209). -/
def record (second : Nat) : List Byte :=
  let m : List Byte := [0xC3, 0x3C, 0x01, 0x20] ++ beBytes 6 second ++ List.replicate 20 0
  m ++ beBytes 2 (crc16 (slice m 2 28))

/-- A TIME slot that takes binary messages, some nanoseconds after its last pulse. -/
def labelling (after_ : Nat) : State :=
  slotAs 7 3 2 { RefSlot.empty with edgeWait := some (10 * secU - after_ * 65536), lastLabel := some 8 }
    (live [(R.REF.SLOT.TOD.EN 7, 1), (R.REF.SLOT.TOD.FORMAT 7, 1)])

theorem witness_TimeOfDayMessages :
    (∀ after_ ∈ [19999999, 20000000, 980000001], (meets (labelling after_) fun s => decide (s.todLabel 7 (record 10) = some 10) &&
      decide ((s.slot 7).edgeWait = some (10 * secU - after_ * 65536)) && decide ((s.slot 7).lastLabel = some 8) &&
      decide ((s.slot 7).todErr + 1 < s.get (R.REF.SLOT.TOD.ERR_N 7))) = true) ∧
    (meets (labelling 20000000) fun s =>
      s.ticking && decide (s.slotState 7 ≠ 0) && decide (s.slotKind 7 = 2) && s.flag (R.REF.SLOT.TOD.EN 7) && s.slotActive 7 &&
      decide (s.todLabel 7 [] = none) && decide (s.todLabel 7 (record 9) = some 9) && !s.flag (R.REF.SLOT.TOD.ALIGN 7) &&
      decide ((20000000 : Int) * 65536 ≤ s.now - (10 * secU - 20000000 * 65536)) &&
      decide (s.now - (10 * secU - 20000000 * 65536) ≤ (980000000 : Int) * 65536)) = true := by
  decide +kernel

/-- A channel of the TDC with what is behind its registers, in READY, one tie at ten seconds and TDC-base zero. -/
def channelAs (n owner : Nat) (c : TdcCh) : State :=
  let s := (tied 0).set (R.TDC.CH.STAT.OWNER n) owner
  { s with tdc := { s.tdc with chans := [(n, c)], tables := [(n, [0, 800])] },
           hearth := { s.hearth with replicas := [(11, ⟨true, 2, [recordAt 0 (laneAt (10 * secU))], none⟩)] } }

/-- A capture of a rising edge whose registers all name one bin. -/
def capture (coarse bin : Nat) : Capture := ⟨true, coarse, bin, bin, bin, bin⟩

/-- The stamp of a capture whose table values come to whole ps. -/
theorem raw_of (s : State) (n : Nat) (c : Capture) (u : Int) (h : 4000 * (c.coarse : Rat) - s.tdcFine n c =
    (u : Rat)) : s.tdcRaw n c = u := by
  rw [State.tdcRaw, h, State.roundFree_int]

/-- Channel 23 of the host, its last accepted edge at `e` ps, its divider `d` edges short of a divided one. -/
def stamping (e d : Nat) : State :=
  ((channelAs 23 0 ⟨[], false, none, some e, 0⟩).set (R.TDC.CH.CFG.EN 23) 1).set (R.TDC.CH.DIV.DIV 23) (d + 1)

/-- The capture of the next theorem stamps 8,000 ps on channel 23. -/
theorem stamping_raw (e d : Nat) (h : e ∈ [0, 1] ∧ d ∈ [0, 1]) : (stamping e d).tdcRaw 23 (capture 2 0) = 8000 := by
  refine raw_of _ _ _ 8000 ?_
  simp only [List.mem_cons, List.not_mem_nil, or_false] at h
  rcases h with ⟨rfl | rfl, rfl | rfl⟩ <;> decide +kernel

theorem witness_TdcRecords :
    (∀ e ∈ [0, 1], ∀ d ∈ [0, 1], (meets (stamping e d) fun s =>
      s.tdcOn 23 && s.edgeActive 23 true && !s.edgeActive 23 false && decide ((s.tdcCh 23).lastEdge = some (e : Int)) && s.hearth.running && decide (s.tdcOwner 23 = 0) &&
      decide (((s.tdcCh 23).divided + 1) % max 1 (s.tdcDiv 23) = d) &&
      decide (s.get (R.TDC.CH.CFG.MODE 23) = 0) && decide ((s.tdcCh 23).queue.length < 16) &&
      decide ((s.tdcStamp (8000 - 3200 + s.sget (R.TDC.CH.SKEW.PS 23))).map Prod.fst = some (10 * secU + 314573)) &&
      decide (4000 * ((capture 2 0).coarse : Rat) - s.tdcFine 23 (capture 2 0) = ((8000 : Int) : Rat)) &&
      decide (∀ m : Fin 32, s.tdcMode m = 1 → s.get (R.TDC.CH.CFG.STOP_CH m) ≠ 23)) = true) ∧
    (meets (let s := stamping 0 0; { s with tdc := { s.tdc with ties := [] } }) fun s => s.hearth.running &&
      (s.tdcStamp (8000 - 3200 + s.sget (R.TDC.CH.SKEW.PS 23))).isNone) = true ∧
    (let s := stamping 0 0; canon { s with hearth := { s.hearth with running := false } } = true) ∧
    (meets (channelAs 31 0 ⟨[⟨true, false, true, true, false, true, false, 2 ^ 64 - 1⟩], true, some ⟨0, none, 0, 0⟩, none,
        0⟩) fun s => decide ((s.tdcCh 31).queue.length = 1) &&
      decide ((s.tdcCh 31).opened = some ⟨0, none, 0, 0⟩) && decide (s.tdcOwner 31 = 0)) = true ∧
    (meets (put []) fun s => decide ((s.tdcCh 0).queue = [])) = true := by
  decide +kernel

/-- A PHASE slot that qualifies, with its channel. -/
def pulsed : State := slotAs 7 2 1 RefSlot.empty (channelAs 7 1 ⟨[], false, none, none, 0⟩)

theorem witness_ReferenceEdge :
    (meets pulsed fun s =>
      s.tdcOn 7 && !s.flag (R.REF.SLOT.CFG.POL 7) && decide (s.tdcOwner 7 = 1) && s.hearth.running && decide ((s.tdcCh 7).lastEdge = none) &&
      decide ((s.tdcStamp (3200 - 3200 + s.sget (R.TDC.CH.SKEW.PS 7))).map (fun x => (x.1,
          x.2.stepSum)) = some ((10 * secU : Int), (0 : Int))) &&
      decide (s.hearth.stepSum = 0) && s.slotActive 7 &&
      decide (s.slotKind 7 = 1) && !s.slotsDiscard && decide ((s.slot 7).hist.length < 4) && s.inWindow 7 (10 * secU)) = true ∧
    pulsed.tdcRaw 7 (capture 1 1) = 3200 :=
  ⟨by decide +kernel, raw_of _ _ _ 3200 (by decide +kernel)⟩

/-- Windows run in or out of range, in succession. -/
def windows (good bad : Nat) (ws : List (Field × Nat)) : State :=
  let s := put ws
  { s with tdc := { s.tdc with good, bad } }

theorem witness_TimeBase :
    (∀ good ∈ [0, 1], (meets (windows good 0 []) fun s => decide (s.get R.TDC.STAT.STATE = 0) && !s.flag R.TDC.STAT.TBASE_PRESENT &&
      decide (s.tdc.bad = 0)) = true) ∧
    (meets (windows 0 1 [(R.TDC.STAT.TBASE_PRESENT, 1)]) fun s => decide (s.get R.TDC.STAT.STATE = 0) &&
      s.flag R.TDC.STAT.TBASE_PRESENT && decide (s.tdc.bad = 1)) = true ∧
    (∀ bad ∈ [0, 1], (meets (windows 0 bad [(R.TDC.STAT.STATE, 1), (R.TDC.STAT.TBASE_PRESENT, 1)]) fun s =>
      decide (s.get R.TDC.STAT.STATE = 1) && s.flag R.TDC.STAT.TBASE_PRESENT && decide (s.tdc.ties.length < 2)) = true) ∧
    (∀ once, (let s := windows 0 0 [(R.TDC.STAT.STATE, 1), (R.TDC.STAT.TBASE_PRESENT, 1)]
      meets { s with tdc := { s.tdc with ties := List.replicate 2 ⟨recordAt 0 Lane.zero, 0⟩, lossSince := true, readyOnce := once } } fun s =>
        decide (s.get R.TDC.STAT.STATE = 1) && decide (2 ≤ s.tdc.ties.length) && s.tdc.lossSince &&
            (s.tdc.readyOnce == once)) = true) ∧
    (let nom := (put []).get R.TDC.TBASE.NOM
     let count := (nom * 1953125 + 10 ^ 9 - 1) / 10 ^ 9
     9 * (nom * 1953125) ≤ 10 * count * 10 ^ 9 ∧ 10 * count * 10 ^ 9 ≤ 11 * (nom * 1953125) ∧
       ¬9 * (nom * 1953125) ≤ 10 * 0 * 10 ^ 9) := by
  decide +kernel

/-! ### Hypotheses: selection, the oscillator, the synthesizers -/

/-- MEASURE begun at zero, with its held counts. -/
def measuring (timeout : Nat) : State :=
  let s := live [(R.SEL.STAT.STATE, 3)]
  { s with sel := { s.sel with heldMeasN := 1, heldTimeout := timeout, wtrEnd := [(15, 10 * secU)] } }

theorem witness_SelectionTimers :
    (meets (measuring 10) fun s => decide (s.selState = 3) && decide (s.sel.measN < s.sel.heldMeasN) &&
      decide (s.sel.measStart + s.sel.heldTimeout * ((1000000000 : Int) * 65536) ≤ s.now) &&
      Map.wf s.sel.wtrEnd && decide (Map.get? s.sel.wtrEnd 15 = some (10 * secU)) && decide ((10 * secU : Int) ≤ s.now)) = true ∧
    (meets (measuring 11) fun s => decide (s.now < s.sel.measStart + s.sel.heldTimeout * ((1000000000 : Int) * 65536))) = true := by
  decide +kernel

/-- LOCKED at some second, 640 s of it past, with one value of F recorded. -/
def sampling (sec : Nat) (bad : Bool) : State :=
  let s := runAt (sec * secU) (put [(R.SEL.STAT.STATE, 1), (R.TSC.STAT.STATE, 1), (R.OSC.STAT.MOD_LOCK, 1)])
  { s with sel := { s.sel with acc64 := [⟨0, 0, 0⟩], accBad := bad, accSince := 640 * secU } }

theorem witness_DriftModelSample :
    (∀ bad, (meets (sampling 704 bad) fun s => decide (s.selState = 1) &&
      decide (s.sel.accSince + 64 * ((1000000000 : Int) * 65536) ≤ s.now) && s.sel.acc64.all (fun y => decide (y.t ≤ s.now)) &&
      decide (s.sel.acc64 ≠ []) && (s.sel.accBad == bad) && s.modelConditions &&
      decide (s.sel.lockedSince + 640 * ((1000000000 : Int) * 65536) ≤ s.sel.accSince)) = true) ∧
    (meets (sampling 703 false) fun s => decide (s.now < s.sel.accSince + 64 * ((1000000000 : Int) * 65536))) = true ∧
    (meets (put []) fun s => decide (s.selState ≠ 1)) = true := by
  decide +kernel

/-- The oscillator's identity side. -/
def identified (fails : Nat) (ws : List (Field × Nat)) : State :=
  let s := put ws
  { s with osc := { s.osc with idRead := true, idFails := fails }, nvc := { s.nvc with stage := 5 } }

theorem witness_OscillatorIdentity :
    (meets (identified 0 [(R.OSC.ID.ID, crc32c [1])]) fun s => s.osc.idRead && decide (5 ≤ s.nvc.stage) &&
      decide (crc32c [1] = s.get R.OSC.ID.ID) && decide (crc32c [1] ≠ 0) && decide (crc32c [2] ≠ s.get R.OSC.ID.ID) &&
      decide (s.osc.idFails ≠ 2)) = true ∧
    (meets (identified 2 []) fun s => decide (s.osc.idFails = 2) && decide (s.get R.OSC.ID.ID = 0) && s.osc.idRead) = true ∧
    (∀ ago ∈ [59, 60], (let s := runAt (70 * secU) (put [])
      meets { s with osc := { s.osc with idPollAt := some ((70 - ago) * secU) } } fun s =>
        (s.passed s.osc.idPollAt (s.get R.OSC.I2C.POLL * (1000000000 * 65536)) == (ago == 60))) = true) := by
  decide +kernel

/-- An oscillator whose class exposes current and temperature. -/
def exposing (polls : Nat) (ws : List (Field × Nat)) : State :=
  let s := live ws
  { s with osc := { s.osc with wearPolls := polls, classes := [(s.get R.OSC.CFG.CLASS, { s.oscClass with hasCurrent := true, hasTemp := true })] } }

theorem witness_OscillatorStatus :
    (meets (exposing 1 [(R.RED.STAT.HOLDING, 1), (R.OSC.LIFE.CUR_MIN, 1)]) fun s => s.flag R.RED.STAT.HOLDING &&
        s.oscClass.hasCurrent &&
      s.oscClass.hasTemp && decide (s.osc.wearPolls = 1) && decide (0 < s.get R.OSC.LIFE.CUR_MIN) && s.hrtRuns &&
      decide (s.get R.OSC.RUN_HOURS.HOURS + 1 < 2 ^ R.OSC.RUN_HOURS.HOURS.width) && !s.flag R.OSC.STAT.MOD_LOCK) = true ∧
    (∀ h ∈ [6, 7], (meets (exposing 0 [(R.OSC.STAT.MOD_LOCK, 1), (R.OSC.RUN_HOURS.HOURS, 7), (R.OSC.LIFE_HOURS.HOURS, h)]) fun s =>
      s.flag R.OSC.STAT.MOD_LOCK && (decide (s.get R.OSC.RUN_HOURS.HOURS = s.get R.OSC.LIFE_HOURS.HOURS) == (h == 7))) = true) ∧
    (∀ due, (let s := exposing 0 [(R.RED.STAT.HOLDING, 1)]
      let at_ : Option Int := if due then none else s.mark
      meets { s with osc := { s.osc with statPollAt := at_, hourAt := at_ } } fun s =>
        (s.passed s.osc.statPollAt (s.get R.OSC.UART.STAT_POLL * (1000000000 * 65536)) == due) &&
        (s.passed s.osc.hourAt (3600 * (1000000000 * 65536)) == due)) = true) := by
  decide +kernel

/-- A steering command in flight behind one that went the other way. -/
def steering (fails : Nat) (transfer uart : Bool) (sentAt : Option Int) : State :=
  let s := live [(R.SEL.STAT.STATE, 4)]
  { s with osc := { s.osc with flight := [⟨3, false, !uart, none⟩] ++ [⟨-5, transfer, uart, sentAt⟩], ackFails := fails },
           spi := { s.spi with current := some .dac } }

theorem witness_OscillatorCommands :
    (meets (put [(R.TSC.LOOP.OWNER, 1), (R.OSC.CFG.MODE, 1)]) fun s => s.damperOpen && decide (s.oscMode ≠ 0)) = true ∧
    (meets (put []) fun s => !s.damperOpen || decide (s.oscMode = 0)) = true ∧
    (∀ ago ∈ [99, 100, 101], (let s := live []
      let at_ : Option Int := s.mark.map (· - ago * (1000000 * 65536))
      meets s fun s => (s.within at_ (s.get R.OSC.UART.ACK_TO * (10000000 * 65536)) == decide (ago ≤ 100)) &&
        (s.passed at_ (s.get R.OSC.UART.ACK_TO * (10000000 * 65536)) == decide (100 ≤ ago))) = true) ∧
    (∀ fails ∈ [0, 1], ∀ uart, (meets (steering fails (fails == 1) uart none) fun s =>
      decide (s.osc.flight = [⟨3, false, !uart, none⟩] ++ ⟨-5, fails == 1, uart, none⟩ :: []) && decide (s.selState = 4) &&
      decide (s.osc.ackFails = fails) && !s.flag R.OSC.STAT.STEER_DIS && decide (s.spi.current = some .dac) &&
      s.spi.dac.isNone && decide (∀ n : Fin 4, s.scriptHead n = none) && s.spi.host.isNone) = true) := by
  decide +kernel

/-- A search of a synthesizer under way, its reference present. -/
def searching (n st band trials : Nat) (ws : List (Field × Nat)) : State :=
  let s := put ([(R.SYN.CH.STAT.STATE n, st), (R.SYN.CH.STAT.REF_PRESENT n, 1), (R.SYN.BAND.LO 0, 1), (R.SYN.BAND.HI 0, 65535)] ++ ws)
  { s with nvc := { s.nvc with stage := 3 },
           syn := { s.syn with chans := [(n, { SynCh.empty with band, trials, copy := [(1, 65535), (1, 65535)] })] } }

theorem witness_BandSearch :
    (meets (searching 0 0 0 0 []) fun s => decide (s.synState 0 = 0) && decide (3 ≤ s.nvc.stage) && !(s.synCh 0).locked &&
      !s.flag (R.SYN.CH.BAND_CFG.FORCE_EN 0) && decide (firstBand s.bandTable (s.synVco 0) = some 0)) = true ∧
    (∀ trials ∈ [1, 2], (meets (searching 3 1 0 trials []) fun s => decide (s.synState 3 = 1) &&
        s.flag (R.SYN.CH.STAT.REF_PRESENT 3) &&
      (let g : Rat := (s.get (R.SYN.CH.BAND_CFG.GUARD 3) * 250000 : Nat)
       let top : Rat := ((2 ^ 32 - 1 : Nat) : Rat) * s.synPfd 3 / 4096
       decide (0 + g ≤ s.synVco 3) && decide (s.synVco 3 ≤ top - g) && decide (¬s.synVco 3 ≤ 0 - g)) &&
      (decide (2 ≤ (s.synCh 3).trials) == (trials == 2)) && bandOn ((s.synCh 3).copy.getD 1 (0, 0))) = true) := by
  decide +kernel

/-- A synthesizer in ACQUIRE or LOCKED, with counts of windows and passes. -/
def windowed (n st windows passes : Nat) : State :=
  let s := put [(R.SYN.CH.STAT.STATE n, st), (R.SYN.CH.STAT.REF_PRESENT n, 1)]
  { s with syn := { s.syn with chans := [(n, { SynCh.empty with windows, passes })] } }

/-- The count of a window with no error, as nearly as a whole number comes to it. -/
def exactCount (s : State) (n : Nat) : Nat := (s.synNeff n * (2 ^ (10 + s.get (R.SYN.CH.LOCKDET.WIN n)) : Nat)).floor.toNat

/-- The error of a window in ppb. -/
def windowError (s : State) (n count : Nat) : Rat :=
  let want : Rat := s.synNeff n * (2 ^ (10 + s.get (R.SYN.CH.LOCKDET.WIN n)) : Nat)
  if want = 0 then 0 else ((count : Rat) - want) / want * (10 ^ 9 : Nat)

theorem witness_LockWindow :
    (meets (windowed 3 2 0 ((put []).get (R.SYN.CH.LOCKDET.LOCK_CNT 3))) fun s => s.flag (R.SYN.CH.STAT.REF_PRESENT 3) &&
      decide (s.synState 3 = 2) && decide (s.get (R.SYN.CH.LOCKDET.LOCK_CNT 3) ≤ (s.synCh 3).passes + 1) &&
      decide (-(s.get (R.SYN.CH.LOCKDET.LOCK_TOL 3) : Rat) ≤ windowError s 3 (exactCount s 3)) &&
      decide (windowError s 3 (exactCount s 3) ≤ (s.get (R.SYN.CH.LOCKDET.LOCK_TOL 3) : Rat))) = true ∧
    (meets (windowed 3 2 62 0) fun s => decide (s.synState 3 = 2) && decide (0 < s.get (R.SYN.CH.LOCKDET.LOCK_CNT 3)) &&
      decide ((s.synCh 3).windows + 1 < 64) && decide (¬-(s.get (R.SYN.CH.LOCKDET.LOCK_TOL 3) : Rat) ≤ windowError s 3 0)) = true ∧
    (∀ auto ∈ [0, 1], (meets ((windowed 0 3 0 0).set (R.SYN.CH.CFG.AUTO_RELOCK 0) auto) fun s =>
      (s.flag (R.SYN.CH.CFG.AUTO_RELOCK 0) == (auto == 1)) && decide (s.synState 0 = 3) && s.flag (R.SYN.CH.STAT.REF_PRESENT 0) &&
      decide (windowError s 0 0 < -(s.get (R.SYN.CH.LOCKDET.UNLOCK_TOL 0) * 10 : Nat)) &&
      decide (-((s.get (R.SYN.CH.LOCKDET.UNLOCK_TOL 0) * 10 : Nat) : Rat) ≤ windowError s 0 (exactCount s 0)) &&
      decide (windowError s 0 (exactCount s 0) ≤ ((s.get (R.SYN.CH.LOCKDET.UNLOCK_TOL 0) * 10 : Nat) : Rat))) = true) := by
  decide +kernel

theorem witness_SynthesizerReference :
    (∀ st ∈ [0, 3], (meets (put [(R.SYN.CH.STAT.STATE 3, st), (R.SYN.CH.STAT.REF_PRESENT 3, 1)]) fun s =>
      s.flag (R.SYN.CH.STAT.REF_PRESENT 3) && decide (s.synState 3 = st)) = true) ∧
    (∀ st ∈ [0, 1, 2, 3, 4, 5], (meets (put [(R.SYN.CH.STAT.STATE 3, st)]) fun s =>
      !s.flag (R.SYN.CH.STAT.REF_PRESENT 3) && decide (s.synState 3 = st)) = true) ∧
    (put [(R.SYN.CH.CFG.AUTO_RELOCK 3, 1)]).flag (R.SYN.CH.CFG.AUTO_RELOCK 3) = true ∧
    (put [(R.SYN.CH.CFG.AUTO_RELOCK 3, 0)]).flag (R.SYN.CH.CFG.AUTO_RELOCK 3) = false ∧
    (let s := put []; canon { s with syn := { s.syn with coastDue := true } } = true ∧ ∀ p : Fin 4, (s.flue p.val).resv = []) := by
  decide +kernel

/-! ### Hypotheses: outputs, self-tests -/

/-- An output with what is behind its registers. -/
def outputAs (n : Nat) (o : OutCh) (s : State) : State := { s with out := { s.out with chans := [(n, o)], drive := true } }

/-- The calibration's loop on output 15, one edge measured of one. -/
def measured (e : Int) : State :=
  let s := put [(R.TDC.STAT.STATE, 2), (R.OUT.CFG.EN 15, 1), (R.OUT.CAL.EN 15, 1), (R.OUT.CAL.AVG 15, 0),
      (R.OUT.STAT.ALIGN_STATE 15, 2),
    (R.OUT.STAT.DRIVING 15, 1)]
  { s with out := { s.out with calTurn := 15, calOut := some 15, calErrs := [(e : Rat)] } }

theorem witness_OutputsAndCalibration :
    (meets (outputAs 15 { OutCh.empty with alignAt := some (10 * secU) }
        (live [(R.OUT.STAT.ALIGN_STATE 15, 1), (R.SYN.CH.STAT.STATE ((put []).get (R.OUT.CFG.SRC 15)), 3)])) fun s =>
      decide ((s.outCh 15).alignAt = some (10 * secU)) && decide (s.alignState 15 = 1) &&
      decide ((10 * secU : Int) + psU (s.sget (R.OUT.TRIM.PS 15)) ≤ s.now) && s.srcLocked 15 &&
      !s.flag (R.OUT.STAT.TRIM_SLEWING 15)) = true ∧
    (meets (put [(R.OUT.STAT.TRIM_SLEWING 0, 1)]) fun s => s.flag (R.OUT.STAT.TRIM_SLEWING 0)) = true ∧
    (∀ e ∈ [1000, -1001], (meets (measured e) fun s => decide (s.calServed = some 15) && decide (s.out.calOut = some 15) &&
      decide (s.out.calErrs.length = 2 ^ s.get (R.OUT.CAL.AVG 15)) &&
      decide (s.out.calErrs.sum / (s.out.calErrs.length : Nat) = (e : Rat)) &&
      (decide (e.natAbs ≤ s.get (R.OUT.CAL.LIMIT 15)) == decide (e = 1000)) && !decide (s.calServed = some 0)) = true) ∧
    (∀ since, (meets (outputAs 15 { OutCh.empty with since } (live [(R.OUT.STAT.TRIM_SLEWING 15, 1)])) fun s =>
      ((s.outCh 15).since == since) && s.flag (R.OUT.STAT.TRIM_SLEWING 15)) = true) := by
  decide +kernel

/-- The mean of an error is that error, whichever way it is rounded. -/
theorem measured_mean (e : Int) (he : e ∈ [1000, -1001]) :
    (measured e).roundFree ((measured e).out.calErrs.sum / ((measured e).out.calErrs.length : Nat)) = e := by
  simp only [List.mem_cons, List.not_mem_nil, or_false] at he
  rcases he with rfl | rfl <;> exact State.roundFree_of _ _ _ (by decide +kernel)

/-- An event line's registers with a start at a second and nanosecond. -/
def lineStart (m sec ns : Nat) : List (Field × Nat) :=
  [(R.OUT.TEV.START_NS.NS m, ns), (R.OUT.TEV.START_SEC_LO.SEC m, sec), (R.OUT.TEV.CFG.COUNT m, 1)]

/-- A line armed. -/
def armed (m : Nat) (l : TevLine) (s : State) : State := { s with out := { s.out with tev := [(m, l)], drive := true } }

theorem witness_MessagesAndEventLines :
    (∀ ms ∈ [0, 1], ∀ u ∈ [0, 100], (meets (armed 15 ⟨10 * secU, 0, 1, false, 10, 0⟩ (runAt (10 * secU + u * 65536)
        (put [(R.OUT.TOD.CFG.START_MS 1, ms)]))) fun s =>
      let off : Int := (inSecond s.now : Int) - s.get (R.OUT.TOD.CFG.START_MS 1) * (1000000 * 65536)
      (decide (off < -(100 * 65536)) == (ms == 1)) && decide (off ≤ 100 * 65536) &&
          decide (Map.get? s.out.todLast 1 ≠ some s.second)) = true) ∧
    (meets (armed 15 ⟨10 * secU, 0, 1, false, 10, 0⟩ (live [(R.OUT.TOD.CFG.EN 1, 1), (R.TSC.STAT.STATE, 1),
        (R.OUT.TOD.CFG.START_MS 1, 0)])) fun s =>
      s.ticking && s.flag (R.OUT.TOD.CFG.EN 1) && s.out.drive && decide (s.get R.TSC.STAT.STATE ≠ 0) &&
      (Map.get? s.out.tev 15).isSome && Map.wf s.out.tev &&
      decide ((10 * secU : Int) + (0 : Nat) * (0 : Nat) ≤ s.now)) = true ∧
    (meets (armed 15 ⟨10 * secU, 1000 * 65536, 0, false, 10, 7⟩ (live [])) fun s => decide ((Map.get? s.out.tev 15).isSome) &&
      decide ((10 * secU : Int) ≤ s.now + 7 * (1000 * 65536))) = true ∧
    (put []).hearth.running = false ∧
    (meets (live (lineStart 15 11 1000000000)) fun s => s.hearth.running && (Map.get? s.out.tev 15).isNone &&
      decide (1000000000 ≤ s.get (R.OUT.TEV.START_NS.NS 15))) = true ∧
    (∀ ns ∈ [1199, 1200], (meets (live (lineStart 15 10 ns)) fun s => s.hearth.running && (Map.get? s.out.tev 15).isNone &&
      decide (s.get (R.OUT.TEV.START_NS.NS 15) < 1000000000) && decide (s.get (R.OUT.TEV.CFG.COUNT 15) = 1) &&
      (decide (((s.getTime (R.OUT.TEV.START_FRAC.FRAC 15) (R.OUT.TEV.START_NS.NS 15) (R.OUT.TEV.START_SEC_LO.SEC 15)
        (R.OUT.TEV.START_SEC_HI.SEC 15) : Nat) : Int) < s.now + 1200 * 65536) == (ns == 1199))) = true) := by
  decide +kernel

/-- The TDC in READY with none retired, the next channel the last, in a role. -/
def calibrating (role : Nat) : State :=
  let s := put [(R.TDC.STAT.STATE, 2), (R.TDC.CAL.EN, 1), (R.TDC.STAT.RETIRED, 0x3F), (R.RED.STAT.ROLE, role), (R.RED.TEST_CFG.EN, 1)]
  { s with tdc := { s.tdc with nextCh := 31 } }

theorem witness_SpareAndSelfTests :
    (∀ h ∈ [262, 263, 2621, 2622], (meets (calibrating 1) fun s =>
      let ws := tapWidths (List.replicate 4 ((4000 * h : Nat) / (2 ^ s.tdc.hits : Nat) : Rat))
      decide (∀ w ∈ ws, 4 ≤ w ∧ w ≤ 40) == (h == 263 || h == 2621)) = true) ∧
    (∀ n ∈ [31, 32], (meets (let s := calibrating 1; { s with tdc := { s.tdc with rotated := List.range n } }) fun s =>
      (decide ((s.get R.TDC.STAT.SPARE :: s.tdc.rotated).eraseDups.length = 33) == (n == 32))) = true) ∧
    (∀ role ∈ [1, 2], (meets (calibrating role) fun s => decide (s.get R.TDC.STAT.STATE = 2) && s.flag R.TDC.CAL.EN &&
      decide (s.get R.TDC.STAT.RETIRED = 0x3F) && decide (s.tdc.nextCh < 32) && decide (s.get R.RED.STAT.ROLE = role) &&
      s.flag R.RED.TEST_CFG.EN) = true) ∧
    (∀ n ∈ [0, 1, 2, 3], (meets (calibrating 2) fun s => (n == s.red.synTurn + 1) == (n == 1) &&
      (n == s.red.serdesTurn) == (n == 0)) = true) := by
  decide +kernel

/-! ### Hypotheses: GNSS -/

/-- A front end with what is behind its registers. -/
def frontEnd (n st : Nat) (f : GnaFe) (s : State) : State :=
  { s.set (R.GNA.FE.STAT.STATE n) st with gna := { s.gna with fes := [(n, f)], scripts := [(n, [.delay 1])] } }

theorem witness_FrontEnds :
    (meets (frontEnd 3 1 { GnaFe.empty with goodGates := 1 } (put [(R.GNA.FE.STAT.INIT_DONE 3, 1), (R.GNA.FE.SR.HZ 3,
        1000000)])) fun s =>
      decide (s.feState 3 = 1) && decide (Map.getD s.gna.scripts 3 [] = [.delay 1]) && decide (1 ≤ (s.gnaFe 3).goodGates) &&
      s.flag (R.GNA.FE.STAT.INIT_DONE 3) && !s.flag (R.GNA.FE.STAT.INIT_FAIL 3) &&
      decide ((1000 * 1000000000 : Int) - 1000000 * 1000000 = 0) && decide (s.get (R.GNA.FE.SR.HZ 3) = 1000000)) = true ∧
    (meets (frontEnd 3 2 { GnaFe.empty with badGates := 1, learn := some (599, 0) } (put [(R.GNA.FE.SR.HZ 3, 1000000)])) fun s =>
      decide (s.feState 3 = 2) && decide (1 ≤ (s.gnaFe 3).badGates) && decide ((s.gnaFe 3).learn = some (599, 0)) &&
      decide (s.get (R.GNA.FE.SR.HZ 3) * s.get (R.GNA.FE.CFG.TOL 3) + 2000000000 < 1000000 * 1000000 - 1 * 1000000000)) = true ∧
    (∀ st ∈ [0, 1, 2, 3], ∀ lost, (meets (frontEnd 3 st { GnaFe.empty with lost } (put [])) fun s => decide (s.feState 3 = st) &&
      ((s.gnaFe 3).lost == lost) && decide ((s.gnaFe 3).badGates = 0)) = true) ∧
    (∀ e ∈ [ScriptEntry.write 0 1 5, .read 0 1 5 255],
      (meets { frontEnd 3 1 { GnaFe.empty with script := some [e] } (put []) with spi := ⟨some (.script 3), none, none⟩ } fun s =>
        decide (s.spi.current = some (.script 3)) && decide ((s.gnaFe 3).script = some [e]) && decide (s.feState 3 ≠ 3) &&
        decide ((5 : Nat) &&& 255 = 5 &&& 255) && decide ((6 : Nat) &&& 255 ≠ 5 &&& 255)) = true) ∧
    (∀ read, (meets { put [] with spi := ⟨some (.host read), none, none⟩ } fun s =>
        decide (s.spi.current = some (.host read))) = true) ∧
    (meets (frontEnd 3 1 { GnaFe.empty with delaying := true, script := some [.delay 1] } (put [])) fun s =>
      (s.gnaFe 3).delaying && decide ((s.gnaFe 3).script = some [.delay 1])) = true ∧
    (meets (put [(R.GNA.SPI_CMD.LEN, 5)]) fun s => decide (4 < s.get R.GNA.SPI_CMD.LEN)) = true ∧
    (meets (put [(R.GNA.SPI_CMD.LEN, 4)]) fun s => !s.flag R.GNA.STAT.SPI_BUSY && decide (1 ≤ s.get R.GNA.SPI_CMD.LEN) &&
      decide (s.get R.GNA.SPI_CMD.LEN ≤ 4) && s.spi.current.isNone && s.spi.dac.isNone &&
      decide (∀ m : Fin 4, s.scriptHead m = none)) = true := by
  decide +kernel

/-- A job for satellite 1 of the first signal on front end 0, one dwell of one block at the centre. -/
def job : JobRequest := ⟨0, 0, 1, false, true, 0, 0, 0, 1, 1, 1, 16, 0, 0, 1, 7⟩

/-- The job's words, its front end in RUN. -/
def jobWords : List (Field × Nat) :=
  [(R.GNA.FE.STAT.STATE 0, 2), (R.GNA.JOB_W0.PRN, 1), (R.GNA.JOB_W0.CH_AUTO, 1), (R.GNA.JOB_W1.DOP_RANGE, 0), (R.GNA.JOB_W2.TC, 1),
    (R.GNA.JOB_W2.M, 1), (R.GNA.JOB_W2.MV, 1), (R.GNA.JOB_W2.THR, 16), (R.GNA.JOB_W3.BLOCK_N, 1), (R.GNA.JOB_W3.TAG, 7)]

/-- Jobs that wait, an engine at work, results that wait. -/
def acquiring (jobs : List GnaJob) (e : GnaEng) (results : List JobResult) : State :=
  let s := put jobWords
  { s with gna := { s.gna with jobs, engines := [(7, e)], results } }

/-- An engine's job, with a threshold. -/
def jobAt (thr : Nat) (r : JobRequest) : GnaJob := ⟨{ r with thr }, true, false⟩

/-- An engine at a job's first cell. -/
def engineOn (j : GnaJob) (verify : Bool) : GnaEng := { GnaEng.free with job := some j, verify }

/-- The samples of a dwell that brings none. -/
def silence : DwellRun := ⟨0, [], 0, 0⟩

/-- Without samples no cell has power. -/
theorem cellPower_silence (s : State) (r : JobRequest) (f : Rat) (m h : Nat) : s.cellPower r silence f m h = 0 := by
  have e : ∀ l : List Nat, (l.map fun _ => 0).sum = 0 := fun l => by
    induction l with
    | nil => rfl
    | cons _ _ ih => simpa using ih
  simpa [State.cellPower, silence, partsOf, correlate, Cx.power, Function.comp_def] using e _

/-- The largest of cells of one power has that power. -/
theorem peakCell_level (cells : List (Nat × Nat)) (k : Nat) (h : ∀ c ∈ cells,
    c.2 = k) (ne : cells ≠ [] ∨ k = 0) : (peakCell cells).2 = k := by
  have go : ∀ (l : List (Nat × Nat)) (b : Nat × Nat), b.2 = k → (∀ c ∈ l, c.2 = k) →
      (l.foldl (fun best c => if best.2 < c.2 then c else best) b).2 = k := by
    intro l
    induction l with
    | nil => exact fun b hb _ => hb
    | cons x xs ih =>
      intro b hb hl
      have hx := hl x List.mem_cons_self
      rw [List.foldl_cons, if_neg (by omega)]
      exact ih b hb (fun c hc => hl c (List.mem_cons_of_mem _ hc))
  refine go cells _ ?_ h
  cases cells with
  | nil => rcases ne with n | rfl <;> first | exact absurd rfl n | rfl
  | cons x xs => exact h x List.mem_cons_self

/-- Cells without power give no noise. -/
theorem noise_silence (cells : List (Nat × Nat)) (p : Nat) (h : ∀ c ∈ cells, c.2 = 0) : noisePower cells p = 0 := by
  have e : ∀ l : List (Nat × Nat), (∀ c ∈ l, c.2 = 0) → (l.map Prod.snd).sum = 0 := by
    intro l
    induction l with
    | nil => exact fun _ => rfl
    | cons x xs ih =>
      intro hl
      rw [List.map_cons, List.sum_cons, hl x List.mem_cons_self, ih fun c hc => hl c (List.mem_cons_of_mem _ hc)]
  unfold noisePower
  dsimp only
  rw [e _ fun c hc => h c (List.mem_filter.mp hc).1, Rat.div_def]
  exact Rat.zero_mul _

/-- Without power a search's statistic is a free value (R252). -/
theorem search_silence (s : State) (cells : List (Nat × Nat)) (h : ∀ c ∈ cells, c.2 = 0) : (s.searchDwell cells).stat = s.fresh := by
  simp [State.searchDwell, State.cellStat, noise_silence _ _ h]

/-- And so is a verify's. -/
theorem verify_silence (s : State) (want : Nat → Bool) (f width : Rat) (bins : List (List (Nat × Nat))) (ne : bins ≠ [])
    (h : ∀ cells ∈ bins, ∀ c ∈ cells, c.2 = 0) : (s.verifyDwell want f width bins).stat = s.fresh := by
  unfold State.verifyDwell
  refine peakCell_level _ s.fresh ?_ (.inl (by simpa using ne))
  intro c hc
  obtain ⟨cells, hm, rfl⟩ := List.mem_map.mp hc
  simp [State.cellStat, noise_silence _ _ (h cells hm)]

/-- A state in which a job's dwell or verify without samples stays below its threshold. -/
def missing (r : JobRequest) (verify : Bool) : State := acquiring [] (engineOn (jobAt ((put jobWords).fresh + 1) r) verify) []

theorem missing_stat (r : JobRequest) (verify : Bool) : ¬(jobAt ((put jobWords).fresh + 1) r).req.thr ≤
    ((missing r verify).dwellResult ((missing r verify).engine 7) (jobAt ((put jobWords).fresh + 1) r).req silence).stat := by
  have e : (missing r verify).engine 7 = engineOn (jobAt ((put jobWords).fresh + 1) r) verify := rfl
  have h : ((missing r verify).dwellResult (engineOn (jobAt ((put jobWords).fresh + 1) r) verify)
      (jobAt ((put jobWords).fresh + 1) r).req silence).stat = (missing r verify).fresh := by
    unfold State.dwellResult engineOn GnaEng.free
    dsimp only
    split
    · refine verify_silence _ _ _ _ _ (List.cons_ne_nil _ _) ?_
      intro cells hm c hc
      obtain ⟨x, -, e⟩ := List.mem_map.mp hm
      rw [← e] at hc
      obtain ⟨h, -, e⟩ := List.mem_map.mp hc
      rw [← e]
      exact cellPower_silence _ _ _ _ _
    · exact search_silence _ _ (by intro c hc; obtain ⟨h, -, rfl⟩ := List.mem_map.mp hc; exact cellPower_silence _ _ _ _ _)
  rw [e, h]
  exact Nat.not_succ_le_self _

/-- Whether JOB_START takes a job. -/
def fits (s : State) (j : GnaJob) : Bool :=
  s.jobValid j.req && (!j.req.aided || decide (s.chState j.req.aidCh = 3) &&
      decide (s.get (R.GNT.CH.STAT.PRN j.req.aidCh) = j.req.prn) &&
    decide (systemOf (s.get (R.GNT.CH.STAT.SIG j.req.aidCh)) = systemOf j.req.sig))

theorem witness_AcquisitionJobs :
    (meets (acquiring (List.replicate 63 ⟨job, false, false⟩) GnaEng.free []) fun s => s.jobValid s.jobWords &&
      decide (s.gna.jobs.length < 64) && decide (s.hostJobs < 16) && s.jobWords.chAuto && s.gna.results.isEmpty) = true ∧
    (∀ k ∈ [15, 16], (meets (acquiring (List.replicate 64 ⟨job, false, false⟩) GnaEng.free
        (List.replicate k ⟨0, 1, 2, 3, 4, 5, 6, 7⟩)) fun s => !decide (s.gna.jobs.length < 64) &&
      (decide (s.gna.results.length < 16) == (k == 15))) = true) ∧
    (∀ fe ∈ [0, 1], ∀ host aided, ∀ st ∈ [0, 3],
      (let j : GnaJob := ⟨{ job with fe, aided, aidCh := 255 }, host, false⟩
       meets ((((acquiring [⟨job, true, true⟩, j] GnaEng.free []).set (R.GNT.CH.STAT.STATE 0) 3).set (R.GNT.CH.STAT.STATE 255) st).set
        (R.GNT.CH.STAT.PRN 255) 1) fun s => (s.engine 7).job.isNone && decide (s.gna.jobs = [⟨job, true, true⟩] ++ j :: []) &&
          !s.jobReady ⟨job, true, true⟩ && s.jobReady j && (fits s j == (fe == 0 && (!aided || st == 3)))) = true) ∧
    (∀ host verify, ∀ run : DwellRun, let j := { jobAt 0 job with host }
      let s := acquiring [] (engineOn j verify) []
      canon s = true ∧ (s.engine 7).job = some j ∧ (s.engine 7).verify = verify ∧
      j.req.thr ≤ (s.dwellResult (s.engine 7) j.req run).stat ∧ s.handoffTo j = .inr (if host then 224 else 0)) ∧
    (let s := ((acquiring [] (engineOn (jobAt 0 job) true) []).set (R.GNT.CH.STAT.STATE 9) 1).set (R.GNT.CH.STAT.PRN 9) 1
     canon s = true ∧ s.handoffTo (jobAt 0 job) = .inl 3) ∧
    (∀ r ∈ [{ job with blockN := 2 }, { job with dopRange := 500 }],
      (∀ verify, canon (missing r verify) = true ∧ ((missing r verify).engine 7).job = some (jobAt ((put jobWords).fresh + 1) r) ∧
        ((missing r verify).engine 7).verify = verify) ∧
      (0 + 1 < (jobBlocks r).2 ∨ (jobBlocks r).2 ≤ 0 + 1 ∧ 0 + 1 < jobBins r)) := by
  refine ⟨by decide +kernel, by decide +kernel, by decide +kernel, fun h v _ => ⟨?_, rfl, rfl, Nat.zero_le _, ?_⟩,
    ⟨by decide +kernel, by decide +kernel⟩, fun r hr => ⟨fun v => ⟨?_, rfl, rfl⟩, ?_⟩⟩
  · cases h <;> cases v <;> decide +kernel
  · cases h <;> cases v <;> decide +kernel
  · rfl
  · simp only [List.mem_cons, List.not_mem_nil, or_false] at hr
    rcases hr with rfl | rfl <;> decide +kernel

/-- A channel in a state, of a signal. -/
def channel (c st sig : Nat) (ws : List (Field × Nat)) : State :=
  live ([(R.GNT.CH.STAT.STATE c, st), (R.GNT.CH.STAT.SIG c, sig), (R.GNT.CH.CFG.NAV_EN c, 1)] ++ ws)

/-- What is behind a channel's registers. -/
def tracked (c : Nat) (x : GntCh) (s : State) : State := { s with gna := { s.gna with chans := [(c, x)] } }

/-- A unit of SBAS, or of one of the kinds that a codeword bears out. -/
def navUnit (good : Bool) : NavUnit := ⟨0, List.replicate 9 false, good, 0, false, false, 0, 0⟩

theorem witness_TrackingChannels :
    (meets (put [(R.GNS.CFG.AUTO_ACQ, 1), (R.GNS.MASK.FW_CH, 255)]) fun s => s.fwOwns 254 && !s.fwOwns 255 &&
        Map.wf s.gna.chans) = true ∧
    (∀ st ∈ [1, 2, 3], ∀ sig ∈ [0, 4], (meets (tracked 255 { GntCh.empty with negRun := 100 } (channel 255 st sig [])) fun s =>
      decide (s.chState 255 = st) && decide (s.get (R.GNT.CH.STAT.SIG 255) = sig) && decide (0 < (s.gnt 255).period) &&
      decide ((signalOf 4).secPilot ≤ (s.gnt 255).negRun)) = true) ∧
    ((∃ g, signals[0]? = some g ∧ g.boc = false ∧ g.pilot = false) ∧ ∃ g, signals[4]? = some g ∧ g.boc = false ∧ g.pilot = true) ∧
    (∀ t ∈ [0, 2], ∀ low ∈ [0, 1, 2], (meets (tracked 255 { GntCh.empty with lowRun := low }
        (channel 255 3 0 [(R.GNT.CH.THR.LOSS_T 255, t)])) fun s =>
      decide (s.chState 255 = 3) && (decide ((s.gnt 255).lowRun < max 1 (s.get (R.GNT.CH.THR.LOSS_T 255))) == decide
          (low < max 1 t))) = true) ∧
    (∀ n ∈ [63, 64], ∀ reacq ∈ [0, 1], ∀ prn ∈ [0, 1],
      (meets (let s := channel 255 3 0 [(R.GNT.CH.CFG.REACQ 255, reacq), (R.GNT.CH.STAT.PRN 255, prn)]
        { s with gna := { s.gna with jobs := List.replicate n ⟨job, true, false⟩ } }) fun s =>
      (s.flag (R.GNT.CH.CFG.REACQ 255) == (reacq == 1)) && (decide (s.gna.jobs.length < 64) == (n == 63)) &&
      (s.jobAdmits (s.reacqJob 255).req == (prn == 1))) = true) ∧
    (∀ size ∈ [0, 1], ∀ rd ∈ [0, 128], ∀ good, (meets (tracked 255 { GntCh.empty with polarity := some true }
        (channel 255 3 1 [(R.GNA.NAV_SIZE.SIZE, size), (R.GNA.NAV_RD.PTR, rd)])) fun s =>
      decide (s.chState 255 = 3) && s.flag (R.GNT.CH.CFG.NAV_EN 255) &&
          (decide (s.get R.GNA.NAV_SIZE.SIZE * 4096 = 0) == (size == 0)) &&
      decide ((s.gnt 255).polarity = some (!(navUnit good).polInverted)) &&
      (size == 0 || (decide ((s.get R.GNA.NAV_WR.PTR + 4096 - s.get R.GNA.NAV_RD.PTR) % 4096 + 128 < 4096) == (rd == 0)))) = true) ∧
    navGood (navKind 1 (navUnit true)) (navUnit true) = true ∧ navGood (navKind 1 (navUnit false)) (navUnit false) = false := by
  refine ⟨by decide +kernel, by decide +kernel, ⟨⟨_, rfl, by decide +kernel⟩, _, rfl, by decide +kernel⟩, by decide +kernel,
    by decide +kernel, by decide +kernel, by decide +kernel, by decide +kernel⟩

/-- Satellite `prn`'s entry of the epoch at ten seconds, on channel `prn`: LOCKED, at 45 dB-Hz. -/
def gpsEntry (prn : Nat) : EpochEntry := ⟨prn, 0, prn, 0, 3, false, true, false, false, false, 4500, 0, 1023, 0, 0, 0, 0, 0⟩

/-- The solution core at work, with its misses, a solution due from the entries of two satellites, and a halt before. -/
def solving (missed : Nat) (halt : Option Int) (ws : List (Field × Nat)) : State :=
  let s := live ((R.GNS.STAT.FW_STATE, 1) :: ws)
  { s with gns := { s.gns with missed, due := [⟨10 * secU, 0, [gpsEntry 1, gpsEntry 2]⟩], lastHalt := halt, loaded := true } }

/-- A GPS satellite straight above the centre of the earth, 20,200 km away, its clock far off. -/
def gpsModel (prn : Nat) : SatModel :=
  ⟨0, prn, some 0, 10, true, false, true, 0, 0, (0, 0, 20200000000), 65536, [⟨BitVec.ofNat 8 prn, 0, 0, 0⟩]⟩

/-- What the firmware brings to the epoch at ten seconds, of some satellites. -/
def modelOf (sats : List SatModel) : NavModel :=
  ⟨10 * secU, sats, (0, 0, 0), (2 ^ 30, 0, 0), (0, 2 ^ 30, 0), (0, 0, 2 ^ 30), some ⟨0, 37, 37, 0⟩, []⟩

/-- A position held at the centre of the earth, from single frequencies. -/
def holding : List (Field × Nat) := [(R.GNS.STAT.MODE, 1), (R.GNS.CFG.IONO_SF, 1), (R.GNS.TRAIM.MIN_RED, 1)]

theorem witness_GnssSolution :
    (meets (solving 1 none []) fun s => s.commits.isEmpty && s.shadow.isEmpty && s.ticking &&
      decide (s.epochInstant = some (10 * secU)) && s.coreRuns && s.solutionEpoch (10 * secU) && s.hearth.running &&
      decide (s.gns.missed + 1 < 3) && s.gns.loaded && s.flag R.GNS.CFG.AUTO_ACQ && s.fwOwns 0 &&
      decide (s.get R.GNS.EPO_SIZE.SIZE = 0)) = true ∧
    (meets (solving 0 none [(R.GNS.CFG.AUTO_ACQ, 0)]) fun s => s.coreRuns && !s.flag R.GNS.CFG.AUTO_ACQ) = true ∧
    (∀ h ∈ [10 * (secU : Int) - 3600 * secU, 10 * secU - 3600 * secU + 1],
      (meets (solving 2 (some h) [(R.GNS.STAT.SPOOF, 1)]) fun s => s.coreRuns && decide (3 ≤ s.gns.missed + 1) &&
        decide (s.gns.lastHalt = some h) && s.flag R.GNS.STAT.SPOOF &&
        (decide (s.now - h < 3600 * ((1000000000 : Int) * 65536)) == decide (h ≠ 10 * (secU : Int) - 3600 * secU))) = true) ∧
    (∀ at_ ∈ [10 * secU, 12 * secU], ∀ n ∈ [0, 2],
      (meets (runAt at_ (solving 0 none holding)) fun s =>
        let m := modelOf ([gpsModel 1, gpsModel 2].take n)
        s.coreRuns && (s.gns.due.find? (fun e => e.te == m.te)).isSome &&
        (decide (s.failCause (s.solve m [gpsEntry 1, gpsEntry 2]) = 0) == (n == 2)) &&
        (decide ((m.te : Int) + 0 + s.get R.GNS.TB.SOL_DEADLINE * (1000000 * 65536) < s.now) == (at_ == 12 * secU))) = true) := by
  decide +kernel

/-! ### Hypotheses: Ethernet -/

/-- A port's registers: its power and link. -/
def linkAs (p pwr link : Nat) (ws : List (Field × Nat)) : State := live ([(R.ETH.STAT.PWR_STATE p, pwr), (R.ETH.STAT.LINK p,
    link)] ++ ws)

/-- Every condition of a link good. -/
def goodLink : LinkStatus := ⟨true, true, false, false, false, true, false, 0, 0, 0, 0⟩

theorem witness_LinkStates :
    (meets (linkAs 3 1 0 []) fun s => decide (s.get (R.ETH.STAT.PWR_STATE 3) = 1)) = true ∧
    (∀ l ∈ [0, 1, 2, 3, 4], (meets (linkAs 3 2 l []) fun s => decide (s.get (R.ETH.STAT.PWR_STATE 3) = 2) &&
      decide (s.get (R.ETH.STAT.LINK 3) = l) && goodLink.blockLock && goodLink.fecLock && !goodLink.hiBer && !s.laneTest 3) = true) ∧
    (∀ l ∈ [2, 4], (meets (linkAs 3 2 l [(R.ETH.STAT.BLOCK_LOCK 3, 1), (R.ETH.STAT.FEC_LOCK 3, 1), (R.ETH.STAT.HI_BER 3, 0),
      (R.ETH.STAT.LOCAL_FAULT 3, 0), (R.ETH.STAT.REMOTE_FAULT 3, 0)]) fun s => s.linkGood 3 && !s.linkFault 3 &&
        decide (s.get (R.ETH.STAT.LINK 3) = l)) = true) := by
  decide +kernel

/-- A frame of `n` bytes to an address, with its frame check sequence, of an EtherType the port does not sort. -/
def frameTo (dst : List Byte) (n : Nat) : List Byte :=
  let b := dst ++ List.replicate 6 2 ++ [0x12, 0x34] ++ List.replicate (n - 18) 0
  b ++ leBytes 4 (crc32 b)

/-- A received frame. -/
def received (bytes : List Byte) : RxFrame := ⟨bytes, false, false, 0, 0, 0, false, 0⟩

/-- A host ring of eight descriptors that takes what the port does not sort. -/
def hostRing : Ring := ⟨0x1000, 0x8000, 3, 2, 0, 8, 0, 0, 0, 7, 0, 0, false, false, none, none⟩

/-- The port UP, its filter passing broadcast frames, and the ring of what it does not sort. -/
def listening (p : Nat) (ws : List (Field × Nat)) : State :=
  let s := linkAs p 2 3 ([(R.ETH.FILTER.PROMISC p, 0), (R.ETH.FILTER.BCAST_EN p, 1), (R.ETH.FRAME.MAX_LEN p, 64),
    (R.RSE.HOSTMAP.OTHER p, 1), (R.ETH.STAT.HAT_GATED p, 0)] ++ ws)
  { s with rse := { s.rse with rings := [(p * 256 + 1, hostRing)] } }

theorem witness_FramesAndStatistics :
    (meets (put []) fun s => !s.packetBoundary.linkUp 3) = true ∧
    (meets (listening 3 []) fun s => s.packetBoundary.linkUp 3 && decide (s.packetBoundary.maxLen 3
        (frameTo broadcastMac 65) < 65)) = true ∧
    (fcsGood (frameTo broadcastMac 63) = true ∧ fcsGood (List.replicate 63 0) = false ∧ fcsGood (frameTo broadcastMac 65) = true ∧
      fcsGood (List.replicate 65 0) = false ∧ fcsGood (List.replicate 64 0) = false ∧ (frameTo broadcastMac 64).length = 64) ∧
    (meets (listening 3 []) fun s =>
      let u := s.packetBoundary
      let f := frameTo broadcastMac 64
      fcsGood f && decide (f.length ≤ u.maxLen 3 f) && decide (be f 12 2 ≠ 0x8808 ∧ be f 12 2 ≠ 0x8809 ∧ be f 12 2 ≠ 0x88B5) &&
      u.rse.slotWait.isEmpty && u.rse.respWait.isEmpty && u.admits 3 (slice f 0 6) && !u.flag (R.ETH.STAT.HAT_GATED 3) &&
      decide ((received f).backlog + f.length ≤ 65536) && decide (u.kindOf 3 f = some 8) && decide (u.hostRing 3 8 < 128) &&
      decide (Map.get? u.rse.rings (3 * 256 + u.hostRing 3 8) = some hostRing) && decide (hostRing.held ≠ 2 ^ hostRing.logN) &&
      decide (f.length ≤ slotBytes hostRing.slot)) = true ∧
    (meets (listening 3 [(R.ETH.STAT.HAT_GATED 3, 1)]) fun s =>
      let u := s.packetBoundary
      u.admits 3 broadcastMac && u.flag (R.ETH.STAT.HAT_GATED 3) && !u.admits 3 [2, 2, 2, 2, 2, 2]) = true ∧
    (meets (let s := live [(R.ETH.STAT.STATS_COR 3, 0)]; { s with eth := { s.eth with ports := [(3, { EthPort.empty with pauseEnd := some (10 * secU) })] } }) fun s =>
      decide ((s.port 3).pauseEnd = some (10 * secU)) && decide ((10 * secU : Int) ≤ s.now) &&
          !s.flag (R.ETH.STAT.STATS_COR 3)) = true ∧
    (meets (let s := put [(R.ETH.STAT.STATS_COR 3, 1)]
        { s with eth := { s.eth with ports := [(3, { EthPort.empty with shadow := some (47, 65535) })] } }) fun s =>
      decide ((s.port 3).shadow = some (47, 65535)) && decide (∀ h : Fin 3, (s.port 3).shadow ≠ some (46, h.val)) &&
          s.flag (R.ETH.STAT.STATS_COR 3)) = true := by
  decide +kernel

/-- A port with what is behind its registers. -/
def portAs (p : Nat) (e : EthPort) (s : State) : State := { s with eth := { s.eth with ports := [(p, e)] } }

theorem witness_WakeAndSyncE :
    (∀ bursts ∈ [0, 2], (meets (portAs 3 { EthPort.empty with armed := true, bursts }
        (linkAs 3 1 0 [(R.ETH.STAT.SIGNAL 3, 1), (R.ETH.WAKE.PULSES 3, 3), (R.ETH.WAKE.ON_MS 3, 200)])) fun s =>
      s.detecting 3 && s.flag (R.ETH.STAT.SIGNAL 3) && decide (s.get (R.ETH.WAKE.PULSES 3) ≠ 1) &&
      nearMs 6554 (s.get (R.ETH.WAKE.ON_MS 3)) && (decide ((s.port 3).bursts + 1 = s.get (R.ETH.WAKE.PULSES 3)) == (bursts == 2)))) ∧
    (meets (linkAs 3 0 0 [(R.ETH.STAT.SIGNAL 3, 1)]) fun s => !s.detecting 3 && s.flag (R.ETH.STAT.SIGNAL 3)) = true ∧
    (meets (portAs 3 { EthPort.empty with armed := true } (linkAs 3 1 0 [(R.ETH.STAT.SIGNAL 3, 1), (R.ETH.WAKE.PULSES 3,
        1)])) fun s =>
      s.detecting 3 && s.flag (R.ETH.STAT.SIGNAL 3) && decide (s.get (R.ETH.WAKE.PULSES 3) = 1)) = true ∧
    (meets (portAs 3 { EthPort.empty with qlDue := true, esmcSent := 9 }
        (linkAs 3 2 3 [(R.ETH.ESMC_CFG.TX_EN 3, 1), (R.ETH.STAT.HAT_GATED 3, 0)])) fun s => s.flag (R.ETH.ESMC_CFG.TX_EN 3) &&
      s.portServes 3 && (s.port 3).qlDue && decide ((s.port 3).esmcSent < 10)) = true ∧
    (meets (slotAs 15 2 1 RefSlot.empty (linkAs 2 2 3 [(R.ETH.ESMC_CFG.RX_EN 2, 1), (R.ETH.RCLK.SQ_QL 2, 1),
        (R.ETH.ESMC_RX.VALID 2, 1),
        (R.ETH.ESMC_RX.QL 2, 2), (R.REF.SLOT.SRCQ.QL_MASK 15, 4)])) fun s => s.flag (R.ETH.ESMC_CFG.RX_EN 2) && s.linkUp 2 &&
      s.qlAccepted 2 && s.ticking && s.slotActive 15 && s.passed (s.port 2).esmcAt (s.get (R.ETH.ESMC_CFG.TO 2) * secU) &&
      s.passed (s.port 2).rclkAt (s.get (R.ETH.RCLK.HOLD_MS 2) * msU)) = true ∧
    (meets (portAs 2 { EthPort.empty with esmcAt := some (10 * secU) } (linkAs 2 2 3 [])) fun s =>
      !s.passed (s.port 2).esmcAt (s.get (R.ETH.ESMC_CFG.TO 2) * secU)) = true := by
  decide +kernel

/-! ### Hypotheses: the flue, the response engine, the protocols -/

/-- A port's flue with what is behind its registers. -/
def flueAs (p : Nat) (f : LtsPort) (s : State) : State := { s with lts := { s.lts with ports := [(p, f)] } }

/-- Sixteen delays of 2,047 ps. -/
theorem txph_of (s : State) : s.txphOf (List.replicate 16 (2047 * 65536)) = 2047 := by
  rw [State.txphOf, State.roundFree_of s _ 2047 (by decide +kernel)]
  decide

theorem witness_PhaseAndCalibration :
    (meets (flueAs 3 { LtsPort.empty with txphRun := true } (linkAs 3 2 3 [(R.TDC.STAT.STATE, 2), (R.ETH.STAT.HAT_GATED 3, 0),
        (R.LTS.PORT.STAT.TXPH_VALID 3, 1)])) fun s => decide (s.get (R.ETH.STAT.PWR_STATE 3) = 2) && (s.flue 3).txphRun &&
      decide (s.get R.TDC.STAT.STATE = 2) && s.portServes 3 && !s.flag (R.LTS.PORT.STAT.CAL_BUSY 3) && (s.flue 3).resv.isEmpty &&
      s.flag (R.LTS.PORT.STAT.TXPH_VALID 3) && decide (10 < ((2047 : Int) - s.get (R.LTS.PORT.TXPH.PS 3)).natAbs)) = true ∧
    (∀ s : State, s.txphOf (List.replicate 16 (2047 * 65536)) = 2047) ∧
    (meets (put [(R.LTS.PORT.STAT.CAL_BUSY 3, 1)]) fun s => s.flag (R.LTS.PORT.STAT.CAL_BUSY 3) &&
        decide (min 1024 [(0 : Int)].length ≠ 0) &&
      decide (∀ d ∈ [(2 : Int) ^ 31 - 1], d = 2 ^ 31 - 1 ∧ d < 2 ^ 31)) = true :=
  ⟨by decide +kernel, txph_of, by decide +kernel⟩

/-- A transaction of port 3 begun at ten seconds. -/
def txn (step : TxnStep) : Txn :=
  ⟨1, 3, [], 10 * secU, false, step, .ntp, none, ⟨0, [], 3, []⟩, ⟨[], [], [], 0⟩, [], [], 0, 0, 0, 0, false, 64, 0,
      10 * secU, none, none,
    0, none, none, [], none, 0, []⟩

/-- Transactions by context, one request before the flue, on a port that is UP. -/
def served (x : Txn) (reservations : List Resv) (up : Bool) : State :=
  let s := flueAs 3 { LtsPort.empty with resv := reservations } (linkAs 3 2 (if up then 3 else 1) [(R.ETH.STAT.HAT_GATED 3, 0)])
  { s with rse := { s.rse with txns := [(4095, x)] }, lts := { s.lts with requests := [4095] } }

/-- Its CK_CORE replica gives the Hearth's time, and TXPH is known. -/
def replicated (s : State) : State :=
  let s := s.set (R.LTS.PORT.STAT.TXPH_VALID 3) 1
  { s with hearth := { s.hearth with replicas := [(0, ⟨true, 2, [], none⟩)] } }

/-- The first block of the grid, at tick zero. -/
def firstBlock : TxBlock := ⟨0, 0, 0, 0⟩

theorem witness_Flue :
    (∀ step coast, let s := live []
      canon { s with lts := { s.lts with stepHold := step, coastHold := coast } } = true) ∧
    (meets (let s := live []; { s with hearth := { s.hearth with replicas := [(0, ⟨false, 1, [], none⟩)] } }) fun s =>
      decide (s.replicaTime 0 = none)) = true ∧
    (∀ up, (meets (replicated (served (txn .request) [] up)) fun s => !s.lts.stepHold && !s.lts.coastHold &&
      decide (s.lts.requests = [4095]) && decide (s.txn? 4095 = some (txn .request)) && Map.wf s.rse.txns && (s.portServes 3 == up) &&
      decide (s.replicaTime 0 = some (10 * secU : Int)) && (txn .request).tOrig.isNone) = true) ∧
    (∀ least ∈ [(10 * secU + 98304 : Int), 12 * secU], (meets (replicated (served (txn .request) [] true)) fun s =>
      ((s.firstFit 3 64 firstBlock (10 * secU) least).isSome == decide (least ≠ 12 * secU))) = true) ∧
    (meets (served (txn .request) (List.replicate 1024 ⟨none, 0, 64, 0⟩) true) fun s =>
        decide (1024 ≤ (s.flue 3).resv.length)) = true ∧
    (meets (replicated (portAs 3 { EthPort.empty with unsched := [.own []] } (linkAs 3 2 3 [(R.ETH.STAT.HAT_GATED 3, 0)]))) fun s =>
      s.portServes 3 && !(s.port 3).unsched.isEmpty && (s.flue 3).resv.isEmpty &&
      (s.firstFit 3 64 firstBlock s.now s.now).isSome) = true ∧
    (∀ st ∈ [TxnStep.queued, .auth], (meets (served (txn st) [⟨some 4095, 10 * secU + 64 * 65536, 64, 0⟩] true) fun s =>
      decide ((s.flue 3).resv.find? (fun y => y.ctx.isSome) = some ⟨some 4095, 10 * secU + 64 * 65536, 64, 0⟩) &&
      decide (s.txn? 4095 = some (txn st)) && decide ((10 * secU + 64 * 65536 : Int) - 64 * 65536 ≤ s.now)) = true) := by
  decide +kernel

/-- A client table of one bucket, with an entry for the key of `txn` in slot 7. -/
def tabled (state : Nat) (x : Txn) : State :=
  let s := served x [] true
  let s := { (s.set R.RSE.CT_CFG.LOG 3).set R.RSE.CT_BASE_LO.ADDR 1 with lts := { s.lts with requests := [] } }
  { s with dram := Mem.write dramBlank [] (4096 + 128 * 7) ([2, BitVec.ofNat 8 state, 0, 3] ++ List.replicate 124 0) }

theorem witness_Transactions :
    (meets (let s := live []; { s with rse := { s.rse with rings := [(1, ⟨0, 0, 1, 1, 7, 0, 0, 0, 0, 1, 0, 0, false, false, none, none⟩)] } }) fun s =>
      Map.wf s.rse.rings && s.rse.rings.all (fun e => decide (e.2.pri < 8)) && !(s.readyRings 0).isEmpty && (s.freeCtx 0).isSome &&
      s.rse.slotWait.isEmpty && s.rse.respWait.isEmpty && Map.wf s.rse.txns) = true ∧
    (meets (tabled 3 (txn .lookup)) fun s => decide (s.txn? 4095 = some (txn .lookup)) && decide ((txn .lookup).handler ≠ 6) &&
      decide (s.findEntry (txn .lookup).key = some 7) && decide (eState (s.entry 7) = 3)) = true ∧
    (meets (tabled 0 (txn .lookup)) fun s => decide ((txn .lookup).handler = 1) && decide (s.findEntry (txn .lookup).key = none) &&
      !s.flag R.RSE.CT_CFG.NTP_TRACK && (s.replyPath (txn .lookup)).isSome) = true ∧
    (txn .auth).reply.scheduled = true ∧ (txn .auth).out.length ≤ (txn .auth).len ∧ GlvOp.seal ≠ .mint ∧
    (meets (served { txn .auth with ops := [.seal] } [] true) fun s =>
        decide (s.txn? 4095 = some { txn .auth with ops := [.seal] })) = true ∧
    (meets (served (txn .retry) [] true) fun s => !s.shareSpent (txn .retry) s.now &&
      decide (s.now < (txn .retry).start + s.get R.RSE.RESP.DL_US * (1000 * 65536))) = true ∧
    (meets (runAt (11 * secU) (served (txn .retry) [] true)) fun s => s.shareSpent (txn .retry) s.now &&
      decide ((txn .retry).start + s.get R.RSE.RESP.DL_US * (1000 * 65536) ≤ s.now)) = true := by
  decide +kernel

/-- A host ring of two slots by number, with its pointers. -/
def ringAs (n wr rd : Nat) (moved : Bool) (role : Nat) : State :=
  let s := live []
  { s with rse := { s.rse with rings := [(n, ⟨0x1000, 0x8000, 1, role, 0, 0, 0, 0, 0, wr, rd, 0, moved, moved, none, none⟩)] } }

theorem witness_RingsAndTable :
    canon (put []) = true ∧ Map.get? (put []).rse.rings 1023 = none ∧
    (meets (ringAs 5 1 65535 true 2) fun s => decide ((Map.get? s.rse.rings 5).isSome) &&
      decide ((1 + 65536 - 65535) % 65536 ≤ (⟨0, 0, 1, 2, 0, 0, 0, 0, 0, 1, 65535, 0, true, true, none, none⟩ : Ring).held) &&
      decide (¬(2 + 65536 - 65535) % 65536 ≤ (⟨0, 0, 1, 2, 0, 0, 0, 0, 0, 1, 65535, 0, true, true, none, none⟩ : Ring).held)) = true ∧
    (meets (ringAs 1023 0 65535 true 2) fun s => decide ((Map.get? s.rse.rings 1023).isSome) && decide (1023 / 128 % 2 = 1) &&
      decide ((⟨0, 0, 1, 2, 0, 0, 0, 0, 0, 0, 65535, 0, true, true, none, none⟩ : Ring).held + 1 ≤ 2 ^ 1) &&
      decide (2 ^ 1 < (⟨0, 0, 1, 2, 0, 0, 0, 0, 0, 0, 65535, 0, true, true, none, none⟩ : Ring).held + 2)) = true ∧
    canon (ringAs 5 0 0 false 1) = true ∧
    (meets (portAs 3 { EthPort.empty with unsched := [.own []] } (linkAs 3 2 3 [(R.ETH.STAT.HAT_GATED 3, 0)])) fun s =>
      decide ((s.port 3).unsched = [.own []]) && s.portServes 3 && s.mayStart 3 0) = true ∧
    (meets (portAs 3 { EthPort.empty with unsched := [.ring 1023 0] } (ringAs 1023 1 0 false 2)) fun s =>
      decide ((s.port 3).unsched = [.ring 1023 0]) && decide (le (s.dramRead 0x1000 2) 0 2 < 60)) = true ∧
    (meets (tabled 1 (txn .lookup)) fun s => decide (s.ctCount ≤ 8) && decide (7 < s.ctCount) && decide (eState (s.entry 7) ≠ 0) &&
      decide (eState (s.entry 0) = 0) && s.ticking) = true ∧
    (meets (put [(R.RSE.STAT.FLUSH_BUSY, 1)]) fun s => s.flag R.RSE.STAT.FLUSH_BUSY) = true := by
  decide +kernel

/-- The mailbox before the table of `tabled`: an index, CMP, and the first word of its data. -/
def mailbox (state index cmp word : Nat) : State :=
  (((tabled state (txn .lookup)).set R.RSE.MBX_CMD.INDEX index).set R.RSE.MBX_CMD.CMP cmp).set (R.RSE.MBX_DATA.DATA 0) word

theorem witness_Mailbox :
    (meets (mailbox 1 8 0 0) fun s => decide (s.ctCount ≤ s.get R.RSE.MBX_CMD.INDEX)) = true ∧
    (meets (mailbox 1 7 0 0x03000102) fun s => decide (s.get R.RSE.MBX_CMD.INDEX < s.ctCount) &&
        decide (s.mbxFind s.mbxData = some 7) &&
      decide (s.mbxWriteCheck s.mbxData (s.entry 7) = none) && decide (eVersion s.mbxData = 2) && decide (eState s.mbxData = 1) &&
      decide (eState (s.entry 7) ≠ 0) && !s.flag R.RSE.MBX_CMD.CMP) = true ∧
    (meets (mailbox 0 7 0 0x03000102) fun s => decide (s.mbxFind s.mbxData = none) && decide (eState (s.entry 7) = 0) &&
      (s.mbxWriteCheck s.mbxData (s.entry 7)).isSome &&
      decide ((s.bucketSlots (mbxKey s.mbxData)).find? (fun k => eState (s.entry k) == 0) = some 0)) = true ∧
    (meets (mailbox 0 0 0 0x03000003) fun s => decide (eVersion s.mbxData ≠ 1 ∧ eVersion s.mbxData ≠ 2)) = true ∧
    (meets (mailbox 0 0 0 0x03000402) fun s => decide (eVersion s.mbxData = 2 ∧ ¬(1 ≤ eState s.mbxData ∧
        eState s.mbxData ≤ 3))) = true ∧
    (meets ((mailbox 1 7 1 0x03000102).set (R.RSE.MBX_DATA.DATA 11) 0xFFFFFFFF) fun s => s.flag R.RSE.MBX_CMD.CMP &&
      decide (eState (s.entry 7) ≠ 0) && decide (eGen (s.entry 7) ≠ eGen s.mbxData)) = true ∧
    (let s := mailbox 1 0 0 0x03000102
     let full := { s with dram := Mem.write dramBlank [] 4096 ((List.range 8).flatMap fun _ => [2, 1, 0, 2] ++ List.replicate 124 0) }
     (meets full fun s => decide (s.mbxFind s.mbxData = none) &&
       decide ((s.bucketSlots (mbxKey s.mbxData)).find? (fun k => eState (s.entry k) == 0) = none)) = true) := by
  decide +kernel

/-- A state with words of DRAM that hold an uncorrectable error. -/
def withBad (ws : List Nat) (s : State) : State := { s with dramBad := ws }

/-- A transaction whose frame stands in slot 0 of transmit ring 1023, at 0x8000, and waits for its launch. -/
def stored : Txn := { txn .queued with slot := some (1023, 0), out := List.replicate 64 0 }

/-- The state that holds it. -/
def slotted : State :=
  let s := served stored [⟨some 4095, 10 * secU + 64 * 65536, 64, 0⟩] true
  { s with rse := { s.rse with rings := [(1023, ⟨0x1000, 0x8000, 1, 1, 0, 0, 0, 0, 0, 0, 0, 0, false, false, none, none⟩)] } }

/-- The hypotheses about poisoned data (R579): each at the last word that counts, and just beyond it or with none. -/
theorem witness_Poisoned :
    (∀ w ∈ [639, 640], (meets (withBad [w] (tabled 3 (txn .lookup))) fun s =>
      decide (s.poisonedFor (txn .lookup).key = if w = 639 then some 7 else none) &&
      decide (s.findEntry (txn .lookup).key = if w = 639 then none else some 7) && (s.lineBad 7 == (w == 639)) &&
      decide (7 < s.ctCount) && s.ticking && decide (s.txn? 4095 = some (txn .lookup))) = true) ∧
    (∀ w ∈ [623, 624], (meets (withBad [w] (mailbox 1 7 0 0x03000102)) fun s =>
      (s.poisonedFor (mbxKey s.mbxData)).isSome && decide (s.mbxFind s.mbxData = none) && (s.lineBad 7 == (w == 624)) &&
      decide (s.get R.RSE.MBX_CMD.INDEX < s.ctCount)) = true) ∧
    (∀ w ∈ [3, 4], (meets (withBad [w] (let s := live []; { s with rse := { s.rse with rings := [(1, ⟨0, 0x8000, 1, 1, 7, 0, 0, 0, 0, 1, 0, 0, false, false, none, none⟩)] } })) fun s =>
      (s.readyRings 0).all (fun e => decide (s.ringBad e.2 e.2.rd (s.fetchFrame e.2).1.length = if w = 3 then [3] else [])) &&
      !(s.readyRings 0).isEmpty && (s.freeCtx 0).isSome) = true) ∧
    (∀ w ∈ [515, 516], (meets (withBad [w] (portAs 3 { EthPort.empty with unsched := [.ring 1023 0] } (ringAs 1023 1 0 false 2))) fun s =>
      decide ((s.port 3).unsched = [.ring 1023 0]) && (Map.get? s.rse.rings 1023).isSome &&
      decide (s.badWords 0x1000 32 = if w = 515 then [515] else [])) = true) ∧
    (∀ w ∈ [0x1007, 0x1008], (meets (withBad [w] slotted) fun s =>
      decide (s.slotBad stored = if w = 0x1007 then [0x1007] else []) && decide (s.txn? 4095 = some stored)) = true) ∧
    (∀ w ∈ [0x3FFFFFFE, 0x3FFFFFFF], (meets (withBad [w] (put [(R.MEM.STAT.READY, 1), (R.HST.WIN_BASE.MIB, 8191)])) fun s =>
      s.pcieUp && decide (s.windowGate 0xFFFFF 1 = .passes) &&
      decide (s.windowBad (s.windowBase + 0xFFFFF) 1 = if w = 0x3FFFFFFF then [w] else [])) = true) ∧
    (meets (withBad [0] (put [(R.SMP.PORT.TX_SIZE.SIZE 7, 1), (R.SMP.PORT.TX_WR.PTR 7, 4), (R.SMP.PORT.MASK.SLOT_MASK 7, 2)]))
      fun s => bitOf (s.get (R.SMP.PORT.MASK.SLOT_MASK 7)) 1 && decide (4 ≤ ringUsed (s.get (R.SMP.PORT.TX_WR.PTR 7)) 0 4096) &&
        decide (s.badWords ((s.smpTxRing 7).1 + 0 % 4096) 4 = [0])) = true ∧
    (meets (put [(R.GNS.STAT.FW_STATE, 1), (R.MEM.STAT.READY, 1)]) fun s => s.coreRuns && s.swept true) = true := by
  decide +kernel

/-- A window read of 8 bytes from 4 over a word at 8 with an uncorrectable error: all ones in the dword at 8 alone (R536), and the
error counted with its address (R578). -/
theorem test_window_poison :
    (match exec (.windowRead 4 8 [.dramUncorrectable 12]) (put [(R.MEM.STAT.READY, 1)]) with
     | .next t => decide (t.emitted.head? = some (.hostDataError ([0, 0, 0, 0] ++ List.replicate 4 0xFF))) &&
         decide (t.get R.MEM.UE_CNT.COUNT = 1) && decide (t.get R.MEM.UE_ADDR_LO.ADDR = 8) && decide (t.dramBad = [1])
     | _ => false) = true := by decide +kernel

/-- A client of port 3 with one master. -/
def client (heard : Int) : Pref :=
  { Pref.empty with masters := [⟨1, [heard], 0, 0, 0, 0, 0, 0, 0, 0, true, 37, true, false, false⟩], selected := some 1 }

/-- The protocols at work on port 3. -/
def speaking (ws : List (Field × Nat)) (f : Pref) : State :=
  let s := linkAs 3 2 3 ([(R.ETH.STAT.HAT_GATED 3, 0), (R.PRO.PREF.CFG.EN 3, 1)] ++ ws)
  { s with pro := { s.pro with prefs := [(3, f)] } }

theorem witness_Protocols :
    (meets (speaking [(R.PRO.PORT.STAT.STATE 3, 2), (R.PRO.PORT.CFG.MCAST 3, 1), (R.PRO.PORT.CFG.TRANSPORT 3, 0)] Pref.empty) fun s =>
      s.ticking && decide (s.get (R.PRO.PORT.STAT.STATE 3) = 2) && s.flag (R.PRO.PORT.CFG.MCAST 3) &&
      (s.dueNow 3 0 (s.sget (R.PRO.PORT.INTV.LOG_SYNC 3))).isSome && (s.dueNow 3 0xB (s.sget (R.PRO.PORT.INTV.LOG_ANN 3))).isSome &&
      (s.ownSource 3 (s.get (R.PRO.PORT.CFG.TRANSPORT 3))).isSome && (s.freeCtx 3).isSome) = true ∧
    (meets (speaking [] (client 0)) fun s => (s.pref 3).master.isSome && !(s.pref 3).annExpired &&
      decide (s.get (R.PRO.PREF.CFG.ANN_TO 3) * interval 0 ≤ s.now - 0)) = true ∧
    (meets (speaking [(R.PRO.PREF.CFG.UNICAST 3, 1), (R.PRO.PREF.CFG.DELAY 3, 1)] (client 0)) fun s => s.ticking && s.portServes 3 &&
      s.flag (R.PRO.PREF.CFG.EN 3) && s.flag (R.PRO.PREF.CFG.UNICAST 3) && (s.pref 3).grants.isEmpty &&
          s.flag (R.PRO.PREF.CFG.DELAY 3)) = true ∧
    (meets (put [(R.PRO.PREF.CFG.UNICAST 3, 0)]) fun s => !s.flag (R.PRO.PREF.CFG.UNICAST 3)) = true ∧
    (meets (live [(R.PRO.SMEAR.EN 7, 1), (R.TSC.LEAP_NEXT.PENDING, 1), (R.TSC.LEAP_AT_LO.AT, 11), (R.TSC.LEAP_NEXT.OFFSET,
        38)]) fun s =>
      (Map.get? s.pro.smears 7).isNone && (s.smearFor 7 s.now).isSome) = true ∧
    (meets (let s := live [(R.TSC.LEAP_NEXT.PENDING, 1)]; { s with pro := { s.pro with smears := [(7, ⟨37, 1, 10 * secU - s.get (R.PRO.SMEAR.W 7) * secU⟩)] } })
      fun s => Map.wf s.pro.smears && (Map.get? s.pro.smears 7).isSome &&
        decide ((10 * secU - s.get (R.PRO.SMEAR.W 7) * secU : Int) + s.get (R.PRO.SMEAR.W 7) *
            ((1000000000 : Int) * 65536) ≤ s.now)) = true := by
  decide +kernel

/-- Spans that the clauses on FULL_RETRY, WB_US, MOD_US and LOG_DREQ find not yet passed, and passed. -/
theorem witness_Waits :
    (∀ ago ∈ [0, 1], (let x := { txn .retry with tried := some (10 * secU - ago * secU) }
      meets (served x [] true) fun s => decide (s.txn? 4095 = some x) &&
        (s.passed x.tried (s.get R.RSE.RESP.FULL_RETRY * (10 * 65536)) == decide (ago = 1)))) ∧
    (∀ ago ∈ [0, 1], (let s := (ringAs 1023 1 0 true 2).set R.RSE.WB_CFG.WB_US 1
      let at_ : Option Int := some (10 * secU - ago * secU)
      meets { s with rse := { s.rse with rings := s.rse.rings.map fun e => (e.1, { e.2 with wbAt := at_, intAt := at_, modUs := 1 }) } }
        fun s => (Map.get? s.rse.rings 1023).any (fun r => r.moved && r.raise && decide (r.role = 2) &&
          (s.passed r.wbAt (s.get R.RSE.WB_CFG.WB_US * (1000 * 65536)) == decide (ago = 1)) &&
          (s.passed r.intAt (r.modUs * (1000 * 65536)) == decide (ago = 1))))) ∧
    (∀ ago ∈ [0, 5], (meets (speaking [(R.PRO.PREF.CFG.UNICAST 3, 1), (R.PRO.PREF.CFG.DELAY 3, 1)]
      { client 0 with reqAt := some (10 * secU - ago * secU) }) fun s => s.ticking && s.portServes 3 &&
        s.flag (R.PRO.PREF.CFG.EN 3) && (s.passed (s.pref 3).reqAt (interval (s.sget (R.PRO.PREF.INTV.LOG_DREQ 3))).toNat ==
          decide (ago = 5)))) := by
  decide +kernel

/-! ### Hypotheses: the glovebox, the sample ports, the flash -/

/-- A key ready to load, its attributes good, and a glove in a state. -/
def keyed (words life uses : Nat) (g st : Nat) : State :=
  put [(R.GLV.KEY_STAT.WORDS, words), (R.GLV.KEY_ATTR.CLASS, 3), (R.GLV.KEY_ATTR.LIFE, life), (R.GLV.KEY_COUNT_LO.COUNT, uses),
    (R.GLV.KEY_ID.ID, 9), (R.GLV.GLOVE.ATTR.STATE g, st), (R.GLV.GLOVE.ATTR.CLASS g, 3), (R.GLV.GLOVE.KEY_ID.ID g, 9),
    (R.GLV.LC.STATE, 1), (R.GLV.LC.LC_MASK, 7)]

theorem witness_Glovebox :
    (meets (keyed 0xFE 1 0 63 0) fun s => Map.wf s.glv.keys && decide (s.get R.GLV.KEY_STAT.WORDS ≠ 0xFF) &&
        decide (s.gloveState 63 = 0)) = true ∧
    (meets (keyed 0xFF 0 0 63 0) fun s => decide (s.get R.GLV.KEY_ATTR.LIFE = 0) &&
      decide (s.get2 R.GLV.KEY_COUNT_LO.COUNT R.GLV.KEY_COUNT_HI.COUNT = 0)) = true ∧
    (meets (keyed 0xFF 1 0 63 1) fun s => decide (s.gloveState 63 = 1) && decide (s.gloveState 0 ≠ 1) &&
      decide (s.get (R.GLV.GLOVE.ATTR.CLASS 63) = s.get R.GLV.KEY_ATTR.CLASS) &&
      decide (s.get (R.GLV.GLOVE.KEY_ID.ID 63) = s.get R.GLV.KEY_ID.ID)) = true ∧
    (∀ life ∈ [0, 1], (meets (keyed 0xFF life 1 63 0) fun s => decide (s.get R.GLV.KEY_STAT.WORDS = 0xFF) &&
      decide (1 ≤ s.get R.GLV.KEY_ATTR.CLASS ∧ s.get R.GLV.KEY_ATTR.CLASS ≤ 3) &&
      decide (s.get2 R.GLV.KEY_COUNT_LO.COUNT R.GLV.KEY_COUNT_HI.COUNT ≠ 0) && decide (∀ m : Fin 64, s.gloveState m ≠ 1))) ∧
    (meets (keyed 0 1 0 0 0) fun s => bitOf (s.get R.GLV.LC.LC_MASK) 1 && bitOf (s.get R.GLV.LC.LC_MASK) 2 &&
      decide (s.get R.GLV.LC.STATE = 1) && s.rse.slotWait.isEmpty && s.rse.respWait.isEmpty) = true := by
  decide +kernel

/-- A sample port in a state, with what is behind its registers. -/
def sampler (n st : Nat) (p : SmpPort) (ws : List (Field × Nat)) : State :=
  let s := live ([(R.SMP.PORT.STAT.STATE n, st), (R.SMP.PORT.CFG.EN n, 1), (R.SMP.PORT.ROLL.PREROLL n, 2)] ++ ws)
  { s with smp := { s.smp with ports := [(n, p)] } }

/-- A group's start instant, ten seconds and some nanoseconds. -/
def groupStart (ns member : Nat) : State :=
  sampler 7 1 SmpPort.empty [(R.SMP.GRP.START_NS.NS 3, ns), (R.SMP.GRP.START_SEC_LO.SEC 3, 10), (R.SMP.GRP.CFG.MASTER 3, 7),
    (R.SMP.PORT.CFG.GROUP_EN 7, member), (R.SMP.PORT.CFG.GROUP 7, 3)]

theorem witness_SamplePorts :
    (meets (sampler 7 1 SmpPort.empty []) fun s => decide (s.spkState 7 = 1) && !s.flag (R.SMP.PORT.CFG.GROUP_EN 7)) = true ∧
    (∀ st ∈ [0, 2, 3, 5], (meets (sampler 7 st SmpPort.empty []) fun s => decide (s.spkState 7 = st) && (s.spk 7).armed.isNone &&
      (s.spk 7).sending.isEmpty) = true) ∧
    (∀ ns ∈ [1199, 1200, 1000000000], ∀ member ∈ [0, 1], (meets (groupStart ns member) fun s => s.hearth.running &&
      decide (s.get (R.SMP.GRP.START_NS.NS 3) = ns) && decide (s.get (R.SMP.GRP.CFG.MASTER 3) = 7) && decide (s.spkState 7 = 1) &&
      (s.flag (R.SMP.PORT.CFG.GROUP_EN 7) == (member == 1)) && s.flag (R.SMP.PORT.CFG.EN 7) &&
          decide (s.get (R.SMP.PORT.CFG.GROUP 7) = 3) &&
      (ns == 1000000000 || (decide ((s.getTime (R.SMP.GRP.START_FRAC.FRAC 3) (R.SMP.GRP.START_NS.NS 3) (R.SMP.GRP.START_SEC_LO.SEC 3)
        (R.SMP.GRP.START_SEC_HI.SEC 3) : Int) < s.now + 1200 * 65536) == (ns == 1199)))) = true) ∧
    (∀ st ∈ [1, 2, 3], ∀ count ∈ [1, 2], ∀ stop ∈ [0, 1],
      (meets (sampler 7 st { SmpPort.empty with count, badRun := 1 } [(R.SMP.PORT.CTL.STOP 7, stop)]) fun s =>
        s.smp.groups.isEmpty && decide (s.get R.SMP.CTL.GRP_STOP = 0) && !s.aes 7 && !s.flag (R.SMP.PORT.CFG.RX_EN 7) &&
        (false == (s.flag (R.SMP.PORT.CFG.JUST 7) != s.flag (R.SMP.PORT.CFG.WS_INV 7))) &&
        !s.flag (R.SMP.PORT.CFG.TX_EN 7) && decide (64 = 2 * s.get (R.SMP.PORT.FMT.SLOT 7)) &&
            decide (s.get (R.SMP.PORT.RATE.RATE_N 7) = 2) &&
        (s.spk 7).startAt.isNone && (s.spk 7).stopAt.isNone && (s.spk 7).armed.isNone && !(s.spk 7).resume &&
        s.smpInRate 7 1365333333 && !s.smpInRate 7 0 && (s.flag (R.SMP.PORT.CTL.STOP 7) == (stop == 1)) &&
            decide (s.spkState 7 = st) &&
        (decide ((s.spk 7).count < s.get (R.SMP.PORT.ROLL.PREROLL 7)) == (count == 1)) &&
        decide (s.get (R.SMP.PORT.RATE.RATE_N 7) ≤ (s.spk 7).badRun + 1) &&
            decide (s.get (R.SMP.PORT.ROLL.POSTROLL 7) ≠ 0)) = true) ∧
    (∀ late, (meets (sampler 7 2 { SmpPort.empty with lastEdge := some (if late then 0 else 10 * secU) } []) fun s =>
      decide (s.spkState 7 = 2) && !s.flag (R.SMP.PORT.CTL.STOP 7) && (s.edgeOverdue 7 == late)) = true) := by
  decide +kernel

/-- A flash command's registers. -/
def flashCommand (busy a n : Nat) : State := put [(R.NVC.FL_STAT.BUSY, busy), (R.NVC.FL_ADDR.ADDR, a), (R.NVC.FL_CMD.LEN, n)]

/-- An ember record that waits, or is being programmed, with failures before. -/
def writing (flying : Option Nat) (fails : Nat) (at_ : Int) : State :=
  let s := live []
  { s with nvc := { s.nvc with write := [⟨List.replicate 256 0xFF, at_, fails, flying, false, false⟩] } }

theorem witness_Flash :
    (meets (flashCommand 1 0 256) fun s => s.flag R.NVC.FL_STAT.BUSY) = true ∧
    (∀ n ∈ [0, 257], (meets (flashCommand 0 0 n) fun s => !s.flag R.NVC.FL_STAT.BUSY &&
        decide (s.get R.NVC.FL_CMD.LEN = 0 ∨ 256 < s.get R.NVC.FL_CMD.LEN)) = true) ∧
    (meets (flashCommand 0 0x1001 256) fun s => decide (256 < s.get R.NVC.FL_ADDR.ADDR % 256 + s.get R.NVC.FL_CMD.LEN)) = true ∧
    (meets (flashCommand 0 0x1000 256) fun s => decide (¬256 < s.get R.NVC.FL_ADDR.ADDR % 256 + s.get R.NVC.FL_CMD.LEN) &&
      !s.flDenied 1 0x1000 256 && !s.flDenied 2 0x1000 256 && !s.flDenied 3 0x1000 256 && s.nvc.hostOp.isNone) = true ∧
    (meets ((flashCommand 0 0x1000 1).set R.NVC.STAT.PROF_PEND 1) fun s => s.flDenied 2 0x1000 1 && s.flDenied 3 0x1000 1) = true ∧
    (meets ((let s := (flashCommand 0 0x1000 1).set R.GLV.LC.STATE 1
        { s with nvc := { s.nvc with sections := [(9, 0x1000, 1, 0)] } })) fun s => s.flDenied 1 0x1000 1) = true ∧
    (∀ op ∈ [1, 2, 3], (let s := put []; meets { s with nvc := { s.nvc with hostOp := some (op, 0x1000, 256), hostData := List.replicate 256 0 } } fun s =>
      decide (s.nvc.hostOp = some (op, 0x1000, 256)) && decide (s.nvc.hostData.length = 256) && s.nvc.write.isEmpty &&
          !s.nvc.reload) = true) ∧
    (∀ fails ∈ [0, 2], (meets (writing (some 0x2000100) fails 0) fun s =>
        decide (s.nvc.write.map EmberWrite.flying = [some 0x2000100]) &&
      decide (s.nvc.write.map EmberWrite.fails = [fails]) && s.nvc.write.all (fun w => !w.judged) && !s.nvc.reload) = true) ∧
    (meets (writing none 0 (10 * secU)) fun s => s.hearth.running &&
      decide (s.now < 10 * secU + s.get R.NVC.CFG.EMBER_DL * ((1000000 : Int) * 65536))) = true ∧
    (meets (writing none 0 0) fun s => decide ((0 : Int) + s.get R.NVC.CFG.EMBER_DL * (1000000 * 65536) ≤ s.now)) = true ∧
    (∀ n ∈ [0, (put []).get R.NVC.ERASE_LIMIT.LIMIT],
      (let s := put []; meets { s with nvc := { s.nvc with ring := { s.nvc.ring with erasing := some 3, counts := [(3, n)] } } } fun s =>
        decide (s.nvc.ring.erasing = some 3) && s.nvc.write.isEmpty && !s.nvc.reload && !bitOf s.nvc.ring.retired 3 &&
        (decide (s.get R.NVC.ERASE_LIMIT.LIMIT ≤ Map.getD s.nvc.ring.counts 3 0 + 1) == (n != 0))) = true) ∧
    (live []).hearth.running = true ∧
    (∀ svc ∈ [0, 1], (let s := put [(R.NVC.STAT.SVC_STATE, svc), (R.NVC.CFG.EMBER_EN, 1)]
      meets { s with clocks := s.clocks ||| 2, nvc := { s.nvc with ring := { s.nvc.ring with on := true } } } fun s =>
        !s.hearth.running && s.hrtRuns && decide (s.svc = svc) && s.flag R.NVC.CFG.EMBER_EN && s.ringWrites) = true) := by
  decide +kernel

/-! ### Hypotheses: redundancy, resets, start-up -/

/-- An ember of the Hearth's state STEPPED with HEARTH_RUN, of second 9, all else but its check zero. -/
def emberBytes : List Byte :=
  let b : List Byte := [0x53, 0x4B, 0x45, 0x4D, 1, 0x12] ++ List.replicate 16 0 ++ leBytes 6 9 ++ List.replicate 224 0
  b ++ leBytes 4 (crc32c b)

/-- A chip of hat number 1 in a role, holding the hat or not, with or without a seed pair. -/
def hatted (role holding : Nat) (arb seeded : Bool) (ws : List (Field × Nat)) : State :=
  let s := live ([(R.RED.STAT.ROLE, role), (R.RED.STAT.HOLDING, holding), (R.RED.HAT.HAT_NUM, 1), (R.GLV.LC.STATE, 1),
      (R.TDC.STAT.STATE, 2),
    (R.NVC.STAT.SVC_STATE, 1), (R.SYN.CH.STAT.STATE 0, 3)] ++ ws)
  { s with red := { s.red with arbitrating := arb, pair := if seeded then some ⟨9, 0, emberBytes⟩ else none } }

/-- The line's levels of a claim's frame, dominant bits low. -/
def frameWord (claim : Nat) : BitVec 16 :=
  BitVec.ofNat 16 (((List.range 16).map fun i => if (frameBits claim).getD i false then 0 else 2 ^ (15 - i)).sum)

/-- The hypotheses on a frame: valid or not, lost or not, a claim of a hat number. -/
def frameIs (valid lost claims : Bool) (claim : Nat) (s : State) : Bool :=
  let b := sampledBits (frameWord claim).toNat
  (frameValid b == valid) && ((lostAt (frameBits s.claimNow) b).isSome == lost) && (decide (s.claimNow % 256 ≠ 0) == claims) &&
    !s.soloInForce && decide (s.svc ≠ 3) && !s.red.reclaim && decide (s.healthAll ≠ 3)

theorem witness_HatAndRoles :
    (∀ f ∈ [0, 1], (meets (put [(R.NVC.STAT.SVC_STATE, 2 + f)]) fun s => s.soloInForce || decide (s.svc = 3)) = true) ∧
    (meets (hatted 1 1 false false []) fun s => frameIs true false true 257 s && s.holding && !s.flag R.RED.STAT.LINE_FAULT &&
      decide (s.role = 1)) = true ∧
    (meets (hatted 1 1 false false []) fun s => !frameValid (sampledBits 0xFFFF) && frameIs true true true 511 s &&
        s.holding) = true ∧
    (meets (hatted 1 1 false false [(R.RED.STAT.RENOUNCED, 1)]) fun s => frameIs true false false 0 s && s.holding) = true ∧
    (meets (hatted 2 0 false true []) fun s => frameIs true false true 1 s && !s.holding && s.pairValid 0 && s.rateSource) = true ∧
    (meets (hatted 2 0 false false []) fun s => frameIs true false true 1 s && !s.holding && !s.pairValid 0 && !s.rateSource) = true ∧
    (meets (hatted 0 0 true false []) fun s => frameIs true true true 257 s && !s.holding && s.red.arbitrating &&
      !s.flag R.RED.STAT.RENOUNCED) = true ∧
    (meets (hatted 3 0 false false []) fun s => decide (s.role = 3 ∧ s.synState 0 = 3 ∧ s.get R.GLV.LC.STATE ≠ 0 ∧
        s.get R.RED.HAT.HAT_NUM ≠ 0)) = true ∧
    (∀ at_ ∈ [10 * (secU : Int), 10 * secU + 1], (meets (
        let s := hatted 1 1 false false []; { s with red := { s.red with yieldAt := some at_ } }) fun s =>
      decide (s.red.yieldAt = some at_) && decide (s.role = 1) && (decide (at_ ≤ s.now) == decide (at_ = 10 * (secU : Int))))) ∧
    (meets (let s := put [(R.RED.STAT.ROLE, 4)]; { s with clocks := s.clocks ||| 2, red := { s.red with pair := some ⟨9, 0, emberBytes⟩ } })
      fun s => decide (s.role = 4) && !s.hearth.running && s.hrtRuns && s.red.pair.isSome && s.nvc.kept.isEmpty) = true ∧
    (let s := put []; canon { s with red := { s.red with loseDue := true } } = true ∧
        canon { s with red := { s.red with winDue := some true } } = true) := by
  decide +kernel

theorem witness_HatLink :
    (meets (put []) fun s => !s.linkTalks && decide (s.get R.RED.LINK_STAT.STATE ≠ 3)) = true ∧
    (meets (put [(R.RED.LINK_STAT.STATE, 1)]) fun s => decide (s.get R.RED.LINK_STAT.STATE = 1)) = true ∧
    (meets (hatted 1 1 false false [(R.RED.LINK_STAT.STATE, 3), (R.RED.LINK_STAT.VER, 2), (R.RED.LINK_CFG.VER_MAX,
        2)]) fun s => s.linkTalks &&
      decide (s.get R.RED.LINK_STAT.STATE = 3) && decide (s.get R.RED.LINK_STAT.VER = 2) && decide (s.commonVersion 1 2 = some 2) &&
      decide (s.commonVersion 3 3 = none) && s.holding && decide (s.get R.RED.HAT.HAT_NUM ≤ 1) &&
      !decide (s.role = 2 ∧ s.healthAll = 3 ∧ s.red.failed = false)) = true ∧
    (meets (let s := hatted 1 1 false false [(R.RED.LINK_STAT.STATE,
        3)]; { s with nvc := { s.nvc with latest := some emberBytes } }) fun s =>
      s.holding && decide (s.get R.RED.LINK_STAT.STATE = 3) && emRun emberBytes && decide (s.red.sent ≠ some (emSecond emberBytes)) &&
      s.hearth.running) = true ∧
    (meets (let s := put [(R.RED.LINK_STAT.STATE, 3)]; { s with red := { s.red with marker := some 0, lastSecond := some 8 } }) fun s =>
      !s.hearth.running && s.red.marker.isSome && decide (emSecond emberBytes = 8 + 1) && emberOk emberBytes &&
          emRun emberBytes) = true ∧
    (meets (put [(R.RED.LINK_STAT.STATE, 2)]) fun s => s.linkTalks && decide (s.get R.RED.LINK_STAT.STATE ≠ 3)) = true ∧
    (put []).red.marker = none := by
  decide +kernel

theorem witness_Resets :
    (meets (put []) fun s => Map.wf s.glv.keys && decide (s.power = .on) && !s.flashBusy) = true ∧
    (meets { put [] with power := .lost } fun s => decide (s.power = .lost)) = true ∧
    (meets (let s := put []; { s with nvc := { s.nvc with ring := { s.nvc.ring with erasing := some 0 } } }) fun s =>
        s.flashBusy) = true ∧
    (meets (put [(R.GLV.GLOVE.ATTR.LIFE 63, 1), (R.GLV.GLOVE.ATTR.LIFE 0, 0)]) fun s => s.flag (R.GLV.GLOVE.ATTR.LIFE 63) &&
      !s.flag (R.GLV.GLOVE.ATTR.LIFE 0)) = true ∧ (0x4853 : BitVec 16) ≠ 0x4852 := by
  decide +kernel

/-- A header of an image of format 0x02 with one section, its check good or not. -/
def header (good : Bool) : List Byte :=
  let b : List Byte := [0x4B, 0x4E, 0x44, 0x4C, 2, 0, 1, 1] ++ List.replicate 12 0xFF ++ [0, 0, 0, 0] ++
    List.replicate 14 0xFF ++ [1, 0] ++ List.replicate 212 0xFF
  b ++ leBytes 4 (crc32c b + if good then 0 else 1)

/-- Bytes of the flash from an address on, in its canonical form. -/
def flashOf (at_ : Nat) (bs : List Byte) : Mem := ((List.range' at_ bs.length).zip bs).filter fun e => e.2 != flashBlank

/-- The part at a stage of start-up with bytes in its flash, and sections listed. -/
def starting (stage : Nat) (at_ : Nat) (bs : List Byte) (sections : Map (Nat × Nat × Nat)) (ws : List (Field × Nat)) : State :=
  let s := put ws
  { s with nvc := { s.nvc with stage, sections, flash := flashOf at_ bs } }

/-- A listed section of 256 erased bytes, its check good. -/
def erased : Nat × Nat × Nat := (0x1000, 256, crc32c (List.replicate 256 0xFF))

theorem erased_good (s : State) (n : Nat) (hf : s.nvc.flash = []) (hn : Map.get? s.nvc.sections n = some erased) :
    sectionOk s n (List.replicate 256 0xFF) :=
  ⟨0x1000, 256, _, hn, by rw [State.flashRead, hf]; decide +kernel, rfl⟩

/-- One sector of the ring with its header, and a record in its first slot. -/
def ringBytes : List Byte :=
  let h : List Byte := [0x53, 0x4B, 0x45, 0x53, 1] ++ List.replicate 247 0xFF
  let e : List Byte := [0x53, 0x4B, 0x45, 0x4D, 1] ++ List.replicate 247 0xFF
  h ++ leBytes 4 (crc32c h) ++ e ++ leBytes 4 (crc32c e)

theorem witness_StartUp :
    (meets (starting 0 0 (header true) [] []) fun s => decide (s.svc = 0 ∧ s.power = .on ∧ s.nvc.stage = 0) &&
      headerMagic (s.flashRead 0 256) && headerOk (s.flashRead 0 256) 0 && decide (¬s.get R.NVC.STAT.STRAP_BOOT % 2 = 1)) = true ∧
    (meets (starting 0 0 (header false) [] []) fun s => headerMagic (s.flashRead 0 256) && !headerOk (s.flashRead 0 256) 0) = true ∧
    (meets (starting 0 0 [] [] [(R.NVC.STAT.STRAP_BOOT, 1)]) fun s => !headerMagic (s.flashRead 0 256) &&
        decide (s.get R.NVC.STAT.STRAP_BOOT % 2 = 1)) = true ∧
    (∀ st ∈ [1, 3, 4, 5], (meets (starting st 0 [] [(1, erased), (5, erased), (7, erased), (9, erased)] []) fun s =>
      decide (s.svc = 0 ∧ s.power = .on ∧ s.nvc.stage = st) && decide (s.get R.NVC.STAT.STRAP_PROF < 4) &&
          decide (s.nvc.flash = []) &&
      decide (s.nvc.sections.map Prod.fst = [1, 5, 7, 9]) &&
      !s.nvc.ring.on && !s.osc.idRead) = true) ∧
    (∀ boot ∈ [0, 2], ∀ r ∈ [0, 1], (meets (starting 5 0 [] [] [(R.SYN.CH.STAT.STATE 0, 3), (R.MEM.STAT.READY, 1),
        (R.NVC.STAT.STRAP_BOOT, boot),
        (R.RED.HAT.HAT_NUM, 1), (R.RED.STAT.RENOUNCED, r)]) fun s => decide (s.nvc.stage = 5 ∧ s.synState 0 = 3 ∧ s.role = 0) &&
      s.flag R.MEM.STAT.READY && !s.flag R.RED.STAT.HOLDING && (decide (s.get R.NVC.STAT.STRAP_BOOT = 2) == (boot == 2)) &&
      (s.flag R.RED.STAT.RENOUNCED == (r == 1)) && decide (s.get R.RED.HAT.HAT_NUM ≠ 0)) = true) ∧
    (∀ k ∈ [0, 3], ∀ pend ∈ [0, 1], (meets (starting 7 0 [] [(1, erased)] [(R.NVC.PROF_REQ.PROFILE, k),
        (R.NVC.STAT.PROF_PEND, pend)]) fun s =>
      decide (s.svc = 0 ∧ s.power = .on) && (s.flag R.NVC.STAT.PROF_PEND == (pend == 1)) && decide (s.nvc.flash = []) &&
      ((Map.get? s.nvc.sections (s.get R.NVC.PROF_REQ.PROFILE + 1)).isSome == (k == 0))) = true) := by
  decide +kernel

theorem witness_StartUp_sections (st : Nat) (ws : List (Field × Nat)) (n : Nat) (hn : n ∈ [1, 5, 7, 9]) :
    sectionOk (starting st 0 [] [(1, erased), (5, erased), (7, erased), (9, erased)] ws) n (List.replicate 256 0xFF) := by
  refine erased_good _ n rfl ?_
  simp only [List.mem_cons, List.not_mem_nil, or_false] at hn
  rcases hn with rfl | rfl | rfl | rfl <;> rfl

/-- The ring found on, in a part that is about to scan it. -/
def scanning : State :=
  let s := starting 4 0x2000000 ringBytes [] [(R.NVC.EMBER_SIZE.BYTES, 16384)]
  { s with nvc := { s.nvc with ring := { s.nvc.ring with on := true } } }

theorem witness_StartUp_emberScan :
    canon scanning = true ∧ scanning.nvc.stage = 4 ∧ scanning.nvc.ring.on = true ∧
      (newestRecord (((scanning.validSectors.take 2).map Prod.fst).flatMap fun k => scanning.sectorRecords k)).isSome = true := by
  refine ⟨by decide +kernel, by decide +kernel, by decide +kernel, ?_⟩
  have h : scanning.validSectors = [(0, 0xFFFFFFFF)] := by decide +kernel
  have r : (scanning.sectorRecords 0).length = 1 := by decide +kernel
  rw [h]
  simp only [List.take, List.map, List.flatMap_cons, List.flatMap_nil, List.append_nil]
  match hr : scanning.sectorRecords 0, r with
  | [e], _ => rfl

/-! ### Hypotheses: the host, monitoring, memory and faults -/

/-- The hypotheses on a register of one field `f` that a plain access reaches. -/
def single (s : State) (f : Field) (acc : Access) : Bool :=
  decide (s.gate f.addr = .passes) && !inMsixTable f.addr && !inPba f.addr && decide (fieldsAt f.addr = [f]) &&
      decide (f.acc = acc) &&
    decide (f.key / 32 = f.addr ∧ 0 < f.width ∧ f.lo + f.width ≤ 32) && decide (f.addr % 4 = 0) && (s.ownRead f.addr).isNone &&
    decide (f.addr ≠ R.RSE.DOORBELL.RING.addr ∧ f.addr ≠ R.GLV.LC_CMD.TARGET.addr ∧ f.key ≠ R.TSC.STEER1.VALUE.key ∧
      f.key ≠ R.TSC.INTEG1.VALUE.key ∧ f.key ≠ R.GLB.INT_STAT.BLOCK.key ∧ f.key ≠ R.FLT.STAT.ALARM.key) &&
    decide (s.written f < 2 ^ f.width)

theorem witness_HostInterface_registers :
    (meets (put [(R.HST.STAT.HOSTSEL, 1)]) fun s => !s.pcieUp && decide (s.power = .on) && s.flag R.HST.STAT.HOSTSEL) = true ∧
    (meets (let s := put []; { s with host := { s.host with d3hot := true } }) fun s => s.pcieUp && s.host.d3hot) = true ∧
    (meets (live []) fun s => s.pcieUp && !s.host.d3hot && decide (s.gate 0xFFFFFC = .unsupported) &&
        single s R.HST.WIN_BASE.MIB .live &&
      decide (s.refuses R.HST.WIN_BASE.MIB (bitsOf 0xFFFFFFFF 0 14) = none) && single s R.TSC.LEAP_AT_LO.AT .cfg &&
      decide (R.TSC.LEAP_AT_LO.AT.grp ≠ none) && single s R.GLB.CLK_RUN.RUN .stat && decide (0xFFFFFF % 4 ≠ 0)) = true ∧
    (meets (live []) fun s => (fieldsAt 0x40004).all fun f => single s f .rc) = true ∧ (fieldsAt 0x40004).length = 1 ∧
    (meets (put []) fun s => decide (s.gate 0x20078 = .refused)) = true ∧
    (meets { live [] with clocks := 0x801000 } fun s => decide (s.gate 0x20078 = .stalls)) = true := by
  decide +kernel

/-- A state in which one access waits since a mark, keyed to domain 23. -/
def stalled (write : Bool) (since : Option Int) : State :=
  let s := live []
  { s with host := { s.host with stalled := [(23, ⟨write, 0x20078, 1, 15, since⟩)] } }

theorem witness_HostInterface_rest :
    (meets (put []) fun s => s.pcieUp && decide (s.windowGate 0 4096 = .refused)) = true ∧
    (meets (put [(R.MEM.STAT.READY, 1), (R.HST.WIN_BASE.MIB, 8191)]) fun s => decide (s.windowGate 0xFFFFF 1 = .passes) &&
      decide (s.windowGate 0xFFFFF 2 = .unsupported) && decide (s.ctIndex (s.windowBase + 0xFFFFF + 0) = none) &&
      decide (s.windowGate 0xFFFFC 4 = .passes) && !s.flag R.HST.STAT.HOSTSEL) = true ∧
    (meets (put [(R.MEM.STAT.READY, 1), (R.HST.STAT.HOSTSEL, 1)]) fun s => decide (s.power = .on) && s.flag R.HST.STAT.HOSTSEL &&
      decide (bitsOf 0xC0000000 28 2 = 0 ∧ 0xC0000000 % 4 = 0) && bitOf 0xC0000000 30 && bitOf 0xC0000000 31 &&
      decide (s.windowGate (0xC0000000 % 2 ^ 28) 4 = .passes) && decide (bitsOf 0xFFFFFFFC 28 2 ≠ 0)) = true ∧
    (∀ w, ∀ us ∈ [63, 64], (meets (stalled w (some (10 * secU - us * 1000 * nsU))) fun s =>
      (s.host.stalled.find? (fun e => e.1 == 23)).any (fun e => s.passed e.2.since s.watchdogSpan == (us == 64)) &&
      s.host.stalled.all (fun e => e.1 != 0)) = true) ∧
    (meets (stalled true none) fun s =>
      decide (s.host.stalled.find? (fun e => e.1 == 23) = some (23, ⟨true, 0x20078, 1, 15, none⟩)) &&
      s.passed none s.watchdogSpan && !s.intN) = true ∧
    (meets (put [(R.GLB.INT_STAT.BLOCK, 2 ^ 26), (R.GLB.INT_EN.BLOCK, 2 ^ 26)]) fun s => s.intN) = true ∧
    (meets (put [(R.GLB.CLK_RUN.RUN, 4)]) fun s => !alwaysRuns 2 && !(followsRule 2 && s.clock 2) &&
        bitOf (s.get R.GLB.CLK_RUN.RUN) 2 &&
      decide (s.power = .on) && !bitOf (s.get R.GLB.CLK_RUN.RUN) 3 && !alwaysRuns 3 && !followsRule 3 &&
      decide (Map.getD s.host.abandoned 3 [] = []) && s.host.stalled.isEmpty && !s.host.perst) = true := by
  decide +kernel

/-- A dump's ring of one megabyte, its pointers, and DRAM ready. -/
def dumping (wr rd : Nat) (last : Option Int) (ws : List (Field × Nat)) : State :=
  let s := live ([(R.MEM.STAT.READY, 1), (R.PMC.DUMP_SIZE.SIZE, 4096), (R.PMC.DUMP_WR.PTR, wr), (R.PMC.DUMP_RD.PTR, rd),
      (R.PMC.DUMP_CFG.EN, 1)] ++ ws)
  { s with pmc := { s.pmc with lastDump := last } }

theorem witness_Monitoring_dumps :
    (meets (dumping (2 ^ 24 - 1) (2 ^ 24 - 1) none []) fun s => s.flag R.MEM.STAT.READY &&
        decide (s.get R.PMC.DUMP_SIZE.SIZE * 4096 = 2 ^ 24) &&
      decide (s.get R.PMC.DUMP_WR.PTR < 2 ^ 24) && s.hearth.running && s.dumpDue.isNone &&
      decide (0 + (s.dumpRecord (some s.now.toNat) 0 false true).length < 2 ^ 24)) = true ∧
    (meets (dumping 0 1 (some 0) []) fun s => s.dumpDue.isSome &&
      decide (2 ^ 24 ≤ (0 + 2 ^ 24 - 1) % 2 ^ 24 + (s.dumpRecord (some s.now.toNat) 0 false true).length)) = true ∧
    (meets (put []) fun s => !s.flag R.MEM.STAT.READY) = true := by
  decide +kernel

theorem witness_Monitoring_rest :
    (meets (put [(R.PMC.SEL.EVENT 1023, 1)]) fun s => !eventOwn 1 && eventListed 1 && decide (s.counters 1 = [1023]) &&
        !s.flag R.PMC.SAMP_CFG.EN) = true ∧
    (meets (put [(R.PMC.SAMP_CFG.EN, 1), (R.PMC.SAMP_CFG.STOKERS, 0x8000), (R.MEM.STAT.READY, 1)]) fun s =>
        s.flag R.PMC.SAMP_CFG.EN &&
      s.flag R.MEM.STAT.READY && s.triggerDue && bitOf (s.get R.PMC.SAMP_CFG.STOKERS) 15 &&
        !bitOf (s.get R.PMC.SAMP_CFG.STOKERS) 14) = true ∧
    (∀ k ∈ [639, 640], (meets (let s := live [(R.PMC.SAMP_CFG.EN, 1), (R.PMC.SAMP_CFG.LOG_INT, 10), (R.MEM.STAT.READY, 1)];
      { s with pmc := { s.pmc with sampAt := some (s.hearth.tick - BitVec.ofNat 32 k) } }) fun s =>
        s.triggerDue == (k == 640)) = true) ∧
    (meets (let s := put [(R.PMC.TEL_EXT.ADDR 3, 72)]; { s with pmc := { s.pmc with supplyOut := [11] } }) fun s =>
      decide (s.get (R.PMC.TEL_EXT.ADDR 3) ≠ 0) && decide (s.get (R.PMC.TEL_EXT.ADDR 0) = 0) &&
          decide (11 ∈ s.pmc.supplyOut ∧ 11 ∉ s.pmc.supplyBad) &&
      decide (s.railNominal 11 * 5 < 100 * ((0 : Int) - s.railNominal 11).natAbs)) = true := by
  decide +kernel

/-- A filing of class NOTE. -/
def filing : FaultRec := ⟨F.tscLaneResync, false, false, 1, 0, 2, 0, 0, 0, 1⟩

/-- The fault ring's pointers, with one record due. -/
def ringing (size wr rd : Nat) : State :=
  let s := put [(R.FLT.RING_SIZE.SIZE, size), (R.FLT.RING_WR.PTR, wr), (R.FLT.RING_RD.PTR, rd), (R.MEM.STAT.READY, 1)]
  { s with flt := { s.flt with ringDue := [(0, List.replicate 32 0)] } }

theorem witness_MemoryAndFaults :
    (meets (put [(R.SYN.CH.STAT.STATE 0, 3)]) fun s => !s.flag R.MEM.STAT.READY && !s.flag R.MEM.STAT.TRAIN_FAIL &&
        decide (s.synState 0 = 3) &&
      s.flt.queue.isEmpty) = true ∧
    (meets (put [(R.MEM.STAT.READY, 1)]) fun s => s.flag R.MEM.STAT.READY && s.swept true && s.swept false) = true ∧
    (meets (put []) fun s => !s.swept true) = true ∧
    (∀ slow, ∀ ms ∈ [199, 200], (meets (let s := live [(R.MEM.SWEEP.SRAM_MS, 100)];
      { s with pmc := { s.pmc with sramSweep := ⟨some (10 * secU - ms * 1000000 * nsU), slow⟩ } }) fun s =>
        s.passed (s.sweep false).since (2 * s.sweepPeriod false) == (ms == 200) && (s.sweep false).slow == slow) = true) ∧
    (meets (let s := put []; { s with flt := { s.flt with queue := List.replicate 16 filing, logged := 63 } }) fun s =>
      decide (s.flt.queue = filing :: List.replicate 15 filing) && decide (s.flt.discarded = 0 ∧ s.flt.logged < 64) &&
      decide (filing.kind.cls = .note)) = true ∧
    (∀ size ∈ [0, 1, 4096], ∀ rd ∈ [0, 32], (meets (ringing size 0 rd) fun s => decide (s.flt.ringDue.length = 1) &&
      (decide (s.get R.FLT.RING_SIZE.SIZE * 4096 = 0) == (size == 0)) && decide (s.get R.FLT.RING_SIZE.SIZE * 4096 ≤ 2 ^ 24) &&
      (size == 0 || (decide ((0 + size * 4096 - rd) % (size * 4096) + 32 < size * 4096) == (rd == 0)))) = true) ∧
    (meets (live []) fun s => s.hearth.running && !s.damperOpen && s.flt.firsts.isEmpty) = true ∧
    (meets (put [(R.TSC.LOOP.OWNER, 1)]) fun s => s.damperOpen && !s.hearth.running) = true := by
  decide +kernel

/-! ### Ill-formed commands are refused -/

theorem test_wf_upset : Instr.wf (.hearthTick (some ⟨0, .phase, 3⟩)) = false ∧
    Instr.wf (.hearthTick (some ⟨0, .phase, 2⟩)) = true := by decide

theorem test_wf_identity : Instr.wf (.idReadDone (some (List.replicate 15 0))) = false ∧
    Instr.wf (.idReadDone (some (List.replicate 129 0))) = false ∧ Instr.wf (.idReadDone (some
        (List.replicate 16 0))) = true := by decide +kernel

theorem test_wf_dwell : Instr.wf (.dwellDone 0 ⟨5, [⟨0, 0⟩], 5, 0⟩) = false ∧
    Instr.wf (.dwellDone 0 ⟨5, [⟨0, 0⟩], 6, 0⟩) = true := by decide

theorem test_wf_unit : Instr.wf (.navRecord 0 ⟨0, [], true, 0, false, false, 8, 7⟩) = false := by decide

theorem test_wf_histogram : Instr.wf (.spareCalDone (List.replicate 1023 1) 0) = false := by decide +kernel

theorem test_wf_edges : Instr.wf (.tdcEdge 0 ⟨1, 1, ⟨true, 0, 0, 0, 0, 0⟩⟩) = false ∧
    Instr.wf (.tdcEdge 0 ⟨1, 0, ⟨true, 0, 0, 0, 0, 0⟩⟩) = true := by decide

theorem test_wf_calibration : Instr.wf (.ltsCalDone 0 [] [0]) = false ∧
    Instr.wf (.ltsCalDone 0 (List.replicate 1025 0) []) = false := by
  decide +kernel

theorem test_wf_renewal : Instr.wf (.prefRenew 0 1) = false ∧ Instr.wf (.prefRenew 0 9) = true := by decide

theorem test_wf_sweep : Instr.wf (.selftestSynSweep 0 ⟨[], true⟩) = false := by decide

theorem test_wf_sections :
    Instr.wf (.earlySectionsRead ⟨[], [(0, 0, 0), (0, 1, 1)]⟩) = false ∧
    Instr.wf (.lateSectionsRead ⟨0, ⟨0, [[], [], [], [], []], [], []⟩, []⟩) = false := by decide

theorem test_wf_registers : Instr.wf (.registerWrite 0x20001 0 15 false false) = false ∧
    Instr.wf (.rcRead 0x20002 15 false) = false := by decide

theorem test_wf_window : Instr.wf (.windowRead 0 0 []) = false ∧ Instr.wf (.windowRead 0xFFFFFFF 2 []) = false ∧
    Instr.wf (.windowWrite 0 []) = false ∧ Instr.wf (.windowWrite 0 (List.replicate 257 0)) = false := by decide +kernel

theorem test_wf_tally : Instr.wf (.dumpNow [(1, 1), (1, 2)] 0 false) = false ∧
    Instr.wf (.counterDump [(1, 1), (1, 2)] 0 false) = false ∧
    Instr.wf (.cntLoRead 0 [(1, 1), (1, 2)]) = false := by decide

theorem test_wf_samples : Instr.wf (.sampleTrigger [⟨3, 0, 0, 0, 0, false⟩, ⟨3, 1, 1, 1, 1, false⟩]) = false := by decide

theorem test_wf_supplies : Instr.wf (.telemetrySample [0, 0, 0] (List.replicate 12 0)) = false ∧
    Instr.wf (.brownout 12) = false := by decide

/-! ### The time base, against the manual's worked examples -/

-- 00_scope.md, TIME96: 1,700,000,000:000,000,001.5000.
theorem test_time96 : linT96 (1700000000 * secU + 65536 + 0x8000) = 0x00006553F100000000018000 := by decide +kernel

/-- Nanoseconds and fraction after each of some ticks. -/
def ticked (l : Lane) : Nat → List (Nat × Nat × Nat)
  | 0 => []
  | n + 1 => (t96Sec l.tick.time, t96Ns l.tick.time, t96Frac l.tick.time) :: ticked l.tick n

-- 01_hearth_timescale.md, after R19.
theorem test_ticks : ticked (laneAt (1699999999 * secU + 999999997 * 65536)) 5 =
    [(1699999999, 999999998, 0x999A), (1700000000, 0, 0x3333), (1700000000, 1, 0xCCCD), (1700000000, 3, 0x6666), (1700000000,
        5, 0)] := by
  decide +kernel

/-- The lane of the worked example after R59, at the tick given there. -/
def exampleLane : Lane := { laneAt (1700000000 * secU) with rate := 3450000 }

-- 01_hearth_timescale.md, after R59: five ticks later.
theorem test_replica : (exampleLane.advance 5).time = linT96 (1700000000 * secU + 8 * 65536) ∧
    (exampleLane.advance 5).acc = 55200000 := by
  decide +kernel

-- 01_hearth_timescale.md, after R38: what STEP_LAST reads.
theorem test_step_last :
    let t := (put []).setSpan R.TSC.STEP_LAST_FRAC.FRAC R.TSC.STEP_LAST_NS.NS R.TSC.STEP_LAST_SEC_LO.SEC R.TSC.STEP_LAST_SEC_HI.SEC
      (1699999958 * secU + 624999987 * 65536 + 0x4000)
    (t.get R.TSC.STEP_LAST_SEC_LO.SEC, t.get R.TSC.STEP_LAST_SEC_HI.SEC, t.get R.TSC.STEP_LAST_NS.NS,
        t.get R.TSC.STEP_LAST_FRAC.FRAC) =
      (0x6553F0D6, 0, 624999987, 0x4000) := by
  decide +kernel

-- R60: a snapshot of the tick before the example's second boundary.
theorem test_snapshot :
    nextIs (exec .snapLatch (runAt (1699999999 * secU + 999999997 * 65536) (put [(R.TSC.STAT.SNAP_BUSY, 1)]))) fun t =>
      t.get R.TSC.SNAP_NS.NS == 999999997 && t.get R.TSC.SNAP_SEC_LO.SEC == 1699999999 && !t.flag R.TSC.STAT.SNAP_BUSY := by
  decide +kernel

-- R20: an ACC that reaches 5^15 carries one unit and keeps the rest.
theorem test_acc_carry :
    let l : Lane := { laneAt 0 with acc := 30517578124, phase := 4, rate := 1 }
    t96Lin l.tick.time = 104858 + 1 ∧ l.tick.acc = 15 := by decide +kernel

-- R20: a negative S borrows by the floor.
theorem test_acc_borrow :
    let l : Lane := { laneAt 0 with acc := 0, phase := 4, rate := -1 }
    t96Lin l.tick.time = 104858 - 1 ∧ l.tick.acc.toNat = 30517578125 - 16 := by decide +kernel

-- R50: one upset lane is outvoted.
theorem test_upset :
    nextIs (exec (.hearthTick (some ⟨1, .time, 41⟩)) (live [])) fun t =>
      decide (t.voted = (laneAt (10 * secU)).tick) && t.get (R.TSC.LANE_DIS.TICKS 1) == 1 && t.get (R.TSC.LANE_DIS.TICKS 0) == 0 := by
  decide +kernel

-- 01_hearth_timescale.md, after R46: TAI second 1,704,067,237 is 23:59:60, and then UTC reads 1,704,067,200.
theorem test_leap_second :
    let s := put [(R.TSC.LEAP_CUR.OFFSET, 37), (R.TSC.LEAP_NEXT.OFFSET, 38), (R.TSC.LEAP_NEXT.PENDING, 1),
        (R.TSC.LEAP_AT_LO.AT, 0x659200A6)]
    s.leapAt = 1704067238 ∧ (s.utcOf 1704067237 0).2 = true ∧
        ((s.set R.TSC.LEAP_CUR.OFFSET 38).utcOf 1704067238 0).1 = 1704067200 := by
  decide +kernel

-- R39.
theorem test_step_arm : nextIs (exec .stepArm (live [(R.TSC.STAT.STATE, 2)])) (fun t => t.get R.TSC.STAT.STATE == 1) = true ∧
    nextIs (exec .stepArm stepped) (fun t => t.get R.TSC.STAT.STATE == 2 &&
        t.get R.TSC.EVT.ARM_ABSORBED == 1) = true := by decide +kernel

-- R84's two examples, and the saturated bound.
theorem test_dispersion : ntpDispersion (521 * 256 + 224) = 1 ∧ ntpDispersion (40000 * 256) = 3 ∧
    ntpDispersion 0xFFFFFFFF = 0xFFFFFFFF := by
  decide

-- R83: while the Hearth is held in reset.
theorem test_query_in_reset : nextIs (exec .query (put [])) (fun t => t.get R.EBD.QUERY_EB.EB == 0xFFFFFFFF &&
    t.get R.EBD.EVT.QUERY_DONE == 1) = true := by
  decide +kernel

/-! ### Signals -/

-- R117, R119: no edge in a gate of a qualified slot.
theorem test_absent : nextIs (exec (.refGate 2 0) (slotAs 2 3 2 RefSlot.empty (live [(R.REF.SLOT.NOM.NOM 2, 10000000)]))) (fun t =>
    t.slotState 2 == 4 && t.get (R.REF.SLOT.STAT.CAUSE 2) == 1) = true := by decide +kernel

-- 07_interval_measurement.md, after R229: the stamp of an edge 6,500 ps after its tie.
theorem test_stamp :
    let s := put []
    (({ s with tdc := { s.tdc with ties := [⟨recordAt 0x40000000 exampleLane, 0⟩] },
               hearth := { s.hearth with replicas := [(11, ⟨true, 2, [recordAt 0x40000000 exampleLane], none⟩)] } }).tdcStamp 6500).map Prod.fst =
      some ((1700000000 * secU + 6 * 65536 + 0x8000 : Nat) : Int) := by decide +kernel

-- R231: 3.2 ns and the trim.
theorem test_compensation : (put [(R.TDC.CH.SKEW.PS 3, 0x3FF)]).tdcCompensate 24 0 = 0 ∧
    (put []).tdcCompensate 3 3200 = 0 := by decide +kernel

-- R193: cause SOFT alone.
theorem test_mute : nextIs (exec (.outMute 3) (put [])) (fun t => bitOf (t.get (R.OUT.STAT.MUTE 3)) 0) = true ∧
    nextIs (exec (.outUnmute 3) (put [(R.OUT.STAT.MUTE 3, 1)])) (fun t => !bitOf (t.get (R.OUT.STAT.MUTE 3)) 0) = true :=
        by decide +kernel

-- R225: of 2^20 hits a quarter is 1,000 ps; the second bin's centre lies half its width on from the first's end.
theorem test_centres : binCentres 0 (binWidths 20 [262144, 262144, 524288, 0]) = [500, 1500, 3000, 4000] ∧
    tapWidths (binWidths 20 [262144, 262144, 524288, 0]) = [4000] := by decide +kernel

-- 08_gnss_search_and_tracking.md, the search for PRN 12: what the words spell, its bins, the phase found.
theorem test_search :
    let j := (put [(R.GNA.JOB_W1.DOP_CTR, 0xFB1E), (R.GNA.JOB_W1.DOP_RANGE, 0x9C4), (R.GNA.JOB_W2.TC, 1)]).jobWords
    (j.dopCtr, jobBins j, [0, 1, 2].map (binFreq j), (signalOf 0).hypPhase 1235) = (-1250, 11, [-1250, -750, -1750],
        617 * 2 ^ 48 + 2 ^ 47) := by
  decide +kernel

-- The same, the aided job for L5: hypothesis 12,350 of block 3, at -1,785 Hz scaled to L5.
theorem test_aided :
    let x := aidedCell { job with sig := 2 } silence ⟨0, 617 * 2 ^ 48 + 2 ^ 47, 0, 0, -1785000⟩
    x.1 = 12350 ∧ x.1 / 4096 = 3 ∧ x.2 = -1785 * 117645 / 157542 := by decide +kernel

-- R239: the values of two bits.
theorem test_samples : (List.range 4).map (sampleValue 0 2) = [1, 3, -1, -3] ∧ (List.range 4).map (sampleValue 1 2) = [1, 3, -3, -1] ∧
    (List.range 4).map (sampleValue 2 2) = [-3, -1, 1, 3] := by decide +kernel

-- R292: week 35 of 10 bits at or after week 2,048 is 2,083, and week 0 at or after 2,049 is 3,072.
theorem test_week : resolveWeek 2048 10 35 = 2083 ∧ resolveWeek 2049 10 0 = 3072 := by decide

-- R249: a job of no dwell is rejected.
theorem test_submit : nextIs (exec .submit (put [(R.GNA.JOB_W2.M, 0)])) (fun t =>
    t.get R.GNA.EVT.CFG_REJECTED == 1 && (t.gna.results.map JobResult.outcome) == [2]) = true := by decide +kernel

/-! ### Checks and ciphers, against their published values -/

-- The check values of the three CRCs, over the digits 1 to 9.
theorem test_crcs : crc16 (ascii "123456789") = 0x29B1 ∧ crc32 (ascii "123456789") = 0xCBF43926 ∧
    crc32c (ascii "123456789") = 0xE3069283 := by
  decide +kernel

-- FIPS-197, appendix C.1.
theorem test_aes :
    aesBlock (expandKey (List.range 16)) [0x00, 0x11, 0x22, 0x33, 0x44, 0x55, 0x66, 0x77, 0x88, 0x99, 0xAA, 0xBB, 0xCC, 0xDD,
        0xEE, 0xFF] =
      [0x69, 0xC4, 0xE0, 0xD8, 0x6A, 0x7B, 0x04, 0x30, 0xD8, 0xCD, 0xB7, 0x80, 0x70, 0xB4, 0xC5, 0x5A] := by decide +kernel

-- RFC 4493, example 1: the empty message.
theorem test_cmac :
    cmac (expandKey [0x2B, 0x7E, 0x15, 0x16, 0x28, 0xAE, 0xD2, 0xA6, 0xAB, 0xF7, 0x15, 0x88, 0x09, 0xCF, 0x4F, 0x3C]) [] =
      [0xBB, 0x1D, 0x69, 0x29, 0xE9, 0x59, 0x37, 0x28, 0x7F, 0xA3, 0x7D, 0x12, 0x9B, 0x75, 0x67, 0x46] := by decide +kernel

-- FIPS 180-4's example "abc", the first and last bytes of its digest.
theorem test_sha : (sha256 [0x61, 0x62, 0x63]).take 4 = [0xBA, 0x78, 0x16, 0xBF] ∧
    (sha256 [0x61, 0x62, 0x63]).drop 28 = [0xF2, 0x00, 0x15, 0xAD] := by
  decide +kernel

/-! ### Network -/

-- 13_ptp_and_ntp_service.md: the stamps of the reply that GM-North builds.
theorem test_ntp_stamps :
    ntpOf (1700000000 - 37 + (1024703336 : Rat) / 10 ^ 13) = 0xE8FE6F5B0006B72B ∧
    ntpOf (1700000000 - 37 + (1039821280 : Rat) / 10 ^ 13) = 0xE8FE6F5B0006D088 := by decide +kernel

-- 13_ptp_and_ntp_service.md, the smeared reply.
theorem test_smear :
    let s := put [(R.TSC.LEAP_CUR.OFFSET, 37), (R.TSC.LEAP_NEXT.OFFSET, 38), (R.TSC.LEAP_NEXT.PENDING, 1),
        (R.TSC.LEAP_AT_LO.AT, 1704067238),
      (R.PRO.SMEAR.EN 1, 1), (R.PRO.SMEAR.W 1, 86400), (R.PRO.SMEAR.CENTER 1, 1)]
    let t : Int := 1704045638 * secI
    s.smearStart 1 = 1704024038 * secI ∧ ntpOf (s.utcAt 1 (s.smearFor 1 t) t) = 0xE93C2AA0C0000000 ∧
      s.utcAt 0 (s.smearFor 0 t) t = 1704045601 := by decide +kernel

-- 10_ethernet_ports.md: the pause that LIMIT cuts at 25 GbE, 15,728.64 ns.
theorem test_pause :
    let s := runAt (1700001000 * secU) (put [(R.ETH.CFG.SPEED 1, 1), (R.ETH.PAUSE.LIMIT 1, 768)])
    let t := s.pauseAccept 1 1024
    (t.port 1).pauseEnd = some (1700001000 * secU + 1030792152) ∧ t.get (R.ETH.EVT.PAUSE_CLAMP 1) = 1 ∧
        t.stat 1 46 = 768 := by decide +kernel

-- R343 and R344: a shift of 10 ps is none, one of 11 ps is.
theorem test_shift :
    (∀ d ∈ [10, 11], ((flueAs 3 { LtsPort.empty with txphRun := true }
        (linkAs 3 2 3 [(R.TDC.STAT.STATE, 2), (R.LTS.PORT.STAT.TXPH_VALID 3, 1)])).txphTake 3 d).get
      (R.LTS.PORT.EVT.TXPH_SHIFT 3) = (if d = 11 then 1 else 0)) := by decide +kernel

-- R401: an unknown OP.
theorem test_mailbox : nextIs (exec .mbxBadOp (put [])) (fun t => t.get R.RSE.MBX_STAT.RESULT == 8 &&
    t.get R.RSE.EVT.MBX_DONE == 1) = true := by
  decide +kernel

-- R439 to R441: a load without every word of its key, and one that is complete.
theorem test_key_load :
    nextIs (exec (.keyLoad 63) (keyed 0xFE 1 0 63 0)) (fun t => t.get R.GLV.KEY_STAT.RESULT == 4 && t.gloveState 63 == 0) = true ∧
    nextIs (exec (.keyLoad 63) (keyed 0xFF 1 1 63 0)) (fun t => t.get R.GLV.KEY_STAT.RESULT == 1 && t.gloveState 63 == 1) = true := by
  decide +kernel

/-! ### The part -/

-- R470: a port in OFF does not start.
theorem test_sample_start : nextIs (exec (.smpStart 0) (put [])) (fun t => t.get (R.SMP.PORT.EVT.CFG_REJECTED 0) == 1 &&
    t.spkState 0 == 0) = true := by
  decide +kernel

-- R489: only a role that is ACTIVE yields.
theorem test_yield : nextIs (exec .yield (hatted 2 0 false false [])) (fun t => t.get R.RED.EVT.CFG_REJECTED == 1) = true ∧
    nextIs (exec .yield (hatted 1 1 false false [])) (fun t => t.flag R.RED.CTL.YIELD) = true := by decide +kernel

-- R492: the frame of a higher claim takes the hat away.
theorem test_hat_lost : nextIs (exec (.hatFrame ⟨frameWord 511, false, 0⟩) (hatted 1 1 false false [])) (fun t =>
    !t.holding && t.get R.RED.STAT.ROLE == 3 && t.get R.RED.EVT.HAT_LOST == 1) = true := by decide +kernel

-- R530: a program that leaves its page.
theorem test_flash : nextIs (exec .flProgram (flashCommand 0 0x10FF 2)) (fun t => t.get R.NVC.FL_STAT.RESULT == 4) = true :=
    by decide +kernel

-- R540 and R541: an address with no register; a LIVE field written.
theorem test_register_write :
    nextIs (exec (.registerWrite 0xFFFFFC 0 15 false false) (put [])) (fun t => t.get R.HST.ERR_CNT.UR == 1 &&
        t.flag R.HST.STAT.UNSUPPORTED) = true ∧
    nextIs (exec (.registerWrite 0x10014 0x12 15 false false) (put [])) (fun t => t.get R.HST.WIN_BASE.MIB == 0x12) = true :=
        by decide +kernel

-- R608: two samples of three.
theorem test_straps : strapsOf ⟨⟨1, 2, true, false⟩, ⟨3, 0, false, false⟩, ⟨3, 2, true, true⟩⟩ = ⟨3, 2, true, false⟩ := by decide

-- R559: only with the confirmation.
theorem test_chip_reset :
    nextIs (exec (.chipReset 0x4853 (steadyStraps ⟨0, 0, false, false⟩)) (live [])) (fun t => t.hearth.running) = true ∧
    nextIs (exec (.chipReset 0x4852 (steadyStraps ⟨0, 0, false, false⟩)) (live [])) (fun t => !t.hearth.running &&
        t.get R.NVC.RST_CAUSE.CAUSE == 4) = true := by
  decide +kernel

-- R566: counter 11 chains, and counter 10 wraps.
theorem test_chain :
    let s := put [(R.PMC.SEL.EVENT 10, 1), (R.PMC.SEL.EVENT 11, 0xFFF), (R.PMC.CNT.LO.COUNT 10, 0xFFFFFFFF),
        (R.PMC.CNT.HI.COUNT 10, 0xFFFF),
      (R.PMC.CNT.LO.COUNT 11, 1)]
    nextIs (exec (.cntLoRead 11 [(1, 1)]) s) (fun t => t.counter 10 == 0 && t.counter 11 == 2 &&
        t.emitted.head? == some (.hostData 2)) = true := by
  decide +kernel

-- R593, R594: the log's first entry has index 0.
theorem test_log :
    let s := put []
    nextIs (exec .fltLogWrite { s with flt := { s.flt with queue := [filing] } }) (fun t => t.get R.FLT.LOG_HEAD.INDEX == 0 &&
      !t.flag R.FLT.LOG_HEAD.EMPTY && t.flt.queue.isEmpty) = true := by decide +kernel

-- R588, R589: a DEGRADE counts in its class and sets DEGRADED.
theorem test_filing : nextIs (exec .hatLineTimeout (hatted 1 1 false false [])) (fun t =>
    t.flag R.RED.STAT.LINE_FAULT && t.flt.queue.length == 1) = true := by decide +kernel

end Sys2Proof.Machine.Tests
end

/-! The fields of a TIME96, one tick of a lane and many without steering (R17 to R20), and STEP_ARM (R39). -/

namespace Sys2Proof.Machine

/-! ### The fields of a TIME96 -/

/-- The units of 2^-16 ns that a TIME96 lies past its whole seconds: its nanoseconds and fraction. -/
def t96Low (t : Time96) : Nat := t96Ns t * 65536 + t96Frac t

theorem t96Low_cast (t : Time96) : (t96Low t : Int) = t96Ns t * 65536 + t96Frac t := by
  unfold t96Low
  rw [Int.natCast_add, Int.natCast_mul]
  rfl

theorem bitsOf_low_eq_t96Low (t : Time96) : bitsOf t.toNat 0 48 = t96Low t := by
  unfold t96Low t96Ns t96Frac bitsOf
  omega

theorem t96Lin_eq_sec_low (t : Time96) : t96Lin t = t96Sec t * secU + t96Low t := Nat.add_assoc _ _ _

theorem t96Sec_lt (t : Time96) : t96Sec t < 2 ^ 48 := Nat.mod_lt _ (Nat.two_pow_pos _)

theorem t96Sec_ofNat {sec low : Nat} (hs : sec < 2 ^ 48) (hl : low < 2 ^ 48) :
    t96Sec (BitVec.ofNat 96 (sec * 2 ^ 48 + low)) = sec := by
  unfold t96Sec bitsOf
  rw [BitVec.toNat_ofNat]
  omega

theorem t96Low_ofNat (sec : Nat) {low : Nat} (hl : low < 2 ^ 48) :
    t96Low (BitVec.ofNat 96 (sec * 2 ^ 48 + low)) = low := by
  rw [← bitsOf_low_eq_t96Low, BitVec.toNat_ofNat]
  unfold bitsOf
  omega

theorem secU_eq : secU = 65536000000000 := rfl

/-- A TIME96 is valid (R11) where its nanoseconds and fraction make less than a second. -/
theorem t96Ns_lt_iff (t : Time96) : t96Ns t < 1000000000 ↔ t96Low t < secU := by
  have frac : t96Frac t < 2 ^ 16 := Nat.mod_lt _ (Nat.two_pow_pos _)
  unfold t96Low
  rw [secU_eq]
  omega

/-- The units of 2^-16 ns in the 2^48 seconds that a TIME96 counts. -/
theorem t96_range_eq : 2 ^ 48 * secU = 18446744073709551616000000000 := rfl

/-- The instant of a valid TIME96 lies within the 2^48 seconds that its seconds field counts. -/
theorem t96Lin_lt {t : Time96} (hv : t96Ns t < 1000000000) : t96Lin t < 2 ^ 48 * secU := by
  have hs := t96Sec_lt t
  have hl := (t96Ns_lt_iff t).mp hv
  rw [secU_eq] at hl
  rw [t96_range_eq, t96Lin_eq_sec_low, secU_eq]
  omega

/-! ### The advance of a TIME96 in one tick (R19) -/

section Advance

variable {t : Time96} {du : Int}

/-- Below 10^9 ns the seconds stay. -/
theorem t96Advance_of_lt (h0 : 0 ≤ du) (h : (t96Low t + du : Int) < secU) :
    (t96Low (t96Advance t du) : Int) = t96Low t + du ∧ t96Sec (t96Advance t du) = t96Sec t := by
  unfold t96Advance
  simp only [bitsOf_low_eq_t96Low, if_neg (Int.not_le.mpr h)]
  have hl : (t96Low t + du : Int).toNat % 2 ^ 48 < 2 ^ 48 := Nat.mod_lt _ (Nat.two_pow_pos _)
  refine ⟨?_, t96Sec_ofNat (t96Sec_lt t) hl⟩
  rw [t96Low_ofNat _ hl]
  rw [secU_eq] at h
  omega

/-- At 10^9 ns the nanoseconds lose 10^9 and the seconds gain one. -/
theorem t96Advance_of_le (h : (secU : Int) ≤ t96Low t + du) (h2 : (t96Low t + du : Int) < 2 * secU) :
    (t96Low (t96Advance t du) : Int) = t96Low t + du - secU ∧ t96Sec (t96Advance t du) = (t96Sec t + 1) % 2 ^ 48 := by
  unfold t96Advance
  simp only [bitsOf_low_eq_t96Low, if_pos h]
  have hl : (t96Low t + du - secU : Int).toNat % 2 ^ 48 < 2 ^ 48 := Nat.mod_lt _ (Nat.two_pow_pos _)
  refine ⟨?_, t96Sec_ofNat (Nat.mod_lt _ (Nat.two_pow_pos _)) hl⟩
  rw [t96Low_ofNat _ hl]
  rw [secU_eq] at *
  omega

variable (hv : t96Ns t < 1000000000) (h0 : 0 ≤ du) (h1 : du < secU)
include hv h0 h1

theorem t96Advance_valid : t96Ns (t96Advance t du) < 1000000000 := by
  have hl := (t96Ns_lt_iff t).mp hv
  rw [t96Ns_lt_iff]
  rcases Int.lt_or_le (t96Low t + du : Int) secU with stays | wraps
  · have := (t96Advance_of_lt h0 stays).1
    omega
  · have := (t96Advance_of_le wraps (by omega)).1
    omega

/-- The instant gains the advance, modulo the range of the seconds. -/
theorem t96Lin_t96Advance : t96Lin (t96Advance t du) = (t96Lin t + du.toNat) % (2 ^ 48 * secU) := by
  have hl := (t96Ns_lt_iff t).mp hv
  have hs := t96Sec_lt t
  simp only [t96Lin_eq_sec_low, t96_range_eq]
  rcases Int.lt_or_le (t96Low t + du : Int) secU with stays | wraps
  · obtain ⟨low, sec⟩ := t96Advance_of_lt h0 stays
    rw [sec]
    rw [secU_eq] at *
    omega
  · obtain ⟨low, sec⟩ := t96Advance_of_le wraps (by omega)
    rw [sec]
    rw [secU_eq] at *
    omega

end Advance

/-! ### One tick of a lane (R17 to R20) -/

/-- The units of 2^-16 ns that a lane gains in its next tick: its cadence amount, and on phase 4 the carry out of ACC. -/
def Lane.tickGain (l : Lane) : Int :=
  cadence l.phase.toNat + if l.phase.toNat = 4 then accCarry l.acc.toNat l.s else 0

theorem Lane.tick_time (l : Lane) : l.tick.time = t96Advance l.time l.tickGain := by
  unfold Lane.tick Lane.tickGain
  dsimp only
  split
  · rfl
  · rw [Int.add_zero]

theorem Lane.tick_phase {l : Lane} (_ : l.phase.toNat < 5) : l.tick.phase.toNat = (l.phase.toNat + 1) % 5 := by
  unfold Lane.tick
  dsimp only
  split
  · next e => rw [e]; rfl
  · rw [BitVec.toNat_ofNat]
    omega

theorem accLeft_lt (acc : Nat) (rate : Int) : accLeft acc rate < 30517578125 := by
  unfold accLeft accMod
  omega

theorem Lane.tick_acc (l : Lane) :
    l.tick.acc.toNat = if l.phase.toNat = 4 then accLeft l.acc.toNat l.s else l.acc.toNat := by
  unfold Lane.tick
  dsimp only
  split
  · have := accLeft_lt l.acc.toNat l.s
    rw [BitVec.toNat_ofNat]
    omega
  · rfl

/-- A tick leaves S, INTEG, P and the error-bound accumulator alone. -/
theorem Lane.tick_rest (l : Lane) : l.tick = { l with time := l.tick.time, acc := l.tick.acc, phase := l.tick.phase } := by
  unfold Lane.tick
  dsimp only
  split <;> rfl

@[simp] theorem Lane.tick_rate (l : Lane) : l.tick.rate = l.rate := by rw [Lane.tick_rest]
@[simp] theorem Lane.tick_integ (l : Lane) : l.tick.integ = l.integ := by rw [Lane.tick_rest]
@[simp] theorem Lane.tick_prop (l : Lane) : l.tick.prop = l.prop := by rw [Lane.tick_rest]
@[simp] theorem Lane.tick_eb (l : Lane) : l.tick.eb = l.eb := by rw [Lane.tick_rest]

/-- S has 40 bits, so the carry is below 289 either way, and every tick gains between 1 and 2 ns. -/
theorem Lane.tickGain_bounds {l : Lane} (h : l.acc.toNat < 30517578125) : 65536 ≤ l.tickGain ∧ l.tickGain < 2 * 65536 := by
  have lo : -2 ^ 40 ≤ 2 * l.rate.toInt := BitVec.le_two_mul_toInt
  have hi : 2 * l.rate.toInt < 2 ^ 40 := BitVec.two_mul_toInt_lt
  unfold Lane.tickGain cadence accCarry accMod Lane.s
  split <;> split <;> omega

theorem Lane.Regular.tick {l : Lane} (h : l.Regular) : l.tick.Regular where
  phase := by rw [Lane.tick_phase h.phase]; exact Nat.mod_lt _ (by decide)
  acc := by
    rw [Lane.tick_acc]
    split
    · exact accLeft_lt _ _
    · exact h.acc
  valid := by
    have g := Lane.tickGain_bounds h.acc
    rw [Lane.tick_time]
    exact t96Advance_valid h.valid (by omega) (by unfold secU; omega)

/-- The table of R17. -/
theorem cadence_table : ∀ ph < 5, cadence ph = [104858, 104857, 104858, 104857, 104858].getD ph 0 := by decide

theorem cadence_table_int : ∀ ph < 5,
    (cadence ph : Int) = ([104858, 104857, 104858, 104857, 104858] : List Int).getD ph 0 := by decide

theorem Lane.tickGain_table {l : Lane} (h : l.phase.toNat < 5) :
    ([104858, 104857, 104858, 104857, 104858].getD l.phase.toNat 0 +
      (if l.phase.toNat = 4 then (l.acc.toNat + 16 * l.rate.toInt : Int) / 30517578125 else 0)) = l.tickGain := by
  rw [← cadence_table_int _ h]
  rfl

/-- Settles O9: a tick moves the time by `Lane.tickGain`, and the rules of `t96Advance` say how it carries. -/
theorem tickFollowsCadence : Obligations.TickFollowsCadence := by
  unfold Obligations.TickFollowsCadence
  intro l h ph sum advance low m
  have gain : advance = l.tickGain := Lane.tickGain_table h.phase
  have bounds := Lane.tickGain_bounds h.acc
  have valid := (t96Ns_lt_iff l.time).mp h.valid
  have sec : (secU : Int) = 1000000000 * 65536 := rfl
  have phase5 := h.phase
  refine ⟨?_, ?_, ?_, l.tick_rate, l.tick_integ, l.tick_prop, l.tick_eb, h.tick⟩
  · rw [Lane.tick_phase h.phase]
    split <;> omega
  · rw [Lane.tick_acc]
    split
    · exact Int.toNat_of_nonneg (Int.emod_nonneg _ (by decide))
    · rfl
  · simp only [m, low, gain, Lane.tick_time, ← sec, ← t96Low_cast]
    split
    · next wraps => exact t96Advance_of_le wraps (by omega)
    · next stays => exact t96Advance_of_lt (by omega) (Int.not_le.mp stays)

/-! ### Ticks without steering (R17) -/

theorem cadenceSum_zero (ph : Nat) : cadenceSum ph 0 = 0 := rfl

/-- Five ticks run once through the table, from whichever phase. -/
theorem cadenceSum_five (ph : Nat) : cadenceSum ph 5 = 524288 := rfl

/-- The five amounts from any phase on are those of the whole table. -/
theorem cadence_cycle (ph : Nat) :
    cadence (ph % 5) + cadence ((ph + 1) % 5) + cadence ((ph + 2) % 5) + cadence ((ph + 3) % 5) + cadence ((ph + 4) % 5) =
      524288 := by
  have table : ∀ r < 5, cadence (r % 5) + cadence ((r + 1) % 5) + cadence ((r + 2) % 5) + cadence ((r + 3) % 5) +
      cadence ((r + 4) % 5) = 524288 := by decide
  have h := table (ph % 5) (Nat.mod_lt _ (by decide))
  simpa only [Nat.mod_add_mod, Nat.mod_mod] using h

/-- One more tick adds the amount of the phase it is taken in; the fifth of a cycle completes its 8 ns. -/
theorem cadenceSum_succ (ph n : Nat) : cadenceSum ph (n + 1) = cadenceSum ph n + cadence ((ph + n) % 5) := by
  have cycle := cadence_cycle ph
  have phase : (ph + n) % 5 = (ph + n % 5) % 5 := (Nat.add_mod_mod ph n 5).symm
  have within : n % 5 < 4 → (n + 1) / 5 = n / 5 ∧ (n + 1) % 5 = n % 5 + 1 := by omega
  have completes : n % 5 = 4 → (n + 1) / 5 = n / 5 + 1 ∧ (n + 1) % 5 = 0 := by omega
  have below : n % 5 < 5 := Nat.mod_lt _ (by decide)
  unfold cadenceSum
  rw [phase]
  generalize n % 5 = r at *
  match r with
  | 0 | 1 | 2 | 3 =>
    obtain ⟨cycles, left⟩ := within (by decide)
    simp only [cycles, left, Nat.add_zero, Nat.add_assoc, Nat.reduceAdd, Nat.reduceLT, if_true, if_false]
  | 4 =>
    obtain ⟨cycles, left⟩ := completes rfl
    simp only [cycles, left, Nat.reduceLT, if_true, if_false]
    omega

/-- `m` is what `l` comes to in `n` ticks with no steering: the time has gained the cadence amounts alone. -/
structure Lane.Unsteered (l : Lane) (n : Nat) (m : Lane) : Prop where
  regular : m.Regular
  rate : m.rate = 0
  acc : m.acc = l.acc
  phase : m.phase.toNat = (l.phase.toNat + n) % 5
  time : t96Lin m.time = (t96Lin l.time + cadenceSum l.phase.toNat n) % (2 ^ 48 * secU)

theorem Lane.Unsteered.refl {l : Lane} (h : l.Regular) (hr : l.rate = 0) : l.Unsteered 0 l where
  regular := h
  rate := hr
  acc := rfl
  phase := (Nat.mod_eq_of_lt h.phase).symm
  time := by rw [cadenceSum_zero, Nat.add_zero, Nat.mod_eq_of_lt (t96Lin_lt h.valid)]

/-- With S = 0 nothing carries out of a regular ACC. -/
theorem Lane.tickGain_of_rate_zero {l : Lane} (h : l.acc.toNat < 30517578125) (hr : l.rate = 0) :
    l.tickGain = cadence l.phase.toNat := by
  unfold Lane.tickGain accCarry accMod Lane.s
  rw [hr, show (0 : BitVec 40).toInt = 0 from rfl]
  split <;> omega

/-- With S = 0 a regular ACC is its own remainder. -/
theorem Lane.tick_acc_of_rate_zero {l : Lane} (h : l.acc.toNat < 30517578125) (hr : l.rate = 0) : l.tick.acc = l.acc := by
  apply BitVec.eq_of_toNat_eq
  rw [Lane.tick_acc]
  unfold accLeft accMod Lane.s
  rw [hr, show (0 : BitVec 40).toInt = 0 from rfl]
  split <;> omega

theorem Lane.Unsteered.tick {l m : Lane} {n : Nat} (h : l.Unsteered n m) : l.Unsteered (n + 1) m.tick where
  regular := h.regular.tick
  rate := m.tick_rate.trans h.rate
  acc := (Lane.tick_acc_of_rate_zero h.regular.acc h.rate).trans h.acc
  phase := by rw [Lane.tick_phase h.regular.phase, h.phase, Nat.mod_add_mod, Nat.add_assoc]
  time := by
    have bounds := Lane.tickGain_bounds h.regular.acc
    rw [Lane.tick_time, t96Lin_t96Advance h.regular.valid (by omega) (by unfold secU; omega),
      Lane.tickGain_of_rate_zero h.regular.acc h.rate, Int.toNat_natCast, h.time, h.phase, Nat.mod_add_mod,
      cadenceSum_succ _ n, Nat.add_assoc]

theorem Lane.Unsteered.repeat_tick {l : Lane} (h : l.Regular) (hr : l.rate = 0) (n : Nat) :
    l.Unsteered n (Nat.repeat Lane.tick n l) := by
  induction n with
  | zero => exact .refl h hr
  | succ n ih => exact ih.tick

/-- Settles O10, by what any number of ticks come to without steering. -/
theorem fiveTicksAddEightNanoseconds : Obligations.FiveTicksAddEightNanoseconds := by
  unfold Obligations.FiveTicksAddEightNanoseconds
  intro l h hr
  have one := Lane.Unsteered.repeat_tick h hr 1
  have five := Lane.Unsteered.repeat_tick h hr 5
  refine ⟨?_, ?_, five.acc, BitVec.eq_of_toNat_eq ?_⟩
  · rw [← cadence_table _ h.phase, show l.tick = Nat.repeat Lane.tick 1 l from rfl, one.time, cadenceSum_succ,
      cadenceSum_zero, Nat.zero_add, Nat.add_zero, Nat.mod_eq_of_lt h.phase]
  · rw [five.time, cadenceSum_five]
  · rw [five.phase, Nat.add_mod_right, Nat.mod_eq_of_lt h.phase]

/-! ### STEP_ARM (R39) -/

theorem exec_stepArm (s : State) : exec .stepArm s = execStepArm s := rfl

/-- An event brings its own bit and what an event may bring elsewhere, and no more. -/
theorem State.evt_onlySignals {s : State} (h : s.Canonical) (f : Field) : s.OnlySignals (among [f]) (s.evt f) :=
  .of ((State.Within.refl h.regs _).evt (Allows.among (List.mem_singleton_self f)).left
      (Allows.among (List.mem_singleton_self _)).right)
    ((State.SentVectors.refl s).evt f) ((State.SignalRest.refl s).evt f)

theorem State.set_onlyFields {s : State} (h : s.Canonical) (f : Field) (v : Nat) : s.OnlyFields (among [f]) (s.set f v) :=
  .of ((State.Within.refl h.regs _).set (Allows.among (List.mem_singleton_self f)) v) rfl

/-- In the tick of a step it is absorbed. -/
theorem execStepArm_of_step {s : State} (h : s.hearth.stepTick = some s.hearth.tick) :
    execStepArm s = .next (s.evt R.TSC.EVT.ARM_ABSORBED) := by
  unfold execStepArm State.arm
  rw [if_neg (fun k => k.2 h), if_pos h]

/-- In the tick of an update whose work is still to be done it waits. -/
theorem execStepArm_of_updateDue {s : State} (h : s.hearth.stepTick ≠ some s.hearth.tick) (u : s.hearth.updateDue = true) :
    execStepArm s = .next { s with hearth := { s.hearth with armDue := true } } :=
  if_pos ⟨u, h⟩

/-- In any other tick it moves STEPPED to ARMED. -/
theorem execStepArm_of_quiet {s : State} (h : s.hearth.stepTick ≠ some s.hearth.tick) (u : s.hearth.updateDue = false) :
    execStepArm s = .next (if s.get R.TSC.STAT.STATE = 2 then s.set R.TSC.STAT.STATE 1 else s) := by
  unfold execStepArm State.arm
  rw [if_neg (fun k => Bool.false_ne_true (u.symm.trans k.1)), if_neg h]

/-- Settles O18: one of the three forms of STEP_ARM per case. -/
theorem stepArm : Obligations.StepArm := by
  unfold Obligations.StepArm
  simp only [Answers, exec_stepArm]
  intro s hs
  have signals := State.evt_onlySignals hs R.TSC.EVT.ARM_ABSORBED
  refine ⟨fun h => ⟨_, execStepArm_of_step h, ?_, ?_, signals⟩,
    fun h u => ⟨_, execStepArm_of_updateDue h u, rfl⟩, fun h u => ⟨fun stepped => ?_, fun other => ?_⟩⟩
  · exact State.get_evt hs.regs _ (by decide)
  · have untouched : ¬either (among [R.TSC.EVT.ARM_ABSORBED]) signalField R.TSC.STAT.STATE := by
      rintro (⟨g, hg, k⟩ | ⟨g, hg, k⟩) <;> rw [List.mem_singleton.mp hg] at k <;> exact absurd k (by decide)
    exact (signals.fields _ untouched).trans
  · refine ⟨_, execStepArm_of_quiet h u, ?_⟩
    rw [if_pos stepped]
    exact ⟨State.get_set hs.regs _ 1, State.set_onlyFields hs _ 1⟩
  · exact ⟨_, execStepArm_of_quiet h u, if_neg other⟩

end Sys2Proof.Machine

/-! The filing of a NOTE (R588, R589, R592), EB at an instant (R80), and QUERY (R83). -/

namespace Sys2Proof.Machine

/-! ### Reading a field behind another's event or write -/

/-- An event leaves every field but its own bit and INT_STAT alone. -/
theorem State.get_evt_other {s : State} (h : Map.wf s.regs = true) {f g : Field} (k : g.key ≠ f.key)
    (i : g.key ≠ R.GLB.INT_STAT.BLOCK.key) : (s.evt f).get g = s.get g :=
  ((State.Within.refl h fun x => x.key = f.key ∨ x.key = R.GLB.INT_STAT.BLOCK.key).evt (fun _ e => .inl e)
    (fun _ e => .inr e)).2 g (not_or.mpr ⟨k, i⟩)

/-- The flag that a one-bit field's contents spell. -/
theorem State.flag_of_get {s : State} {f : Field} {b : Bool} (h : s.get f = ofBool b) : s.flag f = b := by
  unfold State.flag
  rw [h]
  cases b <;> rfl

theorem State.SentVectors.set {z s : State} (h : z.SentVectors s) (f : Field) (v : Nat) : z.SentVectors (s.set f v) :=
  h.of_eq (State.set_emitted f v s)

theorem ofBool_mod_two (b : Bool) : ofBool b % 2 ^ 1 = ofBool b := by
  cases b <;> rfl

/-! ### The filing of a NOTE -/

section Note

variable {s : State} {r : FaultRec}

/-- While the queue has room, a record enters it last. -/
theorem State.enqueue_of_lt (room : s.flt.queue.length < 16) : s.enqueue r =
    { s with flt := { s.flt with queue := s.flt.queue ++ [r] } }.set R.FLT.STAT.QUEUE (s.flt.queue ++ [r]).length :=
  if_pos room

variable (note : r.kind.cls = .note)
include note

/-- A full queue discards a NOTE. -/
theorem State.enqueue_note_of_full (full : ¬s.flt.queue.length < 16) : s.enqueue r =
    ({ s with flt := { s.flt with discarded := s.flt.discarded + 1 } }.inc R.FLT.DROP_CNT.COUNT).evt R.FLT.EVT.DROP := by
  unfold State.enqueue
  dsimp only
  rw [if_neg full, note]
  rfl

/-- The action of a NOTE is to be counted. -/
theorem State.classAction_note : s.classAction r = s.inc R.FLT.NOTE_CNT.COUNT := by
  unfold State.classAction
  rw [note]

/-- The queue's own count and what it discards leave the counter of NOTEs alone. -/
theorem State.noteCnt_enqueue_note (h : Map.wf s.regs = true) :
    (s.enqueue r).get R.FLT.NOTE_CNT.COUNT = s.get R.FLT.NOTE_CNT.COUNT := by
  rcases Nat.lt_or_ge s.flt.queue.length 16 with room | full
  · rw [State.enqueue_of_lt room]
    exact State.get_set_other h (by decide) _
  · rw [State.enqueue_note_of_full note (Nat.not_lt.mpr full), State.inc_eq,
      State.get_evt_other (State.wf_set (by exact h) _ _) (by decide) (by decide)]
    exact State.get_set_other h (by decide) _

end Note

/-- What `State.Filed` asks of a filing holds of a NOTE's, masked or not. -/
theorem State.filed_file_note {s : State} (h : Map.wf s.regs = true) {k : FaultKind} (note : k.cls = .note)
    (element cause : Nat) : State.Filed k element s (s.file k element cause) := by
  have action : s.classAction (s.faultRec k element cause 0) = s.inc R.FLT.NOTE_CNT.COUNT := State.classAction_note note
  have counted : (s.inc R.FLT.NOTE_CNT.COUNT).bump.get R.FLT.NOTE_CNT.COUNT =
      (s.get R.FLT.NOTE_CNT.COUNT + 1) % 2 ^ R.FLT.NOTE_CNT.COUNT.width := State.get_set h _ _
  unfold State.file
  dsimp only
  rw [action]
  constructor
  · rw [show classCounter k.cls = R.FLT.NOTE_CNT.COUNT by rw [note]; rfl]
    split
    · exact counted
    · exact (State.noteCnt_enqueue_note (s := (s.inc R.FLT.NOTE_CNT.COUNT).bump) note (State.wf_set h _ _)).trans counted
  · intro unmasked room
    rw [if_neg (by simpa using unmasked), State.enqueue_of_lt (s := (s.inc R.FLT.NOTE_CNT.COUNT).bump) room]
    exact ⟨_, rfl, rfl, rfl⟩

theorem State.file_onlyFilings {s : State} (h : s.Canonical) (k : FaultKind) (element cause : Nat) :
    s.OnlyFilings (among []) (s.file k element cause) :=
  .of ((State.Within.refl h.regs _).file (fun _ x => .inr x) k element cause) ((State.SentVectors.refl s).file k element cause)
    ((State.FilingRest.refl s).file k element cause)

/-! ### EB at an instant (R80) -/

theorem ebReport_lt (u : Nat) : ebReport u < 2 ^ 32 := Nat.lt_of_le_of_lt (Nat.min_le_left _ _) (by decide)

section EbAt

variable {s : State} {t : Int}

/-- R80's first exception: an instant before the present one is given the present EB. -/
theorem State.ebAt_of_past (past : t < s.now) : s.ebAt t = ebReport (s.ebExtend s.now) := if_pos past

/-- R80's second exception: an instant more than a second ahead is given a saturated EB. -/
theorem State.ebAt_of_range (range : s.now + secU < t) : s.ebAt t = 0xFFFFFFFF :=
  (if_neg (show ¬t < s.now by omega)).trans (if_pos (show (secU : Int) < t - s.now by omega))

theorem State.ebAt_of_within (ahead : s.now ≤ t) (near : t ≤ s.now + secU) : s.ebAt t = ebReport (s.ebExtend t) :=
  (if_neg (show ¬t < s.now by omega)).trans (if_neg (show ¬(secU : Int) < t - s.now by omega))

end EbAt

theorem State.ebAt_lt (s : State) (t : Int) : s.ebAt t < 2 ^ 32 := by
  unfold State.ebAt HearthRecord.ebAt
  dsimp only
  split
  · exact ebReport_lt _
  · split
    · decide
    · exact ebReport_lt _

/-! ### QUERY (R83) -/

/-- The end of a query: its result and exceptions, QUERY_BUSY cleared, QUERY_DONE set. -/
def State.endQuery (eb : Nat) (past range : Bool) (s : State) : State :=
  ((((s.set R.EBD.QUERY_EB.EB eb).setB R.EBD.QUERY_STAT.PAST past).setB R.EBD.QUERY_STAT.RANGE range).set
    R.EBD.STAT.QUERY_BUSY 0).evt R.EBD.EVT.QUERY_DONE

/-- The fields that a query may write. -/
def queryResults : List Field :=
  [R.EBD.QUERY_EB.EB, R.EBD.QUERY_STAT.PAST, R.EBD.QUERY_STAT.RANGE, R.EBD.STAT.QUERY_BUSY, R.EBD.EVT.QUERY_DONE]

/-- The query instant of the registers, in 2^-16 ns. -/
def State.queryTime (s : State) : Int :=
  (s.getTime R.EBD.QUERY_FRAC.FRAC R.EBD.QUERY_NS.NS R.EBD.QUERY_SEC_LO.SEC R.EBD.QUERY_SEC_HI.SEC : Nat)

theorem State.queryTime_eq (s : State) : s.queryTime =
    (s.get R.EBD.QUERY_SEC_LO.SEC + s.get R.EBD.QUERY_SEC_HI.SEC * 2 ^ 32) * (1000000000 * 65536) +
      s.get R.EBD.QUERY_NS.NS * 65536 + s.get R.EBD.QUERY_FRAC.FRAC := by
  have units : s.getTime R.EBD.QUERY_FRAC.FRAC R.EBD.QUERY_NS.NS R.EBD.QUERY_SEC_LO.SEC R.EBD.QUERY_SEC_HI.SEC =
      (s.get R.EBD.QUERY_SEC_LO.SEC + s.get R.EBD.QUERY_SEC_HI.SEC * 2 ^ 32) * (1000000000 * 65536) +
        s.get R.EBD.QUERY_NS.NS * 65536 + s.get R.EBD.QUERY_FRAC.FRAC := rfl
  unfold State.queryTime
  rw [units]
  omega

/-- What the end of a query shows in the fields it writes. -/
structure State.ShowsQuery (eb : Nat) (past range : Bool) (t : State) : Prop where
  eb : t.get R.EBD.QUERY_EB.EB = eb
  past : t.flag R.EBD.QUERY_STAT.PAST = past
  range : t.flag R.EBD.QUERY_STAT.RANGE = range
  idle : t.flag R.EBD.STAT.QUERY_BUSY = false
  done : t.get R.EBD.EVT.QUERY_DONE = 1

theorem State.endQuery_shows {s : State} (h : Map.wf s.regs = true) {eb : Nat} (fits : eb < 2 ^ 32) (past range : Bool) :
    (s.endQuery eb past range).ShowsQuery eb past range := by
  unfold State.endQuery
  simp only [State.setB_eq]
  have wEb := State.wf_set h R.EBD.QUERY_EB.EB eb
  have wPast := State.wf_set wEb R.EBD.QUERY_STAT.PAST (ofBool past)
  have wRange := State.wf_set wPast R.EBD.QUERY_STAT.RANGE (ofBool range)
  have wBusy := State.wf_set wRange R.EBD.STAT.QUERY_BUSY 0
  constructor
  · rw [State.get_evt_other wBusy (by decide) (by decide), State.get_set_other wRange (by decide),
      State.get_set_other wPast (by decide), State.get_set_other wEb (by decide), State.get_set h]
    exact Nat.mod_eq_of_lt fits
  · apply State.flag_of_get
    rw [State.get_evt_other wBusy (by decide) (by decide), State.get_set_other wRange (by decide),
      State.get_set_other wPast (by decide), State.get_set wEb]
    exact ofBool_mod_two past
  · apply State.flag_of_get
    rw [State.get_evt_other wBusy (by decide) (by decide), State.get_set_other wRange (by decide), State.get_set wPast]
    exact ofBool_mod_two range
  · apply State.flag_of_get
    rw [State.get_evt_other wBusy (by decide) (by decide), State.get_set wRange]
    rfl
  · exact State.get_evt wBusy _ (by decide)

theorem State.endQuery_onlySignals {s : State} (h : s.Canonical) (eb : Nat) (past range : Bool) :
    s.OnlySignals (among queryResults) (s.endQuery eb past range) := by
  have writes : ∀ f ∈ queryResults, Allows (either (among queryResults) signalField) f := fun f hf => (Allows.among hf).left
  have signals : Allows (either (among queryResults) signalField) R.GLB.INT_STAT.BLOCK :=
    (Allows.among (List.mem_singleton_self _)).right
  simp only [queryResults, List.forall_mem_cons] at writes
  obtain ⟨wEb, wPast, wRange, wBusy, wDone, -⟩ := writes
  have fields := ((((State.Within.refl h.regs _).set wEb eb).set wPast (ofBool past)).set wRange (ofBool range)).set wBusy 0
  have sent := ((((State.SentVectors.refl s).set R.EBD.QUERY_EB.EB eb).set R.EBD.QUERY_STAT.PAST (ofBool past)).set
    R.EBD.QUERY_STAT.RANGE (ofBool range)).set R.EBD.STAT.QUERY_BUSY 0
  have rest := ((((State.SignalRest.refl s).set R.EBD.QUERY_EB.EB eb).set R.EBD.QUERY_STAT.PAST (ofBool past)).set
    R.EBD.QUERY_STAT.RANGE (ofBool range)).set R.EBD.STAT.QUERY_BUSY 0
  exact .of (fields.evt wDone signals) (sent.evt _) (rest.evt _)

theorem exec_query (s : State) : exec .query s = execQuery s := rfl

section Query

variable {s : State}

theorem execQuery_of_busy (busy : s.flag R.EBD.STAT.QUERY_BUSY = true) : execQuery s = .next s := if_pos busy

variable (free : s.flag R.EBD.STAT.QUERY_BUSY = false)
include free

theorem execQuery_of_invalid (bad : 1000000000 ≤ s.get R.EBD.QUERY_NS.NS) : execQuery s = .next (s.file F.ebdBadTime 0 0) := by
  unfold execQuery
  rw [free, if_neg Bool.false_ne_true, if_pos bad]

variable (valid : s.get R.EBD.QUERY_NS.NS < 1000000000)
include valid

/-- While the Hearth is held in reset no tick gives t_E: the result saturates. -/
theorem execQuery_of_held (held : s.hearth.running = false) : execQuery s = .next (s.endQuery 0xFFFFFFFF false false) := by
  unfold execQuery
  rw [free, held, if_neg Bool.false_ne_true, if_neg (Nat.not_le.mpr valid)]
  rfl

theorem execQuery_of_running (runs : s.hearth.running = true) :
    execQuery s = .next (s.endQuery (s.ebAt s.queryTime) (decide (s.queryTime < s.now))
      (decide ((secU : Int) < s.queryTime - s.now))) := by
  unfold execQuery
  rw [free, runs, if_neg Bool.false_ne_true, if_neg (Nat.not_le.mpr valid)]
  simp only [Bool.true_and, if_true]
  rfl

end Query

/-- Settles O20: one of the four forms of QUERY per case, and one of the three of EB(t) while the Hearth runs. -/
theorem errorBoundQuery : Obligations.ErrorBoundQuery := by
  unfold Obligations.ErrorBoundQuery
  simp only [Answers, exec_query, ← State.queryTime_eq]
  intro s hs
  refine ⟨fun busy => ⟨s, execQuery_of_busy (eq_true_of_ne_false busy), rfl⟩, fun free valid => ?_,
    fun free bad => ⟨_, execQuery_of_invalid free bad, State.filed_file_note hs.regs rfl 0 0, State.file_onlyFilings hs _ 0 0⟩⟩
  cases hr : s.hearth.running with
  | false =>
    have shows := State.endQuery_shows hs.regs (eb := 0xFFFFFFFF) (by decide) false false
    exact ⟨_, execQuery_of_held free valid hr, fun _ => ⟨shows.eb, shows.past, shows.range⟩, nofun, shows.idle, shows.done,
      State.endQuery_onlySignals hs _ _ _⟩
  | true =>
    have shows := State.endQuery_shows hs.regs (s.ebAt_lt s.queryTime) (decide (s.queryTime < s.now))
      (decide ((secU : Int) < s.queryTime - s.now))
    have second : (secU : Int) = 1000000000 * 65536 := rfl
    refine ⟨_, execQuery_of_running free valid hr, nofun, fun _ => ⟨shows.past, ?_, fun range => ?_, fun past => ?_,
      fun ahead near => ?_⟩, shows.idle, shows.done, State.endQuery_onlySignals hs _ _ _⟩
    · rw [shows.range, second]
      exact decide_eq_decide.mpr (by omega)
    · exact shows.eb.trans (State.ebAt_of_range range)
    · exact shows.eb.trans (State.ebAt_of_past past)
    · exact shows.eb.trans (State.ebAt_of_within ahead near)

end Sys2Proof.Machine
